-- ==== Sys2Proof/Word.lean ====
section
/-! DEFINITION. The byte and word types (R5, R8) and nothing else. -/

namespace Sys2Proof

/-- One byte of a record, message, packet or ring. -/
abbrev Byte := BitVec 8

/-- A 32-bit register of the host window (R5). -/
abbrev Word := BitVec 32

/-- A string of bytes in ascending address order. -/
abbrev Bytes := List Byte

end Sys2Proof
end

