-- ==== Sys2Proof/Syntax.lean ====
section
/-! DEFINITION. The commands of the block (every row of spec/opcode_table.json) and the operands they carry. -/

namespace Sys2Proof

/-- A hardware time stamp (R259): NT at the capture point and the low 8 bits of the NT step count. -/
structure Stamp where
  sec : Nat := 0
  ns : Nat := 0
  frac : Nat := 0
  count : Nat := 0
  deriving DecidableEq, Repr

/-- A host command frame (R448) without its opcode, length and edge code, which the constructor and the request fix;
`headend` says that it came on transport channel HEADEND (R458) and not on the command ring. -/
structure HostCmd where
  headend : Bool := false
  flags : Nat := 0
  tag : Nat := 0
  cmdset : Nat := 3
  reserved : Nat := 0
  req : Bytes := []
  deriving DecidableEq, Repr

/-- What one receive path of a PLC port measured of a frame (R193, R201, R204, R205): the PGA gain in dB that AGC set, Ĥ (real and
imaginary part) and σ̂² of each tone of the band in binary32, from the preamble; the rms tracked over the preamble and the peak sample
magnitude of each symbol; whether its preamble energy lay below the port's noise floor. -/
structure PlcPath where
  gain : Nat := 0
  tones : List (Nat × Nat × Nat) := []
  rms : Nat := 1
  peaks : List Nat := []
  silent : Bool := false
  deriving DecidableEq, Repr

/-- A frame that a PLC port receives (R201 to R206, R210, R214, R218): what its paths and its MAC deliver. `kind` 0 names the originator
by EUI-64, 1 by short address; `hop` is the short address of the last hop; `head` and `symbols` count the preamble and FCH symbols and the
payload symbols, each `symNs` long; `map` holds the tone-map groups that are on and `mod` is coded as in R213; `tmr` is a tone map response in the frame
(modulation, SNR in dB, tone map); `counter` the phase detection counter of its FCH; `overlap` says that it arrived while a port of the
group transmitted. -/
structure PlcRx where
  pan : Nat
  kind : Nat
  src : Bytes
  hop : Nat
  fcsOk : Bool := true
  paths : List PlcPath := []
  head : Nat := 0
  symbols : Nat := 1
  symNs : Nat := 695000
  map : Nat := 0xFFFFFF
  mod : Nat := 0
  tmr : Option (Nat × Int × Nat) := none
  counter : Nat := 0
  overlap : Bool := false
  stamp : Stamp := {}
  udp : Nat := 0
  payload : Bytes := []
  deriving DecidableEq, Repr

/-- A transmission of a PLC port (R206, R218, R220): ns from the last increment of OT to the grant of the medium, ns from the start
of the frame to its first FCH symbol, µs from its start to the end of its last symbol; whether its acknowledgement arrives. -/
structure PlcAir where
  grant : Nat := 0
  fch : Nat := 0
  us : Nat := 0
  acked : Bool := false
  deriving DecidableEq, Repr

/-- A frame that a radio receives (R235, R247, R248): originator as in PlcRx, transmitter of the frame (its EUI-64) when a relay
sent it, measured start minus expected start in µs, RSSI in dBm, octets of the acknowledgement. -/
structure RfRx where
  pan : Nat
  kind : Nat
  src : Bytes
  relay : Option Bytes := none
  offset : Int := 0
  rssi : Int := -60
  ackOctets : Nat := 30
  stamp : Stamp := {}
  udp : Nat := 0
  payload : Bytes := []
  deriving DecidableEq, Repr

/-- The neighbour from which a LOADng frame comes: the port and the short address. -/
structure PlcLink where
  port : Nat
  hop : Nat
  deriving DecidableEq, Repr

/-- What a GO reads (R282, R306): the table, and the bits in error in the word that it reads. -/
structure TblGet where
  kind : Nat
  ecc : Nat := 0
  deriving DecidableEq, Repr

/-- A command of the block: one constructor per row of spec/opcode_table.json, with the row's operands. -/
inductive Instr where
  /-- R201: A PLC port receives a frame on its enabled phase paths, combines them per tone, stamps it and hands it to its receive queue. -/
  | plcFrameReceive (port : Nat) (f : PlcRx)
  /-- R247: A radio receives a frame in a cell and answers with an Enhanced Acknowledgement carrying a time correction. -/
  | rfFrameReceive (n : Nat) (f : RfRx)
  /-- R24: The command processor takes a received frame from a receive queue and decides whether it is a candidate reading. -/
  | receivedFrameHandle (q : Nat)
  /-- R26: The command processor issues a profile GET with range selective access to an endpoint. -/
  | profileRead (eix : Nat)
  /-- R61: The gate hardware checks an inbound message and admits it or refuses it with one response word. -/
  | gateInboundMessage (received : Option Bytes)
  /-- R30: 60 s without the next block discards a reassembly with refusal REASSEMBLY cause 2. -/
  | reassemblyTimeout (eix : Nat)
  /-- R66: The open die's gate receiver checks an outbound message, queues it and acknowledges its sequence, discarding resends. -/
  | gateOutboundReceive (damaged : Bool)
  /-- R270: A sealed second marker arrives and the time unit records Δ for it. -/
  | secondMarker (capture : Int)
  /-- R66: The gate link resets and retrains, dropping unanswered inbound messages and resending held outbound ones. -/
  | gateLinkReset (cause : Nat)
  /-- R75: SEAL_N changes level; going high closes an open session with reason 2. -/
  | sealNChange (level : Bool)
  /-- R77: A debounced level change on STAMP0 or STAMP1 latches, is counted and raises event 41. -/
  | stampChange (input : Nat) (level : Bool)
  /-- R80: The sealed die starts, reads back and replays its streams and emits its start records. -/
  | sealedDieStart (offNs : Nat)
  /-- R86: All 20 metrology channels produce a sample, which is scaled and accumulated. -/
  | metroSample (volts : List Int) (vne : Int) (currents neutrals : List Int)
  /-- R101: 8 consecutive predictions without an accepted crossing mark the phase LOST and raise event 46. -/
  | zxLost (channel : Nat)
  /-- R101: 4 further in-window crossings after the first regain the phase and raise event 46. -/
  | zxRegained (channel : Nat)
  /-- R87: The sealed die's temperature sensor is read once per second. -/
  | sealedTemperature (centiC : Int)
  /-- R182: A scheduled delivery attempt sends the order APDU to the endpoint. -/
  | orderAttempt (eix : Nat)
  /-- R182: A response from the endpoint to an order attempt triggers a GET of control_state. -/
  | orderResponse (eix : Nat)
  /-- R182: The control_state answer or refusal finishes the order with an outcome and event 62. -/
  | controlStateRead (eix : Nat) (result : Option Nat)
  /-- R182: An unanswered control_state GET finishes the order DELIVERED_UNCONFIRMED. -/
  | orderGetTimeout (eix : Nat)
  /-- R124: At a node safe point the engine merges inputs, applies changes, closes intervals, runs detectors and may start a solve. -/
  | nodeSafePoint (n : Nat)
  /-- R116: close_wait_s after an interval's end passes and the interval becomes due with TIMED_OUT. -/
  | intervalCloseWait (n t : Nat)
  /-- R123: A node's attribution solve ends, converged or not. -/
  | balanceSolveDone (n : Nat)
  /-- R114: silent_s without an accepted cell makes a member inactive and raises event 89. -/
  | memberSilent (eix : Nat)
  /-- R130: The start-up rebuild of balance state from storage completes and raises event 94. -/
  | balanceRebuildDone (sec : Nat)
  /-- R208: A PLC port takes a frame from its transmit queue and sends it on the chosen phases. -/
  | plcTransmit (port : Nat) (air : PlcAir)
  /-- R206: A transmit attempt without acknowledgement is a lost attempt, retried under MAC settings. -/
  | plcAckTimeout (port : Nat) (impulsive : Bool) (air : PlcAir)
  /-- R197: PLCn_FLT_N falls; the port silences its drivers and aborts the frame in progress. -/
  | plcFltFall (port : Nat)
  /-- R196: 100 ms after PLCn_FLT_N rises the port may transmit again. -/
  | plcFaultClear (port : Nat)
  /-- R223: A driver fault lasting more than 10 s resets the port. -/
  | plcFaultPersist (port : Nat)
  /-- R223: A port not idle within 2 s is reset. -/
  | plcPortWatchdog (port : Nat)
  /-- R211: An RREQ addressed to the device is answered with an RREP. -/
  | rreqReceived (port hop hops : Nat) (forDevice : Bool)
  /-- R211: An RREP installs a LOADng route to the destination. -/
  | rrepReceived (port dest hop cost hops : Nat)
  /-- R211: An RERR invalidates the named route. -/
  | rerrReceived (port dest : Nat)
  /-- R211: A link cost request is answered with RLCREP when rlc_enable is 1. -/
  | rlcreqReceived (link : PlcLink)
  /-- R211: A link cost reply updates the neighbour's link cost. -/
  | rlcrepReceived (port hop cost : Nat)
  /-- R211: rreq_wait_ms without an RREP leads to a retry or, after the last, to repeater election. -/
  | rreqWaitExpiry (eix : Nat)
  /-- R215: rep_wait_ms without a frame from the destination moves to the next candidate or fails the election. -/
  | repeaterWaitExpiry (eix : Nat)
  /-- R225: A route's lifetime ends and it is removed. -/
  | routeExpiry (port short : Nat)
  /-- R211: A neighbour's blacklisting ends after blacklist_ttl_s. -/
  | blacklistExpiry (port short : Nat)
  /-- R214: A sighting older than rep_memory_s is dropped. -/
  | sightingExpiry (eix : Nat)
  /-- R217: An LBP joining frame is served by EAP-PSK bootstrap, declined, or completes a join. -/
  | lbpJoin (port : Nat) (eui : Bytes) (what cost : Nat) (data : Bytes) (stamp : Stamp)
  /-- R217: An endpoint leaves, is kicked or expires and event base + 6 state 0 is raised. -/
  | endpointLeave (eix : Nat)
  /-- R220: Every time_period_s the port sends a clock SET timed to end on the 10 ms grid. -/
  | plcTimeDelivery (port eix : Nat) (commanded : Bool)
  /-- R237: At a timeslot boundary a radio selects its cell and decides fit, duty, sensing and transmission. -/
  | rfTimeslot (n asn overhead beacon : Nat) (energy : List Int) (acked : Bool)
  /-- R254: A unicast frame without acknowledgement is retried up to mac_max_retries. -/
  | rfAckTimeout (n : Nat)
  /-- R248: A wake cell with nothing received, or an unacknowledged down-cell frame, widens the guard or starts wide-aperture listen. -/
  | sleepyMiss (n eix : Nat)
  /-- R248: A rescue cell passes with nothing received in WIDE and c increases. -/
  | rescueCellEmpty (n : Nat)
  /-- R248: c reaching wal_slotframes removes the wake pair and membership and raises event base + 2. -/
  | walExhausted (n eix : Nat)
  /-- R253: A radio not idle within 2 s is reset. -/
  | rfWatchdog (n : Nat)
  /-- R251: Every time_period_s a clock SET is sent to an RF endpoint for the next timeslot boundary. -/
  | rfTimeDelivery (n eix : Nat) (commanded : Bool)
  /-- R265: A Sync from the selected master yields an offset that steps or slews NT. -/
  | ptpSync (port : Nat) (t1 t2 : Int) (count : Nat)
  /-- R265: A Delay_Resp completes a delay measurement. -/
  | ptpDelayResp (port : Nat) (t3 t4 : Int) (count : Nat)
  /-- R264: An Announce is received and evaluated by the BMCA. -/
  | ptpAnnounce (port : Nat) (dataset : List Nat) (gm : Bytes) (utc : Option Int)
  /-- R263: The announce receipt timeout expires and the PTP source is lost. -/
  | ptpAnnounceTimeout (port : Nat)
  /-- R263: Three Sync intervals without a usable offset lose the PTP source. -/
  | ptpSyncLoss (port : Nat)
  /-- R263: The filtered offset stays within ±1,000 ns for lock_s and the source is locked. -/
  | ptpLocked (port : Nat)
  /-- R264: As master a port sends Sync and Announce at their intervals. -/
  | ptpSyncTx (port : Nat) (announce : Bool)
  /-- R264: As slave a port sends a Delay_Req at its interval. -/
  | ptpDelayReqTx (port : Nat)
  /-- R264: As master a port answers a Delay_Req. -/
  | ptpDelayReqReceived (port seq : Nat) (requester : Bytes) (t4 : Nat)
  /-- R263: An Ethernet port's link goes down or up, losing its PTP source when down. -/
  | ethLinkChange (port : Nat) (up : Bool)
  /-- R291: A lookup pipeline resolves an exact, direct-index or prefix lookup. -/
  | lookup (kind : Nat) (key : Bytes) (port cost stamp mismatches ecc : Nat)
  /-- R296: learn_hold_ms after its first sighting a notice is decided and its binding written. -/
  | noticeDecision (number : Nat)
  /-- R296: A host notice not released within notice_ttl_s is released. -/
  | noticeTtlExpiry (number : Nat)
  /-- R300: A rebuild places every entry and switches structures, or stops with REHASH_NEEDED. -/
  | rehashComplete (us : Nat)
  /-- R306: A GO with OP READ loads DATA with the keyed entry. -/
  | tblRead (inst : Nat) (get : TblGet)
  /-- R307: A GO with OP WRITE inserts or replaces a whole entry. -/
  | tblWrite (inst kind mode : Nat)
  /-- R306: A GO with OP DELETE removes a whole entry or releases a notice. -/
  | tblDelete (inst kind : Nat)
  /-- R306: A GO with OP SEARCH finds the first valid entry at or after CURSOR. -/
  | tblSearch (inst : Nat) (get : TblGet)
  /-- R306: A GO with OP NEXT finds the next valid entry after CURSOR. -/
  | tblNext (inst : Nat) (get : TblGet)
  /-- R306: A GO with OP FLUSH_PORT unbinds every bound directory entry on a port. -/
  | tblFlushPort (inst mode : Nat)
  /-- R316: A producer requests an OPEN of c cells on a queue. -/
  | queueOpen (producer q c : Nat)
  /-- R318: A producer closes a packet, which is appended and noticed or quarantined. -/
  | queueClose (producer q : Nat) (payload : Bytes)
  /-- R320: A consumer reads the head packet, checked at exit, and releases its cells. -/
  | consumerRead (q ecc : Nat)
  /-- R338: The storage manager takes a record from a rank 7 queue into a page buffer or refuses it. -/
  | storeRecordAccept (q : Nat)
  /-- R338: A page buffer whose oldest record has waited flush_us is programmed. -/
  | pageBufferTimeout (stream : Nat)
  /-- R338: A page program completes and its records are committed in acceptance order. -/
  | pageProgramDone (ok : Bool)
  /-- R370: An event source's token bucket gains one token every bucket_refill_ms. -/
  | bucketRefill (src : Nat)
  /-- R376: An exposure idle for exposure_ttl_s releases its pins and raises event 227. -/
  | exposureExpiry (handle : Nat)
  /-- R396: A protected transport record is checked against window, epoch and tag and accepted or discarded. -/
  | protectedRecordRx (header record : Bytes)
  /-- R397: The device sends a delivered-form batch as segments on channel UPLOAD. -/
  | uploadBatchSend (n : Nat)
  /-- R397: A head-end acknowledgement marks the batch acknowledged. -/
  | uploadAck (n : Nat) (member : Option Nat)
  /-- R458: A command frame received on channel HEADEND is served or denied. -/
  | headendCommand (part : Bytes)
  /-- R401: Campaign content is read and digested at DIST_START, completing or ending the campaign. -/
  | contentLoaded (c : Nat)
  /-- R407: The next source block or repair frame of a round is multicast after its gap. -/
  | multicastFrame (c : Nat)
  /-- R410: A member's DLMS response moves its distribution state. -/
  | memberResponse (c eix : Nat) (ok : Bool) (nums : List Nat) (data : Bytes)
  /-- R410: An unanswered distribution request is retried or fails the member. -/
  | memberRequestTimeout (c eix : Nat)
  /-- R411: NT reaches the campaign's activation time and READY members are activated at act_rate. -/
  | activationDue (c : Nat)
  /-- R421: A power-fail warning freezes activity and starts the hold-up order. -/
  | powerFailWarning (source mv : Nat)
  /-- R422: A hold-up step ends and the next step of the order starts. -/
  | holdupStep (ms : Nat)
  /-- R420: VIN falls below 2.60 V and the open die stops. -/
  | vinUndervoltage (mv : Nat)
  /-- R424: VIN recovers above pfw_mv + 200 mV and event 12 is raised. -/
  | pfwCleared (mv : Nat)
  /-- R418: VIN above vin_start for 10 ms with VIO banks up starts the start sequence. -/
  | vinStart (mv : Nat)
  /-- R420: VBAT crosses vbat_hold_mv and event 4 is raised. -/
  | vbatLow (mv : Nat)
  /-- R426: A wake source in IDLE ungates the clocks and returns to RUN. -/
  | idleWake (ms : Nat)
  /-- R427: A TAMP input changes level and is latched or reported. -/
  | tamperInput (n : Nat) (level : Bool)
  /-- R433: Reset is released and the start sequence boots, trains DRAM, replays the map and loads tables. -/
  | resetRelease (ticks : Nat) (off : Option Nat) (mapMs : Nat) (diesOk : List Bool) (pipesOk : List Bool)
  /-- R433: Sealed replay and table loading both done, ports are enabled and event 1 raised. -/
  | startComplete (ms : Nat)
  /-- R449: A write to MBX_CR_TAIL makes the device fetch command frames into HOST_IN. -/
  | doorbell (tail : Nat) (written : Bytes) (dmaFail : Bool)
  /-- R454: A write of MBX_CTRL.ENABLE starts or stops the mailbox. -/
  | mailboxEnable (v : Nat)
  /-- R450: A write of MBX_CPR_HEAD frees completion slots for waiting frames. -/
  | completionHeadWrite (v : Nat)
  /-- R455: A write of NTF_HEAD frees notification entries and may write a LOST entry. -/
  | notificationHeadWrite (v : Nat)
  /-- R445: A write of NTF_CTRL.ENABLE lets the device write notification entries or stop. -/
  | notificationEnable (v : Nat)
  /-- R6: A write to a register without behaviour of its own updates its RW or W1C fields. -/
  | registerWrite (addr v : Nat)
  /-- R450: The host interface writes a completion or PACKET frame from HOST_OUT into the completion ring. -/
  | completionWrite (dmaFail : Bool)
  /-- R452: A command without first completion within first_ms completes INTERNAL_FAULT. -/
  | commandTimeout (headend : Bool) (tag : Nat)
  /-- R454: Hot reset, PERST_N or link loss clears ENABLE. -/
  | pcieLinkReset (kind : Nat)
  /-- R483: A tier heartbeat is received, regaining peers and checking member conflicts. -/
  | heartbeatReceive (mac frame : Bytes)
  /-- R483: 5 s without a valid heartbeat loses a peer and raises event 240. -/
  | peerLoss (m : Nat)
  /-- R486: The manager writes a worker's listed directory entries as REMOTE. -/
  | directoryFrame (frame : Bytes)
  /-- R488: The manager relays a worker batch segment to the head-end. -/
  | batchSegmentFrame (frame : Bytes)
  /-- R488: A worker receives BATCH_ACK and marks the batch delivered. -/
  | batchAckFrame (frame : Bytes)
  /-- R487: A serving member starts or stops sending CONTRIB cells for an EIX. -/
  | subscribeFrame (frame : Bytes)
  /-- R487: A balance device passes a contributed cell to its balance engine. -/
  | contribFrame (frame : Bytes)
  /-- R460: Command 0x0101 returns identification words and identities. -/
  | sysIdent (c : HostCmd)
  /-- R460: Command 0x0102 returns its request bytes. -/
  | sysEcho (c : HostCmd)
  /-- R460: Command 0x0103 returns mailbox state and counters. -/
  | mbxStatus (c : HostCmd)
  /-- R436: Command 0x0120 returns power state, supplies and reset history. -/
  | sysPowerStatus (c : HostCmd)
  /-- R436: Command 0x0121 runs the hold-up order and restarts with cause COMMAND. -/
  | sysRestart (c : HostCmd)
  /-- R436: Command 0x0122 runs the hold-up order and enters OFF. -/
  | sysShutdown (c : HostCmd)
  /-- R436: Command 0x0123 returns clock domain states and TCXO deviation. -/
  | sysClocks (c : HostCmd)
  /-- R478: Command 0x0201 returns the generation and staging state. -/
  | cfgStatus (c : HostCmd)
  /-- R463: Command 0x0202 returns the field descriptors of an object. -/
  | cfgDescribe (c : HostCmd)
  /-- R478: Command 0x0203 returns field records of an object from a chosen image. -/
  | cfgRead (c : HostCmd)
  /-- R467: Command 0x0204 opens a staging on a base generation. -/
  | cfgBegin (c : HostCmd)
  /-- R471: Command 0x0205 stages field records or is refused whole. -/
  | cfgStage (c : HostCmd)
  /-- R468: Command 0x0206 validates the staged image in three passes. -/
  | cfgValidate (c : HostCmd)
  /-- R469: Command 0x0207 commits the staging as the next generation. -/
  | cfgCommit (c : HostCmd)
  /-- R467: Command 0x0208 discards the staging. -/
  | cfgAbort (c : HostCmd)
  /-- R474: Command 0x0209 makes a new generation from the prior image. -/
  | cfgRevert (c : HostCmd)
  /-- R473: Command 0x020A ends the proving period at once. -/
  | cfgProveNow (c : HostCmd)
  /-- R477: Command 0x020B commits the factory image as a new generation. -/
  | cfgFactory (c : HostCmd)
  /-- R311: Command 0x0301 returns table counts, seeds, pipelines and counters. -/
  | tblStatus (c : HostCmd)
  /-- R311: Command 0x0302 performs a table operation through the command processor's instance. -/
  | tblOp (c : HostCmd)
  /-- R300: Command 0x0303 starts a rebuild of the directory index or prefix banks with new seeds. -/
  | tblRehash (c : HostCmd)
  /-- R311: Command 0x0304 returns pending host notices. -/
  | tblNotices (c : HostCmd)
  /-- R303: Command 0x0305 returns shadow proofs and groups that differ from the host's. -/
  | tblProof (c : HostCmd)
  /-- R191: Command 0x0401 returns the latest CURRENT record and order state of an EIX. -/
  | ledgerRead (c : HostCmd)
  /-- R191: Command 0x0402 returns a CLOSE image. -/
  | ledgerReadClose (c : HostCmd)
  /-- R191: Command 0x0403 returns SNAPSHOT images from a start time. -/
  | ledgerReadSnapshots (c : HostCmd)
  /-- R191: Command 0x0404 lists EIX values matching filters. -/
  | ledgerList (c : HostCmd)
  /-- R191: Command 0x0405 returns ledger counts and balance sum. -/
  | ledgerSummary (c : HostCmd)
  /-- R191: Command 0x0406 restarts an order's attempt schedule. -/
  | orderRetry (c : HostCmd)
  /-- R165: Command 0x0501 returns held tariff documents, period and marks. -/
  | tariffStatus (c : HostCmd)
  /-- R165: Command 0x0502 returns a held tariff document. -/
  | tariffReadDoc (c : HostCmd)
  /-- R165: Command 0x0503 evaluates the tariff for an interval start. -/
  | tariffEvaluate (c : HostCmd)
  /-- R165: Command 0x0504 returns the sealed step log. -/
  | tariffStepLog (c : HostCmd)
  /-- R364: Command 0x0601 returns store state and activity. -/
  | storeStatus (c : HostCmd)
  /-- R364: Command 0x0602 returns per-die and per-stack state. -/
  | storeDies (c : HostCmd)
  /-- R364: Command 0x0603 reads stream records via HOST_OUT. -/
  | storeRead (c : HostCmd)
  /-- R364: Command 0x0604 refreshes a closed superblock. -/
  | storeRefreshNow (c : HostCmd)
  /-- R364: Command 0x0605 returns a stream's valid range and oldest expiry. -/
  | storeStreamInfo (c : HostCmd)
  /-- R364: Command 0x0606 returns batch index entries. -/
  | storeBatchList (c : HostCmd)
  /-- R360: Command 0x0607 reads bytes of a batch's delivered form. -/
  | storeBatchRead (c : HostCmd)
  /-- R360: Command 0x0608 marks complete batches up to a number delivered. -/
  | storeBatchAck (c : HostCmd)
  /-- R360: Command 0x0609 invalidates READING records up to a delivered batch. -/
  | storeRelease (c : HostCmd)
  /-- R361: Command 0x0610 creates a host volume. -/
  | volCreate (c : HostCmd)
  /-- R364: Command 0x0611 deletes a host volume. -/
  | volDelete (c : HostCmd)
  /-- R361: Command 0x0612 writes logical blocks through queue 70. -/
  | volWrite (c : HostCmd)
  /-- R361: Command 0x0613 reads logical blocks via HOST_OUT. -/
  | volRead (c : HostCmd)
  /-- R364: Command 0x0614 trims logical blocks to read as zeros. -/
  | volTrim (c : HostCmd)
  /-- R377: Command 0x0701 returns per-channel recorder state. -/
  | recStatus (c : HostCmd)
  /-- R376: Command 0x0702 plain-reads channel records. -/
  | recRead (c : HostCmd)
  /-- R376: Command 0x0703 opens an exposure and pins its range. -/
  | recExposeOpen (c : HostCmd)
  /-- R376: Command 0x0704 reads records within an exposure. -/
  | recExposeRead (c : HostCmd)
  /-- R376: Command 0x0705 closes an exposure and releases its pins. -/
  | recExposeClose (c : HostCmd)
  /-- R371: Command 0x0706 writes COMMAND anchors. -/
  | recAnchorNow (c : HostCmd)
  /-- R399: Command 0x0801 returns lifecycle, slots and security counters. -/
  | secStatus (c : HostCmd)
  /-- R392: Command 0x0802 checks and applies an open document. -/
  | submitOpenDoc (c : HostCmd)
  /-- R380: Command 0x0803 advances INTEGRATION to FIELD. -/
  | lifecycleAdvance (c : HostCmd)
  /-- R384: Command 0x0804 writes a key slot plainly or wrapped. -/
  | keyWrite (c : HostCmd)
  /-- R394: Command 0x0805 returns a signed attestation report. -/
  | attest (c : HostCmd)
  /-- R399: Command 0x0806 returns DRBG bytes. -/
  | rngRead (c : HostCmd)
  /-- R393: Command 0x0807 returns a manufacture certificate. -/
  | certRead (c : HostCmd)
  /-- R396: Command 0x0809 moves a channel's sender to the next epoch. -/
  | transportRekey (c : HostCmd)
  /-- R390: Command 0x0810 marks the inactive slot EMPTY with its length. -/
  | fwBegin (c : HostCmd)
  /-- R390: Command 0x0811 writes image data in order. -/
  | fwWrite (c : HostCmd)
  /-- R388: Command 0x0812 verifies the slot and marks it VALID. -/
  | fwVerify (c : HostCmd)
  /-- R390: Command 0x0813 makes the VALID slot the trial slot. -/
  | fwActivate (c : HostCmd)
  /-- R390: Command 0x0814 makes the running trial slot active. -/
  | fwConfirm (c : HostCmd)
  /-- R399: Command 0x0815 returns slot states and trial attempts. -/
  | fwStatus (c : HostCmd)
  /-- R415: Command 0x0901 returns campaign state. -/
  | distStatus (c : HostCmd)
  /-- R415: Command 0x0902 creates a campaign. -/
  | distCreate (c : HostCmd)
  /-- R402: Command 0x0903 adds or removes campaign members. -/
  | distMembers (c : HostCmd)
  /-- R401: Command 0x0904 starts loading a campaign's content. -/
  | distStart (c : HostCmd)
  /-- R415: Command 0x0905 returns member states. -/
  | distReadMembers (c : HostCmd)
  /-- R415: Command 0x0906 cancels a campaign. -/
  | distCancel (c : HostCmd)
  /-- R411: Command 0x0907 makes activation due for a campaign with activation time 0. -/
  | distActivate (c : HostCmd)
  /-- R278: Command 0x0A01 returns NT, level, source, OT and PCC. -/
  | timeStatus (c : HostCmd)
  /-- R278: Command 0x0A02 sets NT from the host source. -/
  | timeSet (c : HostCmd)
  /-- R260: Command 0x0A03 returns interrupt and completion stamps. -/
  | timeGet (c : HostCmd)
  /-- R278: Command 0x0A04 returns per-candidate source state. -/
  | timeSources (c : HostCmd)
  /-- R278: Command 0x0A05 sends a time offer at once. -/
  | timeOfferNow (c : HostCmd)
  /-- R136: Command 0x0B01 returns per-node balance state. -/
  | balStatus (c : HostCmd)
  /-- R136: Command 0x0B02 stages membership entries. -/
  | balSetMembers (c : HostCmd)
  /-- R136: Command 0x0B03 returns a member's entry and scores. -/
  | balGetMember (c : HostCmd)
  /-- R136: Command 0x0B04 returns score records of the last solve. -/
  | balReadScores (c : HostCmd)
  /-- R136: Command 0x0B05 returns interval records. -/
  | balReadIntervals (c : HostCmd)
  /-- R136: Command 0x0B06 requests solves of selected nodes. -/
  | balSolveNow (c : HostCmd)
  /-- R136: Command 0x0B07 stages a move to the identified phase. -/
  | balApplyPhase (c : HostCmd)
  /-- R227: Command 0x0C01 returns PLC port state and counters. -/
  | plcPortStatus (c : HostCmd)
  /-- R227: Command 0x0C02 returns neighbour entries. -/
  | plcNeighbours (c : HostCmd)
  /-- R227: Command 0x0C03 returns the route to an endpoint. -/
  | plcRouteRead (c : HostCmd)
  /-- R227: Command 0x0C04 starts route discovery and election. -/
  | plcRouteDiscover (c : HostCmd)
  /-- R227: Command 0x0C05 returns receive shares and ZX offset. -/
  | plcPhaseShare (c : HostCmd)
  /-- R384: Command 0x0C06 writes a wrapped endpoint PSK. -/
  | plcSetPsk (c : HostCmd)
  /-- R217: Command 0x0C07 renews a port's group master key. -/
  | plcGmkRotate (c : HostCmd)
  /-- R223: Command 0x0C08 resets a PLC port. -/
  | plcPortReset (c : HostCmd)
  /-- R227: Command 0x0C09 delivers time to a PLC endpoint. -/
  | plcTimeDeliver (c : HostCmd)
  /-- R257: Command 0x0D01 returns radio state and counters. -/
  | rfStatus (c : HostCmd)
  /-- R257: Command 0x0D02 returns sync entries. -/
  | rfSyncRead (c : HostCmd)
  /-- R257: Command 0x0D03 returns slotframe cells. -/
  | rfScheduleRead (c : HostCmd)
  /-- R245: Command 0x0D04 gives an endpoint a wake pair or clears it. -/
  | rfSetWake (c : HostCmd)
  /-- R232: Command 0x0D05 returns a frame's airtime and fit. -/
  | rfAirtime (c : HostCmd)
  /-- R244: Command 0x0D06 renews a radio's MAC key. -/
  | rfKeyRotate (c : HostCmd)
  /-- R253: Command 0x0D07 resets a radio. -/
  | rfRadioReset (c : HostCmd)
  /-- R251: Command 0x0D08 delivers time to an RF endpoint. -/
  | rfTimeDeliver (c : HostCmd)
  /-- R512: Command 0x0E01 returns panel state. -/
  | panelStatus (c : HostCmd)
  /-- R512: Command 0x0E02 writes pixels to the staging image. -/
  | panelWrite (c : HostCmd)
  /-- R506: Command 0x0E03 queues an update of a region. -/
  | panelUpdate (c : HostCmd)
  /-- R499: Command 0x0E04 loads a chunk of a waveform table or uniformity map. -/
  | panelLoad (c : HostCmd)
  /-- R507: Command 0x0E05 starts or stops a blink region. -/
  | panelBlink (c : HostCmd)
  /-- R510: Command 0x0E06 draws the contact sheet. -/
  | panelContactSheet (c : HostCmd)
  /-- R512: Command 0x0E07 returns DC-ledger values. -/
  | panelReadLedger (c : HostCmd)
  /-- R504: Command 0x0E08 queues a rebalance of a rectangle. -/
  | panelRebalance (c : HostCmd)
  /-- R492: Command 0x0F01 returns tier role and state. -/
  | tierStatus (c : HostCmd)
  /-- R492: Command 0x0F02 returns per-member peer state. -/
  | tierPeers (c : HostCmd)
  /-- R490: Command 0x0F03 promotes a standby to a member and restarts it. -/
  | tierPromote (c : HostCmd)
  /-- R81: Command 0x1001 returns gate link state and counters. -/
  | gateStatus (c : HostCmd)
  /-- R81: Command 0x1002 returns the latest IDENTIFICATION payload. -/
  | readIdent (c : HostCmd)
  /-- R81: Command 0x1003 sends a CLOSE_BATCH time offer. -/
  | closeBatch (c : HostCmd)
  /-- R81: Command 0x1004 submits a signed document to the sealed die. -/
  | submitDocument (c : HostCmd)
  /-- R81: Command 0x1005 sends a REPORT_ID time offer. -/
  | requestReport (c : HostCmd)
  /-- R68: Command 0x1006 submits one sealed firmware segment. -/
  | submitDocSegment (c : HostCmd)
  /-- R111: Command 0x1020 returns the latest feeder records. -/
  | metroLatest (c : HostCmd)
  /-- R111: Command 0x1021 returns zero-crossing state per voltage channel. -/
  | metroZxStatus (c : HostCmd)
  /-- R111: Command 0x1022 returns a mirrored sealed object. -/
  | metroReadObject (c : HostCmd)
  /-- R110: Command 0x1023 reports whether the calibration mirror is verified. -/
  | metroVerifyMirror (c : HostCmd)
  /-- R111: Command 0x1024 returns stored feeder records. -/
  | metroReadHistory (c : HostCmd)
  /-- R522: Command 0x1F01 returns the unlock and fog state. -/
  | fogStatus (c : HostCmd)
  /-- R519: Command 0x1F02 applies a one-shot injection. -/
  | fogInject (c : HostCmd)
  /-- R515: Command 0x1F03 ends the test unlock. -/
  | fogLock (c : HostCmd)
  /-- R461: The PCIe link trains up after PERST_N deassertion or a link loss, configuration space starts answering and event 16 is raised with state up. -/
  | hostLinkUp (rate width : Nat)
  /-- R182: 10 s after an order attempt with no response from the endpoint the attempt is judged unanswered, and after the 600 s attempt the order reports UNDELIVERED once with event 62. -/
  | orderResponseWindow (eix : Nat)
  /-- R58: The gate transmitter takes a packet from a gate queue and sends it as an inbound gate message. -/
  | gateTransmit
  /-- R29: The sealed core judges and processes one admitted METER_APDU message, emitting cells, pricing and journaling them. -/
  | sealedApduProcess
  /-- R50: batch_age_s of sealed-crystal time since the first cell closes the open batch with reason AGE. -/
  | batchAgeExpiry
  /-- R52: Signing of a closed batch ends and the BATCH_HEADER and BATCH_TRAILER messages leave the gate. -/
  | batchTrailerReady
  /-- R69: Freed output-buffer cells let the sealed die resume work paused for want of buffer space. -/
  | sealedOutputResume
  /-- R66: The sealed die receives an ACK unit and frees the acknowledged message's output-buffer cells. -/
  | ackUnit
  /-- R185: The sealed die receives the storage outcome of a sealed record and frees or re-offers it. -/
  | storeResultUnit
  /-- R61: The open die receives the response word for an inbound message. -/
  | responseUnit
  /-- R67: The storage manager answers a READ_REQUEST with stored sealed records and an end mark. -/
  | readRequestUnit
  /-- R67: The gate filter admits a returned sealed record or ends the request as failed. -/
  | readReturnUnit
  /-- R67: A RELEASE unit invalidates stored records of a sealed stream below the named epoch. -/
  | releaseUnit
  /-- R185: 100 ms after a refusal the sealed die offers the refused journal record again under a new sequence. -/
  | journalPartReoffer
  /-- R70: The sealed core acts on a TIME_OFFER message: batch close, time judgement and identification report. -/
  | timeOffer
  /-- R141: The sealed core checks a tariff document and makes it active or pending. -/
  | tariffDoc
  /-- R173: The sealed core applies a credit transaction document to an EIX's ledger. -/
  | creditTxn
  /-- R63: The sealed core checks and applies a sealed-configuration document. -/
  | sealedConfig
  /-- R68: The sealed die takes one segment of a sealed firmware document and judges the document at its last segment. -/
  | sealedFirmwareSegment
  /-- R68: 600 s without a segment discards a partial sealed firmware document. -/
  | segmentTimeout
  /-- R75: The maximum duration of a seal-break session expires and closes it with reason 3. -/
  | sealSessionExpiry
  /-- R186: checkpoint_s or 131,072 transactions trigger a ledger checkpoint, epoch advance and anchor write. -/
  | sealedCheckpoint
  /-- R153: Sealed time reaches a calendar boundary plus its delay and the item executes as one journal transaction. -/
  | calendarExecution
  /-- R179: After each sealed minute the ledger evaluates every PREPAY or disconnected EIX. -/
  | minuteEvaluation
  /-- R170: A CURRENT record holding an unemitted change is emitted once state_emit_s has passed. -/
  | stateEmit
  /-- R93: Sealed time reaches a multiple of period_s and the metrology period closes. -/
  | metroPeriodEnd
  /-- R102: A ZX_STAMPS message is sent 100 ms after its first stamp or at 32 stamps. -/
  | zxStampsSend
  /-- R171: The command processor consumes a ledger, identification or calibration record from CP_SEALED. -/
  | cpSealedPacket
  /-- R115: The balance engine takes a cell or feeder record from BAL_IN and stages it. -/
  | balInPacket
  /-- R263: host_hold_s after the last TIME_SET the host source is lost. -/
  | hostSourceLost
  /-- R268: holdover_s expires, the level falls and event 149 is raised. -/
  | holdoverExpiry
  /-- R274: Operating time advances by one second. -/
  | otTick
  /-- R271: 3 s without a second marker stops stamp translation and raises event 154. -/
  | markerLost
  /-- R271: The time unit takes ZX stamps from ZX_IN and translates them to NT. -/
  | zxInPacket
  /-- R272: When its conditions hold the time unit sends a TIME_OFFER, or raises event 153 when the budget cannot fit. -/
  | timeOfferDecision
  /-- R297: Every age_pass_s an aging pass marks or removes stale entries. -/
  | agingPass
  /-- R301: Changed shadow entries are committed to the table state stream. -/
  | shadowCommit
  /-- R317: Freed cells grant waiting OPEN requests in rank order. -/
  | openGrant
  /-- R321: The fan-out unit routes a gate message by kind to its queues, skipping lossy copies. -/
  | fanoutPacket
  /-- R342: OT passes a week boundary and superblocks keyed to it are erased. -/
  | expiryWeek
  /-- R368: The recorder takes an open-die record, assigns its channel sequence and hands it to storage. -/
  | recorderPacket
  /-- R369: The recorder stores a channel 0 record unchanged, discarding resends and reporting gaps. -/
  | sealedEventRecord
  /-- R371: anchor_period_s of OT since the last anchor writes PERIODIC anchors. -/
  | anchorPeriodic
  /-- R386: After 2²⁰ requests the DRBG is reseeded. -/
  | drbgReseed
  /-- R381: Powering the debug access port blocks key slots and raises event 215. -/
  | debugAttach
  /-- R381: The debug duration granted in RMA expires and the port closes. -/
  | debugWindowExpiry
  /-- R390: A trial image not confirmed within fw_confirm_s restarts the device. -/
  | fwConfirmTimeout
  /-- R390: 100 ms after FW_ACTIVATE completes the device restarts into the trial slot. -/
  | fwActivateRestart
  /-- R430: TCXO absent for 1 ms resets the open die with cause CLOCK. -/
  | tcxoAbsent
  /-- R426: idle_entry_us without activity gates clocks and enters IDLE. -/
  | idleEntry
  /-- R426: hold_max_s in HOLD, or low VBAT, moves the device to OFF. -/
  | holdExpiry
  /-- R432: RESET_N low for 10 µs resets the open die. -/
  | resetPin
  /-- R432: The command processor watchdog expires and resets the open die. -/
  | watchdogReset
  /-- R445: Reading NTF_LOST returns and clears the dropped-entry count. -/
  | ntfLostRead
  /-- R446: Reading QUE_REFUSED returns and clears the selected queue's refusal count. -/
  | queRefusedRead
  /-- R441: The QSPI STATUS instruction returns the status byte and clears ERR. -/
  | qspiStatusRead
  /-- R473: The proving period ends and the generation is proven or reverted. -/
  | provingEnd
  /-- R483: Every 1 s a tier member sends a HEARTBEAT. -/
  | heartbeatSend
  /-- R489: Each day of manager loss past buffer_warn_days raises event 244. -/
  | bufferAgeDay
  /-- R495: A panel frame period begins and the driver scans drive codes for active updates. -/
  | panelFrame
  /-- R496: PNL_PWRGOOD rises and VCOM is enabled before the first frame. -/
  | panelRailUp
  /-- R496: PNL_PWRGOOD not rising within pwr_timeout_ms drops outputs and raises event 232. -/
  | pwrgoodTimeout
  /-- R496: 1 s after a rail failure the driver retries bringing the rails up. -/
  | panelRailRetry
  /-- R496: rail_hold_ms after the last frame the panel rails are brought down. -/
  | railHoldExpiry
  /-- R508: PNL_PWRGOOD lost during a scan aborts updates and schedules recovery. -/
  | pwrgoodLost
  /-- R510: hold_s after the contact sheet a FULL update redraws the displayed image. -/
  | contactSheetHold
  /-- R515: A test unlock's duration expires and event 249 is raised. -/
  | unlockExpiry
  /-- R264: A management message is answered read-only, refusing SET. -/
  | ptpManagement (port seq action : Nat) (tlv : Bytes)
  /-- R302: The proofing scan reads a group of table entries and compares it with the shadow. -/
  | proofingScan (region group : Nat) (upset : List Nat)
  /-- R327: A packet open longer than open_max_us is voided. -/
  | openTimeout (producer q : Nat)
  /-- R324: A rank 3 or 4 head packet older than head_max_ms is released unsent. -/
  | headExpiry (q : Nat)
  /-- R332: A credit wait beyond wait_warn_ms raises event 184. -/
  | creditWaitLong (q ms : Nat) (held : Option Nat)
  /-- R347: An erase completes or fails and retires its block. -/
  | eraseDone (ok : Bool) (die : Nat)
  /-- R339: A page read completes, its records are checked and delivered, rebuilt or quarantined. -/
  | pageReadDone (stream seq : Nat) (edgeBad uncorrectable : Bool) (retry pct : Nat)
  /-- R350: An operation not completed within die_timeout_ms resets the channel. -/
  | dieHang (die : Nat)
  /-- R350: A hung die is retried 100 ms later and taken offline after 3 failures. -/
  | dieRetry (die : Nat) (ok : Bool)
  /-- R344: Development copies valid records from a full latent superblock into TLC targets. -/
  | development (pct : Nat)
  /-- R346: Below gc_start free superblocks, a victim is chosen, copied and erased. -/
  | garbageCollection (pct : Nat)
  /-- R352: A superblock past its weighted-age or read thresholds is copied and event 203 raised. -/
  | refresh (pct : Nat)
  /-- R351: Every 60 s each stack's weighted-age accumulator grows by the Arrhenius factor. -/
  | weightedAge (t0 t1 : Int)
  /-- R357: A map checkpoint is written to stream 0, and a frozen store may unfreeze. -/
  | mapCheckpoint (ok : Bool)
  /-- R386: A TRNG health test fails and the source is restarted or stopped. -/
  | trngHealthFail (test samples : Nat)
  /-- R386: 10 ms after a failure the entropy source restarts with its start-up test. -/
  | trngRestart (ok : Bool) (samples : Nat)
  /-- R396: After 2³² records a sender moves its channel to the next epoch. -/
  | transportEpochRoll (ch : Nat)
  /-- R397: A batch without acknowledgement within upload_ack_ms is sent again or left. -/
  | uploadAckTimeout (n : Nat)
  /-- R410: Every verify_poll_s attribute 6 of a verifying or activating member is polled. -/
  | verifyPoll (c eix : Nat)
  /-- R410: verify_timeout_s passes in VERIFY or ACTIVATE and the member fails. -/
  | verifyTimeout (c eix : Nat)
  /-- R420: VBAT crosses its lost threshold and event 4 is raised. -/
  | vbatLost (mv : Nat)
  /-- R420: A VIO bank falls below or recovers above its threshold. -/
  | vioFault (bank mv : Nat)
  /-- R420: An internal rail leaves tolerance and resets the open die with cause RAIL. -/
  | railFault (rail mv : Nat)
  /-- R431: Every 100 ms the package temperature moves the throttling level. -/
  | thermalReading (c : Int)
  /-- R430: Once per second TCXO_IN is measured against AON. -/
  | clockMonitor (ppm : Int) (crystal : Bool)
  /-- R432: A command processor lockstep mismatch resets the open die. -/
  | lockstepReset (pair : Nat)
  /-- R456: The coalesce_us interval of a vector ends and one MSI-X message covers its entries. -/
  | msiCoalesce (vector : Nat)
  /-- R500: Every temp_period_s the panel temperature and band are read. -/
  | panelTemperature (reading : Option Int)
  deriving DecidableEq, Repr

end Sys2Proof
end

