-- ==== Sys2Proof/Config.lean ====
section
/-! DEFINITION. What the manufacturer, an external standard or chance fixes: opaque constants, no value of which
any proof can see (log 6 for free values, log 7 for the cryptographic functions, log 8 for the constants written at
Marbibor). Every use limits the result to the width the spec gives it. -/

namespace Sys2Proof

/-- A value the spec leaves open: draw number `i` of kind `kind` (log 6). -/
opaque Config.freeValue (kind i : Nat) : Nat

/-- The SHAKE256 function of FIPS 202: `n` bytes over `data`. -/
opaque Config.shake256 (n : Nat) (data : Bytes) : Bytes

/-- AES-GCM encryption: ciphertext and tag (`tagLen` bytes) over `pt` with associated data `aad`. -/
opaque Config.gcmSeal (tagLen : Nat) (key nonce aad pt : Bytes) : Bytes

/-- AES-GCM decryption: the plaintext when the tag verifies. -/
opaque Config.gcmOpen (tagLen : Nat) (key nonce aad ct : Bytes) : Option Bytes

/-- ML-DSA-65 verification (FIPS 204) under the public key with the given 32-byte identifier. -/
opaque Config.mldsaVerify (keyId msg sig : Bytes) : Bool

/-- ML-DSA-65 signing with the secret key behind the given key identifier: 3,309 bytes. -/
opaque Config.mldsaSign (keyId msg rnd : Bytes) : Bytes

/-- Key derivation from a die's secret: `n` bytes for `label` and `ctx`. -/
opaque Config.derive (n : Nat) (secret label ctx : Bytes) : Bytes

/-- AES key wrap (RFC 3394) opened with a device key: the key when the wrap verifies. -/
opaque Config.keyUnwrap (kek wrapped : Bytes) : Option Bytes

/-- Block `i` of the DRBG's output since reset (R386). -/
opaque Config.drbg (i : Nat) : Bytes

/-- The open die identity, 16 bytes, fused at Marbibor (R443, R393). -/
opaque Config.openIdentity : Bytes

/-- The MAC of EAP-PSK (R217): over `data` under a key derived from the PSK. -/
opaque Config.eapMac (psk data : Bytes) : Bytes

/-- The protected channel of EAP-PSK and of key renewal (R217, R244): `data` sealed for the holder of the PSK. -/
opaque Config.eapSeal (psk data : Bytes) : Bytes

/-- The phase detection counter of G.9903 (R218) `ns` after a rising zero crossing, the mains period being `period` ns. -/
opaque Config.phaseCounter (period ns : Nat) : Nat

/-- The time since the sender's rising zero crossing that a phase detection counter of G.9903 states, in ns (R218). -/
opaque Config.counterNs (period counter : Nat) : Nat

/-- The sealed die identity, 16 bytes (R74). -/
opaque Config.sealedIdentity : Bytes

/-- ID_LINK_DELAY, the factory-measured link delay in ns (R443, R270). -/
opaque Config.linkDelay : Nat

/-- Public and secret values of the sealed die and the open die written at manufacture, by name (R62, R78, R382). -/
opaque Config.factoryKey (name : Nat) : Bytes

/-- The certificates of the open and the sealed die (R393), by number 0 and 1. -/
opaque Config.certificate (n : Nat) : Bytes

/-- Digest of a factory image by slot number (sealed firmware slots 0 and 1, open firmware slots 2 and 3). -/
opaque Config.factoryImage (slot : Nat) : Bytes

/-- The client wPort that endpoints answer to (R24): the spec names it configured and gives it no field. -/
opaque Config.clientWPort : Nat

/-- The OBIS code of the profile object that PROFILE_READ reads (R26): the spec gives it no field. -/
opaque Config.profileObis : Bytes

/-- Step 5 of R86, first order: the output for an input, from the input and the output before it, in units of 2⁻²⁴ code (log 94). -/
opaque Config.highPass (x x1 y1 : Int) : Int

/-- Step 6 of R86: the integrator's output at a nominal frequency, from the input, the input and the output before it (log 94). -/
opaque Config.integrator (hz : Nat) (x x1 y1 : Int) : Int

/-- Step 7 of R86: the newest samples of a channel, newest first, delayed by `phaseNs` (log 94). -/
opaque Config.fractionalDelay (phaseNs : Int) (recent : List Int) : Int

/-- The band-pass filter of R100 over the newest scaled samples, newest first: the fundamental now, its group delay removed (log 94). -/
opaque Config.fundamental (hz : Nat) (recent : List Int) : Int

/-- One cycle's samples, oldest first, resampled to 128 points (R91, log 94). -/
opaque Config.resample (cycle : List Int) : List Int

/-- X_h: the amplitude of harmonic `h` in a window of resampled cycles (R91, log 94). -/
opaque Config.harmonic (h : Nat) (window : List (List Int)) : Nat

/-- PPDU duration in µs of a SUN-OFDM mode of `rate` kb/s for a PSDU of `m` octets, as IEEE 802.15.4-2020 gives it (R232). -/
opaque Config.ofdmAirtime (mode rate m : Nat) : Nat

end Sys2Proof
end

