-- ==== Sys2Proof/Machine/Bytes.lean ====
section
/-! DEFINITION. Byte order (R8), bit fields (R5), the edge code (R15) and rounding: the helpers every record
and every command layout is written with. -/

namespace Sys2Proof.Machine

/-- `n` bytes of `v`, least significant first (R8). -/
def le : Nat → Nat → Bytes
  | 0, _ => []
  | n + 1, v => BitVec.ofNat 8 v :: le n (v / 256)

/-- `n` bytes of the signed number `v` in two's complement, least significant first. -/
def leI (n : Nat) (v : Int) : Bytes := le n (v % (2 ^ (8 * n) : Nat)).toNat

/-- `n` bytes of `v`, most significant first (fields of external standards, R8). -/
def be (n v : Nat) : Bytes := (le n v).reverse

/-- `n` bytes of the signed number `v`, most significant first. -/
def beI (n : Nat) (v : Int) : Bytes := (leI n v).reverse

/-- The number that bytes spell, least significant first. -/
def fromLE : Bytes → Nat
  | [] => 0
  | b :: t => b.toNat + 256 * fromLE t

/-- The number that bytes spell, most significant first. -/
def fromBE (b : Bytes) : Nat := fromLE b.reverse

/-- A number of `n` bytes read as two's complement. -/
def toSigned (n v : Nat) : Int := if v < 2 ^ (8 * n - 1) then (v : Int) else (v : Int) - (2 ^ (8 * n) : Nat)

/-- The `n` bytes at offset `off` (fewer at the end). -/
def slice (off n : Nat) (b : Bytes) : Bytes := (b.drop off).take n

/-- The unsigned field of `n` bytes at offset `off`; bytes beyond the end read as zero. -/
def getLE (off n : Nat) (b : Bytes) : Nat := fromLE (slice off n b)

/-- The signed field of `n` bytes at offset `off`. -/
def getI (off n : Nat) (b : Bytes) : Int := toSigned n (getLE off n b)

/-- The big-endian field of `n` bytes at offset `off`. -/
def getBE (off n : Nat) (b : Bytes) : Nat := fromBE (slice off n b)

/-- `b` cut or zero-padded to `n` bytes. -/
def padTo (n : Nat) (b : Bytes) : Bytes := (b ++ List.replicate (n - b.length) 0#8).take n

/-- `b` zero-padded to a multiple of `m` bytes. -/
def padMul (m : Nat) (b : Bytes) : Bytes := b ++ List.replicate ((m - b.length % m) % m) 0#8

/-- `n` zero bytes. -/
def zeros (n : Nat) : Bytes := List.replicate n 0#8

/-- Whether all `n` bytes at `off` are zero (reserved fields, R7). -/
def zeroAt (off n : Nat) (b : Bytes) : Bool := (slice off n b).all (· == 0#8)

/-- `b` with the bytes at `off` replaced by `v`. -/
def putAt (off : Nat) (v b : Bytes) : Bytes := b.take off ++ v ++ b.drop (off + v.length)

/-- Bits `[hi:lo]` of `v` (R5). -/
def bits (v hi lo : Nat) : Nat := (v / 2 ^ lo) % 2 ^ (hi + 1 - lo)

/-- Bit `i` of `v`. -/
def bit (v i : Nat) : Bool := v.testBit i

/-- One when the condition holds. -/
def b2n (b : Bool) : Nat := if b then 1 else 0

/-- `v` with bit `i` set to `b`. -/
def setBit (v i : Nat) (b : Bool) : Nat :=
  if v.testBit i then (if b then v else v - 2 ^ i) else (if b then v + 2 ^ i else v)

/-- How many of the lowest `n` bits of `v` are set. -/
def popcount : Nat → Nat → Nat
  | 0, _ => 0
  | n + 1, v => v % 2 + popcount n (v / 2)

/-- The quotient rounded up. -/
def cdiv (a b : Nat) : Nat := if b = 0 then 0 else (a + b - 1) / b

/-- The quotient rounded to nearest, halves up. -/
def rdiv (a b : Nat) : Nat := if b = 0 then 0 else (2 * a + b) / (2 * b)

/-- The signed quotient rounded to nearest, halves away from zero. -/
def rdivI (a : Int) (b : Nat) : Int :=
  if a < 0 then - (rdiv a.natAbs b : Int) else (rdiv a.natAbs b : Int)

/-- The signed quotient rounded toward minus infinity. -/
def fdivI (a : Int) (b : Nat) : Int := a.fdiv (b : Int)

/-- `v` limited to `lo … hi`. -/
def clampI (lo hi v : Int) : Int := if v < lo then lo else if hi < v then hi else v

/-- The whole square root of `n`, by Newton steps from above (`fuel` bounds them). -/
def isqrtGo : Nat → Nat → Nat → Nat
  | 0, _, x => x
  | fuel + 1, n, x =>
    let y := (x + n / x) / 2
    if y < x then isqrtGo fuel n y else x

/-- The whole square root of `n`, rounded down. -/
def isqrt (n : Nat) : Nat := if n = 0 then 0 else isqrtGo (n.log2 + 8) n (2 ^ (n.log2 / 2 + 1))

/-- One bit of the reflected CRC-32C shift (polynomial 0x1EDC_6F41, reflected 0x82F6_3B78, R15). -/
def crcBit (c : Nat) : Nat := if c % 2 = 1 then Nat.xor (c / 2) 0x82F63B78 else c / 2

/-- One byte of the CRC. -/
def crcByte (c : Nat) (b : Byte) : Nat :=
  crcBit (crcBit (crcBit (crcBit (crcBit (crcBit (crcBit (crcBit (Nat.xor c b.toNat))))))))

/-- The edge code of a record's bytes (R15). -/
def edgeCode (b : Bytes) : Nat := Nat.xor (b.foldl crcByte 0xFFFFFFFF) 0xFFFFFFFF

/-- `b` followed by its edge code, stored little-endian (R15). -/
def withEdge (b : Bytes) : Bytes := b ++ le 4 (edgeCode b)

/-- A gate message (R58). -/
def gateMsg (kind sq : Nat) (payload : Bytes) : Bytes :=
  withEdge (le 1 kind ++ le 1 1 ++ le 2 0 ++ le 4 (16 + payload.length) ++ le 4 sq ++ payload)

/-- Whether the last 4 bytes of `b` are the edge code of the bytes before them (R315). -/
def edgeOk (b : Bytes) : Bool :=
  decide (4 ≤ b.length) && (getLE (b.length - 4) 4 b == edgeCode (b.take (b.length - 4)))

/-- The bytes of an ASCII text. -/
def ascii (t : String) : Bytes := t.toList.map (fun c => BitVec.ofNat 8 c.toNat)

/-- A list cut into parts of `n` (`fuel` bounds them). -/
def chunksGo : Nat → Nat → Bytes → List Bytes
  | 0, _, _ => []
  | fuel + 1, n, b => if b.isEmpty then [] else b.take n :: chunksGo fuel n (b.drop n)

/-- `b` cut into parts of `n` bytes, the last one shorter. -/
def chunks (n : Nat) (b : Bytes) : List Bytes := chunksGo (b.length + 1) n b

end Sys2Proof.Machine
end

