-- ==== Sys2Proof/Machine/F32.lean ====
section
/-! DEFINITION. IEEE 754 binary32 with round-to-nearest-even (R122, R202): a value is its 32-bit pattern; every operation is
computed exactly and rounded once. -/

namespace Sys2Proof.Machine

/-- A binary32 pattern. -/
abbrev F32 := Nat

/-- The quiet NaN and the infinities. -/
def F32.nan : F32 := 0x7FC00000
def F32.inf (neg : Bool) : F32 := 0x7F800000 + (if neg then 0x80000000 else 0)
def F32.zero : F32 := 0

def F32.neg? (a : F32) : Bool := a.testBit 31
def F32.expo (a : F32) : Nat := a / 2 ^ 23 % 256
def F32.frac (a : F32) : Nat := a % 2 ^ 23
def F32.isNan (a : F32) : Bool := a.expo = 255 && a.frac ≠ 0
def F32.isInf (a : F32) : Bool := a.expo = 255 && a.frac = 0
def F32.isZero (a : F32) : Bool := a % 2 ^ 31 = 0

/-- Significand and exponent of a finite value: it is significand · 2^exponent. -/
def F32.sig (a : F32) : Nat := if a.expo = 0 then a.frac else a.frac + 2 ^ 23
def F32.exp2 (a : F32) : Int := if a.expo = 0 then -149 else (a.expo : Int) - 150

/-- Significand with its sign. -/
def F32.ssig (a : F32) : Int := if a.neg? then -(a.sig : Int) else (a.sig : Int)

/-- `m` divided by 2^k, rounded to nearest even. -/
def shiftRound (m k : Nat) : Nat :=
  let q := m / 2 ^ k
  let r := m % 2 ^ k
  if 2 * r > 2 ^ k ∨ (2 * r = 2 ^ k ∧ q % 2 = 1) then q + 1 else q

/-- The pattern of ±m·2^e, rounded to nearest even. A caller that has cut off a non-zero remainder has set the lowest bit of a
significand that is long enough. -/
def F32.pack (neg : Bool) (m : Nat) (e : Int) : F32 :=
  let s := if neg then 0x80000000 else 0
  if m = 0 then s
  else
    let top := (m.log2 : Int) + e
    let q : Int := max (top - 23) (-149)
    let r := if q ≤ e then m * 2 ^ (e - q).toNat else shiftRound m (q - e).toNat
    let bits := if r < 2 ^ 23 then r else (q + 150).toNat * 2 ^ 23 + (r - 2 ^ 23)
    if 0x7F800000 ≤ bits then s + 0x7F800000 else s + bits

/-- A signed integer times a power of two. -/
def F32.ofInt (v : Int) (e : Int := 0) : F32 := F32.pack (decide (v < 0)) v.natAbs e

def F32.add (a b : F32) : F32 :=
  if a.isNan ∨ b.isNan then F32.nan
  else if a.isInf then (if b.isInf ∧ a ≠ b then F32.nan else a)
  else if b.isInf then b
  else
    let e := min a.exp2 b.exp2
    let v := a.ssig * (2 ^ (a.exp2 - e).toNat : Nat) + b.ssig * (2 ^ (b.exp2 - e).toNat : Nat)
    if v = 0 then (if a.isZero ∧ b.isZero ∧ a.neg? ∧ b.neg? then 0x80000000 else 0)
    else F32.ofInt v e

def F32.neg (a : F32) : F32 := if a.isNan then a else if a.neg? then a - 0x80000000 else a + 0x80000000
def F32.sub (a b : F32) : F32 := F32.add a (F32.neg b)

def F32.mul (a b : F32) : F32 :=
  let s := a.neg? != b.neg?
  if a.isNan ∨ b.isNan then F32.nan
  else if a.isInf ∨ b.isInf then (if a.isZero ∨ b.isZero then F32.nan else F32.inf s)
  else F32.pack s (a.sig * b.sig) (a.exp2 + b.exp2)

def F32.div (a b : F32) : F32 :=
  let s := a.neg? != b.neg?
  if a.isNan ∨ b.isNan then F32.nan
  else if a.isInf then (if b.isInf then F32.nan else F32.inf s)
  else if b.isInf then (if s then 0x80000000 else 0)
  else if b.isZero then (if a.isZero then F32.nan else F32.inf s)
  else
    let n := a.sig * 2 ^ 60
    let q := n / b.sig
    let m := if n % b.sig = 0 then q * 2 else q * 2 + 1
    F32.pack s m (a.exp2 - b.exp2 - 61)

def F32.sqrt (a : F32) : F32 :=
  if a.isNan then F32.nan
  else if a.isZero then a
  else if a.neg? then F32.nan
  else if a.isInf then a
  else
    let odd := a.exp2 % 2 ≠ 0
    let m := a.sig * 2 ^ (if odd then 61 else 60)
    let e := (a.exp2 - (if odd then 61 else 60)) / 2
    let r := isqrt m
    F32.pack false (if r * r = m then r * 2 else r * 2 + 1) (e - 1)

def F32.abs (a : F32) : F32 := a % 2 ^ 31

/-- Ordered comparison; false where either is a NaN. -/
def F32.lt (a b : F32) : Bool :=
  if a.isNan ∨ b.isNan then false
  else
    let key := fun (x : F32) => if x.neg? then -((x % 2 ^ 31 : Nat) : Int) else (x : Int)
    decide (key a < key b)
def F32.le (a b : F32) : Bool := !a.isNan && !b.isNan && !F32.lt b a
def F32.eqv (a b : F32) : Bool := F32.le a b && F32.le b a
def F32.max (a b : F32) : F32 := if F32.lt a b then b else a
def F32.clamp (lo hi a : F32) : F32 := if F32.lt a lo then lo else if F32.lt hi a then hi else a

/-- A Q16.16 field, exactly (R123). -/
def F32.q16 (v : Int) : F32 := F32.ofInt v (-16)

/-- The value times 2^k rounded to nearest (halves to even), as an integer; 0 for a NaN or an infinity. -/
def F32.round (a : F32) (k : Nat) : Int :=
  if a.expo = 255 then 0
  else
    let e := a.exp2 + k
    let m := if 0 ≤ e then a.sig * 2 ^ e.toNat else shiftRound a.sig (-e).toNat
    if a.neg? then -(m : Int) else (m : Int)

/-- A sum in the order written (R122). -/
def F32.sum (l : List F32) : F32 := l.foldl F32.add 0

end Sys2Proof.Machine
end

