-- ==== Sys2Proof/Machine/Tab.lean ====
section
/-! DEFINITION. Finite maps as lists of key and value pairs with strictly rising keys: the one form in which
the model holds the spec's sparse collections (queues, endpoints, table entries, peers, records). -/

namespace Sys2Proof.Machine

/-- A finite map from natural-number keys. -/
abbrev Tab (α : Type) := List (Nat × α)

/-- The value at key `k`. -/
def Tab.get? {α : Type} : Tab α → Nat → Option α
  | [], _ => none
  | (j, v) :: t, k => if j = k then some v else Tab.get? t k

/-- The value at key `k`, or `d`. -/
def Tab.getD {α : Type} (t : Tab α) (k : Nat) (d : α) : α := (Tab.get? t k).getD d

/-- `t` with `v` at key `k`, keys kept in rising order. -/
def Tab.set {α : Type} : Tab α → Nat → α → Tab α
  | [], k, v => [(k, v)]
  | (j, w) :: t, k, v =>
    if k < j then (k, v) :: (j, w) :: t
    else if k = j then (k, v) :: t
    else (j, w) :: Tab.set t k v

/-- `t` without key `k`. -/
def Tab.erase {α : Type} : Tab α → Nat → Tab α
  | [], _ => []
  | (j, w) :: t, k => if j = k then t else (j, w) :: Tab.erase t k

/-- `t` with the value at `k` (or `d`) changed by `f`. -/
def Tab.upd {α : Type} (t : Tab α) (k : Nat) (d : α) (f : α → α) : Tab α :=
  Tab.set t k (f (Tab.getD t k d))

/-- `t` with the value at `k` changed by `f` when there is one. -/
def Tab.adj {α : Type} (t : Tab α) (k : Nat) (f : α → α) : Tab α :=
  match Tab.get? t k with
  | some v => Tab.set t k (f v)
  | none => t

/-- Whether key `k` is present. -/
def Tab.has {α : Type} (t : Tab α) (k : Nat) : Bool := (Tab.get? t k).isSome

/-- The values in key order. -/
def Tab.vals {α : Type} (t : Tab α) : List α := t.map (·.2)

/-- The keys in rising order. -/
def Tab.keys {α : Type} (t : Tab α) : List Nat := t.map (·.1)

/-- Every value changed by `f`. -/
def Tab.mapVals {α : Type} (f : Nat → α → α) (t : Tab α) : Tab α := t.map (fun p => (p.1, f p.1 p.2))

/-- The keys rise strictly. -/
def Tab.wf {α : Type} : Tab α → Bool
  | [] => true
  | [_] => true
  | (i, _) :: (j, w) :: t => decide (i < j) && Tab.wf ((j, w) :: t)

end Sys2Proof.Machine
end

