-- ==== Sys2Proof/Machine/StateBal.lean ====
section
/-! DEFINITION. State of the balance engine (R112 to R137). -/

namespace Sys2Proof.Machine
open Sys2Proof

/-- A member's cell as the engine keeps it (R14, R115): interval end, cumulative energies, mean voltage, flag bits from bit 22. -/
structure BalCell where
  fin : Nat
  imp : Nat
  exp : Nat
  volt : Nat
  flags : Nat
  deriving DecidableEq, Repr

/-- A feeder record (R94). -/
structure FeedRec where
  period : Nat
  flags : Nat
  imp : Nat
  exp : Nat
  volt : Nat
  amp : Nat
  deriving DecidableEq, Repr

/-- A closed interval (R115 to R120): status bits of R118, the columns' import and export shares by EIX. -/
structure BalInt where
  status : Nat := 0
  present : Nat := 0
  feederNet : Int := 0
  feederExport : Int := 0
  memberNet : Int := 0
  loss : Nat := 0
  shares : Tab (Int × Int) := []
  deriving DecidableEq, Repr

/-- What a solve works on, fixed at its safe point (R122, R124): residuals in mWh by interval end, columns with their import shares. -/
structure SolveIn where
  r : List Int
  cols : List (Nat × List Int)
  lam : Int
  tol : Int
  passes : Nat
  intercept : Bool
  deriving DecidableEq, Repr

/-- A published score (R125) without its edge code. -/
structure Score where
  eix : Nat
  flags : Nat
  theta : Nat
  intervals : Nat
  attributed : Nat
  solveNo : Nat
  deriving DecidableEq, Repr

/-- A member (R113, R114) with its phase identification (R128). -/
structure Member where
  feeder : Nat
  mask : Nat
  flags : Nat
  silent : Bool := false
  eligible : Bool := true
  lastOt : Nat := 0
  scores : F32 × F32 × F32 := (0, 0, 0)
  /-- The last day's decisive phase. -/
  result : Option Nat := none
  differ : Nat := 0
  ambiguous : Nat := 0
  ambiguousRaised : Bool := false
  mismatch : Bool := false
  deriving DecidableEq, Repr

structure BalNode where
  ints : Tab BalInt := []
  touched : List Nat := []
  due : List Nat := []
  want : Bool := false
  solving : Option SolveIn := none
  solveNo : Nat := 0
  passes : Nat := 0
  converged : Bool := false
  b : F32 := 0
  scores : List Score := []
  /-- Solves started, or found to have too few intervals (R124). -/
  starts : Nat := 0
  /-- Members with an open alarm in the last committed score set, until the first solve after the rebuild (R131). -/
  prior : List Nat := []
  ratio : Int := 0
  /-- NT day of the node's last event, by event. -/
  marks : Tab Nat := []
  lastDay : Nat := 0
  deriving DecidableEq, Repr

structure Bal where
  members : Tab Member := []
  staged : List (Nat × Nat × Nat × Nat) := []
  nodes : List BalNode := List.replicate 12 {}
  cells : Tab (Tab BalCell) := []
  recs : Tab (Tab FeedRec) := []
  nmRun : List Nat := [0, 0, 0, 0]
  nmRaised : List Bool := [false, false, false, false]
  /-- Open bypass alarms: the node whose solve opened a member's alarm (R126). -/
  alarms : Tab Nat := []
  /-- Members with SUDDEN_DROP and with REVERSE_FLOW; the NT day of a member's last event 84 (R129). -/
  drops : List Nat := []
  reverse : List Nat := []
  reverseDay : Tab Nat := []
  rebuilding : Bool := true
  discarded : Nat := 0
  /-- BAL_SOLVE_NOW commands under way: key, nodes that have not solved with the start that serves them (R136). -/
  commands : List (Nat × List (Nat × Nat)) := []
  nextCommand : Nat := 0
  deriving DecidableEq, Repr

end Sys2Proof.Machine
end

