-- ==== Sys2Proof/Machine/CfgTable.lean ====
section
/-! DEFINITION. The configuration objects and their fields with default, range and effect, in the order in which the
chapters list them (R462, R463), the sealed objects among them, and the fixed table of queues (R321). -/

namespace Sys2Proof.Machine

/-- Effect class of a field (R18, R463). -/
inductive Effect where
  | imm | safe | restart | readOnly
  deriving DecidableEq, Repr

/-- The effect code of a descriptor (R463). -/
def Effect.code : Effect → Nat
  | .imm => 0
  | .safe => 1
  | .restart => 2
  | .readOnly => 3

/-- One configuration field (R463). `typ` is 0 unsigned, 1 signed, 2 octet string, 3 Q16.16; `elems` are the
defaults of its elements; an octet string's value is the number its octets spell, first octet lowest. -/
structure Field where
  name : String
  typ : Nat
  size : Nat
  lo : Int
  hi : Int
  elems : List Int
  effect : Effect := .safe
  cross : Bool := false
  deriving DecidableEq, Repr

/-- Bytes of the smallest element that holds `lo … hi` (DESIGN CHOICE: the spec gives no element sizes, log 9). -/
def sizeFor (lo hi : Int) : Nat :=
  if lo < 0 then
    (if -128 ≤ lo ∧ hi < 128 then 1 else if -32768 ≤ lo ∧ hi < 32768 then 2
     else if -2147483648 ≤ lo ∧ hi < 2147483648 then 4 else 8)
  else if hi < 256 then 1 else if hi < 65536 then 2 else if hi < 4294967296 then 4 else 8

/-- A numeric SAFE field with one element. -/
def num (name : String) (d lo hi : Int) : Field :=
  { name := name, typ := if lo < 0 then 1 else 0, size := sizeFor lo hi, lo := lo, hi := hi, elems := [d] }

/-- A Q16.16 SAFE field. -/
def q16 (name : String) (d lo hi : Int) : Field :=
  { name := name, typ := 3, size := 4, lo := lo, hi := hi, elems := [d] }

/-- A numeric SAFE array. -/
def arr (name : String) (lo hi : Int) (ds : List Int) : Field :=
  { name := name, typ := if lo < 0 then 1 else 0, size := sizeFor lo hi, lo := lo, hi := hi, elems := ds }

/-- An octet string of `n` octets. -/
def oct (name : String) (n : Nat) (d : Bytes) : Field :=
  { name := name, typ := 2, size := n, lo := 0, hi := 0, elems := [(fromLE d : Int)] }

/-- The field takes effect at the next restart. -/
def Field.rst (f : Field) : Field := { f with effect := .restart }
/-- The field is computed and cannot be staged (R463). -/
def Field.ro (f : Field) : Field := { f with effect := .readOnly }
/-- The field's range also depends on other fields (R463 flag CROSS). -/
def Field.crs (f : Field) : Field := { f with cross := true }

/-- The octets 0-0:1.0.0.255 of the clock object. -/
def clockObis : Bytes := [0#8, 0#8, 1#8, 0#8, 0#8, 255#8]

/-- The default hopping list for `n` channels (R238) with step `k`. -/
def hopDefault (n k : Nat) : List Int := (List.range n).map (fun i => ((i * k % n : Nat) : Int))

/-- Channel classes of the recorder (R366): privileged or not. -/
def recPrivileged (ch : Nat) : Bool := [0, 1, 2, 3, 7, 11, 15].contains ch

/-- Default, lowest and highest roll_records of a recorder channel (R366). -/
def recRoll (ch : Nat) : Int × Int × Int :=
  if ch = 0 then (1048576, 65536, 4194304)
  else if recPrivileged ch then (262144, 16384, 1048576)
  else if ch = 5 ∨ ch = 6 then (524288, 4096, 2097152)
  else if 12 ≤ ch then (131072, 4096, 1048576)
  else (262144, 4096, 1048576)

/-- Records in the negative of a recorder channel (R366). -/
def recNegative (ch : Nat) : Nat := if ch = 0 then 65536 else if recPrivileged ch then 16384 else 4096

/-- One row of the queue table (R321): name, rank, max_pkt, min_cells, limit_cells. -/
structure QueueRow where
  rank : Nat
  maxPkt : Nat
  minCells : Nat
  limitCells : Nat
  lossy : Bool := false
  deriving DecidableEq, Repr

/-- The queues, their ranks and default sizes (R321); none for a queue number that is not assigned. -/
def queueRow (q : Nat) : Option QueueRow :=
  if q ≤ 3 then some { rank := 0, maxPkt := 21, minCells := 64, limitCells := 4096 }
  else if q ≤ 7 then some { rank := 0, maxPkt := 33, minCells := 64, limitCells := 4096 }
  else if q ≤ 10 then some { rank := 0, maxPkt := 25, minCells := 64, limitCells := 8192 }
  else if q = 11 then some { rank := 0, maxPkt := 4097, minCells := 4097, limitCells := 8194 }
  else if q = 16 then some { rank := 2, maxPkt := 33, minCells := 64, limitCells := 4096 }
  else if q = 17 then some { rank := 2, maxPkt := 4097, minCells := 4097, limitCells := 8194 }
  else if q = 18 then some { rank := 2, maxPkt := 1, minCells := 4, limitCells := 16 }
  else if 24 ≤ q ∧ q ≤ 27 then some { rank := 3, maxPkt := 21, minCells := 64, limitCells := 4096 }
  else if 28 ≤ q ∧ q ≤ 31 then some { rank := 3, maxPkt := 33, minCells := 64, limitCells := 4096 }
  else if 32 ≤ q ∧ q ≤ 34 then some { rank := 3, maxPkt := 25, minCells := 64, limitCells := 4096 }
  else if q = 40 then some { rank := 4, maxPkt := 1025, minCells := 1025, limitCells := 16384 }
  else if q = 48 then some { rank := 5, maxPkt := 54, minCells := 256, limitCells := 16384 }
  else if q = 56 then some { rank := 6, maxPkt := 2, minCells := 64, limitCells := 8192, lossy := true }
  else if q = 57 then some { rank := 6, maxPkt := 54, minCells := 64, limitCells := 8192, lossy := true }
  else if q = 58 then some { rank := 6, maxPkt := 5, minCells := 64, limitCells := 4096, lossy := true }
  else if q = 59 then some { rank := 6, maxPkt := 9, minCells := 16, limitCells := 256, lossy := true }
  else if q = 64 then some { rank := 7, maxPkt := 54, minCells := 256, limitCells := 32768 }
  else if q = 65 then some { rank := 7, maxPkt := 1025, minCells := 2050, limitCells := 16384 }
  else if q = 66 then some { rank := 7, maxPkt := 5, minCells := 64, limitCells := 8192 }
  else if q = 67 then some { rank := 7, maxPkt := 2, minCells := 64, limitCells := 2048 }
  else if q = 68 ∨ q = 69 then some { rank := 7, maxPkt := 1025, minCells := 1025, limitCells := 8192 }
  else if q = 70 then some { rank := 7, maxPkt := 1025, minCells := 1025, limitCells := 16384 }
  else if q = 71 then some { rank := 7, maxPkt := 1, minCells := 256, limitCells := 4096 }
  else if 128 ≤ q ∧ q ≤ 255 then some { rank := 3, maxPkt := 33, minCells := 0, limitCells := 0 }
  else none

/-- The assigned queue numbers in ascending order (R321). -/
def assignedQueues : List Nat :=
  List.range 12 ++ [16, 17, 18, 24, 25, 26, 27, 28, 29, 30, 31, 32, 33, 34, 40, 48, 56, 57, 58, 59,
    64, 65, 66, 67, 68, 69, 70, 71] ++ (List.range 128).map (· + 128)

/-- Fields of system-power (R435), host-setup (R457) and config-setup (R475). -/
def fieldsSystem (o : Nat) : Option (List Field) :=
  if o = 0x0000 then some [num "pfw_mv" 4500 2900 13500, num "pfw_source" 2 0 2, num "vbat_hold_mv" 2200 2000 3300,
    num "hold_max_s" 3600 0 86400, num "idle_enable" 1 0 1, num "idle_entry_us" 200 50 100000]
  else if o = 0x0010 then some [num "first_ms" 2000 100 60000, num "coalesce_us" 100 0 10000, num "headend_enable" 0 0 1]
  else if o = 0x0020 then some [num "prove_s" 600 60 86400, num "criteria" 63 0 63, num "rx_keep_pct" 50 0 100,
    num "gate_resets_max" 2 0 100]
  else none

/-- Fields of the sealed objects (R42, R71, R104, R163, R188, R189); the calibration objects of R103 and the endpoint
descriptors are records of their own. -/
def fieldsSealed (o : Nat) : Option (List Field) :=
  if o = 0x1100 then some [(num "skew_warn_s" 10 1 3600).crs, (num "skew_limit_s" 300 1 86400).crs,
    num "future_margin_s" 10 0 600, num "gap_limit" 1440 0 1440, (num "v_min_mv" 80000 0 1000000).crs,
    (num "v_max_mv" 300000 0 1000000).crs, num "batch_cells" 4096 64 4096, num "batch_age_s" 300 10 3600]
  else if o = 0x1101 then some [num "slew_budget_ms" 10000 0 60000, num "min_quality" 2 0 7, num "min_offer_gap_s" 60 10 3600]
  else if o = 0x1110 then some [num "period_s" 60 60 900, (num "nominal_hz" 50 50 60).rst,
    num "v_nominal_mv" 230000 50000 400000, num "no_voltage_pct" 20 5 80, num "zx_mask" 7 0 7, num "zx_edges" 0 0 1,
    num "split_threshold_ms" 2000 500 60000, num "neutral_limit_ma" 5000 100 1000000, num "vne_limit_mv" 20000 1000 100000]
  else if o = 0x3000 then some [num "step_limit_ms" 2000 500 60000, num "late_events" 1 0 1]
  else if o = 0x3001 then some [oct "client_title" 8 (zeros 8), num "max_credit" 10000000000 1 4611686018427387904,
    num "txn_max_life_s" 2592000 3600 31536000, num "state_emit_s" 3600 60 86400, num "checkpoint_s" 900 300 3600,
    num "die_rise_c" 12 0 40, (num "heat_on_c" 40 25 60).crs, (num "heat_off_c" 37 20 59).crs,
    num "restart_grace_s" 1800 0 86400, num "disc_rate" 60 1 1000]
  else if 0x3010 ≤ o ∧ o ≤ 0x301F then some [(num "low_warn" 10000000 0 1000000000000).crs,
    (num "critical_warn" 2000000 0 1000000000000).crs, num "warn_hyst" 100000 0 1000000000,
    num "emergency_amount" 5000000 0 1000000000000, num "emergency_auto" 1 0 1, num "reconnect_min" 0 0 1000000000000,
    num "friendly_start" 960 0 1439, num "friendly_end" 480 0 1439, num "friendly_weekdays" 64 0 127,
    num "friendly_special" 1 0 1, num "heat_suppress" 1 0 1, oct "dc_obis" 6 [0#8, 0#8, 96#8, 3#8, 10#8, 255#8]]
  else none

/-- Fields of the balance objects (R132 to R135). -/
def fieldsBalance (o : Nat) : Option (List Field) :=
  if o = 0x2000 then some [num "enable" 1 0 1, (num "interval_s" 900 900 3600).rst, num "window_days" 14 1 30,
    num "min_intervals" 192 4 2880, num "close_wait_s" 1800 300 7200, num "silent_s" 172800 3600 2592000,
    num "est_limit_pct" 5 0 100, q16 "lambda" 0x500 0 0x10000, q16 "tol" 1 1 0x1000, num "max_passes" 64 1 256,
    num "intercept_on" 1 0 1]
  else if o = 0x2001 then some [(q16 "theta_alarm" 0x199A 0 0x10000).crs, (q16 "theta_clear" 0xCCD 0 0x10000).crs,
    num "attributed_min_mwh" 1000000 0 1000000000000, num "unattributed_min_mwh" 5000000 0 1000000000000,
    q16 "resid_alarm" 0x147B 0 0x10000, num "nm_periods" 15 1 1440, num "reverse_min_mwh" 10 0 1000000,
    q16 "drop_ratio" 0x4CCD 0 0x10000, num "drop_min_mwh" 1000000 0 1000000000, q16 "match_ratio" 0x8000 0 0x10000]
  else if o = 0x2002 then some [(num "pid_window" 672 96 1344).crs, (num "pid_min_intervals" 96 48 1344).crs,
    q16 "plc_weight" 0x4CCD 0 0x10000, q16 "s_min" 0x999A 0 0x10000, q16 "margin" 0x2666 0 0x10000,
    num "confirm_days" 3 1 14, num "auto_reassign" 0 0 1]
  else if 0x2010 ≤ o ∧ o ≤ 0x201B then some [num "enabled" 1 0 1, num "fixed_loss_mw" 0 0 10000000,
    num "series_uohm" 0 0 100000000, q16 "k_ff" 0x10CCD 0x10000 0x20000, num "meter_self_mw" 1000 0 10000]
  else none

/-- Fields of the PLC objects (R224 to R226). -/
def fieldsPlc (o : Nat) : Option (List Field) :=
  if 0x4000 ≤ o ∧ o ≤ 0x4003 then
    let n : Int := ((o - 0x4000 : Nat) : Int)
    some [num "enable" 1 0 1, (num "band" 0 0 1).rst.crs, (num "pan_id" n 0 0xFFFD).rst.crs, (num "port_group" n 0 3).rst,
      num "phase_map" 0x39 0 0x3F, num "rx_phase_mask" 7 1 7, arr "tx_atten_db" 0 255 [0, 0, 0],
      (oct "tone_mask" 9 (List.replicate 4 255#8 ++ [15#8, 0#8, 0#8, 0#8, 0#8])).crs, num "max_mod" 3 0 3,
      num "coherent" 1 0 1, q16 "tx_single_min" 0x999A 0x5556 0x10000, num "tx_history_min" 4 1 16,
      num "imp_thresh_db" 15 6 30, num "max_erase_pct" 25 0 50, num "mac_max_retries" 5 0 10, num "drv_on_us" 40 5 200,
      num "drv_off_us" 10 2 100]
  else if o = 0x4010 then some [num "lc_base" 4 0 64, num "lc_mod" 4 0 32, num "lc_tone" 8 0 64, num "lc_snr" 1 0 16,
    num "snr_ref_db" 12 0 30, num "lc_loss" 16 0 64]
  else if o = 0x4011 then some [num "max_hops" 8 1 14, num "rreq_retries" 2 0 5, num "rreq_wait_ms" 30000 1000 120000,
    num "route_ttl_s" 21600 60 604800, num "rlc_enable" 1 0 1, num "unicast_rreq" 1 0 1, num "blacklist_ttl_s" 600 60 86400]
  else if o = 0x4012 then some [num "rep_enable" 1 0 1, num "rep_memory_s" 604800 3600 2592000, num "rep_max_cost" 64 1 255,
    num "rep_phase_penalty" 32 0 255, num "rep_attempts" 3 1 8, num "rep_wait_ms" 4000 500 30000,
    num "rep_route_s" 3600 60 86400]
  else if o = 0x4013 then some [num "time_enable" 1 0 1, num "time_period_s" 86400 3600 604800, num "time_min_quality" 2 0 7,
    oct "clock_obis" 6 clockObis]
  else none

/-- Fields of the radio objects (R234, R241, R254 to R256). `0xFF` in hop_list and `0xFFFF` in the ranges stand for
"none" (DESIGN CHOICE, log 9). -/
def fieldsRf (o : Nat) : Option (List Field) :=
  if 0x5000 ≤ o ∧ o ≤ 0x5003 then
    let n : Int := ((o - 0x5000 : Nat) : Int)
    some [num "enable" 1 0 1, (num "pan_id" (0x100 + n) 0 0xFFFD).rst.crs, (num "phy_mode" 0 0 255).rst,
      num "reg_profile" 0 0 7, (num "tx_power_dbm" 14 (-10) 16).crs, (num "ext_pa" 0 0 1).rst.crs,
      (num "ext_pa_gain_db" 0 0 30).crs, (num "antenna_gain_db" 0 (-10) 15).crs, (num "pa_on_us" 5 1 100).crs,
      num "pa_off_us" 2 1 50, (num "preamble_octets" 8 4 32).rst.crs, (num "max_psdu" 255 127 2047).rst.crs,
      num "mac_max_retries" 4 0 7, (arr "hop_list" 0 255 (hopDefault 16 3 ++ List.replicate 48 255)).rst.crs]
  else if 0x5010 ≤ o ∧ o ≤ 0x5013 then
    some [(arr "sf_len" 0 65535 [100, 0, 1600, 0]).rst.crs, (arr "own_1" 0 65535 [65535, 65535]).rst.crs,
      (arr "own_2" 0 65535 [0, 39]).rst.crs, (arr "own_3" 0 65535 [65535, 65535]).rst.crs,
      (num "eb_offset" 70 0 999).rst.crs, num "eb_every" 1 1 16, (num "rescue_offset" 50 1 998).rst.crs]
  else if o = 0x5020 then
    some [(num "g0_us" 1100 500 2000).rst.crs, (num "dev_ppm" 6 2 20).crs, num "ep_ppm_default" 10 1 100,
      (num "realign_ppm" 5 1 10).crs, (num "wal_us" 20000 4000 30000).crs, num "wal_slotframes" 8 1 8,
      num "time_enable" 1 0 1, num "time_period_s" 86400 3600 604800, num "time_min_quality" 2 0 7,
      oct "clock_obis" 6 clockObis]
  else if 0x5030 ≤ o ∧ o ≤ 0x5033 then
    some [(num "TsCCAOffset" 3784 0 20000).ro, (num "TsCCA" 1024 0 20000).ro, (num "TsRxTx" 192 100 1000).rst.crs,
      (num "TsTxOffset" 5000 5000 20000).rst.crs, (num "TsRxWait" 2200 0 4000).ro, (num "TsRxOffset" 3900 0 20000).ro,
      (num "TsRxAckDelay" 800 200 5000).rst.crs, (num "TsTxAckDelay" 1000 300 5000).rst.crs, (num "TsAckWait" 400 200 4000).rst,
      (num "TsMaxAck" 6720 1000 20000).rst.crs, (num "TsMaxTx" 42720 1000 400000).rst.crs,
      (num "TsTimeslotLength" 60000 10000 500000).rst.crs]
  else if 0x5040 ≤ o ∧ o ≤ 0x5047 then
    some [(num "chan0_khz" 920600 470000 960000).crs, (num "spacing_khz" 200 200 2000).crs, (num "num_channels" 16 1 64).crs,
      (num "max_eirp_dbm" 14 (-10) 30).crs, num "lbt_enable" 1 0 1, num "lbt_threshold_dbm" (-80) (-100) (-60),
      (num "sensing_us" 1024 128 20000).crs, num "max_tx_ms" 50 1 4000, num "duty_cpct" 1000 1 10000,
      num "ack_reserve_pct" 10 0 50]
  else none

/-- Fields of the time objects (R276, R277). -/
def fieldsTime (o : Nat) : Option (List Field) :=
  if o = 0x6000 then some [(arr "source_order" 0 2 [0, 1, 2]), num "lock_s" 60 10 3600, num "step_ns" 1000000 10000 10000000000,
    (num "max_slew_ppb" 500 50 5000).crs, num "holdover_s" 7200 60 604800, num "holdover_ppb" 50 1 1000,
    num "host_hold_s" 3600 60 86400, num "host_lat_us" 10 0 1000, num "utc_offset_s" (-37) (-32768) 32767,
    num "offer_period_s" 3600 60 86400, num "offer_threshold_ms" 100 1 60000]
  else if o = 0x6010 ∨ o = 0x6011 then some [(num "enable" (if o = 0x6010 then 1 else 0) 0 1).crs, (num "role" 0 0 1).crs,
    (num "transport" 0 0 2).rst, num "domain" 0 0 127, num "one_step" 0 0 1, num "log_sync_interval" 0 (-4) 4,
    num "log_delay_req_interval" 0 (-4) 5, num "log_announce_interval" 1 0 4, num "announce_timeout" 3 2 10,
    num "priority1" 128 0 255, num "priority2" 128 0 255, num "rx_lat_ns" 0 (-10000) 10000, num "tx_lat_ns" 0 (-10000) 10000]
  else none

/-- Fields of the table objects (R309, R287); prefix-layout holds the lengths and the bank masks of the 32 slots. -/
def fieldsTable (o : Nat) : Option (List Field) :=
  if o = 0x7000 then some [num "aging_enable" 1 0 1, num "age_pass_s" 43200 600 604800, num "learn_hold_ms" 200 20 5000,
    num "learn_margin" 16 0 255, num "notice_ttl_s" 3600 60 86400, num "rf_rssi_ref_dbm" (-40) (-100) 0,
    num "proof_period_s" 60 10 3600, num "proof_repair" 1 0 1]
  else if o = 0x7002 then some [(arr "length" 0 255 ([128, 64, 56, 48, 0] ++ List.replicate 27 255)).rst.crs,
    (arr "bank_mask" 0 65535 ([0x000F, 0x0FF0, 0x1000, 0x2000, 0x4000] ++ List.replicate 27 0)).rst.crs]
  else none

/-- Fields of queue-setup and queue-0 to queue-511 (R329, R330). -/
def fieldsQueue (o : Nat) : Option (List Field) :=
  if o = 0x8000 then some [(arr "floor" 0 131072 [16384, 12288, 12288, 8192, 8192, 4096, 4096, 0]).crs,
    num "open_max_us" 10000 1000 1000000, num "head_max_ms" 2000 100 60000, num "wait_warn_ms" 1000 10 60000,
    num "quarantine_cells" 4096 0 16384]
  else if 0x8100 ≤ o ∧ o ≤ 0x82FF then
    let q := o - 0x8100
    let r := (queueRow q).getD { rank := 0, maxPkt := 0, minCells := 0, limitCells := 0 }
    let two : List Field := [(num "min_cells" r.minCells 0 131072).crs, (num "limit_cells" r.limitCells 0 131072).crs]
    some (if 128 ≤ q ∧ q ≤ 255 then two ++ [(num "egress" 255 0 255).crs] else two)
  else none

/-- Fields of the storage and recorder objects (R362, R363, R374). -/
def fieldsStore (o : Nat) : Option (List Field) :=
  if o = 0x9000 then some [num "flush_us" 1000 100 20000, num "open_targets" 12 4 16, (num "dev_start" 16 2 27).crs,
    (num "dev_stop" 8 1 26).crs, (num "gc_start" 24 2 64).crs, (num "gc_stop" 32 2 96).crs, (num "full_sb" 8 3 32).crs,
    (num "reserve_sb" 4 2 16).crs, num "verify_pct" 50 25 90, num "retry_refresh" 4 1 15, num "off_assumed_c" 70 25 105,
    num "die_timeout_ms" 50 10 500, num "map_ckpt_s" 60 10 600, (num "mirror_mib" 256 16 512).rst,
    num "vol_max_mib" 8192 0 32768]
  else if o = 0x9001 then some [num "reading_days" 35 31 400, num "journal_days" 1 1 35, num "sealed_ckpt_days" 2 1 35,
    num "sealed_metro_days" 400 31 3650, num "tamper_days" 3650 400 3650, num "ledger_days" 100 35 3650,
    num "metro_days" 400 35 3650, num "balance_days" 35 31 400, num "quarantine_days" 90 7 400]
  else if o = 0xA000 then some [num "anchor_period_s" 3600 60 86400, num "exposure_ttl_s" 300 10 3600]
  else if 0xA010 ≤ o ∧ o ≤ 0xA01F then
    let ch := o - 0xA010
    let r := recRoll ch
    some [num "roll_records" r.1 r.2.1 r.2.2, num "roll_days" (if recPrivileged ch then 400 else 90) 7 3650,
      num "bucket_depth" (if recPrivileged ch then 0 else 16) 0 (if ch = 0 then 0 else 255), num "bucket_refill_ms" 1000 10 60000]
  else none

/-- Fields of the security, distribution, panel, tier and fog objects (R398, R414, R491, R511, R518). -/
def fieldsRest (o : Nat) : Option (List Field) :=
  if o = 0xB000 then some [num "fw_confirm_s" 600 60 86400, num "fw_max_trials" 3 1 8, num "upload_eth" 0 0 1,
    oct "head-end_addr" 16 (zeros 16), num "udp_port" 20600 1024 65535, num "upload_window" 4 1 16,
    num "upload_ack_ms" 2000 200 60000, num "upload_retries" 5 0 20]
  else if o = 0xC000 then some [num "dist_udp_port" 61617 1024 65535, num "mc_gap_plc_ms" 400 100 10000,
    num "mc_gap_rf_ms" 200 20 10000, num "repair_margin" 2 0 16, num "max_rounds" 3 0 8, num "unicast_window" 16 1 64,
    num "block_retries" 3 0 10, num "verify_poll_s" 30 5 600, num "verify_timeout_s" 1800 60 86400, num "act_rate" 60 1 1000,
    num "late_activate" 1 0 1]
  else if o = 0xD000 then some [num "enable" 0 0 1, (num "width" 1024 64 1024).rst.crs, (num "height" 768 64 768).rst.crs,
    (num "h_blank" 48 8 64).rst.crs, num "temp_source" 0 0 1, num "pmic_addr" 0x48 0x08 0x77, num "pmic_temp_reg" 0 0 255,
    num "pkg_offset_c" 10 0 40, num "temp_period_s" 60 5 600, num "pmic_wake_ms" 5 1 50, num "pwr_timeout_ms" 50 5 500,
    num "vcom_settle_us" 500 100 10000, num "rail_hold_ms" 2000 0 60000, num "dc_limit" 100 16 127]
  else if o = 0xE000 then some [(num "tier_id" 0 0 0xFFFFFFFF).rst, (num "member" 1 1 15).rst, (num "tier_eth" 1 0 1).rst.crs,
    (oct "tier_mac" 6 [0x03#8, 0x53#8, 0x4C#8, 0x54#8, 0x00#8, 0x01#8]).rst, num "relay_window" 4 1 16, num "buffer_warn_days" 25 1 30]
  else if o = 0xF000 then some [num "credit_delay_us" 0 0 10000, num "credit_queue" 0xFFFF 0 0xFFFF, num "bp_queue" 0xFFFF 0 0xFFFF,
    num "bp_permille" 0 0 1000, num "mismatch_ppm" 0 0 1000, num "plc_impulse_mask" 0 0 15, num "plc_impulse_per_s" 0 0 100,
    num "plc_impulse_db" 20 6 40, num "lbt_busy_mask" 0 0 15, num "lbt_busy_pct" 0 0 100]
  else none

/-- The fields of a configuration object, or none for an object that no chapter defines (R462). -/
def objectFields (o : Nat) : Option (List Field) :=
  match o / 4096 with
  | 0 => fieldsSystem o
  | 1 => fieldsSealed o
  | 2 => fieldsBalance o
  | 3 => fieldsSealed o
  | 4 => fieldsPlc o
  | 5 => fieldsRf o
  | 6 => fieldsTime o
  | 7 => fieldsTable o
  | 8 => fieldsQueue o
  | 9 => fieldsStore o
  | 10 => fieldsStore o
  | _ => fieldsRest o

/-- Open configuration objects in ascending ID (R465, R468). -/
def openObjects : List Nat :=
  [0x0000, 0x0010, 0x0020, 0x2000, 0x2001, 0x2002] ++ (List.range 12).map (· + 0x2010) ++ (List.range 4).map (· + 0x4000) ++
  [0x4010, 0x4011, 0x4012, 0x4013] ++ (List.range 4).map (· + 0x5000) ++ (List.range 4).map (· + 0x5010) ++ [0x5020] ++
  (List.range 4).map (· + 0x5030) ++ (List.range 8).map (· + 0x5040) ++ [0x6000, 0x6010, 0x6011, 0x7000, 0x7002, 0x8000] ++
  (List.range 512).map (· + 0x8100) ++ [0x9000, 0x9001, 0xA000] ++ (List.range 16).map (· + 0xA010) ++
  [0xB000, 0xC000, 0xD000, 0xE000, 0xF000]

/-- Sealed objects with field tables, in ascending ID (R472). -/
def sealedObjects : List Nat := [0x1100, 0x1101, 0x1110, 0x3000, 0x3001] ++ (List.range 16).map (· + 0x3010)

/-- Object of owner nibble 0x1 or 0x3 (R17, R471, R472). -/
def isSealedObject (o : Nat) : Bool := o / 4096 = 1 || o / 4096 = 3

/-- The descriptor of field `f` of object `o`. -/
def fieldOf (o f : Nat) : Option Field := (objectFields o).bind (fun l => l[f]?)

/-- The factory default of an element (R476). -/
def cfgDefault (o f e : Nat) : Int := ((fieldOf o f).bind (fun d => d.elems[e]?)).getD 0

/-- The key under which an image holds an element. -/
def cfgKey (o f e : Nat) : Nat := o * 65536 + f * 256 + e

/-- The value stored for an element in an image that lists what differs from the factory defaults (R465). -/
def cfgStored (im : Tab Int) (o f e : Nat) : Int := (im.get? (cfgKey o f e)).getD (cfgDefault o f e)

/-- The computed fields of the timeslot template of a radio (R241, R463). -/
def templateComputed (im : Tab Int) (n f : Nat) : Option Int :=
  let ts := fun (k : Nat) => cfgStored im (0x5030 + n) k 0
  let sensing := cfgStored im (0x5040 + (cfgStored im (0x5000 + n) 3 0).toNat) 6 0
  let g0 := cfgStored im 0x5020 0 0
  if f = 0 then some (ts 3 - ts 2 - sensing)
  else if f = 1 then some sensing
  else if f = 4 then some (2 * g0)
  else if f = 5 then some (ts 3 - g0)
  else none

/-- The value of an element in an image: stored, or computed from other fields. -/
def cfgValue (im : Tab Int) (o f e : Nat) : Int :=
  if 0x5030 ≤ o ∧ o ≤ 0x5033 then (templateComputed im (o - 0x5030) f).getD (cfgStored im o f e) else cfgStored im o f e

/-- An image with an element set; a default is not listed. -/
def cfgSet (im : Tab Int) (o f e : Nat) (v : Int) : Tab Int :=
  if v = cfgDefault o f e then im.erase (cfgKey o f e) else im.set (cfgKey o f e) v

/-- The bytes of one element in its element size (R464, R465). -/
def elemBytes (d : Field) (v : Int) : Bytes := leI d.size v

/-- The value bytes of every element of a field in an image. -/
def fieldBytes (im : Tab Int) (o f : Nat) (d : Field) : Bytes :=
  ((List.range d.elems.length).map (fun e => elemBytes d (cfgValue im o f e))).flatten

/-- Every field of an object with its number. -/
def numbered (o : Nat) : List (Nat × Field) := ((objectFields o).getD []).zipIdx.map (fun p => (p.2, p.1))

/-- One field record (R464) with all elements. -/
def fieldRecord (im : Tab Int) (o f : Nat) (d : Field) : Bytes :=
  le 2 o ++ le 1 f ++ le 1 0 ++ le 2 d.elems.length ++ le 2 0 ++ padMul 4 (fieldBytes im o f d)

/-- The descriptor of a field (R463). -/
def descriptorBytes (f : Nat) (d : Field) : Bytes :=
  le 1 f ++ le 1 d.typ ++ le 1 d.size ++ le 1 d.elems.length ++ le 1 d.effect.code ++ le 1 (b2n d.cross) ++ le 2 0 ++
  leI 8 d.lo ++ leI 8 d.hi ++ leI 8 (if d.typ = 2 then 0 else d.elems.headD 0) ++ padTo 16 (ascii d.name)

/-- Whether field records (R464) touch an object of owner nibble 0xF (`fuel` bounds the records). -/
def recordsTouchFog : Nat → Bytes → Bool
  | 0, _ => false
  | fuel + 1, b =>
    if b.length < 8 then false
    else if getLE 0 2 b / 4096 = 15 then true
    else
      let d := fieldOf (getLE 0 2 b) (getLE 2 1 b)
      let n := getLE 4 2 b * (d.map (·.size)).getD 4
      recordsTouchFog fuel (b.drop (8 + (n + 3) / 4 * 4))

/-- Whether the records of a CFG_STAGE request touch an object of owner nibble 0xF (R458, R471). -/
def cfgRecordsTouchFog (b : Bytes) : Bool := recordsTouchFog b.length b

end Sys2Proof.Machine
end

