-- ==== Sys2Proof/Machine/StateBase.lean ====
section
/-! DEFINITION. State of the always-on island and power controller (R417 to R437), the host interface (R438 to R461),
the queue fabric (R313 to R332), the recorder (R366 to R378), the configuration (R462 to R478) and the fog registers
(R514 to R523). A field's default is its value in State.reset; INVENTORY.md says which of them the spec states. -/

namespace Sys2Proof.Machine

/-- Power states (R425); `starting` is the start sequence between reset release and event 1. -/
inductive PowerState where
  | unpowered | off | hold | starting | run | idle
  deriving DecidableEq, Repr

/-- How far the start sequence has come (R433). -/
inductive StartStage where
  | resetHeld | booted | running
  deriving DecidableEq, Repr

/-- Whether the always-on record of a transition to HOLD or OFF waits for event 8 (R426). -/
structure Transition where
  old : Nat
  new : Nat
  ot : Nat
  deriving DecidableEq, Repr

/-- What follows the hold-up order (R424, R426, R431, R432). -/
inductive AfterHoldup where
  | byVbat | toOff | restart (cause : Nat)
  deriving DecidableEq, Repr

structure Power where
  state : PowerState := .starting
  stage : StartStage := .resetHeld
  vinMv : Nat := 12000
  vbatMv : Nat := 3000
  vioHMv : Nat := 3000
  vioPMv : Nat := 3000
  vioHUp : Bool := true
  vioPUp : Bool := true
  vbatState : Nat := 0
  pfw : Bool := false
  pfwSource : Nat := 0
  stateBefore : Nat := 0
  holdup : Option Nat := none
  holdupLast : Nat := 0
  holdupDone : Bool := false
  holdupTimings : List Nat := []
  holdupStarted : Bool := false
  after : AfterHoldup := .byVbat
  vinRecovered : Bool := false
  vinEndMv : Nat := 0
  cause : Nat := 1
  lossKind : Nat := 1
  transitions : List Transition := []
  ot : Nat := 0
  pcc : Nat := 0
  coreMhz : Nat := 1200
  fabMhz : Nat := 500
  thermalLevel : Nat := 0
  thermalShutdown : Bool := false
  packageCentiC : Int := 2500
  tcxoPresent : Bool := true
  tcxoPpm : Int := 0
  tcxoDeviating : Bool := false
  aonCrystal : Bool := true
  tampLevel : List Bool := [true, true, true, true, true, true]
  tampLatch : List (Option Nat) := [none, none, none, none, none, none]
  pfailN : Bool := true
  perstN : Bool := true
  aonNt : Option Nat := none
  lostInHoldup : Tab (Nat × Nat) := []
  pendingRollback : Option Nat := none
  /-- Idle periods of the last 60 s: OT at their end, ms. -/
  idleLog : List (Nat × Nat) := []
  /-- OT at which HOLD was entered. -/
  holdSince : Nat := 0
  /-- Events of a reset, raised after event 0 of the next start. -/
  owed : List (Nat × Bytes) := []
  lockstepMismatches : Nat := 0
  deriving DecidableEq, Repr

/-- The straps sampled at reset release (R438, R443, R538). -/
structure Straps where
  hif : Bool := false
  tier : Nat := 0
  pinHif : Bool := false
  pinTier : Nat := 0
  deriving DecidableEq, Repr

/-- A command that has been taken and has no FINAL completion yet (R452). -/
structure Inflight where
  headend : Bool
  opcode : Nat
  tag : Nat
  first : Bool := false
  ended : Bool := false
  /-- The command has ORDERED set (R451). -/
  ordered : Bool := false
  deriving DecidableEq, Repr

/-- What ends an ACCEPTED command (R451), with the work's key. -/
structure Deferred where
  kind : Nat
  key : Nat
  headend : Bool
  opcode : Nat
  tag : Nat
  deriving DecidableEq, Repr

/-- Counters that MBX_STATUS reports (R460). -/
structure HostCounters where
  taken : Nat := 0
  noCredit : Nat := 0
  edgeFail : Nat := 0
  timeouts : Nat := 0
  ringErrors : Nat := 0
  lateDiscarded : Nat := 0
  ntfWritten : Nat := 0
  ntfLost : Nat := 0
  headDenied : Nat := 0
  headDiscarded : Nat := 0
  deriving DecidableEq, Repr

structure HostIf where
  mbxCtrl : BitVec 32 := 0
  phase : Nat := 0
  mbxErr : BitVec 32 := 0
  crBaseLo : BitVec 32 := 0
  crBaseHi : BitVec 32 := 0
  crSize : BitVec 32 := 6
  crTail : BitVec 32 := 0
  crHead : BitVec 32 := 0
  cprBaseLo : BitVec 32 := 0
  cprBaseHi : BitVec 32 := 0
  cprSize : BitVec 32 := 6
  cprHead : BitVec 32 := 0
  cprTail : BitVec 32 := 0
  cprPhase : Bool := true
  ntfCtrl : BitVec 32 := 0
  ntfBaseLo : BitVec 32 := 0
  ntfBaseHi : BitVec 32 := 0
  ntfSize : BitVec 32 := 6
  ntfHead : BitVec 32 := 0
  ntfTail : BitVec 32 := 0
  ntfLost : BitVec 32 := 0
  ntfMask : List (BitVec 32) := List.replicate 8 0xFFFFFFFF#32
  ntfVec : List (BitVec 32) :=
    List.replicate 2 0x11111111#32 ++ List.replicate 2 0x22222222#32 ++ List.replicate 2 0x33333333#32 ++
    List.replicate 2 0x44444444#32 ++ List.replicate 2 0x55555555#32 ++ List.replicate 2 0x66666666#32 ++
    List.replicate 4 0x77777777#32 ++ List.replicate 2 0x88888888#32 ++ List.replicate 2 0x99999999#32 ++
    List.replicate 4 0xAAAAAAAA#32 ++ List.replicate 2 0xBBBBBBBB#32 ++ List.replicate 2 0xCCCCCCCC#32 ++
    List.replicate 2 0xDDDDDDDD#32 ++ List.replicate 2 0xEEEEEEEE#32
  ntfPhase : Bool := true
  ntfOwed : Nat := 0
  queSel : BitVec 32 := 0
  ringMem : List Host.Cell := []
  qspiErr : Bool := false
  linkUp : Bool := false
  linkRate : Nat := 0
  linkWidth : Nat := 0
  lastRead : BitVec 32 := 0
  inflight : List Inflight := []
  deferred : List Deferred := []
  counters : HostCounters := {}
  creditRefused : Nat := 0
  headDeniedSince : Nat := 0
  vecPending : List Nat := []
  vecCooling : List Nat := []
  vecSent : Tab Nat := []
  irqStamp : Nat × Nat := (0, 0)
  complStamp : Nat × Nat := (0, 0)
  /-- Completion frames that wait to leave on channel HEADEND (R397, R458). -/
  headOut : List Bytes := []
  headIn : List Bytes := []
  timedOut : List (Bool × Nat × Nat) := []
  msix : Tab Nat := []
  msixPending : List Nat := []
  doorbellStamp : Nat × Nat := (0, 0)
  /-- Stamp of each frame in HOST_IN, by packet sequence, and of the command that runs (R260). -/
  passStamps : Tab (Nat × Nat) := []
  cmdStamp : Nat × Nat := (0, 0)
  headPartial : Bytes := []
  deriving DecidableEq, Repr

/-- A closed packet of the fabric (R313, R314). -/
structure Packet where
  producer : Nat
  seq : Nat
  cells : Nat
  payload : Bytes
  quarantined : Bool := false
  eccBad : Bool := false
  deriving DecidableEq, Repr

/-- An open packet: the reservation of an OPEN that has been granted and not closed (R316). -/
structure OpenPacket where
  queue : Nat
  producer : Nat
  cells : Nat
  deriving DecidableEq, Repr

/-- One queue: closed packets in the order in which they closed, the next packet sequence, copies skipped since the
last notice (R314, R319, R320). -/
structure Queue where
  pkts : List Packet := []
  nextSeq : Nat := 0
  skipped : Nat := 0
  copiesSkipped : Nat := 0
  limitRefusals : Nat := 0
  headReleased : Nat := 0
  refused : Nat := 0
  deriving DecidableEq, Repr

/-- An OPEN request that waits (R317), with the payload that its producer will close it with when it has one. -/
structure Waiter where
  queue : Nat
  producer : Nat
  cells : Nat
  payload : Option Bytes
  deriving DecidableEq, Repr

/-- A notice (R319) sent to a consumer. -/
structure Notice where
  queue : Nat
  cells : Nat
  length : Nat
  seq : Nat
  producer : Nat
  skipped : Nat
  deriving DecidableEq, Repr

structure Fabric where
  queues : Tab Queue := []
  opened : List OpenPacket := []
  waiters : List Waiter := []
  quarantine : List (Nat × Packet) := []
  lastNotice : Tab Notice := []
  eventOt : Tab Nat := []
  eccCorrected : Nat := 0
  notReceived : Tab Nat := []
  bpCount : Nat := 0
  hostPackets : List Nat := []
  deriving DecidableEq, Repr

/-- One recorder channel (R366 to R375). -/
structure Channel where
  next : Nat := 0
  high : Option Nat := none
  negClosed : Bool := false
  lost : Nat := 0
  lostFirst : Option Nat := none
  lostRun : Nat := 0
  suppressed : Nat := 0
  deriving DecidableEq, Repr

/-- The token bucket of one event source (R370): the tokens taken from it and the suppressed count. -/
structure Bucket where
  spent : Nat := 0
  suppressed : Nat := 0
  deriving DecidableEq, Repr

/-- An open exposure (R376). -/
structure Exposure where
  handle : Nat
  channel : Nat
  low : Nat
  /-- One past the last committed sequence at the open. -/
  stop : Nat
  /-- OT of the last command on the handle. -/
  lastOt : Nat
  deriving DecidableEq, Repr

structure Rec where
  channels : Tab Channel := []
  buckets : Tab Bucket := []
  exposures : List Exposure := []
  nextHandle : Nat := 1
  lastAnchorOt : Nat := 0
  anchorsDue : List Nat := []
  resends : Nat := 0
  sealedLast : Option Nat := none
  deriving DecidableEq, Repr

/-- A configuration generation's image (R465): the elements that differ from the factory defaults. -/
structure Generation where
  number : Nat := 0
  base : Nat := 0
  origin : Nat := 4
  values : Tab Int := []
  deriving DecidableEq, Repr

/-- An open staging (R467). -/
structure Staging where
  base : Nat
  values : Tab Int
  deriving DecidableEq, Repr

/-- State of the generation in force (R473, R478). -/
inductive GenState where
  | proven | proving | pendingRestart
  deriving DecidableEq, Repr

structure Cfg where
  force : Generation := {}
  prior : Option Generation := none
  running : Tab Int := []
  adopting : List Nat := []
  staging : Option Staging := none
  highest : Nat := 0
  genState : GenState := .proven
  remaining : Nat := 0
  paused : Bool := false
  failed : Nat := 0
  rxBefore : List Nat := List.replicate 8 0
  rxPeriod : List Nat := List.replicate 8 0
  rxHist : Tab (List Nat) := []
  levelAtDone : Nat := 0
  gateResets : Nat := 0
  restartDue : Bool := false
  deriving DecidableEq, Repr

/-- A test unlock in force (R514, R515). -/
structure Unlock where
  classes : Nat
  duration : Nat
  since : Nat
  version : Nat
  deriving DecidableEq, Repr

structure Fog where
  unlock : Option Unlock := none
  endedByRestart : Option Nat := none
  programFails : List Nat := List.replicate 8 0
  eraseFails : List Nat := List.replicate 8 0
  clockStepMs : Option Int := none
  lookups : Nat := 0
  sensings : Tab Nat := []
  frozen : Bool := false
  deriving DecidableEq, Repr

end Sys2Proof.Machine
end

