-- ==== Sys2Proof/Machine/StateDist.lean ====
section
/-! DEFINITION. State of the distribution engine (R401 to R413). -/

namespace Sys2Proof.Machine
open Sys2Proof

/-- States of a member (R410) with their codes (log 10). -/
inductive DistState where
  | pending | prepare | feed | topup | verify | ready | activate | done | failed | cancelled
  deriving DecidableEq, Repr

def DistState.code : DistState → Nat
  | .pending => 0
  | .prepare => 1
  | .feed => 2
  | .topup => 3
  | .verify => 4
  | .ready => 5
  | .activate => 6
  | .done => 7
  | .failed => 8
  | .cancelled => 9

/-- The request of a member that is in flight (R410, R413). -/
inductive DistReq where
  | attributes25 | initiate | attribute3 | attribute4 | block (i : Nat) | verify | attribute6 | attribute7 | activate
  | setAttr (i : Nat) | getAttr (i : Nat) | activatePassive
  deriving DecidableEq, Repr

/-- A state from its code. -/
def DistState.ofCode (c : Nat) : DistState :=
  ([.pending, .prepare, .feed, .topup, .verify, .ready, .activate, .done, .failed] : List DistState).getD c .cancelled

structure DistMember where
  mode : Nat
  state : DistState := .pending
  cause : Nat := 0
  /-- Attempts of the request in flight; 0 while a meter order goes first. -/
  attempts : Nat := 0
  request : Option DistReq := none
  blockSize : Nat := 128
  /-- Missing blocks by the last attribute 3. -/
  missing : List Nat := []
  todo : List Nat := []
  queried : Bool := false
  noRounds : Bool := false
  /-- OT at which VERIFY or ACTIVATE began. -/
  since : Nat := 0
  late : Bool := false
  /-- The member has been activated, at `since` (R411). -/
  activated : Bool := false
  retries : Nat := 0
  deriving DecidableEq, Repr

/-- Where a campaign stands. -/
inductive CampPhase where
  | defined | loading | preparing | round | querying | unicast | ended
  deriving DecidableEq, Repr

def CampPhase.code : CampPhase → Nat
  | .defined => 0
  | .loading => 1
  | .preparing => 2
  | .round => 3
  | .querying => 4
  | .unicast => 5
  | .ended => 6

def CampPhase.ofCode (c : Nat) : CampPhase :=
  ([.defined, .loading, .preparing, .round, .querying, .unicast] : List CampPhase).getD c .ended

/-- A multicast frame: a source block, or repair symbol `e` of generation `n` (R405, R407). -/
inductive DistFrame where
  | source (i : Nat) | repair (n e : Nat)
  deriving DecidableEq, Repr

structure Campaign where
  kind : Nat
  volume : Nat
  first : Nat
  length : Nat
  digest : Bytes
  obis : Bytes
  actNt : Nat
  ident : Bytes
  phase : CampPhase := .defined
  round : Nat := 0
  seed : Nat := 0
  content : Bytes := []
  sent : Nat := 0
  repairs : Nat := 0
  /-- Repair frames of each generation in the round (R408); round 0 has none. -/
  plan : List Nat := []
  /-- The frames of the round that have not been sent. -/
  left : List DistFrame := []
  /-- The next symbol index of each generation of which a round has taken repair symbols. -/
  nextE : Tab Nat := []
  members : Tab DistMember := []
  due : Bool := false
  readyRaised : Bool := false
  doneRaised : Bool := false
  deriving DecidableEq, Repr

/-- K, the generations and the symbols of one (R404). -/
def Campaign.blocks (x : Campaign) : Nat := cdiv x.length 128
def Campaign.generations (x : Campaign) : Nat := cdiv x.blocks 64
def Campaign.genSize (x : Campaign) (n : Nat) : Nat := min 64 (x.blocks - 64 * n)
def Campaign.nextSymbol (x : Campaign) (n : Nat) : Nat := x.nextE.getD n (x.genSize n)

/-- What the table state stream holds of a campaign (R401): its definition and how far its rounds have come. -/
def Campaign.image (x : Campaign) : Bytes :=
  le 1 x.kind ++ le 1 x.volume ++ le 1 x.phase.code ++ le 1 x.round ++ le 4 x.first ++ le 4 x.length ++ padTo 64 x.digest ++ padTo 6 x.obis ++
    le 1 (b2n x.due + 2 * b2n x.readyRaised + 4 * b2n x.doneRaised) ++ le 1 x.ident.length ++ le 8 x.actNt ++ le 4 x.seed ++ le 4 x.sent ++
    padTo 48 x.ident ++ ((List.range x.generations).map fun n => le 1 (x.plan.getD n 0) ++ le 2 (x.nextSymbol n)).flatten

/-- A campaign from its image; its content, members and frames are restored apart. -/
def campaignFrom (b : Bytes) : Campaign :=
  let f := getLE 82 1 b
  let x : Campaign := {
    kind := getLE 0 1 b, volume := getLE 1 1 b, phase := CampPhase.ofCode (getLE 2 1 b), round := getLE 3 1 b, first := getLE 4 4 b
    length := getLE 8 4 b, digest := slice 12 64 b, obis := slice 76 6 b, due := bit f 0, readyRaised := bit f 1, doneRaised := bit f 2
    actNt := getLE 84 8 b, seed := getLE 92 4 b, sent := getLE 96 4 b, ident := (slice 100 48 b).take (getLE 83 1 b) }
  { x with
    plan := if x.round = 0 then [] else (List.range x.generations).map fun n => getLE (148 + 3 * n) 1 b
    nextE := ((List.range x.generations).map fun n => (n, getLE (149 + 3 * n) 2 b)) }

/-- What the table state stream holds of a member (R401). -/
def DistMember.image (m : DistMember) : Bytes :=
  le 1 m.mode ++ le 1 m.state.code ++ le 1 m.cause ++ le 1 (b2n m.noRounds + 2 * b2n m.late + 4 * b2n m.activated) ++ le 4 m.blockSize ++
    le 4 m.retries ++ le 8 m.since

def memberFrom (b : Bytes) : DistMember :=
  let f := getLE 3 1 b
  { mode := getLE 0 1 b, state := DistState.ofCode (getLE 1 1 b), cause := getLE 2 1 b, noRounds := bit f 0, late := bit f 1, activated := bit f 2
    blockSize := getLE 4 4 b, retries := getLE 8 4 b, since := getLE 12 8 b }

/-- Position of a member in its region of the table state stream. -/
def memberPos (c eix : Nat) : Nat := c * 2 ^ 18 + eix

end Sys2Proof.Machine
end

