-- ==== Sys2Proof/Machine/StateGate.lean ====
section
/-! DEFINITION. State of the safelight gate (R57 to R69) and of the storage manager (R333 to R365). -/

namespace Sys2Proof.Machine
open Sys2Proof

/-- A STORE_RESULT unit (R67). -/
structure StoreResult where
  seq : Nat
  refused : Bool
  status : Nat
  storeState : Nat
  deriving DecidableEq, Repr

/-- An outbound link control unit on its way to the open die (R67). -/
inductive GateUnit where
  | response (seq status : Nat)
  | marker (correction second : Nat)
  | readRequest (stream epoch recNo count : Nat)
  | release (stream epoch : Nat)
  deriving DecidableEq, Repr

/-- An inbound message sent and not answered yet (R61, R66). `origin` is the work kind and key that its answer ends. -/
structure InboundMsg where
  seq : Nat
  kind : Nat
  bytes : Bytes
  origin : Nat
  key : Nat
  deriving DecidableEq, Repr

/-- An outstanding READ_REQUEST (R67): stream, epoch and record asked for, records left. -/
structure ReadReq where
  stream : Nat
  epoch : Nat
  recNo : Nat
  left : Nat
  deriving DecidableEq, Repr

structure Gate where
  up : Bool := false
  inExpected : Nat := 0
  inNext : Nat := 0
  unanswered : List InboundMsg := []
  admitted : List InboundMsg := []
  units : List GateUnit := []
  storeResults : List StoreResult := []
  acks : List Nat := []
  ackRegister : Option Nat := none
  readOpen : Option ReadReq := none
  readReturns : List Bytes := []
  refusals : Tab Nat := []
  noCreditRefused : Nat := 0
  resetsSeen : Nat := 0
  outPlaced : Option Nat := none
  /-- The bytes of the unanswered inbound message while they cross the link. -/
  wire : Option Bytes := none
  deriving DecidableEq, Repr

/-- Store states (R354). -/
inductive StoreState where
  | normal | full | frozen
  deriving DecidableEq, Repr

def StoreState.code : StoreState → Nat
  | .normal => 0
  | .full => 1
  | .frozen => 2

/-- Phase of a superblock (R334, R344). -/
inductive SbPhase where
  | erased | opened | full | closed | verified | erasing | retired
  deriving DecidableEq, Repr

/-- One superblock: class (true hot), expiry week of its key, bytes programmed, the weighted age and OT at its close,
highest program/erase count, whether its parity is held, and the refresh cause when it is queued. -/
structure Sb where
  phase : SbPhase := .erased
  hot : Bool := false
  week : Nat := 0
  used : Nat := 0
  closedA : List Nat := [0, 0]
  closedOt : Nat := 0
  pe : Nat := 0
  parity : Bool := false
  copying : Bool := false
  deriving DecidableEq, Repr

/-- Where a stored record is. -/
inductive Place where
  | buffer
  | mirror
  | flash (sb page last : Nat)
  deriving DecidableEq, Repr

/-- A stored record (R337): stream, stream sequence, flags (bit 1 SNAPSHOT, bit 2 UNSIGNED), expiry week, data, place,
the superblock that still holds the copy's source, the dies with pages of it, the queue whose packet it came in, and the status with which it
is refused after all once its turn comes (R338). -/
structure StoreRec where
  stream : Nat
  kind : Nat := 0
  seq : Nat
  flags : Nat := 0
  week : Nat := 0xFFFF
  data : Bytes := []
  place : Place := .buffer
  source : Option Nat := none
  dies : List Nat := []
  queue : Nat := 0
  outSeq : Nat := 0
  ot : Nat := 0
  refused : Option Nat := none
  programmed : Bool := false
  committed : Bool := false
  invalid : Bool := false
  deriving DecidableEq, Repr

/-- A page program under way: the records with bytes in the page and whether each ends there (R338). -/
structure PageProgram where
  stream : Nat
  parts : List (Nat × Bool)
  sb : Nat
  page : Nat
  deriving DecidableEq, Repr

/-- One NAND die (R334, R348, R350). -/
structure Die where
  online : Bool := true
  spareBlocks : List Nat := (List.range 16).map (· + 944)
  lowRaised : Bool := false
  retired : List Nat := []
  standIn : Tab Nat := []
  suspect : List Nat := []
  injected : List Nat := []
  hangs : Nat := 0
  retries : Nat := 0
  hung : Bool := false
  deriving DecidableEq, Repr

/-- State of a batch in the index (R359). -/
structure BatchEntry where
  header : Nat
  trailer : Nat
  first : Nat
  cells : Nat
  complete : Bool
  delivered : Bool := false
  deriving DecidableEq, Repr

/-- A host volume (R361): size in MiB, retention in days (0 NONE), records of its written blocks. -/
structure Volume where
  sizeMib : Nat
  days : Nat
  blocks : Tab Nat := []
  deriving DecidableEq, Repr

/-- A VOL_WRITE that waits for its packets to be committed (R361): the number of its first packet, how many it has, how many are left. -/
structure VolWrite where
  headend : Bool
  tag : Nat
  first : Nat
  total : Nat
  left : Nat
  ended : Bool := false
  deriving DecidableEq, Repr

structure Store where
  state : StoreState := .normal
  sbs : Tab Sb := []
  recs : Tab StoreRec := []
  nextId : Nat := 0
  waiting : List Nat := []
  seqs : Tab Nat := []
  held : Tab Nat := []
  buffers : Tab (List (Nat × Nat)) := []
  snapshotNext : Bool := false
  programs : List PageProgram := []
  dies : List Die := List.replicate 8 {}
  tempC : List Int := [25, 25]
  ageA : List Nat := [0, 0]
  refreshQ : List (Nat × Nat) := []
  eraseQ : List Nat := []
  batches : Tab BatchEntry := []
  groupCells : List Nat := []
  groupHeader : Option Nat := none
  groupHdrCells : List Nat := []
  /-- A record of the batch whose header stands in `groupHeader` was refused. -/
  groupHdrLost : Bool := false
  readingLost : Bool := false
  refusals : Tab Nat := []
  mirrorBytes : Nat := 0
  mirrorRecs : List Nat := []
  mirrorLost : Nat := 0
  pagesSince : Nat := 0
  lastCkptOt : Nat := 0
  vols : Tab Volume := []
  volWrites : List VolWrite := []
  /-- Packets of queue 70 that the host interface has closed, and that the store has read. -/
  volPushed : Nat := 0
  volRead : Nat := 0
  gcActive : Bool := false
  devActive : Bool := false
  stopped : Bool := false
  refusing : Bool := false
  released : Tab Nat := []
  mapReady : Bool := false
  deriving DecidableEq, Repr

end Sys2Proof.Machine
end

