-- ==== Sys2Proof/Machine/StateMetro.lean ====
section
/-! DEFINITION. State of the feeder metrology (R83 to R108). Samples are
held in units of 2⁻³² mV and 2⁻³² mA, registers in units of 2⁻³² mWh (R90). -/

namespace Sys2Proof.Machine
open Sys2Proof

/-- Zero-crossing detection of one voltage (R100 to R102); times are ns of the sealed crystal. -/
structure ZxPhase where
  prev : Int := 0
  seen : Bool := false
  last : Option Int := none
  halves : List Int := []
  next : Option Int := none
  missed : Nat := 0
  lost : Bool := false
  regain : Nat := 0
  regained : Bool := false
  gap : Bool := false
  half : Nat := 0
  deriving DecidableEq, Repr

/-- The filters of one channel (R86 steps 5 to 7): the input and output last seen of the high-pass filter and of the integrator, and the
newest samples of the delay, newest first; in units of 2⁻²⁴ code. -/
structure ChFilter where
  hpX : Int := 0
  hpY : Int := 0
  inX : Int := 0
  inY : Int := 0
  recent : List Int := []
  deriving DecidableEq, Repr

/-- THD windows that closed in the period: sum in units of 2⁻³² of 0.01 %, number, whether one had enough fundamental (R91). -/
structure Thd where
  sum : Nat := 0
  count : Nat := 0
  good : Bool := false
  deriving DecidableEq, Repr

/-- The open cycle, the period sums and the cycles of the open THD window of one phase voltage (R88, R89, R91, R93); sample lists are
newest first. -/
structure MPhase where
  zx : ZxPhase := {}
  n : Nat := 0
  vs : List Int := []
  cur : List (List Int) := [[], [], [], []]
  residual : List (List Int) := [[], [], [], []]
  vne : List Int := []
  rms : Nat := 0
  run : Nat := 0
  window : Nat := 0
  cycles : Nat := 0
  vSum : Nat := 0
  samples : Nat := 0
  low : Nat := 0
  noZx : Bool := false
  thd : Thd := {}
  win : List (List Int) := []
  deriving DecidableEq, Repr

/-- One feeder phase: registers import, export, reactive, apparent, and what of them the metrology log gave at the start; current sum and
THD of the period, the cycles of its open THD window; the last record's interval end. -/
structure FPhase where
  regs : List Nat := [0, 0, 0, 0]
  saved : List Nat := [0, 0, 0, 0]
  win : List (List Int) := []
  iSum : Nat := 0
  thd : Thd := {}
  prevEnd : Option Nat := none
  deriving DecidableEq, Repr

/-- `owed`: records of the period that a power-fail warning closed, until step 2 of the hold-up order (R98). -/
structure Metro where
  filters : List ChFilter := List.replicate 20 {}
  owed : List Bytes := []
  phases : List MPhase := [{}, {}, {}]
  feeders : List FPhase := List.replicate 12 {}
  residualSum : List Nat := [0, 0, 0, 0]
  vneSum : Nat := 0
  neutralCycles : Nat := 0
  peaks : List Nat := List.replicate 20 0
  samples : Nat := 0
  nextEnd : Option Nat := none
  startElapsed : Nat := 0
  firstAfterStart : Bool := true
  powerInterrupted : Bool := false
  calChanged : Bool := false
  testSeen : Bool := false
  nominalHz : Nat := 50
  zxMsg : List Bytes := []
  zxSince : Nat := 0
  deriving DecidableEq, Repr

end Sys2Proof.Machine
end

