-- ==== Sys2Proof/Machine/StatePanel.lean ====
section
/-! DEFINITION. State of the door panel driver (R494 to R513). -/

namespace Sys2Proof.Machine
open Sys2Proof

structure Rect where
  x : Nat
  y : Nat
  w : Nat
  h : Nat
  deriving DecidableEq, Repr

/-- What a job of the driver is for: an update of the host, a settling refresh (R501), a FULL update after a blink region or a contact
sheet (R507, R510), a rebalance (R504), a recovery (R509) with its cause and whether the ledger was lost, a contact sheet (R510) with its
hold. -/
inductive JobKind where
  | update | settle | redraw | rebalance | recovery (cause : Nat) (lost : Bool) | sheet (hold : Nat)
  deriving DecidableEq, Repr

/-- A queued or active job: its stage (recovery: 0 ledger, 1 INIT, 2 FULL; contact sheet: 0 INIT, 1 FULL), the waveform mode, the next
frame, the frames of the stage, the band latched at the first frame, the pixels driven with from · 16 + to (in stage 0 of a recovery
value + 128), the pixels saturated, the packets of target tiles that must be committed first. -/
structure PanelJob where
  number : Nat
  kind : JobKind
  rects : List Rect
  stage : Nat := 0
  mode : Nat
  frame : Nat := 0
  frames : Nat := 0
  band : Option Nat := none
  drive : Tab Nat := []
  saturated : List Nat := []
  /-- Frame data of the stage, as the table in force at its first frame has them (R499). -/
  wave : Bytes := []
  tiles : List Bytes := []
  deriving DecidableEq, Repr

/-- A blink region (R507): its levels, frames since the last toggle began, the toggle under way, the level shown, whether it stops. -/
structure Blink where
  rect : Rect
  a : Nat
  b : Nat
  half : Nat
  count : Nat := 0
  frame : Nat := 0
  frames : Nat := 0
  band : Nat := 0
  drive : Tab Nat := []
  wave : Bytes := []
  toggling : Bool := false
  showB : Bool := true
  stopping : Bool := false
  deriving DecidableEq, Repr

/-- Panel rails (R496). -/
inductive Rails where
  | off | waking | on | retry | failed
  deriving DecidableEq, Repr

def Rails.code : Rails → Nat
  | .off => 0
  | .waking => 1
  | .on => 2
  | .retry => 3
  | .failed => 4

/-- Images are by pixel number y · 1,024 + x and list only levels other than white (log 5); the ledger lists only values other than
zero. -/
structure Panel where
  rails : Rails := .off
  /-- The pins PNL_PMIC_EN, PNL_PWRUP, PNL_VCOM_EN and PNL_PWRGOOD (R494). -/
  pmicEn : Bool := false
  pwrUp : Bool := false
  vcomEn : Bool := false
  pwrGood : Bool := false
  attempts : Nat := 0
  staging : Tab Nat := []
  target : Tab Nat := []
  current : Tab Nat := []
  /-- Pixels of the DC-balance ledger (R503), and its tiles that changed since they were committed. -/
  ledger : Tab Int := []
  dirty : List Nat := []
  table : Option Bytes := none
  maps : Tab Bytes := []
  loading : Option (Nat × Nat × Nat × Bytes) := none
  band : Nat := 0
  temp : Int := 0
  packageSource : Bool := false
  failedReads : Nat := 0
  active : List PanelJob := []
  queue : List PanelJob := []
  nextNumber : Nat := 0
  blinks : Tab Blink := []
  scanning : Bool := false
  lastFrameOt : Nat := 0
  sheetHold : Option (Nat × Nat) := none
  /-- Rectangle, mode and frame of each update that was cut short: in the always-on island after a warning (R508), with the delta
  sequence; in DRAM after a rail fault. -/
  interrupted : List (Rect × Nat × Nat) := []
  faulted : List (Rect × Nat × Nat) := []
  delta : Nat := 0
  deriving DecidableEq, Repr

/-- The rails in a state, with the pins that go with it: all low while they are off, PMIC and rail sequence up while they wake, VCOM after PWRGOOD
(R494, R496). -/
def Panel.setRails (p : Panel) (r : Rails) : Panel :=
  let up := decide (r = .waking) || decide (r = .on)
  { p with rails := r, pmicEn := up, pwrUp := up, vcomEn := decide (r = .on), pwrGood := decide (r = .on) }

end Sys2Proof.Machine
end

