-- ==== Sys2Proof/Machine/StatePlc.lean ====
section
/-! DEFINITION. State of the power-line ports (R193 to R228) and of the radios (R229 to R258). -/

namespace Sys2Proof.Machine
open Sys2Proof

/-! ### Power-line ports -/

/-- A neighbour (R213): its EIX, what its last frame was like, its last tone map response (modulation, SNR in dB, tone map), the cost of
its last link cost reply, whether it has been asked for one (R211), the outcomes of the last five attempts (bit 0 newest), when it was
heard. -/
structure PlcNeigh where
  eix : Nat := 0x3FFFF
  mod : Nat := 0
  groupsOff : Nat := 0
  snr : Int := 0
  tmr : Option (Nat × Int × Nat) := none
  lcReply : Option Nat := none
  rlcAsked : Bool := false
  lost : Nat := 0
  imp : Nat := 0
  heard : Nat := 0
  order : Nat := 0
  deriving DecidableEq, Repr

/-- Share records of an endpoint on a port (R203): the ring, newest last, and the sums per balance interval. -/
structure Shares where
  ring : List (F32 × F32 × F32) := []
  sums : Tab (F32 × F32 × F32 × Nat) := []
  deriving DecidableEq, Repr

/-- What a frame of a port is: data of an endpoint, a clock SET (R219), LOADng control frames (R211), joining and key frames (R217), a
beacon. -/
inductive PlcKind where
  | data | time | rreq | rrep | rlcreq | rlcrep | lbp | beacon
  deriving DecidableEq, Repr

/-- Where a frame goes: to everyone, to a neighbour, to an endpoint by the route that it has when it is sent. -/
inductive PlcDest where
  | all | hop (short : Nat) | route
  deriving DecidableEq, Repr

/-- A frame of a port's MAC: its bytes, final destination and next hop, MAC attempts begun, the mains phases driven (3 bits), the mesh
header (originator, final destination, hops left) with which an election sends it, whether its route has been repaired, the link cost
that an RREP or RLCREP carries. -/
structure PlcTx where
  kind : PlcKind := .data
  bytes : Bytes := []
  eix : Nat := 0x3FFFF
  dest : PlcDest := .route
  tries : Nat := 1
  phases : Nat := 7
  mesh : Option (Nat × Nat × Nat) := none
  repaired : Bool := false
  cost : Nat := 0
  deriving DecidableEq, Repr

/-- What the DSP of a port did with the last frame that it received (R193, R201, R205): PGA gains set by AGC, the combining weight
conj(Ĥ)/σ̂² (real and imaginary part) of each path and tone in use, for each symbol the paths combined (3 bits, 0 an erased symbol), and in
coherent modes the re-estimations: path, symbol at which it rejoins, next unhit symbol. -/
structure PlcDsp where
  gains : List Nat := []
  weights : List (List (F32 × F32)) := []
  symbols : List Nat := []
  reest : List (Nat × Nat × Nat) := []
  deriving DecidableEq, Repr

structure PlcPort where
  neighs : Tab PlcNeigh := []
  neighFull : Nat := 0
  rx : Nat := 0
  sent : Nat := 0
  lost : Nat := 0
  impulsive : Nat := 0
  panDrops : Nat := 0
  deliveries : List Nat := List.replicate 14 0
  silentRun : List Nat := [0, 0, 0]
  silentRaised : List Bool := [false, false, false]
  impulses : List Nat := []
  stormOt : Option Nat := none
  fault : Option Nat := none
  aborted : Option PlcTx := none
  /-- The frame on the air, or the unicast frame that awaits its acknowledgement. -/
  tx : Option PlcTx := none
  /-- The MAC queue: frames that go out before those of the transmit queue. -/
  ready : List PlcTx := []
  /-- PLCn_TXEN1 to PLCn_TXEN3, the line-driver enables (R193, R196). -/
  txen : Nat := 0
  /-- Phases, modulation (coded as in R213), tone-map groups and phase detection counter of the last frame that went out (R200, R208,
  R218), and the frame. -/
  lastPhases : Nat := 0
  lastMod : Nat := 0
  lastMap : Nat := 0
  lastPdc : Nat := 0
  lastTx : Option PlcTx := none
  dsp : PlcDsp := {}
  /-- Phases on which an acknowledgement of the last received frame goes out (R208). -/
  ackPhases : Nat := 0
  blacklist : Tab Nat := []
  /-- The group master key, its number, and the endpoints that have still to take it (R217). -/
  gmk : Nat := 0
  gmkPending : List Nat := []
  deriving DecidableEq, Repr

/-- A route (R211, R212, R215). -/
structure PlcRoute where
  hop : Nat
  cost : Nat
  hops : Nat
  elected : Bool := false
  expiry : Nat := 0
  deriving DecidableEq, Repr

/-- A route discovery and the election that may follow it (R211, R215): RREQs made, candidates left, the repeater being tried,
repeaters tried, the frames that wait; `sinceOt` is when its last frame went out. -/
structure PlcDisc where
  port : Nat
  rreqs : Nat := 1
  sinceOt : Nat := 0
  electing : Bool := false
  cands : List Nat := []
  current : Option Nat := none
  attempts : Nat := 0
  frames : List PlcTx := []
  repair : Bool := false
  deriving DecidableEq, Repr

/-- A joining EUI-64 on a port (R217): RAND_S of the challenge sent to it, and whether its MAC_P has been verified. -/
structure PlcJoin where
  randS : Bytes
  verified : Bool := false
  deriving DecidableEq, Repr

/-- `routes` has keys port · 65,536 + short address, `shares` port · 2^18 + EIX, `joins` port · 2^64 + EUI-64; `discs`, `sightings`,
`zxOffset`, `timeOt` have the EIX as key. -/
structure Plc where
  ports : List PlcPort := List.replicate 4 {}
  routes : Tab PlcRoute := []
  discs : Tab PlcDisc := []
  sightings : Tab (List (Nat × Nat)) := []
  shares : Tab Shares := []
  zxOffset : Tab Int := []
  zxLost : List Bool := [false, false, false]
  joins : Tab PlcJoin := []
  /-- Joined endpoints and their port, 0 to 3 PLC, 4 to 7 radio (R217, R244). -/
  joined : Tab Nat := []
  /-- OT of the last time delivery to an endpoint (R220, R251). -/
  timeOt : Tab Nat := []
  clock : Nat := 0
  /-- The last clock SET that was sent (R219, R220, R251). -/
  lastSet : Bytes := []
  deriving DecidableEq, Repr

/-! ### Radios -/

/-- Drift-recovery states (R248). -/
inductive DriftState where
  | synced | widening | wide | recovering
  deriving DecidableEq, Repr

def DriftState.code : DriftState → Nat
  | .synced => 0
  | .widening => 1
  | .wide => 2
  | .recovering => 3

/-- A sleepy endpoint (R245 to R248); `g` is its guard while it is not SYNCED (SYNCED: the nominal guard). -/
structure Sleepy where
  state : DriftState := .synced
  c : Nat := 0
  g : Nat := 0
  offset : Int := 0
  epPpm : Nat
  misses : Nat := 0
  wake : Nat
  sf : Nat
  chan : Nat := 0
  pendingBit : Bool := false
  deriving DecidableEq, Repr

/-- What a frame of a radio is: a (fragment of a) packet, a wake pair (R245), a clock SET (R251), a joining or key frame (R244). -/
inductive RfKind where
  | data | wake | time | lbp
  deriving DecidableEq, Repr

/-- A frame in a radio's MAC queue: its payload, destination (none for a broadcast), attempts, busy cells met in a row; the wake pair that
it delivers (R245). -/
structure RfFrame where
  kind : RfKind := .data
  bytes : Bytes
  eix : Option Nat
  tries : Nat := 0
  busy : Nat := 0
  wake : Option Sleepy := none
  deriving DecidableEq, Repr

/-- How a frame went out (R229, R230, R233, R234, R238, R243, R244): channel, its centre frequency, power at the antenna pin, mode; security level
and key identifier mode where the spec gives them; RFn_LNAEN and RFn_PAEN round the frame, each with its µs after the first symbol. -/
structure RfTx where
  channel : Nat
  khz : Int
  dbm : Int
  mode : Nat
  psdu : Nat := 0
  security : Option (Nat × Nat) := none
  pins : List (Int × Bool × Bool) := []
  deriving DecidableEq, Repr

/-- An Enhanced Acknowledgement (R240, R244, R247): Time Correction IE, frame-pending bit, security level and key identifier mode. -/
structure RfAck where
  correction : Int
  pending : Bool
  security : Nat × Nat := (5, 1)
  deriving DecidableEq, Repr

/-- What an Enhanced Beacon carries (R243): the ASN and the join metric; the template and its ID; the hopping list and its ID; of
slotframe 0 its length, the offsets of the EB cell, of the rescue cell (TX, RX, SHARED) and of every shared cell. -/
structure RfBeacon where
  asn : Nat
  joinMetric : Nat := 0
  template : List Int
  templateId : Nat := 1
  hopList : List Nat
  hopId : Nat := 1
  sfLen : Nat
  eb : Nat
  rescue : Nat
  shared : List Nat
  securityLevel : Nat := 1
  deriving DecidableEq, Repr

structure Radio where
  s0 : Option Nat := none
  /-- Number of the next timeslot; the current one is the one before it. -/
  asn : Nat := 0
  /-- How far the slot timeline lies from S0 + ASN × TsTimeslotLength, in ns of NT (R242). -/
  shiftNs : Int := 0
  buckets : Tab Nat := []
  macq : List RfFrame := []
  /-- The frame that awaits its acknowledgement stands at this index of `macq`; whether it went out in a shared cell. -/
  waiting : Option Nat := none
  waitShared : Bool := false
  /-- The radio has transmitted in the current timeslot. -/
  sentSlot : Bool := false
  /-- Backoff exponent and window of shared cells (R235). -/
  be : Nat := 1
  bw : Nat := 0
  /-- RFn_PAEN and RFn_LNAEN between two frames (R229). -/
  paen : Bool := false
  lnaen : Bool := false
  dutyWait : Bool := false
  busyCells : Nat := 0
  rx : Nat := 0
  sent : Nat := 0
  lost : Nat := 0
  panDrops : Nat := 0
  deliveries : Nat := 0
  limits : Tab Nat := []
  correction : Int := 0
  sleepy : Tab Sleepy := []
  heard : Tab Nat := []
  costs : Tab Nat := []
  /-- The MAC key, its number, and the endpoints that have still to take it (R244). -/
  key : Nat := 0
  keyPending : List Nat := []
  /-- Channel of the current timeslot's cell (R238). -/
  channel : Nat := 0
  lastTx : Option RfTx := none
  lastAck : Option RfAck := none
  lastBeacon : Option RfBeacon := none
  deriving DecidableEq, Repr

end Sys2Proof.Machine
end

