-- ==== Sys2Proof/Machine/StateSealed.lean ====
section
/-! DEFINITION. State of the sealed die: endpoints, ledger, tariffs, output buffer, batches, journal, seal sessions
(R29 to R52, R58 to R80, R138 to R190). -/

namespace Sys2Proof.Machine
open Sys2Proof

/-- The fields of a ledger record (R168) but for its EIX, image byte and edge code. -/
structure Ledger where
  mode : Nat := 0
  supply : Nat := 0
  warn : Nat := 0
  flags : Nat := 0
  profile : Nat := 0
  revision : Nat := 0
  balance : Int := 0
  emergency : Int := 0
  credited : Int := 0
  debited : Int := 0
  txnHigh : Nat := 0
  txnWindow : Nat := 0
  period : Nat := 0
  lastSeq : Nat := 0
  pImport : Nat := 0
  pExport : Nat := 0
  pDebit : Int := 0
  regI : List Nat := List.replicate 8 0
  regE : List Nat := List.replicate 4 0
  maxTime : Nat := 0
  maxDemand : Nat := 0
  carryS : Nat := 0
  carryE : Int := 0
  orderNo : Nat := 0
  orderKind : Nat := 0
  orderCause : Nat := 0
  apdu : Bytes := []
  deriving DecidableEq, Repr

/-- The opening set of R154. -/
structure Opening where
  imp : Nat := 0
  exp : Nat := 0
  debit : Int := 0
  regI : List Nat := List.replicate 8 0
  regE : List Nat := List.replicate 4 0
  maxTime : Nat := 0
  maxDemand : Nat := 0
  deriving DecidableEq, Repr

/-- A cell of the history (R39): its bytes, whether it has joined the open batch, whether it belongs to a closed one. -/
structure HeldCell where
  bytes : Bytes
  inOpen : Bool := false
  signed : Bool := false
  deriving DecidableEq, Repr

/-- An endpoint in the sealed die (R29 to R40, R64, R154, R161, R181). -/
structure Ep where
  title : Bytes := []
  guek : Bytes := []
  ak : Bytes := []
  desc : Nat := 0
  icHigh : Nat := 0
  icSeen : Nat := 0
  exhausted : Bool := false
  initSeq : Nat := 0
  client : Nat := 1
  clientDone : Bool := false
  has : Bool := false
  seq : Nat := 0
  lastEnd : Nat := 0
  imp : Nat := 0
  exp : Nat := 0
  react : Nat := 0
  hist : List HeldCell := []
  gen : Nat := 0
  reOpen : Bool := false
  reFirst : Bool := false
  e0 : Nat := 0
  reAfterMs : Int := 0
  opening : Opening := {}
  recents : List (Nat × Nat × Bool) := []
  refusals : Tab Nat := []
  dups : Nat := 0
  conflicts : Nat := 0
  stales : Nat := 0
  latePeriod : Option Nat := none
  piOwed : List Nat := []
  ledger : Ledger := {}
  /-- Crystal time (ns) of the last emission of the CURRENT record (R170). -/
  lastEmit : Nat := 0
  unemitted : Bool := false
  once : List Nat := []
  suppressReason : Nat := 0
  /-- Cells that belong to closed batches, kept over a start (R39, log 137). -/
  signedHist : List Bytes := []
  deriving DecidableEq, Repr

/-- A message of the sealed die before it has a sequence: kind, payload, and for a cell its EIX and whether this is its first
emission (R50). -/
structure OutItem where
  kind : Nat
  payload : Bytes
  eix : Nat := 0
  first : Bool := false
  txn : Option Nat := none
  deriving DecidableEq, Repr

/-- A message in the output buffer (R66, R69). -/
structure OutMsg where
  seq : Nat
  kind : Nat
  payload : Bytes
  sent : Bool := false
  acked : Bool := false
  /-- A SEALED_RECORD's journal part: transaction number, or none for records of the other streams. -/
  txn : Option Nat := none
  deriving DecidableEq, Repr

/-- The open batch (R50). -/
structure OpenBatch where
  cells : Bytes := []
  count : Nat := 0
  openedElapsed : Nat := 0
  opened : Nat := 0
  perEix : Tab Nat := []
  cap : Nat := 4096
  ageS : Nat := 300
  deriving DecidableEq, Repr

/-- A closed batch whose trailer is being signed (R51, R52). -/
structure Signing where
  header : Bytes
  cells : Bytes
  deriving DecidableEq, Repr

/-- A journal transaction on its way to the store (R184, R185): parts still to offer, what leaves the gate once every part is
accepted, the EIX whose after-images it carries. -/
structure Txn where
  number : Nat
  parts : List Bytes
  record : Option Bytes := none
  offered : Bool := false
  refused : Bool := false
  faultRaised : Bool := false
  outputs : List OutItem := []
  images : List Nat := []
  /-- A calendar execution: type and boundary (R155). -/
  mark : Option (Nat × Nat) := none
  deriving DecidableEq, Repr

/-- A place in a sealed stream: epoch, next record number, tag of the record before it. -/
structure SealPos where
  epoch : Nat := 0
  next : Nat := 0
  tag : Bytes := []
  deriving DecidableEq, Repr

/-- A sealed stream (R79, R80): epoch, next record number, last tag; the same of the last record that the store committed;
the anchor; then the place before the last committed record, the anchor of the checkpoint being written, and the place from
which a start reads the stream back (log 24). -/
structure SealStream where
  epoch : Nat := 0
  next : Nat := 0
  tag : Bytes := []
  cEpoch : Nat := 0
  cNext : Nat := 0
  cTag : Bytes := []
  aEpoch : Nat := 0
  aNext : Nat := 0
  aTag : Bytes := []
  before : SealPos := {}
  writing : SealPos := {}
  base : SealPos := {}
  deriving DecidableEq, Repr

/-- A held tariff document (R141): envelope and body, activation, order of acceptance. -/
structure TDoc where
  version : Nat
  activation : Nat
  order : Nat
  body : Bytes
  deriving DecidableEq, Repr

/-- An open seal-break session (R75). -/
structure SealSession where
  number : Nat
  permitted : Nat
  operator : Bytes
  opened : Nat
  openedElapsed : Nat
  maxS : Nat
  used : Nat := 0
  digestBefore : Bytes
  deriving DecidableEq, Repr

/-- A reassembly (R30): EIX, last block, data, when its last block came. -/
structure Reasm where
  eix : Nat
  last : Nat
  data : Bytes
  at_ : Nat
  port : Nat := 0
  deriving DecidableEq, Repr

/-- A partial sealed firmware document (R68). -/
structure FwPartial where
  length : Nat
  data : Bytes
  at_ : Nat
  deriving DecidableEq, Repr

/-- Time state of the sealed counter (R73, R74). -/
inductive TimeState where
  | valid | provisional | invalid
  deriving DecidableEq, Repr

def TimeState.code : TimeState → Nat
  | .valid => 0
  | .provisional => 1
  | .invalid => 2

/-- Reading back the streams at a start (R80, R186): streams still to read, the chain so far, parts of an unfinished
transaction, the transaction number of the checkpoint adopted, the EIX of the last LEDGER item; `adopt` is the epoch of the
checkpoint that a store-recovery document names (log 138). -/
structure Replay where
  streams : List Nat
  epoch : Nat := 0
  next : Nat := 0
  tag : Bytes := []
  reached : Bool := false
  tail : Nat := 0
  broken : Bool := false
  got : Nat := 0
  parts : List Bytes := []
  ckptTxn : Nat := 0
  lastEix : Nat := 0
  adopt : Option Nat := none
  deriving DecidableEq, Repr

structure Sealed where
  running : Bool := false
  started : Bool := false
  base : Int := 0
  elapsed : Nat := 0
  tempReads : Nat := 0
  timeState : TimeState := .invalid
  utcOffset : Int := 0
  corrections : Nat := 0
  budgetLog : List (Nat × Nat) := []
  lastOffer : Option Nat := none
  lastRecorded : Nat := 0
  ot : Nat := 0
  pcc : Nat := 0
  tempCentiC : Int := 2500
  temps : List Int := []
  pfw : Bool := false
  storeFault : Bool := false
  session : Option SealSession := none
  sessionCount : Nat := 0
  calLog : List Bytes := []
  sealN : Bool := true
  sealLowSince : Nat := 0
  stamps : List Bool := [true, true]
  stampLatch : List Bool := [false, false]
  stampCount : List Nat := [0, 0]
  /-- Changes counted while the sealed die did not run: input, level, count; their events are raised at the next start (R77, R427). -/
  stampOwed : List (Nat × Bool × Nat) := []
  /-- Stamp latches that changed in OFF; they count at the next start (R427). -/
  stampOff : List Bool := [false, false]
  outSeq : Nat := 0
  outBuf : List OutMsg := []
  readingQ : List OutItem := []
  recordQ : List OutItem := []
  /-- CLOSE and SNAPSHOT images that leave as the record part frees (R69). -/
  imageQ : List OutItem := []
  batch : OpenBatch := {}
  batchNumber : Nat := 0
  signing : List Signing := []
  txns : List Txn := []
  txnNext : Nat := 0
  txnSinceCkpt : Nat := 0
  values : Tab Int := []
  objects : Tab Bytes := []
  staged : List (Nat × Bytes) := []
  docVersions : Tab Nat := []
  eps : Tab Ep := []
  /-- NO_ENDPOINT refusals of EIX that have no endpoint record (R41). -/
  noEndpoint : Tab Nat := []
  reasm : List Reasm := []
  fwPartial : Option FwPartial := none
  activeSlot : Nat := 0
  slotImages : List (Option Bytes) := [none, none]
  /-- An accepted image stands in the inactive slot (R76). -/
  newImage : Bool := false
  fwRollback : Nat := 0
  streams : List SealStream := List.replicate 4 {}
  prevCkptEpochs : List Nat := [0, 0]
  lastCkptElapsed : Nat := 0
  ckptLeft : Nat := 0
  refusedRecs : List Bytes := []
  mirrorRing : List Bytes := []
  replay : Option Replay := none
  bucketSpent : Tab Nat := []
  bucketSuppressed : Tab Nat := []
  eventSeq : Nat := 0
  graceSince : Option Nat := none
  heat : Bool := false
  discNext : Option Nat := none
  lastMinute : Nat := 0
  active : Option TDoc := none
  previous : Option TDoc := none
  pendingDoc : Option TDoc := none
  docOrder : Nat := 0
  markClose : Option Nat := none
  markSnapshot : Option Nat := none
  markActivation : Option Nat := none
  /-- The marks as sealed NOR has them: written when the transaction of an execution has been accepted (R155, R186). -/
  norMarks : List (Option Nat) := [none, none, none]
  firstActivation : Option Nat := none
  period : Nat := 0
  stepLog : List (Int × Int) := []
  calFrozen : Bool := false
  deriving DecidableEq, Repr

end Sys2Proof.Machine
end

