-- ==== Sys2Proof/Machine/StateTbl.lean ====
section
/-! DEFINITION. State of the endpoint directory and the forwarding tables (R280 to R312). -/

namespace Sys2Proof.Machine
open Sys2Proof

/-- A valid directory entry (R281, R282). -/
structure DirEntry where
  eui : Bytes
  short : Nat := 0xFFFF
  port : Nat := 0xF
  flags : Nat := 1
  wpos : Nat := 0
  wfill : Nat := 0
  gen : Nat := 1
  rep : Nat := 0
  plain : Nat := 0
  deriving DecidableEq, Repr

/-- A valid prefix entry (R286): prefix octets, length, flags, generation, result word. -/
structure PfxEntry where
  pfx : Bytes
  len : Nat
  flags : Nat
  gen : Nat
  result : Nat
  deriving DecidableEq, Repr

/-- A sighting of a notice (R295): port, cost, ms after the first. -/
structure Sighting where
  port : Nat
  cost : Nat
  ms : Nat
  deriving DecidableEq, Repr

/-- A pending learning notice (R295): kind, frames, number, EIX, 8 key octets, NT of the first sighting in ns. -/
structure LearnNotice where
  kind : Nat
  frames : Nat
  number : Nat
  eix : Nat
  key : Bytes
  first : Nat
  sightings : List Sighting
  otSince : Nat := 0
  /-- learn_margin as it stood when the hold began (R310). -/
  margin : Nat := 0
  /-- Event 161 has been raised for it (R296). -/
  raised : Bool := false
  deriving DecidableEq, Repr

/-- A rehash under way (R300). -/
structure Rebuild where
  table : Nat
  seed0 : Nat
  seed1 : Nat
  deriving DecidableEq, Repr

/-- Command registers of one instance (R305). -/
structure TblRegs where
  cmd : Nat := 0
  overrun : Bool := false
  status : Nat := 0
  key : Nat := 0
  cursor : Nat := 0
  count : Nat := 0
  data : Bytes := List.replicate 32 0#8
  deriving DecidableEq, Repr

/-- What the last lookup answered (R283, R290). -/
inductive LookupResult where
  | none | hit (eix : Nat) | prefixHit (position : Nat) | blocked (eix : Nat) | miss | fault | dropped
  deriving DecidableEq, Repr

structure Tbl where
  dir : Tab DirEntry := []
  index : Tab (Nat × Nat) := []
  direct : Tab Nat := []
  windows : Tab (List Nat) := []
  pfx : Tab PfxEntry := []
  filter : List (Nat × Nat × Nat) := []
  dirSeed0 : Nat := 0xFFFFFFFF
  dirSeed1 : Nat := 0x3C1DA5E7
  pfxSeed : Nat := 0x9E3779B9
  rebuild : Option Rebuild := none
  notices : Tab LearnNotice := []
  noticeNo : Nat := 0
  dropped : Nat := 0
  droppedSince : Nat := 0
  pipes : List Bool := [true, true]
  turn : Nat := 0
  lookupsDropped : Nat := 0
  dirty : List (Nat × Nat) := []
  bindChanged : List Nat := []
  damaged : List (Nat × Nat) := []
  proofErrors : Nat := 0
  lastRound : Nat × Nat := (0, 0)
  /-- proof_repair of the round under way (R310). -/
  roundRepair : Option Nat := none
  lastPassOt : Nat := 0
  lastPass : Nat × Nat := (0, 0)
  eccCorrected : Nat := 0
  eccSince : Nat := 0
  eccFaults : Nat := 0
  blockedDiscards : Nat := 0
  misses : Tab Nat := []
  egressDiscards : Nat := 0
  frameDiscards : Nat := 0
  hostRegs : TblRegs := {}
  cpRegs : TblRegs := {}
  last : LookupResult := .none
  deriving DecidableEq, Repr

/-- A protected transport channel (R395, R396). -/
structure Chan where
  sendEpoch : Nat := 0
  sendNum : Nat := 0
  recvEpoch : Nat := 0
  recvHigh : Nat := 0
  recvSeen : List Nat := []
  discards : Nat := 0
  tagFails : Nat := 0
  stopped : Bool := false
  deriving DecidableEq, Repr

/-- A tier peer (R483). -/
structure Peer where
  role : Nat := 0
  identity : Bytes := []
  mac : Bytes := []
  ntLevel : Nat := 0
  lastNt : Nat × Nat := (0, 0)
  lastOt : Nat := 0
  live : Bool := false
  frames : Nat := 0
  silent : Nat := 0
  bitmap : Nat := 0
  lostOt : Nat := 0
  deriving DecidableEq, Repr

/-- State of the tier (R479 to R492): promoted member, isolation, peers by member (0xFE an unpromoted standby), frame sequence;
subscriptions held (EIX to serving member) and served (peer to EIXs), contributions sent, acknowledged and held, by peer; batches relayed
by worker; own batches that await BATCH_ACK; subscriptions and directory entries to send. -/
structure Tier where
  promoted : Option Nat := none
  isolated : Bool := false
  startOt : Nat := 0
  peers : Tab Peer := []
  frameSeq : Nat := 0
  discarded : Nat := 0
  edgeFails : Nat := 0
  rx : Tab Chan := []
  held : Tab Nat := []
  served : Tab (List Nat) := []
  contribSent : Tab Nat := []
  contribAcked : Tab Nat := []
  contribHigh : Tab Nat := []
  toSubscribe : List (Nat × Bool) := []
  relay : Tab (List Nat) := []
  batchSent : List Nat := []
  managerLostOt : Option Nat := none
  lossDays : Nat := 0
  deriving DecidableEq, Repr

end Sys2Proof.Machine
end

