-- ==== Sys2Proof/Machine/StateSec.lean ====
section
/-! DEFINITION. State of the security unit (R379 to R400) and of the command processor (R24 to R28, R74, R110, R165, R171,
R182). -/

namespace Sys2Proof.Machine
open Sys2Proof

/-- A key slot (R382): its content when it holds a key, its epoch. The IDENTITY seed is a constant of manufacture. -/
structure KeySlot where
  content : Option Bytes := none
  epoch : Nat := 0
  deriving DecidableEq, Repr

/-- An open-firmware slot (R389, R390). `factory` marks the image installed at Marbibor. -/
structure FwSlot where
  valid : Bool := false
  length : Nat := 0
  data : Bytes := []
  factory : Bool := false
  image : Nat := 0
  security : Nat := 0
  deriving DecidableEq, Repr

/-- A batch being uploaded (R397). -/
structure Upload where
  batch : Nat
  attempts : Nat
  deriving DecidableEq, Repr

structure Sec where
  lifecycle : Nat := 1
  slots : List KeySlot := { content := some [], epoch := 0 } :: List.replicate 15 {}
  psks : Tab Bytes := []
  debugSeen : Bool := false
  debugSince : Option (Nat × Nat) := none
  trngFailures : Nat := 0
  trngRestarting : Bool := false
  trngStopped : Bool := false
  requests : Nat := 0
  drbgIndex : Nat := 0
  samples : Nat := 0
  revoked : List Bool := List.replicate 4 false
  rollback : Nat := 0
  fw : List FwSlot := [{ valid := true, factory := true }, {}]
  active : Nat := 0
  trial : Option Nat := none
  attempts : Nat := 0
  running : Nat := 0
  reverted : Bool := false
  revertCause : Option (Nat × Nat × Nat) := none
  runStartOt : Nat := 0
  activateDue : Bool := false
  /-- fw_confirm_s and fw_max_trials as they stood when the trial was set (R398). -/
  trialConfirm : Nat := 600
  trialMax : Nat := 3
  docVersions : Tab Nat := []
  chans : List Chan := List.replicate 3 {}
  uploads : List Upload := []
  lastPlain : Nat × Bytes := (0, [])
  deriving DecidableEq, Repr

/-- Delivery of an order (R182). -/
structure Order where
  number : Nat
  kind : Nat
  attempts : Nat := 0
  startOt : Nat := 0
  lastOt : Nat := 0
  nextOt : Nat := 0
  outcome : Nat := 0xFF
  awaiting : Bool := false
  getSent : Bool := false
  undelivered : Bool := false
  finished : Bool := false
  apdu : Bytes := []
  /-- Number of the last order of the EIX that has finished. -/
  lastDone : Nat := 0
  deriving DecidableEq, Repr

/-- What the open die knows of the sealed die's tariffs (R165): the documents that it submitted and the sealed die accepted, the period and the
marks that the sealed events since then imply, the steps they reported (log 151). -/
structure TariffCopy where
  active : Option TDoc := none
  previous : Option TDoc := none
  pendingDoc : Option TDoc := none
  docOrder : Nat := 0
  firstActivation : Option Nat := none
  period : Nat := 0
  markClose : Option Nat := none
  markSnapshot : Option Nat := none
  markActivation : Option Nat := none
  stepLog : List (Int × Int) := []
  deriving DecidableEq, Repr

structure Cp where
  portsEnabled : Bool := false
  /-- Profile reads in flight: port and EIX (R26); EIXs whose read waits for one of its PAN to end. -/
  profileReads : List (Nat × Nat) := []
  profileWait : List Nat := []
  ident : Bytes := []
  calLog : List Bytes := []
  mirror : Tab Bytes := []
  provisioned : Tab Bytes := []
  acceptedDocs : List (Nat × Bytes) := []
  current : Tab Bytes := []
  /-- EIX whose next CURRENT record replaces the copy whatever its revision (R171). -/
  replaceNext : List Nat := []
  orders : Tab Order := []
  /-- Documents on their way to the sealed die, until its event 35 or 36 (R110, R165). -/
  submitted : List Bytes := []
  tariff : TariffCopy := {}
  /-- Gate messages that were on their way when the sealed die last started (R171). -/
  preStart : List Bytes := []
  /-- The last record taken from CP_SEALED: kind and data (R321). -/
  lastSealed : Option (Nat × Bytes) := none
  /-- Acknowledgements sent again for repeats, by EIX (R28, log 152). -/
  acksAgain : Tab Nat := []
  deriving DecidableEq, Repr

end Sys2Proof.Machine
end

