-- ==== Sys2Proof/Machine/StateTime.lean ====
section
/-! DEFINITION. State of the time unit (R259 to R280). -/

namespace Sys2Proof.Machine
open Sys2Proof

/-- Network time (R10): seconds, nanoseconds, units of 1/256 ns. -/
structure NetTime where
  sec : Nat := 0
  ns : Nat := 0
  frac : Nat := 0
  deriving DecidableEq, Repr

/-- One candidate source (R261 to R265): 0 PTP0, 1 PTP1, 2 HOST. -/
structure Cand where
  up : Bool := false
  locked : Bool := false
  lockedOt : Nat := 0
  windowSince : Option Nat := none
  gm : Bytes := []
  best : List Nat := []
  clockClass : Nat := 248
  utc : Option Int := none
  t1 : Int := 0
  t2 : Int := 0
  syncCount : Nat := 0
  haveSync : Bool := false
  delays : List Int := []
  offsets : List Int := []
  big : List Int := []
  deriving DecidableEq, Repr

/-- Role of a PTP port (R264). -/
inductive PtpRole where
  | listening | slave | master | passive
  deriving DecidableEq, Repr

structure PtpPort where
  role : PtpRole := .listening
  link : Bool := true
  syncSeq : Nat := 0
  announceSeq : Nat := 0
  delaySeq : Nat := 0
  deriving DecidableEq, Repr

/-- A second marker (R270): sealed second, Δ in ns, low 8 bits of the correction count, and of the NT step count that its stamp carries
(R259). -/
structure Marker where
  sec : Nat
  delta : Int
  count : Nat
  step : Nat := 0
  deriving DecidableEq, Repr

/-- A ZX stamp (R65): sealed time in ns, voltage channel, flags, low half-cycle count. -/
structure ZxStamp where
  z : Nat
  channel : Nat
  flags : Nat
  half : Nat
  deriving DecidableEq, Repr

/-- A translated stamp: NT in units of 1/256 ns (R271). -/
structure ZxNt where
  channel : Nat
  nt : Nat
  flags : Nat
  half : Nat
  deriving DecidableEq, Repr

structure Time where
  nt : NetTime := {}
  utcOffset : Int := -37
  level : Nat := 0
  source : Option Nat := none
  cands : List Cand := [{}, {}, {}]
  ports : List PtpPort := [{}, {}]
  stepCount : Nat := 0
  stepPending : Option Int := none
  freqPpb : Int := 0
  phasePpb : Int := 0
  filtered : Int := 0
  rates : List Int := []
  holdoverSince : Option Nat := none
  lostSource : Option Nat := none
  /-- Event 149 has been raised for this holdover (R268). -/
  holdoverOver : Bool := false
  hostSetOt : Option Nat := none
  hostUncertainty : Nat := 0
  everValid : Bool := false
  markers : List Marker := []
  markerOt : Option Nat := none
  markerLost : Bool := false
  zxHeld : List ZxStamp := []
  zxDone : List ZxNt := []
  zxSkipped : Nat := 0
  offers : List (Int × Nat) := []
  lastSent : Option Nat := none
  lastAccepted : Option Nat := none
  outstanding : Option Nat := none
  largeRaised : Bool := false
  firstOffer : Bool := true
  /-- Stamp of the last offer that entered the gate link (R259). -/
  offerStamp : Option Stamp := none
  frozen : Bool := false
  deriving DecidableEq, Repr

end Sys2Proof.Machine
end

