-- ==== Sys2Proof/Machine/State.lean ====
section
/-! DEFINITION. The state of the block, its faults and refusals, and its state after reset. -/

namespace Sys2Proof.Machine
open Sys2Proof

/-- Why a step stops with a fault. No meaning of this model raises one: every failure the spec names is an effect on
State. -/
inductive Fault where
  /-- Raised by no command; it is there because the outcome type asks for a type of reasons. Safe. -/
  | none
  deriving DecidableEq, Repr

/-- Why a step has no meaning. -/
inductive Refusal where
  /-- A command whose meaning has not been written: only Dispatch answers it. Safe. -/
  | notModelled (mnemonic : String)
  deriving DecidableEq, Repr

structure State where
  power : Power := {}
  straps : Straps := {}
  host : HostIf := {}
  fabric : Fabric := {}
  recd : Rec := {}
  cfg : Cfg := {}
  fog : Fog := {}
  gate : Gate := {}
  store : Store := {}
  time : Time := {}
  tbl : Tbl := {}
  sec : Sec := {}
  cp : Cp := {}
  sealedDie : Sealed := {}
  metro : Metro := {}
  tier : Tier := {}
  plc : Plc := {}
  radios : List Radio := List.replicate 4 {}
  bal : Bal := {}
  /-- Campaigns by number, 0 to 7 (R401). -/
  camps : Tab Campaign := []
  panel : Panel := {}
  /-- Commands that wait, first in, first out. -/
  pending : List Instr := []
  /-- The model's own counter with which free values are drawn (log 6). -/
  free : Nat := 0
  deriving DecidableEq, Repr

/-- The state right after reset: the start sequence waits for RESET_RELEASE, nothing is queued (log 1, log 2). -/
def State.reset : State := {}

end Sys2Proof.Machine
end

