-- ==== Sys2Proof/Machine/Ops.lean ====
section
/-! DEFINITION. The operations that several blocks share: configuration reads (R462), the credit ledger and packets of
the queue fabric (R313 to R328), raising an event (R367, R370), and completing a host command (R449 to R453). -/

namespace Sys2Proof.Machine

/-! ### Status codes (R21) -/

abbrev stDone : Nat := 0x0000
abbrev stAccepted : Nat := 0x0001
abbrev stBusy : Nat := 0x0010
abbrev stNoCredit : Nat := 0x0011
abbrev stBadOpcode : Nat := 0x0020
abbrev stBadLength : Nat := 0x0021
abbrev stBadField : Nat := 0x0022
abbrev stBadGeneration : Nat := 0x0023
abbrev stNotFound : Nat := 0x0030
abbrev stExists : Nat := 0x0031
abbrev stRehashNeeded : Nat := 0x0032
abbrev stDeniedSeal : Nat := 0x0040
abbrev stDeniedAuth : Nat := 0x0041
abbrev stSignatureBad : Nat := 0x0042
abbrev stStoreFull : Nat := 0x0050
abbrev stStoreFrozen : Nat := 0x0051
abbrev stTimeInvalid : Nat := 0x0060
abbrev stPeerLost : Nat := 0x0070
abbrev stInternalFault : Nat := 0x00F0

/-! ### Updates of one part of State -/

def State.onPower (s : State) (f : Power → Power) : State := { s with power := f s.power }
def State.onHost (s : State) (f : HostIf → HostIf) : State := { s with host := f s.host }
def State.onFabric (s : State) (f : Fabric → Fabric) : State := { s with fabric := f s.fabric }
def State.onRec (s : State) (f : Rec → Rec) : State := { s with recd := f s.recd }
def State.onCfg (s : State) (f : Cfg → Cfg) : State := { s with cfg := f s.cfg }
def State.onGate (s : State) (f : Gate → Gate) : State := { s with gate := f s.gate }
def State.onStore (s : State) (f : Store → Store) : State := { s with store := f s.store }
def State.onPlc (s : State) (f : Plc → Plc) : State := { s with plc := f s.plc }
def State.onTier (s : State) (f : Tier → Tier) : State := { s with tier := f s.tier }
def State.onFog (s : State) (f : Fog → Fog) : State := { s with fog := f s.fog }

/-! ### Free values (log 6) -/

/-- Draw a free value of `n` bytes of kind `kind`; the counter `free` advances. -/
def State.draw (s : State) (kind n : Nat) : Nat × State :=
  (Config.freeValue kind s.free % 256 ^ n, { s with free := s.free + 1 })

/-! ### Configuration reads -/

/-- Element `e` of field `f` of object `o` as its block runs it (R470). -/
def State.cfgE (s : State) (o f e : Nat) : Int := cfgValue s.cfg.running o f e

/-- A field with one element. -/
def State.cfgI (s : State) (o f : Nat) : Int := s.cfgE o f 0

/-- An unsigned field with one element. -/
def State.cfgN (s : State) (o f : Nat) : Nat := (s.cfgE o f 0).toNat

/-- Class bit (R514) of a field of fog-setup (R518). -/
def fogClass (f : Nat) : Nat := if f ≤ 3 then 0 else if f = 4 then 1 else if f ≤ 7 then 3 else 4

/-- Whether class bit `b` of the fog registers acts: an unlock with that class is in force, and no hold-up has begun
(R516, R517). -/
def State.fogActs (s : State) (b : Nat) : Bool :=
  match s.fog.unlock with
  | some u => bit u.classes b && !s.fog.frozen
  | none => false

/-- A fog-setup field as it acts: its default while its class is not unlocked (R516). -/
def State.fogN (s : State) (f : Nat) : Nat :=
  if s.fogActs (fogClass f) then s.cfgN 0xF000 f else (cfgDefault 0xF000 f 0).toNat

/-- Whether the open die runs its firmware: from the boot ROM's end to the end of the hold-up order (R425, R433). -/
def State.openRuns (s : State) : Bool :=
  match s.power.state with
  | .run => true
  | .idle => true
  | .starting => decide (s.power.stage ≠ .resetHeld)
  | _ => false

/-! ### The queue fabric -/

/-- min_cells of a queue as the fabric runs it (R330). -/
def State.qMin (s : State) (q : Nat) : Nat :=
  ((s.cfg.running.get? (cfgKey (0x8100 + q) 0 0)).map Int.toNat).getD ((queueRow q).map (·.minCells) |>.getD 0)

/-- limit_cells of a queue as the fabric runs it (R330). -/
def State.qLimit (s : State) (q : Nat) : Nat :=
  ((s.cfg.running.get? (cfgKey (0x8100 + q) 1 0)).map Int.toNat).getD ((queueRow q).map (·.limitCells) |>.getD 0)

/-- The state of queue `q`. -/
def State.queue (s : State) (q : Nat) : Queue := s.fabric.queues.getD q {}

/-- Queue `q` changed by `f`. -/
def State.onQueue (s : State) (q : Nat) (f : Queue → Queue) : State :=
  s.onFabric fun fb => { fb with queues := fb.queues.upd q {} f }

/-- Cells of a payload of `n` bytes with the packet header (R313). -/
def cellsFor (n : Nat) : Nat := cdiv (n + 16) 64

/-- occ(q): cells of closed packets, reservations and quarantined packets of `q` (R316). -/
def State.occ (s : State) (q : Nat) : Nat :=
  ((s.queue q).pkts.map (·.cells)).sum +
  ((s.fabric.opened.filter (·.queue = q)).map (·.cells)).sum +
  ((s.fabric.quarantine.filter (·.1 = q)).map (·.2.cells)).sum

/-- shared_free (R316). -/
def State.sharedFree (s : State) : Nat :=
  131072 - (assignedQueues.map (fun q => max (s.qMin q) (s.occ q))).sum

/-- floor(r) of R329. -/
def State.floorOf (s : State) (r : Nat) : Nat := (s.cfgE 0x8000 0 r).toNat

/-- The shared cells that a grant of `c` cells on `q` takes (R316). -/
def State.need (s : State) (q c : Nat) : Nat :=
  (s.occ q + c - s.qMin q) - (s.occ q - s.qMin q)

/-- Whether the ledger can grant `c` cells on `q` now (R316). -/
def State.grantable (s : State) (q c : Nat) : Bool :=
  match queueRow q with
  | none => false
  | some r => decide (s.occ q + c ≤ s.qLimit q) && decide (s.floorOf r.rank + s.need q c ≤ s.sharedFree)

/-- Whether an OPEN can never be granted (R317). -/
def State.openImpossible (s : State) (q c : Nat) : Bool :=
  match queueRow q with
  | none => true
  | some r => s.qLimit q = 0 || c = 0 || decide (r.maxPkt < c) || decide (s.qLimit q < c)

/-- What the fabric answers to an OPEN at its arrival. -/
inductive OpenAnswer where
  | granted | impossible | perturbed | later (atLimit : Bool)
  deriving DecidableEq, Repr

/-- Answer of the fabric to an OPEN of `c` cells on `q` (R316, R317, R518); `k` is the number of the OPEN on the
perturbed queue, counted from 1. -/
def State.openAnswer (s : State) (q c k : Nat) : OpenAnswer :=
  if s.openImpossible q c then .impossible
  else if s.fogN 2 = q ∧ (k * s.fogN 3) % 1000 < s.fogN 3 then .perturbed
  else if s.fabric.waiters.any (·.queue = q) then .later false
  else if s.fogN 1 = q ∧ 0 < s.fogN 0 then .later false
  else if s.grantable q c then .granted
  else .later (decide (s.qLimit q < s.occ q + c))

/-- The OPEN counter of the perturbed queue advances (R518). -/
def State.countOpen (s : State) (q : Nat) : State :=
  if s.fogN 2 = q then s.onFabric fun f => { f with bpCount := f.bpCount + 1 } else s

/-- Append a packet to the tail of its queue, with its sequence, cell count and notice (R318, R319). -/
def State.closeOn (s : State) (q producer : Nat) (payload : Bytes) : State :=
  let qu := s.queue q
  let n : Notice := { queue := q, cells := cellsFor payload.length, length := payload.length, seq := qu.nextSeq,
                      producer := producer, skipped := min qu.skipped 0xFFFF }
  let p : Packet := { producer := producer, seq := qu.nextSeq, cells := cellsFor payload.length, payload := payload }
  (s.onQueue q fun x => { x with pkts := x.pkts ++ [p], nextSeq := (x.nextSeq + 1) % 2 ^ 32, skipped := 0 }).onFabric
    fun f => { f with lastNotice := f.lastNotice.set q n }

/-! ### Raising an event (R366, R367, R370) -/

/-- The recorder channel of an open-die event source (R366). -/
def eventChannel (src : Nat) : Nat :=
  if src < 16 then 1 else if src < 32 then 2 else if src < 80 then 3 else if src < 96 then 4
  else if src < 128 then 5 else if src < 144 then 6 else if src < 160 then 7 else if src < 176 then 8
  else if src < 192 then 9 else if src < 208 then 10 else if src < 216 then 11 else if src < 224 then 12
  else if src < 240 then 13 else if src < 248 then 14 else 15

/-- A recorder record with its edge code (R367). -/
def recordBytes (seq ot pcc code ch b19 : Nat) (data : Bytes) : Bytes :=
  withEdge (le 8 seq ++ le 5 ot ++ le 3 pcc ++ le 2 code ++ le 1 ch ++ le 1 b19 ++ padTo 8 data)

/-- Count an event as suppressed for its code (R370). -/
def State.suppress (s : State) (src : Nat) : State :=
  s.onRec fun r => { r with
    buckets := r.buckets.upd src {} (fun b => { b with suppressed := min 255 (b.suppressed + 1) })
    channels := r.channels.upd (eventChannel src) {} (fun c => { c with suppressed := c.suppressed + 1 }) }

/-- Raise event `src` with its data bytes: the token bucket, the record and the OPEN on queue 71, without the
check of event 185. -/
def State.raiseCore (s : State) (src : Nat) (data : Bytes) : State :=
  let ch := eventChannel src
  let depth := s.cfgN (0xA010 + ch) 2
  let b := s.recd.buckets.getD src {}
  if 0 < depth ∧ depth ≤ b.spent then s.suppress src
  else
    let s1 := if depth = 0 then s else s.onRec fun r => { r with buckets := r.buckets.upd src {} (fun b => { b with spent := b.spent + 1 }) }
    let s2 := s1.countOpen 71
    match s2.openAnswer 71 1 s2.fabric.bpCount with
    | .granted =>
      (s2.closeOn 71 18 (recordBytes 0 s.power.ot s.power.pcc src ch b.suppressed data)).onRec
        fun r => { r with buckets := r.buckets.upd src {} (fun b => { b with suppressed := 0 }) }
    | _ => (s2.onQueue 71 fun q => { q with refused := q.refused + 1 }).suppress src

/-- Raise event 185 once for each floor that shared_free has come down to from above, `before` being what it was (R332). -/
def State.poolCheck (s : State) (before : Nat) : State :=
  let free := s.sharedFree
  let reached := (((List.range 8).map s.floorOf).eraseDups).filter (fun f => decide (free ≤ f) && decide (f < before))
  reached.foldl (fun t fl =>
    let r := ((List.range 8).find? (fun r => s.floorOf r = fl)).getD 7
    t.raiseCore 185 (le 1 r ++ zeros 3 ++ le 4 free)) s

/-- Raise an open-die event. -/
def State.raise (s : State) (src : Nat) (data : Bytes) : State :=
  if s.openRuns then (s.raiseCore src data).poolCheck s.sharedFree else s

/-- Raise an event at most once per `period` seconds of OT for each `inst`. -/
def State.raiseEvery (s : State) (period src inst : Nat) (data : Bytes) : State :=
  let key := src * 65536 + inst
  let due := match s.fabric.eventOt.get? key with
    | some t => decide (t + period ≤ s.power.ot)
    | none => true
  if due then (s.onFabric fun f => { f with eventOt := f.eventOt.set key s.power.ot }).raise src data else s

/-- Whether a rate-limited event of `raiseEvery` would be raised now. -/
def State.eventDue (s : State) (period src inst : Nat) : Bool :=
  match s.fabric.eventOt.get? (src * 65536 + inst) with
  | some t => decide (t + period ≤ s.power.ot)
  | none => true

/-! ### OPEN and CLOSE of a whole packet -/

/-- A request that can never be granted is refused, counted and reported (R317). -/
def State.refuseOpen (s : State) (producer q c : Nat) : State :=
  (s.onQueue q fun x => { x with refused := x.refused + 1 }).raiseEvery 60 187 producer
    (le 1 producer ++ le 1 0 ++ le 2 q ++ le 4 c)

/-- Count a refusal at limit_cells and raise event 179 at most once per 60 s per queue (R332). -/
def State.limitRefusal (s : State) (q : Nat) : State :=
  let s1 := s.onQueue q fun x => { x with limitRefusals := x.limitRefusals + 1 }
  if s1.eventDue 60 179 q then
    (s1.raiseEvery 60 179 q (le 2 q ++ le 2 0 ++ le 4 (s1.queue q).limitRefusals)).onQueue q fun x => { x with limitRefusals := 0 }
  else s1

/-- A fan-out copy is skipped and counted; event 181 at most once per 60 s per queue (R317, R321, R332). -/
def State.skipCopy (s : State) (q : Nat) : State :=
  let s1 := s.onQueue q fun x => { x with skipped := x.skipped + 1, copiesSkipped := x.copiesSkipped + 1 }
  if s1.eventDue 60 181 q then
    (s1.raiseEvery 60 181 q (le 2 q ++ le 2 0 ++ le 4 (s1.queue q).copiesSkipped)).onQueue q fun x => { x with copiesSkipped := 0 }
  else s1

/-- What a producer does whose OPEN is not granted at once (R317). -/
def State.notGranted (s : State) (producer q c : Nat) (payload : Option Bytes) (atLimit refused : Bool) : State :=
  let s0 := if refused then s.onQueue q fun x => { x with refused := x.refused + 1 } else s
  let s1 := if atLimit then s0.limitRefusal q else s0
  if producer ≤ 7 then s1.onFabric fun f => { f with notReceived := f.notReceived.upd producer 0 (· + 1) }
  else if producer = 10 ∨ producer = 18 then s1
  else if producer = 13 ∧ ((queueRow q).map (·.lossy)).getD false then s1.skipCopy q
  else s1.onFabric fun f => { f with waiters := f.waiters ++ [{ queue := q, producer := producer, cells := c, payload := payload }] }

/-- Send a whole packet: OPEN, payload, CLOSE. The payload carries its edge code. The flag says whether the packet
was closed at once. -/
def State.push (s : State) (producer q : Nat) (payload : Bytes) : State × Bool :=
  let c := cellsFor payload.length
  let s1 := s.countOpen q
  match s1.openAnswer q c s1.fabric.bpCount with
  | .granted => ((s1.closeOn q producer payload).poolCheck s.sharedFree, true)
  | .impossible => (s1.refuseOpen producer q c, false)
  | .perturbed => (s1.notGranted producer q c (some payload) false true, false)
  | .later l => (s1.notGranted producer q c (some payload) l (producer ≤ 7 || producer = 10 || producer = 13), false)

/-- `push` where the answer does not matter. -/
def State.send (s : State) (producer q : Nat) (payload : Bytes) : State := (s.push producer q payload).1

/-! ### Tier and ports -/

/-- The tier role in force: the strap, MANAGER or WORKER without a tier_id run as STANDALONE, a promoted device as what it
was promoted to (R479, R490). -/
def State.role (s : State) : Nat :=
  match s.tier.promoted with
  | some 0 => 1
  | some _ => 2
  | none => if (s.straps.tier = 1 ∨ s.straps.tier = 2) ∧ s.cfgN 0xE000 0 = 0 then 0 else s.straps.tier

/-- The device's member number (R13, R479); none for an unpromoted standby. -/
def State.member (s : State) : Option Nat :=
  match s.tier.promoted with
  | some m => some m
  | none => if s.role = 3 then none else if s.role = 2 then some (s.cfgN 0xE000 1) else some 0

/-- A field of plc-port-p. -/
def State.plcN (s : State) (p f : Nat) : Nat := s.cfgN (0x4000 + p) f

/-- Whether the ports of the device serve endpoints: enabled at start, not after a power-fail warning, not on an ISOLATED or unpromoted
standby device (R421, R479, R484). -/
def State.portsServe (s : State) : Bool := s.openRuns && s.cp.portsEnabled && !s.power.pfw && !s.tier.isolated && decide (s.role ≠ 3)

/-- Whether a PLC port works. -/
def State.plcUp (s : State) (p : Nat) : Bool := decide (p < 4) && s.portsServe && s.plcN p 0 = 1

/-- The pull-downs hold the line-driver and amplifier enables of a bank that is high-impedance low (R418). -/
def State.enablesLow (s : State) : State :=
  let s1 := s.onPlc fun x => { x with ports := x.ports.map fun q => { q with txen := 0 } }
  { s1 with radios := s1.radios.map fun x => { x with paen := false, lnaen := false } }

/-- Every line-driver and amplifier enable goes low and frames in progress are abandoned (R421, R484). -/
def State.airStop (s : State) : State :=
  let s1 := s.onPlc fun x => { x with ports := x.ports.map fun q => { q with tx := none, aborted := none, txen := 0 } }
  { s1 with radios := s1.radios.map fun x => { x with waiting := none, paen := false } }

/-- First event of a PLC port, and event k of it (R228). -/
def State.raisePlc (s : State) (p k : Nat) (d : Bytes) : State := s.raise (96 + 8 * p + k) d

/-! ### Quarantine and consumers -/

/-- Cells on the quarantine list (R328). -/
def State.quarantineCells (s : State) : Nat := (s.fabric.quarantine.map (·.2.cells)).sum

/-- Move a packet of queue `q` to the quarantine list, or free it when the list is full (R328). -/
def State.quarantinePacket (s : State) (q : Nat) (p : Packet) : State :=
  if s.cfgN 0x8000 4 ≤ s.quarantineCells then s.raise 183 (le 4 1)
  else s.onFabric fun f => { f with quarantine := f.quarantine ++ [(q, { p with quarantined := true })] }

/-- Quarantine a packet whose edge code fails on its way through a queue, with event 176 (R16, R318, R320) or 182. -/
def State.edgeFailure (s : State) (stage q : Nat) (p : Packet) : State :=
  let s1 := if p.eccBad then s.raise 182 (le 2 q ++ le 2 0 ++ le 4 p.seq)
            else s.raise 176 (le 1 stage ++ le 1 p.producer ++ le 2 q ++ le 4 p.seq)
  s1.quarantinePacket q p

/-- Whether a packet passes its exit check (R320, R328). -/
def Packet.good (p : Packet) : Bool := edgeOk p.payload && !p.eccBad

/-- The consumer of `q` takes its head packet; packets that fail the exit check are quarantined and skipped (R320). -/
def State.takeHead (s : State) (q : Nat) : Option Packet × State :=
  let ps := (s.queue q).pkts
  let bad := ps.takeWhile (fun p => !p.good)
  let rest := ps.dropWhile (fun p => !p.good)
  let s1 := s.onQueue q fun x => { x with pkts := rest.drop 1 }
  (rest.head?, bad.foldl (fun t p => t.edgeFailure 1 q p) s1)

/-- The head packet that the next read of `q` would return, left in place. -/
def State.peekHead (s : State) (q : Nat) : Option Packet := ((s.queue q).pkts.dropWhile (fun p => !p.good)).head?

/-- The fixed transmit queue of an egress (R286, R450, R486). -/
def egressQueue (e : Nat) : Nat := if e = 10 then 40 else if e = 11 then 34 else 24 + e

/-- The queue that an egress drains next: its fixed transmit queue, then the enabled forwarding queues bound to it, in ascending number (R322). -/
def State.nextEgress (s : State) (e : Nat) : Option Nat :=
  (egressQueue e :: (Tab.keys s.fabric.queues).filter fun q =>
    decide (128 ≤ q) && decide (q ≤ 255) && decide (s.qLimit q ≠ 0) && s.cfgN (0x8100 + q) 2 = e).find? fun q => (s.peekHead q).isSome

/-- An egress takes its next packet (R322). -/
def State.takeEgress (s : State) (e : Nat) : Option Packet × State := s.takeHead ((s.nextEgress e).getD (egressQueue e))

/-- The payload of a packet without its edge code. -/
def Packet.body (p : Packet) : Bytes := p.payload.take (p.payload.length - 4)

/-- Void every open packet and waiting request of a producer, with event 178; the count of reclaimed cells (R326). -/
def State.reclaim (s : State) (producer : Nat) : Nat × State :=
  let mine := s.fabric.opened.filter (·.producer = producer)
  let cells := (mine.map (·.cells)).sum
  let s1 := s.onFabric fun f => { f with
    opened := f.opened.filter (·.producer ≠ producer), waiters := f.waiters.filter (·.producer ≠ producer) }
  (cells, s1.raise 178 (le 1 producer ++ le 1 0 ++ le 2 mine.length ++ le 4 cells))

/-- Every packet of a queue is discarded. -/
def State.clearQueue (s : State) (q : Nat) : State := s.onQueue q fun x => { x with pkts := [] }

/-! ### Completing a host command (R450 to R453) -/

/-- A completion frame as it lies in HOST_OUT: PHASE clear (R450). -/
def completionFrame (op status tag seg : Nat) (more final : Bool) (data : Bytes) : Bytes :=
  withEdge (le 2 op ++ le 2 status ++ le 4 tag ++ le 4 (20 + data.length) ++
    le 1 (b2n more + 2 * b2n final) ++ le 1 seg ++ le 2 0 ++ data)

/-- The frames of one completion: data cut into segments of `n` bytes (R450, R458). -/
def completionFrames (n op status tag : Nat) (final : Bool) (data : Bytes) : List Bytes :=
  let cs := if data.isEmpty then [[]] else chunks n data
  cs.zipIdx.map (fun p => completionFrame op status tag p.2 (decide (p.2 + 1 < cs.length))
    (final && decide (p.2 + 1 = cs.length)) p.1)

/-- The entry of a command in flight. -/
def State.inflightOf (s : State) (hd : Bool) (tag : Nat) : Option Inflight :=
  s.host.inflight.find? (fun i => i.headend = hd ∧ i.tag = tag)

/-- A command that has ended is in flight no more (R452). -/
def State.dropInflight (s : State) (hd : Bool) (tag : Nat) : State :=
  s.onHost fun h => { h with inflight := h.inflight.filter (fun i => !(i.headend = hd ∧ i.tag = tag ∧ i.ended)) }

/-- Mark what a command in flight has come to: its first completion, its last one. -/
def State.markInflight (s : State) (hd : Bool) (tag : Nat) (final : Bool) : State :=
  s.onHost fun h => { h with inflight := h.inflight.map (fun i =>
    if i.headend = hd ∧ i.tag = tag then { i with first := true, ended := i.ended || final } else i) }

/-- The frames of a completion go to HOST_OUT, or to the head-end's channel (R450, R458). -/
def State.sendCompletion (s : State) (hd : Bool) (op tag status : Nat) (data : Bytes) (final : Bool) : State :=
  if hd then s.onHost fun h => { h with headOut := h.headOut ++ completionFrames 1380 op status tag final data }
  else (completionFrames 65536 op status tag final data).foldl (fun t f => t.send 11 40 f) s

/-- Send a completion of a command. One of a command that has timed out is discarded and counted (R452). -/
def State.complete (s : State) (hd : Bool) (op tag status : Nat) (data : Bytes) (final : Bool) : State :=
  if s.host.timedOut.contains (hd, op, tag) ∧ (s.inflightOf hd tag).all (·.ended) then
    s.onHost fun h => { h with
      timedOut := if final then h.timedOut.erase (hd, op, tag) else h.timedOut
      counters := { h.counters with lateDiscarded := h.counters.lateDiscarded + 1 } }
  else
    let s1 := (s.markInflight hd tag final).sendCompletion hd op tag status data final
    if hd ∧ final then s1.dropInflight hd tag else s1

/-- What a command's own rule answers; `later` when its one completion follows the work it waits for. -/
inductive Reply where
  | done (data : Bytes)
  | status (code : Nat) (data : Bytes)
  | accepted
  | acceptedWith (data : Bytes)
  | later
  deriving DecidableEq, Repr

/-- The frame of a host command (R448). -/
def cmdFrame (op : Nat) (c : HostCmd) : Bytes :=
  withEdge (le 2 op ++ le 2 c.flags ++ le 4 c.tag ++ le 4 (20 + c.req.length) ++ le 2 c.cmdset ++ le 2 c.reserved ++ c.req)

/-- The lowest status among the checks that fail (R22); none when all pass. -/
def firstFailure (checks : List (Bool × Nat)) : Option Nat :=
  checks.foldl (fun m c => if c.1 then (match m with | some x => some (min x c.2) | none => some c.2) else m) none

/-- The first failing check in the order given (R22). -/
def orderedFailure (checks : List (Bool × Nat)) : Option Nat := (checks.find? (·.1)).map (·.2)

/-- Commands of boot ROM recovery (R389). -/
def recoveryServed (op : Nat) : Bool :=
  [0x0801, 0x0805, 0x0807, 0x0810, 0x0811, 0x0812, 0x0813, 0x0814, 0x0815].contains op

/-- The status with which the mailbox state turns a command away (R453), if it does. -/
def State.phaseRefusal (s : State) (op : Nat) : Option Nat :=
  match s.host.phase with
  | 1 => if op / 256 = 1 ∨ op = 0x0801 ∨ op = 0x0805 ∨ op = 0x0807 ∨ op = 0x0815 then none else some stBusy
  | 2 => none
  | 3 => if recoveryServed op then none else some stDeniedAuth
  | _ => if op = 0x0120 then none else some stBusy

/-- Opcodes that the head-end may not use (R458). -/
def headendForbidden (op : Nat) (req : Bytes) : Bool :=
  [0x0122, 0x0803, 0x0804, 0x0C06, 0x0610, 0x0611, 0x0612, 0x0613, 0x0614].contains op || op / 256 = 0x1F ||
  (op = 0x0802 && getLE 4 2 req = 0x0104) || (op = 0x0205 && cfgRecordsTouchFog (req.drop 4))

/-- A head-end frame is denied: event 23 with the denials since the last one (R458, R461). -/
def State.headendDenied (s : State) (op : Nat) : State :=
  let s1 := s.onHost fun h => { h with
    counters := { h.counters with headDenied := h.counters.headDenied + 1 }, headDeniedSince := h.headDeniedSince + 1 }
  (s1.raise 23 (le 2 op ++ le 2 0 ++ le 4 s1.host.headDeniedSince)).onHost fun h => { h with headDeniedSince := 0 }

/-- Whether an earlier command of the same opcode group has no first completion yet (R451, log 179). -/
def State.firstOwed (s : State) (hd : Bool) (op : Nat) : Bool :=
  s.host.inflight.any fun i => i.headend = hd && !i.first && i.opcode / 256 = op / 256

/-- Whether a command can start now: a place is free among the commands in flight, first completions of its group are not owed (they go in the
order taken), and no ORDERED command is in flight or, for an ORDERED one, no command at all (R451, R452). -/
def State.canStart (s : State) (op : Nat) (c : HostCmd) : Bool :=
  let mine := s.host.inflight.filter (·.headend = c.headend)
  decide (mine.length < (if c.headend then 32 else 256)) && !s.firstOwed c.headend op && !mine.any (·.ordered) && (c.flags % 2 = 0 || mine.isEmpty)

/-- Release the frame of a taken command from the head of HOST_IN, or from the frames that the head-end sent. -/
def State.releaseFrame (s : State) (op : Nat) (c : HostCmd) : State :=
  if c.headend then s.onHost fun h => { h with headIn := h.headIn.erase (cmdFrame op c) } else
  match s.peekHead 11 with
  | some p => if p.payload = cmdFrame op c then (s.takeHead 11).2 else s
  | none => s

/-- Whether the mailbox takes a command now: it is up, the head-end channel is not shut (R458), the command can start. A command that is
not taken waits where it is, but for a head-end frame on a shut channel, which is discarded. -/
def State.takes (s : State) (op : Nat) (c : HostCmd) : Bool :=
  decide (s.host.phase ≠ 0) && !(c.headend && decide (s.cfgN 0x0010 2 = 0)) && s.canStart op c

/-- Whether the tag of a command is in flight already on its channel. -/
def State.tagInFlight (s : State) (c : HostCmd) : Bool := (s.inflightOf c.headend c.tag).isSome

/-- The stamp of a command (R260): that of the pass in which its frame was fetched; NT for a frame of the head-end. -/
def State.stampOf (s : State) (op : Nat) (c : HostCmd) : Nat × Nat :=
  if c.headend then (s.time.nt.sec, s.time.nt.ns)
  else match s.peekHead 11 with
  | some p => if p.payload = cmdFrame op c then s.host.passStamps.getD p.seq s.host.doorbellStamp else s.host.doorbellStamp
  | none => s.host.doorbellStamp

/-- The state in which a taken command runs: its frame has left its queue, it is counted, stamped and stands in flight. -/
def State.taken (s : State) (op : Nat) (c : HostCmd) : State :=
  (s.releaseFrame op c).onHost fun h => { h with
    cmdStamp := s.stampOf op c
    counters := { h.counters with taken := h.counters.taken + 1 }
    inflight := if s.tagInFlight c then h.inflight else h.inflight ++ [{ headend := c.headend, opcode := op, tag := c.tag, ordered := decide (c.flags % 2 = 1) }] }

/-- What is wrong with the frame of a command itself (R448, R449, R451). -/
def State.frameBad (s : State) (c : HostCmd) : Bool :=
  decide (2 ≤ c.flags) || decide (c.cmdset ≠ 3) || decide (c.reserved ≠ 0) || decide (c.tag = 0xFFFFFFFF) || s.tagInFlight c

/-- Whether the head-end is denied this command (R458). -/
def headendDenies (op : Nat) (c : HostCmd) : Bool := c.headend && headendForbidden op c.req

/-- The status with which a taken command fails, the lowest of all that apply (R22); none when nothing does. -/
def State.verdict (s : State) (op : Nat) (c : HostCmd) (checks : List (Bool × Nat)) : Option Nat :=
  firstFailure (((s.phaseRefusal op).isSome, (s.phaseRefusal op).getD stBusy) :: (s.frameBad c, stBadField) :: (headendDenies op c, stDeniedAuth) :: checks)

/-- Whether a command is taken and neither the mailbox's state nor its frame turns it away: what is left is its own rule. -/
def State.accepts (s : State) (op : Nat) (c : HostCmd) : Bool := s.takes op c && (s.verdict op c []).isNone

/-- Judge and serve one host command (R22, R449, R451, R453); the refusal of a tag that is in flight already ends nothing. `checks` are the command's own failures beside the
frame's; `body` has its effect; `post` follows the completion of a command that is DONE or ACCEPTED. -/
def State.serve (s : State) (op : Nat) (c : HostCmd) (checks : State → List (Bool × Nat))
    (body : State → State × Reply) (post : State → State := id) : State :=
  if s.host.phase = 0 then s
  else if c.headend ∧ s.cfgN 0x0010 2 = 0 then
    s.onHost fun h => { h with counters := { h.counters with headDiscarded := h.counters.headDiscarded + 1 } }
  else if !s.canStart op c then s
  else
    let s1 := s.taken op c
    match s.verdict op c (checks s) with
    | some code =>
      let s2 := if headendDenies op c ∧ code = stDeniedAuth then s1.headendDenied op else s1
      if s.tagInFlight c then s2.sendCompletion c.headend op c.tag code [] true else s2.complete c.headend op c.tag code [] true
    | none =>
      let (s3, r) := body s1
      match r with
      | .done d => post (s3.complete c.headend op c.tag stDone d true)
      | .status code d => s3.complete c.headend op c.tag code d true
      | .accepted => post (s3.complete c.headend op c.tag stAccepted [] false)
      | .acceptedWith d => s3.complete c.headend op c.tag stAccepted d false
      | .later => s3

/-- Remember that an ACCEPTED command ends with the work `kind`, `key` (R451). -/
def State.defer (s : State) (kind key op : Nat) (c : HostCmd) : State :=
  s.onHost fun h => { h with deferred := h.deferred ++ [{ kind := kind, key := key, headend := c.headend, opcode := op, tag := c.tag }] }

/-- Write the second completion of the commands that wait for the work `kind`, `key` (R451). -/
def State.finish (s : State) (kind key status : Nat) (data : Bytes) : State :=
  let mine := s.host.deferred.filter (fun d => d.kind = kind ∧ d.key = key)
  let s1 := s.onHost fun h => { h with deferred := h.deferred.filter (fun d => !(d.kind = kind ∧ d.key = key)) }
  mine.foldl (fun t d => t.complete d.headend d.opcode d.tag status data true) s1

/-- The length check of a request of exactly `n` bytes. -/
def lenIs (c : HostCmd) (n : Nat) : Bool × Nat := (decide (c.req.length ≠ n), stBadLength)

/-- A field check: the command fails with BAD_FIELD when `bad`. -/
def badField (bad : Bool) : Bool × Nat := (bad, stBadField)

/-- The unit time of OT, PCC. -/
def State.stampBytes (s : State) : Bytes := le 5 s.power.ot ++ le 3 s.power.pcc

/-- A command served with no data, no checks but its length. -/
def State.serveQuery (s : State) (op : Nat) (c : HostCmd) (n : Nat) (bad : State → Bool) (data : State → Bytes) : State :=
  s.serve op c (fun t => [lenIs c n, badField (bad t)]) (fun t => (t, .done (data t)))

end Sys2Proof.Machine
end

