-- ==== Sys2Proof/Machine/CfgOps.lean ====
section
/-! DEFINITION. How a generation comes into force and is proved or reverted (R465, R466, R469, R470, R473, R474): the
part that other blocks call. -/

namespace Sys2Proof.Machine

/-- Work kind of a CFG_COMMIT or CFG_FACTORY that waits for the blocks to adopt (R470). -/
abbrev workCommit : Nat := 1
/-- Work kind of a CFG_REVERT that waits for the blocks to adopt (R474). -/
abbrev workRevert : Nat := 2

/-- The owner nibble, field and element of an image key. -/
def keyObj (k : Nat) : Nat := k / 65536
def keyField (k : Nat) : Nat := k / 256 % 256
def keyElem (k : Nat) : Nat := k % 256

/-- The effect class of the field behind an image key. -/
def keyEffect (k : Nat) : Effect := ((fieldOf (keyObj k) (keyField k)).map (·.effect)).getD .safe

/-- The keys at which two images differ. -/
def imageDiff (a b : Tab Int) : List Nat :=
  ((a.filter (fun p => b.get? p.1 ≠ some p.2)).map (·.1) ++ (b.filter (fun p => !a.has p.1)).map (·.1)).eraseDups

/-- `run` with the elements at keys `ks` taken from `im`. -/
def takeKeys (ks : List Nat) (im run : Tab Int) : Tab Int :=
  ks.foldl (fun r k => match im.get? k with
    | some v => r.set k v
    | none => r.erase k) run

/-- The RESTART fields whose value in force differs from the running value (R473). -/
def State.pendingRestart (s : State) : List Nat :=
  (imageDiff s.cfg.running s.cfg.force.values).filter (fun k => keyEffect k = .restart)

/-- config-setup values of the generation before the one being proved (R473). -/
def State.proveCfg (s : State) (f : Nat) : Nat :=
  match s.cfg.prior with
  | some g => (cfgValue g.values 0x0020 f 0).toNat
  | none => (cfgValue s.cfg.force.values 0x0020 f 0).toNat

/-- Frames received per port in the last `n` seconds (R473 criterion RECEIVE). -/
def State.rxSince (s : State) (n : Nat) : List Nat :=
  (s.cfg.rxHist.filter (fun p => decide (s.power.ot < p.1 + n))).foldl
    (fun acc p => List.zipWith (· + ·) acc p.2) (List.replicate 8 0)

/-- A port (0 to 3 PLC, 4 to 7 radio) received a frame: counted for criterion RECEIVE (R473). -/
def State.countRx (s : State) (port : Nat) : State :=
  s.onCfg fun c => { c with
    rxHist := c.rxHist.upd s.power.ot (List.replicate 8 0) (fun l => l.set port (l.getD port 0 + 1))
    rxPeriod := if c.genState = .proving ∧ !c.paused then c.rxPeriod.set port (c.rxPeriod.getD port 0 + 1) else c.rxPeriod }

/-- Every block has adopted (R470 step 3): the commit completes with DONE and proving begins (R473). A reverted
generation is proven at once; when it restores a RESTART field the device is due for a restart (R474). -/
def State.genDone (s : State) : State :=
  let n := s.cfg.force.number
  let reverted := s.cfg.force.origin = 2 ∨ s.cfg.force.origin = 3
  let pendingR := !s.pendingRestart.isEmpty
  let s1 := s.onCfg fun c => { c with
    genState := if reverted then .proven else if pendingR then .pendingRestart else .proving
    remaining := if reverted then 0 else s.proveCfg 0
    paused := !reverted && s.fog.unlock.isSome
    rxBefore := s.rxSince (s.proveCfg 0)
    rxPeriod := List.replicate 8 0
    failed := 0
    levelAtDone := s.time.level
    gateResets := 0
    restartDue := c.restartDue || (reverted && pendingR) }
  (s1.finish workCommit n stDone []).finish workRevert n stDone (le 4 n)

/-- What serves the objects that `want` names is at its safe point and loads their SAFE fields (R470 step 2); the last object to be
adopted completes the commit. -/
def State.adoptObjs (s : State) (want : Nat → Bool) : State :=
  if s.cfg.adopting.any want then
    let ks := (imageDiff s.cfg.running s.cfg.force.values).filter (fun k => keyEffect k = .safe && want (keyObj k))
    let s1 := s.onCfg fun c => { c with
      running := takeKeys ks c.force.values c.running, adopting := c.adopting.filter (fun o => !want o) }
    if s1.cfg.adopting.isEmpty then s1.genDone else s1
  else s

/-- A block that is at its safe point whole. -/
def State.adopt (s : State) (nibble : Nat) : State := s.adoptObjs fun o => o / 4096 = nibble

/-- Owner nibbles whose safe point is an event of their own (R124, R222, R252, R276, R310, R511); every other block is
at its safe point between two commands. -/
def laterNibbles : List Nat := [2, 4, 5, 6, 7, 13]

/-- A new generation with the given image comes into force (R465, R466, R470). Until every block has adopted it counts as
PROVING with its period not begun; one that a revert replaces before that ends its command with BAD_GENERATION (log 48). -/
def State.bringInForce (s : State) (values : Tab Int) (origin : Nat) : State :=
  let n := s.cfg.highest + 1
  let old := s.cfg.force
  let g : Generation := { number := n, base := old.number, origin := origin, values := values }
  let reverting := origin = 2 ∨ origin = 3
  let ks := imageDiff s.cfg.running values
  let imm := ks.filter (fun k => keyEffect k = .imm)
  let safeNow := ks.filter (fun k => keyEffect k = .safe && !laterNibbles.contains (keyObj k / 4096))
  let safeLater := ((ks.filter (fun k => keyEffect k = .safe && laterNibbles.contains (keyObj k / 4096))).map
    keyObj).eraseDups
  let s1 := (s.onCfg fun c => { c with
    highest := n
    force := g
    prior := if reverting then c.prior else if c.genState = .proven then some old else c.prior
    genState := if reverting then .proven else .proving
    remaining := 0
    paused := true
    running := takeKeys (imm ++ safeNow) values c.running
    adopting := safeLater }).poolCheck s.sharedFree
  let s2 := if s.cfg.adopting.isEmpty then s1 else s1.finish workCommit old.number stBadGeneration []
  if safeLater.isEmpty then s2.genDone else s2

/-- A revert: a new generation with the prior generation's image, event 27 (R474). `cause` is 1 when proving failed and
2 when commanded. -/
def State.revert (s : State) (cause : Nat) : State :=
  match s.cfg.prior with
  | none => s
  | some p =>
    (s.bringInForce p.values (if cause = 1 then 2 else 3)).raise 27 (le 1 cause ++ zeros 3 ++ le 4 (s.cfg.highest + 1))

/-- A criterion of R473 fails that is judged at once: the generation under proof is reverted (R474). -/
def State.criterionFails (s : State) (b : Nat) : State :=
  if s.cfg.genState = .proving ∧ !s.cfg.paused ∧ bit (s.proveCfg 1) b then
    (s.onCfg fun c => { c with failed := setBit c.failed b true }).revert 1
  else s

/-- Ports that count for criterion RECEIVE: enabled PLC ports and radios (R473). -/
def State.rxPortEnabled (s : State) (p : Nat) : Bool :=
  if p < 4 then s.cfgN (0x4000 + p) 0 = 1 else s.cfgN (0x5000 + (p - 4)) 0 = 1

/-- Whether criterion RECEIVE holds for frames received over `elapsed` of the `full` seconds (R473). -/
def State.receiveHolds (s : State) (elapsed full : Nat) : Bool :=
  (List.range 8).all fun p =>
    let before := s.cfg.rxBefore.getD p 0
    !s.rxPortEnabled p || decide (before < 100) ||
    decide (s.proveCfg 2 * before * elapsed ≤ 100 * (s.cfg.rxPeriod.getD p 0) * full)

/-- The proving period ends: proven with event 26, or reverted when RECEIVE fails (R473, R474). -/
def State.endProving (s : State) : State :=
  let full := s.proveCfg 0
  let elapsed := full - s.cfg.remaining
  if bit (s.proveCfg 1) 2 ∧ !s.receiveHolds elapsed full then
    (s.onCfg fun c => { c with failed := setBit c.failed 2 true }).revert 1
  else
    (s.onCfg fun c => { c with genState := .proven, remaining := 0 }).raise 26 (le 4 s.cfg.force.number)

end Sys2Proof.Machine
end

