-- ==== Sys2Proof/Machine/RingMem.lean ====
section
/-! DEFINITION. The memory that holds the rings (R442, R447): a canonical list of cells, addresses strictly rising, no
cell equal to 0, which is what an unlisted byte reads as (log 4). -/

namespace Sys2Proof.Machine
open Sys2Proof

/-- Memory as a list of cells. -/
abbrev Memory := List Host.Cell

/-- The byte at an address. -/
def Memory.read : Memory → Nat → Byte
  | [], _ => 0#8
  | (j, b) :: t, a => if j = a then b else Memory.read t a

/-- Memory without the cell at an address. -/
def Memory.clear : Memory → Nat → Memory
  | [], _ => []
  | (j, b) :: t, a => if j = a then t else (j, b) :: Memory.clear t a

/-- Memory with the byte at an address put in its place among the rising addresses. -/
def Memory.insert : Memory → Nat → Byte → Memory
  | [], a, b => [(a, b)]
  | (j, c) :: t, a, b =>
    if a < j then (a, b) :: (j, c) :: t
    else if a = j then (a, b) :: t
    else (j, c) :: Memory.insert t a b

/-- Write one byte: writing 0 removes the cell. -/
def Memory.write (m : Memory) (a : Nat) (b : Byte) : Memory := if b = 0#8 then m.clear a else m.insert a b

/-- Write bytes at ascending addresses. -/
def Memory.writeBytes : Memory → Nat → Bytes → Memory
  | m, _, [] => m
  | m, a, b :: t => Memory.writeBytes (m.write a b) (a + 1) t

/-- Read `n` bytes at ascending addresses. -/
def Memory.readBytes (m : Memory) (a n : Nat) : Bytes := (List.range n).map (fun i => m.read (a + i))

/-- The canonical form, with every address above `lo`. -/
def Memory.wfFrom : Nat → Memory → Bool
  | _, [] => true
  | lo, (j, b) :: t => decide (lo ≤ j) && decide (b ≠ 0#8) && Memory.wfFrom (j + 1) t

/-- The canonical form. -/
def Memory.wf (m : Memory) : Bool := Memory.wfFrom 0 m

end Sys2Proof.Machine
end

