-- ==== Sys2Proof/Machine/HostOps.lean ====
section
/-! DEFINITION. The rings as the device writes them: MSI-X vectors (R456), notification entries (R455), completion
frames (R447, R450), and the clearing of ENABLE (R454). -/

namespace Sys2Proof.Machine
open Sys2Proof

/-- Whether the strap selects QSPI (R438). -/
def State.qspi (s : State) : Bool := s.straps.hif

/-- MBX_CTRL.ENABLE and NTF_CTRL.ENABLE. -/
def State.mbxEnabled (s : State) : Bool := s.host.mbxCtrl.toNat % 2 = 1
def State.ntfEnabled (s : State) : Bool := s.host.ntfCtrl.toNat % 2 = 1

/-- MBX_STATE (R444, R453): OFF while ENABLE is clear. -/
def State.mbxState (s : State) : Nat := if s.mbxEnabled then s.host.phase else 0

/-- Slots of the command ring, the completion ring and entries of the notification ring (R444, R445). -/
def State.crSlots (s : State) : Nat := if s.qspi then 8192 else 2 ^ (s.host.crSize.toNat % 16)
def State.cprSlots (s : State) : Nat := if s.qspi then 4096 else 2 ^ (s.host.cprSize.toNat % 16)
def State.ntfEntries (s : State) : Nat := if s.qspi then 2048 else 2 ^ (s.host.ntfSize.toNat % 16)

/-- Ring base addresses (R442, R444, R447). -/
def State.crBase (s : State) : Nat := if s.qspi then 0x100000 else s.host.crBaseHi.toNat * 2 ^ 32 + s.host.crBaseLo.toNat / 64 * 64
def State.cprBase (s : State) : Nat := if s.qspi then 0x180000 else s.host.cprBaseHi.toNat * 2 ^ 32 + s.host.cprBaseLo.toNat / 64 * 64
def State.ntfBase (s : State) : Nat := if s.qspi then 0x1C0000 else s.host.ntfBaseHi.toNat * 2 ^ 32 + s.host.ntfBaseLo.toNat / 16 * 16

/-- The MSI-X vector of an event source: 0 is treated as 15 (R445). -/
def State.vectorOf (s : State) (src : Nat) : Nat :=
  let v := (s.host.ntfVec.getD (src / 8) 0).toNat / 2 ^ (4 * (src % 8)) % 16
  if v = 0 then 15 else v

/-- Whether an event source is notified (R445). -/
def State.unmasked (s : State) (src : Nat) : Bool := bit (s.host.ntfMask.getD (src / 32) 0).toNat (src % 32)

/-- NT as seconds and nanoseconds. -/
def State.ntStamp (s : State) : Nat × Nat := (s.time.nt.sec, s.time.nt.ns)

/-- Whether the MSI-X table masks a vector: bit 0 of its vector control word, which PCI Express sets at reset (log 15). -/
def State.vecMasked (s : State) (v : Nat) : Bool := s.host.msix.getD (v * 16 + 12) 1 % 2 = 1

/-- The message of a vector is sent, or stands in the PBA while the vector is masked (R456). -/
def State.sendMsi (s : State) (v : Nat) : State :=
  if s.vecMasked v then s.onHost fun h => { h with msixPending := if h.msixPending.contains v then h.msixPending else h.msixPending ++ [v] }
  else s.onHost fun h => { h with vecSent := h.vecSent.upd v 0 (· + 1), irqStamp := s.ntStamp, msixPending := h.msixPending.erase v }

/-- An entry for an MSI-X vector has been written: its message is sent, or waits for the end of the interval (R456). With
QSPI the vectors have no effect (R441). -/
def State.signal (s : State) (v : Nat) : State :=
  if s.qspi then s
  else if s.host.vecCooling.contains v then
    s.onHost fun h => { h with vecPending := if h.vecPending.contains v then h.vecPending else h.vecPending ++ [v] }
  else
    (s.sendMsi v).onHost fun h => { h with vecCooling := if s.cfgN 0x0010 1 = 0 then h.vecCooling else h.vecCooling ++ [v] }

/-- The interval of a vector ends: one message covers the entries that fell inside it (R456). -/
def State.coalesceEnd (s : State) (v : Nat) : State :=
  if s.host.vecPending.contains v then (s.onHost fun h => { h with vecPending := h.vecPending.erase v }).sendMsi v
  else s.onHost fun h => { h with vecCooling := h.vecCooling.erase v }

/-- A notification entry (R455). -/
def ntfEntry (typ : Nat) (phase : Bool) (src : Nat) (rec32 : Bytes) : Bytes :=
  withEdge (le 1 typ ++ le 1 (128 * b2n phase) ++ le 2 src ++ padTo 32 rec32 ++ zeros 8)

/-- Whether the notification ring has a free entry: one entry always stays free (log 14). -/
def State.ntfFree (s : State) : Bool :=
  decide ((s.host.ntfTail.toNat + 1) % s.ntfEntries ≠ s.host.ntfHead.toNat % s.ntfEntries)

/-- Write one entry at the tail, move the tail and signal the vector. -/
def State.putNtf (s : State) (typ src vecSrc : Nat) (d : Bytes) : State :=
  let t := s.host.ntfTail.toNat
  let nt := (t + 1) % s.ntfEntries
  (s.onHost fun h => { h with
    ringMem := Memory.writeBytes h.ringMem (s.ntfBase + t * 48) (ntfEntry typ h.ntfPhase src d)
    ntfTail := BitVec.ofNat 32 nt
    ntfPhase := if nt = 0 then !h.ntfPhase else h.ntfPhase
    counters := { h.counters with ntfWritten := h.counters.ntfWritten + 1 } }).signal (s.vectorOf vecSrc)

/-- The LOST entry that is owed is written when an entry is free, and event 21 is raised (R455). -/
def State.payLost (s : State) : State :=
  if s.host.ntfOwed = 0 ∨ !s.ntfEnabled ∨ !s.ntfFree then s
  else
    let n := s.host.ntfOwed
    ((s.putNtf 2 0xFFFF 21 (le 4 n)).onHost fun h => { h with ntfOwed := 0 }).raise 21 (le 4 n)

/-- Notify a recorded event (R455): one entry, or one more loss when the ring has no free entry. -/
def State.notify (s : State) (src : Nat) (rec32 : Bytes) : State :=
  if !s.ntfEnabled ∨ !s.unmasked src then s
  else
    let s1 := s.payLost
    if s1.ntfFree then s1.putNtf 1 src src rec32
    else s1.onHost fun h => { h with
      ntfLost := h.ntfLost + 1, ntfOwed := h.ntfOwed + 1
      counters := { h.counters with ntfLost := h.counters.ntfLost + 1 } }

/-- Clear ENABLE (R454): fetching stops, completions in HOST_OUT are released unwritten, the credits are reclaimed, event
17 is raised. -/
def State.clearEnable (s : State) (cause : Nat) : State :=
  if !s.mbxEnabled then s
  else
    let s1 := (s.onHost fun h => { h with mbxCtrl := 0 }).clearQueue 40
    let s2 := s1.onFabric fun f => { f with waiters := f.waiters.filter (·.queue ≠ 40) }
    let s3 := s2.onHost fun h => { h with inflight := h.inflight.filter (fun i => !(!i.headend && i.ended)) }
    ((s3.reclaim 10).2).raise 17 (le 1 1 ++ le 1 0 ++ le 1 cause)

/-- A ring error (R449): ENABLE is cleared, MBX_ERR.FRAME set, event 22 raised; criterion MAILBOX fails (R473). -/
def State.ringError (s : State) (ring cause slot : Nat) : State :=
  let s1 := (s.clearEnable 3).onHost fun h => { h with
    mbxErr := h.mbxErr ||| 1, counters := { h.counters with ringErrors := h.counters.ringErrors + 1 } }
  (s1.raise 22 (le 1 ring ++ le 1 cause ++ zeros 2 ++ le 4 slot)).criterionFails 1

/-- An out-of-range doorbell: ignored, MBX_ERR.DOORBELL, event 22 with cause 3 (R449). -/
def State.doorbellError (s : State) (ring value : Nat) : State :=
  let s1 := s.onHost fun h => { h with
    mbxErr := h.mbxErr ||| 2, counters := { h.counters with ringErrors := h.counters.ringErrors + 1 } }
  (s1.raise 22 (le 1 ring ++ le 1 3 ++ zeros 2 ++ le 4 value)).criterionFails 1

end Sys2Proof.Machine
end

