-- ==== Sys2Proof/Machine/Store.lean ====
section
/-! DEFINITION. The storage manager: accepting, programming and committing records, expiry, development, garbage
collection, refresh, failures, the full and frozen states, the map, upload batches and volumes (R333 to R365). -/

namespace Sys2Proof.Machine
open Sys2Proof

/-- The Arrhenius factor as a Q16.16 table from -40 to 125 °C (R351); its entry for 85 °C is the one the rule's own
table and its example give (log 11). -/
def afTable : List Nat :=
  [0, 0, 0, 0, 0, 0, 0, 0, 0, 0, 1, 1, 1, 1] ++
  [1, 2, 2, 2, 3, 3, 4, 5, 6, 8, 9, 11, 13, 16] ++
  [20, 24, 28, 34, 41, 49, 59, 70, 84, 100, 119, 141, 168, 199] ++
  [235, 278, 329, 388, 457, 538, 633, 744, 873, 1023, 1197, 1400, 1635, 1908] ++
  [2224, 2589, 3011, 3499, 4061, 4710, 5455, 6313, 7299, 8430, 9727, 11213, 12914, 14859] ++
  [17081, 19617, 22509, 25805, 29557, 33824, 38674, 44182, 50430, 57513, 65536, 74616, 84884, 96487] ++
  [109587, 124366, 141026, 159793, 180916, 204673, 231373, 261359, 295010, 332746, 375033, 422386, 475374, 534627] ++
  [600838, 674776, 757284, 849294, 951832, 1066026, 1193119, 1334474, 1491591, 1666117, 1859855, 2074787, 2313083, 2577119] ++
  [2869497, 3193062, 3550926, 3946489, 4383464, 4865902, 5398227, 5985257, 6632245, 7344911, 8129483, 8992736, 9942034, 11003494] ++
  [12131487, 13389779, 14770508, 16284787, 17944662, 19763187, 21754497, 23933896, 26317938, 28924530, 31773023, 34884328, 38281025, 41987487] ++
  [46030012, 50436959, 55238899, 60468770, 66162045, 72356913, 79094465, 86418899, 94377734, 103022034, 112406655, 122590497, 133636780, 145613330] ++
  [158592887, 172653427, 187878506, 204357628, 222186622, 241468058, 262311672, 284834823, 309162975, 335430208, 363779750, 394364550]

/-- AF(T) for a sensor reading in whole degrees Celsius (R351). -/
def afOf (t : Int) : Nat := afTable.getD (clampI (-40) 125 t + 40).toNat 0

/-- Bytes of a NAND page (R333). -/
abbrev pageBytes : Nat := 16384

/-- Seconds of a week of OT (R340). -/
abbrev weekS : Nat := 604800

/-- Hot streams (R336). -/
def streamHot (st : Nat) : Bool := [0, 2, 3, 8, 10, 11].contains st

/-- Critical streams (R336). -/
def streamCritical (st : Nat) : Bool := [0, 2, 3, 11].contains st

/-- Streams that exist (R336). -/
def streamExists (st : Nat) : Bool := decide (st ≤ 12) || (decide (16 ≤ st) && decide (st ≤ 31))

/-- Field of stream-retention of a stream, if it has one (R363). -/
def retentionField (st : Nat) : Option Nat :=
  if 1 ≤ st ∧ st ≤ 7 then some (st - 1) else if st = 9 then some 7 else if st = 12 then some 8 else none

/-- Expiry week of a record written now with a retention of `days` days (R340). -/
def State.weekFor (s : State) (days : Nat) : Nat := cdiv (s.power.ot + days * 86400) weekS

/-- Expiry week of a record of stream `st` (R340, R361): 0xFFFF where the stream has no retention. -/
def State.streamWeek (s : State) (st : Nat) : Nat :=
  match retentionField st with
  | some f => s.weekFor (s.cfgN 0x9001 f)
  | none =>
    if 16 ≤ st then
      match s.store.vols.get? (st - 16) with
      | some v => if v.days = 0 then 0xFFFF else s.weekFor v.days
      | none => 0xFFFF
    else 0xFFFF

/-- Whether a week has passed (R340, R342). -/
def State.weekPassed (s : State) (w : Nat) : Bool := decide (w ≠ 0xFFFF) && decide (w * weekS ≤ s.power.ot)

/-- Channel and channel sequence of a recorder record. -/
def recChannelOf (d : Bytes) : Nat := getLE 18 1 d
def recSeqOf (d : Bytes) : Nat := getLE 0 8 d

/-- Whether an open exposure pins a roll record (R376). -/
def State.pinned (s : State) (ch sq : Nat) : Bool :=
  s.recd.exposures.any (fun e => e.channel = ch ∧ e.low ≤ sq ∧ sq < e.stop)

/-- Whether a stored record can be read: valid and not expired (R340), or pinned by an exposure beyond its expiry (R373). -/
def State.recValid (s : State) (r : StoreRec) : Bool :=
  !r.invalid && (!s.weekPassed r.week || ((r.stream = 10 || r.stream = 11) && s.pinned (recChannelOf r.data) (recSeqOf r.data)))

/-- Whether every die with a page of the record is online (R350). -/
def State.readable (s : State) (r : StoreRec) : Bool := r.dies.all fun d => (s.store.dies.getD d {}).online

/-- The valid records of a stream, in stream order. -/
def State.validRecs (s : State) (st : Nat) : List StoreRec :=
  s.store.recs.vals.filter (fun r => r.stream = st && r.committed && s.recValid r)

/-- The records of a stream that can be read, in stream order. -/
def State.streamRecs (s : State) (st : Nat) : List StoreRec := (s.validRecs st).filter s.readable

/-- Whether a read that takes the valid records of a stream which `want` names meets one on an offline die: it completes with INTERNAL_FAULT
(R350). -/
def State.meetsOffline (s : State) (st : Nat) (want : StoreRec → Bool) : Bool := (s.validRecs st).any fun r => want r && !s.readable r

/-- Superblock `i`. -/
def State.sb (s : State) (i : Nat) : Sb := s.store.sbs.getD i {}

/-- Superblock `i` changed by `f`. -/
def State.onSb (s : State) (i : Nat) (f : Sb → Sb) : State :=
  s.onStore fun t => { t with sbs := t.sbs.upd i {} f }

/-- Positions of a superblock (R333, R335). -/
def sbPositions (i : Nat) : Nat := (if i < 34 then 384 else 1152) * 8

/-- The first position from `w` on whose die takes programs: the positions of offline and hung dies are skipped (R335, R350). -/
def State.posFrom (s : State) (w : Nat) : Nat :=
  (((List.range 8).map (· + w)).find? fun p => let x := s.store.dies.getD (p % 8) {}; x.online && !x.hung).getD w

/-- The next `k` positions from `w` on that take programs. -/
def State.livePages (s : State) : Nat → Nat → List Nat
  | 0, _ => []
  | k + 1, w => s.posFrom w :: State.livePages s k (s.posFrom w + 1)

/-- F: free TLC superblocks, counting those erasable under R342 (R346, R354). -/
def State.freeTlc (s : State) : Nat :=
  910 - ((s.store.sbs.filter (fun p => decide (34 ≤ p.1) && decide (p.1 ≤ 943) && decide (p.2.phase ≠ .erased) &&
    !(s.weekPassed p.2.week && (p.2.phase = .full || p.2.phase = .closed || p.2.phase = .verified || p.2.phase = .opened)))).length)

/-- Erased TLC superblocks that a target can be opened in. -/
def State.erasedTlc (s : State) : Option Nat :=
  ((List.range 910).map (· + 34)).find? (fun i => (s.sb i).phase = .erased)

/-- L: erased superblocks of the reserved latent area (R354). -/
def State.freeReserved (s : State) : Nat := (([28, 29, 30, 31] : List Nat).filter (fun i => (s.sb i).phase = .erased)).length

/-- The superblocks of the general latent area in phase `p` (R334). -/
def State.latentIn (s : State) (p : SbPhase) : List Nat := (List.range 28).filter (fun i => (s.sb i).phase = p)

/-- Stack accumulators taken at a close (R351). -/
def State.closeSb (s : State) (i : Nat) (p : SbPhase) : State :=
  s.onSb i fun b => { b with phase := p, closedA := s.store.ageA, closedOt := s.power.ot }

/-! ### Recorder channels as the store keeps them (R373, R375) -/

/-- Invalidate the roll records of a channel that fall at or below high − roll_records and are not pinned (R373). -/
def State.trimRoll (s : State) (ch : Nat) : State :=
  match (s.recd.channels.getD ch {}).high with
  | none => s
  | some high =>
    let roll := s.cfgN (0xA010 + ch) 0
    let n := recNegative ch
    s.onStore fun t => { t with
      recs := t.recs.mapVals fun _ r =>
        if (r.stream = 10 ∨ r.stream = 11) ∧ recChannelOf r.data = ch ∧ n ≤ recSeqOf r.data ∧
            recSeqOf r.data + roll ≤ high ∧ !s.pinned ch (recSeqOf r.data)
        then { r with invalid := true } else r }

/-- A recorder record is committed: the channel's high, event 226 when record N − 1 is stored, the roll's trim (R373). -/
def State.recorderCommitted (s : State) (d : Bytes) : State :=
  let ch := recChannelOf d
  let sq := recSeqOf d
  let c := s.recd.channels.getD ch {}
  let closes := sq + 1 = recNegative ch ∧ !c.negClosed
  let s1 := s.onRec fun r => { r with channels := r.channels.upd ch {} fun c =>
    { c with high := some sq, negClosed := c.negClosed || decide (sq + 1 = recNegative ch) } }
  let s2 := if closes then s1.raise 226 (le 1 ch) else s1
  s2.trimRoll ch

/-- An ordinary recorder record is refused after its sequence was assigned: counted per channel (R375). -/
def State.recorderLost (s : State) (d : Bytes) : State :=
  let ch := recChannelOf d
  s.onRec fun r => { r with channels := r.channels.upd ch {} fun c =>
    { c with lost := c.lost + 1, lostRun := c.lostRun + 1, lostFirst := some (c.lostFirst.getD (recSeqOf d)) } }

/-- Event 225 for the losses counted since the last one, when a record of the channel is stored again (R375, log 12). -/
def State.reportLost (s : State) (ch : Nat) : State :=
  let c := s.recd.channels.getD ch {}
  if c.lostRun = 0 then s
  else
    (s.onRec fun r => { r with channels := r.channels.upd ch {} fun c => { c with lostRun := 0, lostFirst := none } }).raise 225
      (le 1 ch ++ le 1 0 ++ le 2 (min c.lostRun 0xFFFF) ++ le 4 (c.lostFirst.getD 0))

/-! ### Upload batches (R359) -/

/-- Mark records UNSIGNED (R53, R359). -/
def State.markUnsigned (s : State) (ids : List Nat) : State :=
  s.onStore fun t => { t with recs := ids.foldl (fun m i => m.adj i fun r => { r with flags := setBit r.flags 2 true }) t.recs }

/-- The batch number and the cell count of a batch header record (R51). -/
def headerNumber (d : Bytes) : Nat := getLE 8 8 d
def headerCount (d : Bytes) : Nat := getLE 16 4 d

/-- A READING record is committed: batches form by the grouping of R359. -/
def State.readingCommitted (s : State) (id : Nat) (r : StoreRec) : State :=
  if r.kind = 0x86 then
    let s1 := match s.store.groupHeader with
      | some h => s.markUnsigned (h :: s.store.groupHdrCells)
      | none => s
    s1.onStore fun t => { t with
      groupHeader := some id, groupHdrCells := t.groupCells, groupCells := [], groupHdrLost := t.readingLost, readingLost := false }
  else if r.kind = 0x87 then
    match s.store.groupHeader with
    | some h =>
      let hd := ((s.store.recs.get? h).map (·.data)).getD []
      let cells := s.store.groupHdrCells
      let ok := decide (cells.length = headerCount hd) && !s.store.groupHdrLost
      let firstSeq := ((cells.head?).bind s.store.recs.get?).map (·.seq) |>.getD 0
      let e : BatchEntry := { header := ((s.store.recs.get? h).map (·.seq)).getD 0, trailer := r.seq, first := firstSeq,
                              cells := headerCount hd, complete := ok }
      let s1 := s.onStore fun t => { t with batches := t.batches.set (headerNumber hd) e, groupHeader := none, groupHdrCells := [], groupHdrLost := false }
      if ok then s1 else s1.raise 205 (le 4 (headerNumber hd))
    | none =>
      ((s.markUnsigned s.store.groupCells).onStore fun t => { t with groupCells := [], readingLost := false }).raise 205 (le 4 0xFFFFFFFF)
  else
    match s.store.groupHeader with
    | some h => (s.markUnsigned (h :: s.store.groupHdrCells)).onStore fun t =>
        { t with groupHeader := none, groupHdrCells := [], groupCells := [id] }
    | none => s.onStore fun t => { t with groupCells := t.groupCells ++ [id] }

/-- A READING record is refused, in its turn: a cell's batch is not complete; with a header the batch that the losses so far belong to forms no
batch; a trailer whose header is the last record of the stream makes it UNSIGNED, with event 205 of the header's number (R359, log 177). -/
def State.readingRefused (s : State) (kind : Nat) : State :=
  if kind = 0x86 then s.onStore fun t => { t with readingLost := false }
  else if kind = 0x87 then
    match s.store.groupHeader.bind fun h => (s.store.recs.get? h).map fun r => (h, r) with
    | some (h, r) =>
      if bit r.flags 2 then s
      else ((s.markUnsigned [h]).onStore fun t => { t with groupHdrLost := true }).raise 205 (le 4 (headerNumber r.data))
    | none => s
  else s.onStore fun t => { t with readingLost := true }

/-- Start mark: cells and any header after the last committed trailer are UNSIGNED and grouping begins again (R359). -/
def State.startMark (s : State) : State :=
  let ids := s.store.groupHdrCells ++ s.store.groupHeader.toList ++ s.store.groupCells
  (s.markUnsigned ids).onStore fun t => { t with groupHeader := none, groupHdrCells := [], groupCells := [], groupHdrLost := false, readingLost := false }

/-! ### Volumes (R361) -/

/-- Packet number `n` of queue 70 is committed, or refused with a status: its VOL_WRITE completes at its last packet, or with the packet's
status at its first refusal. -/
def State.volPacketEnds (s : State) (n status : Nat) : State :=
  match s.store.volWrites.find? (fun w => w.first ≤ n ∧ n < w.first + w.total) with
  | none => s
  | some w =>
    let fire := !w.ended && (status ≠ stDone || w.left = 1)
    let s1 := if fire then s.complete w.headend 0x0612 w.tag status [] true else s
    let w2 := { w with left := w.left - 1, ended := w.ended || decide (status ≠ stDone) }
    s1.onStore fun t => { t with volWrites := (t.volWrites.map fun x => if x = w then w2 else x).filter (·.left ≠ 0) }

/-- The committed records of a volume none of whose blocks is the volume's any more are invalid: later writes have replaced them, or they were
trimmed (R361). -/
def State.dropReplaced (s : State) (vol : Nat) : State :=
  let live := (((s.store.vols.get? vol).map fun v => v.blocks.vals.map (· / 16)).getD []).eraseDups
  s.onStore fun t => { t with recs := t.recs.mapVals fun k r =>
    if r.stream = 16 + vol ∧ r.committed ∧ !live.contains k then { r with invalid := true } else r }

/-- A volume packet is committed: its blocks are replaced (log 176). A block is kept as record id × 16 + its place in the packet. -/
def State.volCommitted (s : State) (id : Nat) (r : StoreRec) : State :=
  let vol := getLE 0 1 r.data
  let first := getLE 4 4 r.data
  let n := if r.invalid then 0 else getLE 8 4 r.data
  ((s.onStore fun t => { t with vols := t.vols.adj vol fun v =>
    { v with blocks := (List.range n).foldl (fun m k => m.set (first + k) (id * 16 + k)) v.blocks } }).dropReplaced vol).volPacketEnds r.outSeq stDone

/-! ### Acceptance, program and commit (R338) -/

/-- The STORE_RESULT unit of a sealed record (R67, R356). -/
def State.storeResult (s : State) (outSeq : Nat) (refused : Bool) (status : Nat) : State :=
  s.onGate fun g => { g with storeResults := g.storeResults ++
    [{ seq := outSeq, refused := refused, status := status, storeState := s.store.state.code }] }

/-- The head packet of a rank 7 queue is released (R324, R338). -/
def State.releaseHeld (s : State) (q : Nat) : State :=
  if s.store.held.getD q 0 = 0 then s
  else (s.onQueue q fun x => { x with pkts := x.pkts.drop 1 }).onStore fun t => { t with held := t.held.upd q 0 (· - 1) }

/-- The packet of a rank 7 queue that was read last is released: its record has been refused (R324, R338). -/
def State.releaseRead (s : State) (q : Nat) : State :=
  let h := s.store.held.getD q 0
  if h = 0 then s
  else (s.onQueue q fun x => { x with pkts := x.pkts.eraseIdx (h - 1) }).onStore fun t => { t with held := t.held.upd q 0 (· - 1) }

/-- Older records of a superseded stream become invalid when a snapshot is committed (R336). -/
def State.supersede (s : State) (st sq : Nat) : State :=
  s.onStore fun t => { t with
    recs := t.recs.mapVals fun _ r => if r.stream = st ∧ r.seq < sq then { r with invalid := true } else r }

/-- What the commit of a record does for its stream's client. -/
def State.onCommitted (s : State) (id : Nat) (r : StoreRec) : State :=
  if r.stream = 1 then s.readingCommitted id r
  else if 2 ≤ r.stream ∧ r.stream ≤ 5 then s.storeResult r.outSeq false stDone
  else if r.stream = 10 ∨ r.stream = 11 then s.recorderCommitted r.data
  else if 16 ≤ r.stream then s.volCommitted id r
  else if (r.stream = 0 ∨ r.stream = 8) ∧ bit r.flags 1 then s.supersede r.stream r.seq
  else s

/-- A record is refused: counted per stream, its client told (R324, R355, R356, R358). -/
def State.refusedFor (s : State) (st kind outSeq status : Nat) (d : Bytes) : State :=
  let s1 := s.onStore fun t => { t with refusals := t.refusals.upd st 0 (· + 1) }
  if st = 1 then s1.readingRefused kind
  else if 2 ≤ st ∧ st ≤ 5 then s1.storeResult outSeq true status
  else if st = 10 ∨ st = 11 then s1.recorderLost d
  else if 16 ≤ st then s1.volPacketEnds outSeq status
  else s1

/-- Commit every programmed record whose predecessors have all been committed or refused, in the order of acceptance (R338). -/
def State.sweep : Nat → State → State
  | 0, s => s
  | n + 1, s =>
    match s.store.waiting with
    | [] => s
    | id :: rest =>
      match s.store.recs.get? id with
      | none => State.sweep n (s.onStore fun t => { t with waiting := rest })
      | some r =>
        if r.refused.isSome then
          let s1 := s.onStore fun t => { t with waiting := rest, recs := t.recs.erase id }
          State.sweep n ((s1.releaseHeld r.queue).refusedFor r.stream r.kind r.outSeq (r.refused.getD 0) r.data)
        else if r.programmed then
          let s1 := s.onStore fun t => { t with waiting := rest, recs := t.recs.set id { r with committed := true } }
          let s2 := s1.releaseHeld r.queue
          State.sweep n (s2.onCommitted id { r with committed := true })
        else s

/-- Commit what can be committed. -/
def State.commitAll (s : State) : State := s.sweep (s.store.waiting.length + 1)

/-- The record of the packet just read is refused, and the packet released (R324). A refusal in the READING stream counts in the order of
acceptance, since the grouping of R359 is by that order. -/
def State.refuseRecord (s : State) (st kind q outSeq status : Nat) (d : Bytes) : State :=
  if st = 1 then
    ((s.releaseRead q).onStore fun t => { t with
      recs := t.recs.set t.nextId { stream := st, kind := kind, seq := 0, queue := 999, outSeq := outSeq, refused := some status }
      nextId := t.nextId + 1, waiting := t.waiting ++ [t.nextId] }).commitAll
  else (s.releaseRead q).refusedFor st kind outSeq status d

/-- An open latent superblock for a class, opening an erased one when needed; the reserved area only for critical
records when the general area has neither (R343). -/
def State.latentFor (s : State) (hot critical : Bool) : Option Nat × State :=
  match (List.range 28).find? (fun i => (s.sb i).phase = .opened ∧ (s.sb i).hot = hot) with
  | some i => (some i, s)
  | none =>
    match (List.range 28).find? (fun i => (s.sb i).phase = .erased) with
    | some i => (some i, s.onSb i fun b => { b with phase := .opened, hot := hot, used := 0, parity := true })
    | none =>
      if critical then
        match [28, 29, 30, 31].find? (fun i => (s.sb i).phase = .opened) with
        | some i => (some i, s)
        | none =>
          match [28, 29, 30, 31].find? (fun i => (s.sb i).phase = .erased) with
          | some i => (some i, s.onSb i fun b => { b with phase := .opened, hot := true, used := 0, parity := true })
          | none => (none, s)
      else (none, s)

/-- Cut one page from a page buffer: every fragment takes a 16-byte header (R337). The result is the parts of the page,
with a flag where a record ends, and what stays in the buffer. -/
def cutPage : List (Nat × Nat) → Nat → List (Nat × Bool) × List (Nat × Nat)
  | [], _ => ([], [])
  | (id, n) :: rest, room =>
    if room ≤ 16 then ([], (id, n) :: rest)
    else if n ≤ room - 16 then
      let (ps, left) := cutPage rest (room - 16 - n)
      ((id, true) :: ps, left)
    else ([(id, false)], (id, n - (room - 16)) :: rest)

/-- Bytes that wait in a page buffer, headers included. -/
def bufferFill (b : List (Nat × Nat)) : Nat := (b.map (fun p => p.2 + 16)).sum

/-- A record has one more page, in superblock `i` (a record has fewer pages than there are dies, so no two of one superblock share a die). -/
def StoreRec.addPage (r : StoreRec) (i page : Nat) : StoreRec :=
  { r with
    place := match r.place with
      | .flash b f l => if b = i then .flash b (min f page) (max l page) else .flash i page page
      | _ => .flash i page page
    dies := (r.dies ++ [page % 8]).eraseDups }

/-- The next page of an open latent superblock is taken; the superblock is full when no further one takes programs. -/
def State.takePage (s : State) (i : Nat) : Nat × State :=
  let page := s.posFrom ((s.sb i).used / pageBytes)
  let s1 := s.onSb i fun b => { b with used := (page + 1) * pageBytes }
  (page, if sbPositions i ≤ s.posFrom (page + 1) then s1.closeSb i .full else s1)

/-- Program the oldest page of a stream's buffer into the latent area (R338, R343). Nothing is programmed while the
store is frozen or no latent superblock has room. -/
def State.issueProgram (s : State) (st : Nat) : State :=
  let buf := s.store.buffers.getD st []
  if buf.isEmpty ∨ s.store.state = .frozen then s
  else
    match s.latentFor (streamHot st) (streamCritical st) with
    | (none, s1) => s1
    | (some i, s1) =>
      let (parts, rest) := cutPage buf pageBytes
      let (page, s2) := s1.takePage i
      s2.onStore fun t => { t with
        buffers := if rest.isEmpty then t.buffers.erase st else t.buffers.set st rest
        programs := t.programs ++ [{ stream := st, parts := parts, sb := i, page := page }]
        recs := parts.foldl (fun m p => m.adj p.1 fun r => r.addPage i page) t.recs }

/-- Bytes that a record of a stream has beside its content as the model holds it (R315, R337): the gate message around it, or
the packet's edge code. Sealed records and recorder records end in an edge code of their own. -/
def storedExtra (st kind : Nat) : Nat :=
  if (st = 1 ∨ st = 6 ∨ st = 7) ∧ kind ≠ 0 then 16 else if st = 8 ∨ st = 9 ∨ 16 ≤ st then 4 else 0

/-- Bytes of data that a record has in the store. -/
def StoreRec.size (r : StoreRec) : Nat := r.data.length + storedExtra r.stream r.kind

/-- The data of a record as stored: it ends in the record's edge code (R337). -/
def StoreRec.stored (r : StoreRec) : Bytes :=
  if storedExtra r.stream r.kind = 16 then gateMsg r.kind r.outSeq r.data
  else if storedExtra r.stream r.kind = 4 then withEdge r.data
  else r.data

/-- Accept a record for a stream, or refuse it by the store's state (R338, R354 to R358). `week` overrides the stream's
retention. The result says whether it was accepted. -/
def State.acceptRecord (s : State) (st kind q outSeq flags : Nat) (week : Option Nat) (d : Bytes) : State × Bool :=
  let crit := streamCritical st
  let status :=
    if s.store.state = .frozen ∧ (!crit ∨ s.cfgN 0x9000 13 * 1048576 < s.store.mirrorBytes + d.length + 16) then some stStoreFrozen
    else if s.store.state = .full ∧ !crit then some stStoreFull
    else if s.store.refusing ∧ !crit then some stBusy
    else none
  match status with
  | some code => (s.refuseRecord st kind q outSeq code d, false)
  | none =>
    let sq := s.store.seqs.getD st 0
    let id := s.store.nextId
    let mirrored := decide (s.store.state = .frozen)
    let r : StoreRec := { stream := st, kind := kind, seq := sq, flags := flags, week := week.getD (s.streamWeek st), data := d,
                          place := if mirrored then .mirror else .buffer, queue := q, outSeq := outSeq, ot := s.power.ot, programmed := mirrored }
    let s1 := s.onStore fun t => { t with
      recs := t.recs.set id r, nextId := id + 1, waiting := t.waiting ++ [id], seqs := t.seqs.set st (sq + 1)
      buffers := if mirrored then t.buffers else t.buffers.upd st [] (· ++ [(id, r.size)])
      mirrorBytes := if mirrored then t.mirrorBytes + r.size + 16 else t.mirrorBytes
      mirrorRecs := if mirrored then t.mirrorRecs ++ [id] else t.mirrorRecs }
    let s2 := if mirrored then s1.commitAll
              else if pageBytes ≤ bufferFill (s1.store.buffers.getD st []) then s1.issueProgram st else s1
    (if st = 10 ∨ st = 11 then s2.reportLost (recChannelOf d) else s2, true)

/-- Put a record that comes from no queue into a stream. -/
def State.storeRecord (s : State) (st flags : Nat) (week : Option Nat) (d : Bytes) : State := (s.acceptRecord st 0 999 0 flags week d).1

/-- Copy a record to the QUARANTINE stream (R16, R67, R339). -/
def State.quarantineRecord (s : State) (d : Bytes) : State := s.storeRecord 12 0 none d

/-! ### States of the store (R354) -/

/-- NAND programs stop: what waits in page buffers goes to the mirror where it is critical and finds room, and is refused otherwise when its
turn comes (R354, R356). -/
def State.emptyBuffers (s : State) : State :=
  let ids := s.store.waiting.filter fun id => s.store.buffers.vals.any fun b => b.any (·.1 = id)
  (ids.foldl (fun t id => match t.store.recs.get? id with
    | none => t
    | some r =>
      if streamCritical r.stream ∧ t.store.mirrorBytes + r.size + 16 ≤ t.cfgN 0x9000 13 * 1048576 then
        t.onStore fun st => { st with
          recs := st.recs.set id { r with place := .mirror, programmed := true }, mirrorBytes := st.mirrorBytes + r.size + 16
          mirrorRecs := st.mirrorRecs ++ [id] }
      else t.onStore fun st => { st with recs := st.recs.set id { r with refused := some stStoreFrozen } })
    (s.onStore fun t => { t with buffers := [] })).commitAll

/-- Enter FROZEN with its cause; criterion STORE of a proving generation fails (R354, R473). -/
def State.freeze (s : State) (cause : Nat) : State :=
  ((s.onStore fun t => { t with state := .frozen }).emptyBuffers.raise 194 (le 1 cause ++ zeros 3 ++ le 4 s.freeTlc)).criterionFails 4

/-- The transitions that follow a change of F or L (R354). `noVictim` says that garbage collection found no eligible
victim. -/
def State.storeEval (s : State) (noVictim : Bool) : State :=
  let f := s.freeTlc
  match s.store.state with
  | .frozen => s
  | st =>
    if f < s.cfgN 0x9000 7 then s.freeze 1
    else if s.freeReserved = 0 then s.freeze 2
    else if st = .normal ∧ noVictim ∧ f < s.cfgN 0x9000 6 then
      (s.onStore fun t => { t with state := .full }).raise 193 (le 1 1 ++ zeros 3 ++ le 4 f)
    else if st = .full ∧ s.cfgN 0x9000 6 + 4 ≤ f then
      (s.onStore fun t => { t with state := .normal }).raise 193 (le 1 0 ++ zeros 3 ++ le 4 f)
    else s

/-! ### Failures (R347, R348, R520) -/

/-- The block of superblock `i` on die `d`: its own, or the spare that stands in for it (R334). -/
def State.blockOf (s : State) (d i : Nat) : Nat := ((s.store.dies.getD d {}).standIn.get? i).getD i

def State.onDie (s : State) (d : Nat) (f : Die → Die) : State :=
  s.onStore fun t => { t with dies := t.dies.set d (f (t.dies.getD d {})) }

/-- Retire the block of superblock `i` on die `d`: a spare stands in, or the superblock is retired whole and its other
blocks join their dies' spares (R348). -/
def State.retireBlock (s : State) (d i : Nat) : State :=
  let b := s.blockOf d i
  match (s.store.dies.getD d {}).spareBlocks with
  | sp :: rest =>
    let s1 := (s.onDie d fun x => { x with spareBlocks := rest, retired := x.retired ++ [b], standIn := x.standIn.set i sp, suspect := x.suspect.erase b }).raise 198 (le 1 d ++ le 1 rest.length ++ le 2 b)
    if rest.length ≤ 2 ∧ !(s1.store.dies.getD d {}).lowRaised then
      (s1.onDie d fun x => { x with lowRaised := true }).raise 206 (le 1 d ++ le 1 rest.length)
    else s1
  | [] =>
    let s1 := s.onDie d fun x => { x with retired := x.retired ++ [b] }
    let s2 := (List.range 8).foldl (fun t k => if k = d then t else t.onDie k fun x => { x with spareBlocks := x.spareBlocks ++ [t.blockOf k i] }) s1
    ((s2.onSb i fun x => { x with phase := .retired }).raise 198 (le 1 d ++ le 1 0 ++ le 2 b)).raise 199 (le 2 i)

/-- Take one pending injection of die `d` (R519): program failures (kind 1) or erase failures (kind 2). -/
def State.takeInjection (s : State) (kind d : Nat) : Bool × State :=
  let l := if kind = 1 then s.fog.programFails else s.fog.eraseFails
  let n := l.getD d 0
  if s.fogActs 2 ∧ 0 < n then
    (true, s.onFog fun f => if kind = 1 then { f with programFails := f.programFails.set d (n - 1) }
      else { f with eraseFails := f.eraseFails.set d (n - 1) })
  else (false, s)

/-- A program on superblock `i` fails on die `d` (R347): event 196; the block is suspect, or retired when it already was,
or only marked injected (R520); the superblock takes no further program. In hold-up the relocation waits (R349). -/
def State.programFailed (s : State) (d i : Nat) (injected : Bool) : State :=
  let b := s.blockOf d i
  let was := (s.store.dies.getD d {}).suspect.contains b
  let retire := was && !injected
  let s1 := s.raise 196 (le 1 d ++ le 1 0 ++ le 2 b ++ le 2 i ++ le 1 (b2n retire))
  let s2 := s1.onDie d fun x =>
    if injected then { x with injected := (b :: x.injected.erase b) } else { x with suspect := (b :: x.suspect.erase b) }
  let s3 := if retire then s2.retireBlock d i else s2
  if (s3.sb i).phase = .retired then s3 else s3.onSb i fun x => { x with phase := .full, copying := true }

/-! ### Copies: development, garbage collection, refresh (R341, R344) -/

/-- The TLC target of a key, with the week the record takes: an open target of the key, a new one, or the open target of
the class with the smallest later week (R341). `reserve` keeps the last reserve_sb superblocks (R345). -/
def State.targetFor (s : State) (hot : Bool) (week : Nat) (reserve : Bool) : Option (Nat × Nat) × State :=
  let openT := s.store.sbs.filter (fun p => decide (34 ≤ p.1) && p.2.phase = .opened)
  match openT.find? (fun p => p.2.hot = hot ∧ p.2.week = week) with
  | some p => (some (p.1, week), s)
  | none =>
    let free := s.freeTlc
    let may := decide (openT.length < s.cfgN 0x9000 1) && (!reserve || decide (s.cfgN 0x9000 7 < free))
    match (if may then s.erasedTlc else none) with
    | some i => (some (i, week), s.onSb i fun b => { b with phase := .opened, hot := hot, week := week, used := 0, parity := true })
    | none =>
      let later := openT.filter (fun p => p.2.hot = hot && decide (week < p.2.week))
      match later.foldl (fun m p => match m with
          | some q => if p.2.week < q.2 then some (p.1, p.2.week) else some q
          | none => some (p.1, p.2.week)) (none : Option (Nat × Nat)) with
      | some r => (some r, s)
      | none => (none, s)

/-- An injected failure pending on the die meets the program of a copy's page in superblock `i` (R519): the target takes no further program and
what it holds is taken again from its source. -/
def State.copyPage (s : State) (i page : Nat) : State :=
  let (inj, s1) := s.takeInjection 1 (page % 8)
  if inj then s1.programFailed (page % 8) i true else s1

/-- Copy one record into its target (R344); it keeps its source until the target is verified. One whose page is still being programmed waits; one
of a verified superblock with a page on an offline die cannot be read and stays (R350); where parity stands the page is rebuilt. -/
def State.copyRecord (s : State) (reserve : Bool) (id : Nat) : State :=
  match s.store.recs.get? id with
  | none => s
  | some r =>
    match r.place with
    | .flash src _ _ =>
      if !r.programmed ∨ ((s.sb src).phase = .verified ∧ !s.readable r) then s
      else match s.targetFor (streamHot r.stream) r.week reserve with
      | (none, s1) => s1
      | (some (t, w), s1) =>
        let u := (s1.sb t).used
        let first := s1.posFrom (u / pageBytes)
        let n := r.size + 16 + (if first = u / pageBytes then u % pageBytes else 0)
        let pages := s1.livePages (cdiv n pageBytes) first
        let last := pages.getLast?.getD first
        let u1 := last * pageBytes + (n - (pages.length - 1) * pageBytes)
        let s2 := (s1.onSb t fun b => { b with used := u1 }).onStore fun st => { st with
          recs := st.recs.set id { r with week := w, place := .flash t first last, dies := pages.map (· % 8), source := some (r.source.getD src) }
          pagesSince := st.pagesSince + (n / pageBytes) }
        let s3 := (pages.dropLast ++ if u1 % pageBytes = 0 then [last] else []).foldl (fun a w => a.copyPage t w) s2
        if (s3.sb t).phase = .opened ∧ sbPositions t ≤ s3.posFrom (u1 / pageBytes) then s3.closeSb t .closed else s3
    | _ => s

/-- Ids of the readable records that lie in superblock `i`. -/
def State.idsIn (s : State) (i : Nat) : List Nat :=
  (s.store.recs.filter (fun p => s.recValid p.2 && match p.2.place with
    | .flash b _ _ => decide (b = i)
    | _ => false)).map (·.1)

/-- v: the pages of superblock `i` that hold a readable record (R346). -/
def State.validPages (s : State) (i : Nat) : Nat :=
  ((s.store.recs.foldl (fun acc p => if s.recValid p.2 then
      (match p.2.place with
       | .flash b f l => if b = i then acc ++ ((List.range (l + 1 - f)).map (· + f)).filter (fun w => p.2.dies.contains (w % 8)) else acc
       | _ => acc) else acc) ([] : List Nat)).eraseDups).length

/-- Queue the source superblocks whose copies are all verified for erasure (R344). -/
def State.freeSources (s : State) : State :=
  let srcs := (s.store.sbs.filter (fun p => p.2.copying)).map (·.1)
  srcs.foldl (fun t i =>
    let busy := t.store.recs.vals.any (fun r => r.source = some i && t.recValid r) || !(t.idsIn i).isEmpty
    if busy then t
    else if (t.sb i).phase = .retired then t.onSb i fun b => { b with copying := false }
    else (t.onSb i fun b => { b with phase := .erasing, copying := false }).onStore fun st => { st with eraseQ := st.eraseQ ++ [i] }) s

/-- Whether copies can be made: no power-fail warning has stopped them, and the store is not FROZEN (R356, R358). -/
def State.mayCopy (s : State) : Bool := !s.store.stopped && decide (s.store.state ≠ .frozen)

/-- Whether a resumed copy of superblock `i` keeps the last reserve_sb superblocks: not one of the reserved latent area, nor a TLC one while the
store is FULL (R345, log 175). -/
def State.keepsReserve (s : State) (i : Nat) : Bool := !(decide (28 ≤ i) && decide (i < 32)) && !(decide (34 ≤ i) && decide (s.store.state = .full))

/-- Copy on what earlier copies left in their sources for want of a target (R344, log 175). -/
def State.resumeCopies (s : State) : State :=
  ((s.store.sbs.filter (fun p => p.2.copying)).map (·.1)).foldl
    (fun t i => (t.idsIn i).foldl (fun u id => u.copyRecord (t.keepsReserve i) id) t) s

/-- Read back every closed target: one that decodes within verify_pct is verified and drops its parity, one that does not
is copied to a new target (R344, R349). `pct` is the most of the correction capacity that a page needed. -/
def State.verifyTargets (s0 : State) (pct : Nat) : State :=
  let s := s0.resumeCopies
  let closed := (s.store.sbs.filter (fun p => decide (34 ≤ p.1) && p.2.phase = .closed)).map (·.1)
  let s1 := closed.foldl (fun t i =>
    if pct ≤ t.cfgN 0x9000 8 then
      (t.onSb i fun b => { b with phase := .verified, parity := false }).onStore fun st => { st with
        recs := st.recs.mapVals fun _ r => match r.place with
          | .flash b _ _ => if b = i then { r with source := none } else r
          | _ => r }
    else
      let ids := t.idsIn i
      let t1 := t.onSb i fun b => { b with phase := .full, copying := true }
      ids.foldl (fun u id => u.copyRecord true id) t1) s
  s1.freeSources

/-- Copy every readable record of superblock `i` to targets and give it up once they are verified (R344); where no copy can be made now, it waits
for the next time. -/
def State.copyOut (s : State) (i : Nat) (reserve : Bool) (pct : Nat) : State :=
  let s1 := s.onSb i fun b => { b with copying := true }
  if !s.mayCopy then s1 else
  ((s.idsIn i).foldl (fun t id => t.copyRecord reserve id) s1).verifyTargets pct

/-! ### Rows of the write path -/

/-- The storage stream and the flags of a packet of a rank 7 queue, with the record to store (R336, R337); none where the
packet's clear fields are wrong (R67). -/
def storeTarget (q : Nat) (body : Bytes) : Option (Nat × Nat × Nat × Nat × Bytes) :=
  let kind := getLE 0 1 body
  let inner := body.drop 12
  let sq := getLE 8 4 body
  if q = 64 then some (1, kind, 0, sq, inner)
  else if q = 65 then
    if inner.take 4 = ascii "SLSR" ∧ 1 ≤ getLE 4 2 inner ∧ getLE 4 2 inner ≤ 4 ∧ getLE 6 2 inner = 1 ∧
       getLE 24 4 inner + 48 = inner.length then some (getLE 4 2 inner + 1, kind, 0, sq, inner) else none
  else if q = 66 then some (6, kind, 0, sq, inner)
  else if q = 67 then some (7, kind, 0, sq, inner)
  else if q = 68 then some (8, 0, 2 * (getLE 0 1 body % 2), 0, body)
  else if q = 69 then some (9, 0, 0, 0, body)
  else if q = 70 then some (16 + getLE 0 1 body % 16, 0, 0, 0, body)
  else none

/-- Whether a sealed record with this stream, epoch and record number is already committed (R66, R185). -/
def State.sealedKnown (s : State) (st : Nat) (inner : Bytes) : Bool :=
  s.store.recs.vals.any (fun r => r.stream = st && r.committed && r.data.take 24 = inner.take 24)

/-- The next packet of a rank 7 queue that the storage manager has not read yet; packets whose edge code fails are
quarantined on the way (R320, R338). -/
def State.nextUnread (s : State) (q : Nat) : Option Packet × State :=
  let h := s.store.held.getD q 0
  let ps := (s.queue q).pkts
  let bad := (ps.drop h).takeWhile (fun p => !p.good)
  let rest := (ps.drop h).dropWhile (fun p => !p.good)
  let s1 := s.onQueue q fun x => { x with pkts := ps.take h ++ rest }
  (rest.head?, bad.foldl (fun t p => t.edgeFailure 1 q p) s1)

/-- The store reads the next packet of a rank 7 queue and accepts or refuses its record; 0xFFFF names the quarantine
list, which drains into stream 12 (R328, R338). -/
def State.storeAccept (s : State) (q : Nat) : State :=
  if !s.store.mapReady then s
  else if q = 0xFFFF then
    match s.fabric.quarantine with
    | [] => s
    | (_, p) :: rest =>
      (s.onFabric fun f => { f with quarantine := rest }).quarantineRecord p.payload
  else if !([64, 65, 66, 67, 68, 69, 70].contains q) then s
  else
    let (next, s0) := s.nextUnread q
    let bad := (s.queue q).pkts.length - (s0.queue q).pkts.length
    let n := s0.store.volRead
    let s1 := if q = 70 then (List.range bad).foldl (fun t k => t.volPacketEnds (n + k) stInternalFault)
        (s0.onStore fun t => { t with volRead := n + bad + (if next.isSome then 1 else 0) }) else s0
    match next with
    | none => s1
    | some p =>
      let s2 := s1.onStore fun t => { t with held := t.held.upd q 0 (· + 1) }
      match storeTarget q p.body with
      | none => ((s2.releaseRead q).quarantineRecord p.body).storeResult (getLE 8 4 p.body) true stBadField
      | some (st, kind, flags, sq0, d) =>
        let sq := if q = 70 then n + bad else sq0
        if q = 65 ∧ s2.sealedKnown st d then (s2.releaseRead q).storeResult sq false stDone
        else if q = 70 ∧ !(s2.store.vols.has (st - 16)) then s2.refuseRecord st kind q sq stNotFound d
        else (s2.acceptRecord st kind q sq flags none d).1

def execStoreRecordAccept (q : Nat) (s : State) : Host.Outcome State Fault Refusal := .next (s.storeAccept q)

/-- The buffer's oldest record has waited flush_us (R338). -/
def execPageBufferTimeout (stream : Nat) (s : State) : Host.Outcome State Fault Refusal := .next (s.issueProgram stream)

/-- A page whose program failed, or whose die hangs, is programmed again in superblock `i` (R338, R347). -/
def State.reprogram (s : State) (p : PageProgram) (i : Nat) : PageProgram × State :=
  let (page, s1) := s.takePage i
  ({ p with sb := i, page := page }, s1.onStore fun t => { t with
    recs := p.parts.foldl (fun m q => m.adj q.1 fun r => ({ r with dies := r.dies.erase (p.page % 8) }).addPage i page) t.recs })

/-- The oldest page program ends (R338, R347), the store's state as it was. -/
def State.programEnds (s : State) (ok : Bool) : State :=
  match s.store.programs with
  | [] => s
  | p :: rest =>
    let d := p.page % 8
    let (inj, s0) := s.takeInjection 1 d
    let s1 := s0.onStore fun t => { t with programs := rest }
    if ok ∧ !inj then
      (s1.onStore fun t => { t with
        pagesSince := if p.stream = 0 then 0 else t.pagesSince + 1
        recs := p.parts.foldl (fun m q => if q.2 then m.adj q.1 fun r => { r with programmed := true } else m) t.recs }).commitAll
    else
      let s2 := s1.programFailed d p.sb inj
      match s2.latentFor (streamHot p.stream) (streamCritical p.stream) with
      | (some i, s3) =>
        let (p1, s5) := s3.reprogram p i
        let s4 := s5.onStore fun t => { t with programs := p1 :: t.programs }
        s4.copyOut p.sb true 0
      | (none, s3) => s3.onStore fun t => { t with buffers := t.buffers.upd p.stream [] fun b =>
          (p.parts.map fun q => (q.1, ((s3.store.recs.get? q.1).map (·.size)).getD 0)) ++ b }

/-- The oldest page program ends; F and L may have fallen with the superblocks that were opened (R354). -/
def State.programDone (s : State) (ok : Bool) : State := (s.programEnds ok).storeEval false

def execPageProgramDone (ok : Bool) (s : State) : Host.Outcome State Fault Refusal := .next (s.programDone ok)

/-- Program every page of a stream's buffer to its end (R358). -/
def State.flushStream : Nat → Nat → State → State
  | 0, _, s => s
  | n + 1, st, s =>
    if (s.store.buffers.getD st []).isEmpty then s
    else State.flushStream n st ((s.issueProgram st).programDone true)

/-- Let every program under way end, then flush the buffers of the streams that `want` names (R358). -/
def State.flushAll (s : State) (want : Nat → Bool) : State :=
  let s1 := (List.range s.store.programs.length).foldl (fun t _ => t.programDone true) s
  (s1.store.buffers.keys.filter want).foldl (fun t st => State.flushStream (bufferFill (t.store.buffers.getD st []) / 16 + 1) st t) s1

/-- The dies on which an injected erase failure is pending (R519, log 181). -/
def State.eraseInjected (s : State) : List Nat :=
  (List.range 8).filter fun d => s.fogActs 2 && decide (0 < s.fog.eraseFails.getD d 0)

/-- The superblock at the head of the erase queue ends its erase (R347). A failure retires the block on die `d` at once. One that was injected
only marks its block (R520), and the superblock waits for its next erase. -/
def State.eraseDone (s : State) (ok : Bool) (d : Nat) : State :=
  match s.store.eraseQ with
  | [] => s
  | i :: rest =>
    let hit := s.eraseInjected
    let s0 := hit.foldl (fun t k => (t.takeInjection 2 k).2) s
    let s1 := (s0.onStore fun t => { t with
      eraseQ := rest
      recs := t.recs.filter (fun p => match p.2.place with
        | .flash b _ _ => decide (b ≠ i)
        | _ => true) }).onSb i fun b => { pe := b.pe + 1 }
    let failed (t : State) (k : Nat) : State := t.raise 197 (le 1 k ++ le 1 0 ++ le 2 (t.blockOf k i) ++ le 2 i)
    let s2 := (List.range 8).foldl (fun t k =>
      if hit.contains k then (failed t k).onDie k fun x => { x with injected := t.blockOf k i :: x.injected.erase (t.blockOf k i) }
      else if !ok ∧ k = d % 8 then (failed t k).retireBlock k i
      else t.onDie k fun x => { x with injected := x.injected.erase (t.blockOf k i) }) s1
    let s3 := if hit.isEmpty ∨ (s2.sb i).phase = .retired then s2
      else (s2.onSb i fun b => { b with phase := .erasing }).onStore fun t => { t with eraseQ := t.eraseQ ++ [i] }
    s3.storeEval false

def execEraseDone (ok : Bool) (die : Nat) (s : State) : Host.Outcome State Fault Refusal := .next (s.eraseDone ok die)

/-- The id of a stream's record with the given sequence. -/
def State.recId (s : State) (st sq : Nat) : Option Nat :=
  (s.store.recs.find? (fun p => p.2.stream = st ∧ p.2.seq = sq)).map (·.1)

/-- Queue a superblock for refresh once (R352). -/
def State.queueRefresh (s : State) (i cause : Nat) : State :=
  if s.store.refreshQ.any (·.1 = i) then s else s.onStore fun t => { t with refreshQ := t.refreshQ ++ [(i, cause)] }

/-- A page read ends (R339, R347, R350, R352): the edge check of the record read, an uncorrectable page, and the
conditions that queue a refresh. -/
def State.pageReadDone (s : State) (st sq : Nat) (edgeBad uncorrectable : Bool) (retry pct : Nat) : State :=
  match s.recId st sq with
  | none => s
  | some id =>
    match s.store.recs.get? id with
    | none => s
    | some r =>
      match r.place with
      | .flash i f l =>
        let sb := s.sb i
        let verified := decide (sb.phase = .verified)
        if uncorrectable then
          if !verified then s.raise 202 (le 1 st ++ le 1 1 ++ zeros 2 ++ le 4 (sq % 2 ^ 32))
          else
            (((s.onStore fun t => { t with recs := t.recs.set id { r with invalid := true, place := .flash i f l } }).quarantineRecord r.data).raise 202
              (le 1 st ++ le 1 0 ++ zeros 2 ++ le 4 (sq % 2 ^ 32))).queueRefresh i 3
        else
          let s1 := if edgeBad then
              ((s.onStore fun t => { t with recs := t.recs.set id { r with invalid := true } }).quarantineRecord r.data).raise 192
                (le 1 st ++ zeros 3 ++ le 4 (sq % 2 ^ 32)) else s
          if s.cfgN 0x9000 9 ≤ retry then s1.queueRefresh i 2
          else if 75 < pct then s1.queueRefresh i 3
          else s1
      | _ => s

def execPageReadDone (stream seq : Nat) (edgeBad uncorrectable : Bool) (retry pct : Nat) (s : State) :
    Host.Outcome State Fault Refusal := .next (s.pageReadDone stream seq edgeBad uncorrectable retry pct)

/-- The programs under way on a hung die are issued again at once, on a live die of the open superblock (R338). -/
def State.reissue (s : State) (d : Nat) : State :=
  let (ps, s1) := s.store.programs.foldl (fun (acc : List PageProgram × State) p =>
    if p.page % 8 ≠ d then (acc.1 ++ [p], acc.2)
    else
      let (i, t) := if (acc.2.sb p.sb).phase = .opened then (some p.sb, acc.2) else acc.2.latentFor (streamHot p.stream) (streamCritical p.stream)
      match i with
      | some i => let (p1, t1) := t.reprogram p i; (acc.1 ++ [p1], t1)
      | none => (acc.1 ++ [p], t)) ([], s)
  s1.onStore fun t => { t with programs := ps }

/-- A die hangs: the channel is reset, the store's open read packets are voided, programs on the die are issued again
(R338, R350). -/
def State.dieHang (s : State) (d : Nat) : State :=
  let x := s.store.dies.getD (d % 8) {}
  let (_, s1) := s.reclaim 15
  ((s1.raise 200 (le 1 (d % 8 / 2) ++ le 1 (d % 8) ++ le 1 (x.retries + 1))).onDie (d % 8) fun y =>
    { y with hangs := y.hangs + 1, hung := true }).reissue (d % 8)

def execDieHang (die : Nat) (s : State) : Host.Outcome State Fault Refusal := .next (s.dieHang die)

/-- The records with a page on die `d`, which has gone offline, in open and unverified superblocks are rebuilt from parity and written to new
targets (R350), or wait for it while no page is programmed. -/
def State.offlineRelocate (s : State) (d : Nat) : State :=
  let sbs := (s.store.sbs.filter (fun p => p.2.phase = .opened || p.2.phase = .full || p.2.phase = .closed)).map (·.1)
  if s.mayCopy then
    sbs.foldl (fun t i => ((t.idsIn i).filter fun id => ((t.store.recs.get? id).map fun r => r.dies.contains d).getD false).foldl
      (fun u id => u.copyRecord true id) t) s
  else sbs.foldl (fun t i => if (t.sb i).phase = .opened then t else t.onSb i fun b => { b with copying := true }) s

/-- The hung die is tried again; a try that fails is a hang of its own (log 66), and after the third the die goes offline (R350). -/
def State.dieRetry (s : State) (d : Nat) (ok : Bool) : State :=
  let x := s.store.dies.getD (d % 8) {}
  if !x.hung then s
  else if ok then s.onDie (d % 8) fun y => { y with hung := false, retries := 0 }
  else
    let s1 := (s.onDie (d % 8) fun y => { y with retries := y.retries + 1 }).dieHang d
    if x.retries + 1 < 3 then s1
    else ((s1.onDie (d % 8) fun y => { y with hung := false, retries := 0, online := false }).raise 201 (le 1 (d % 8) ++ le 1 0)).offlineRelocate (d % 8)

def execDieRetry (die : Nat) (ok : Bool) (s : State) : Host.Outcome State Fault Refusal := .next (s.dieRetry die ok)

/-- Erase every TLC superblock whose week has passed, without copying (R342); an open one takes no more records, and one with a record that an
exposure pins waits (R373). -/
def State.expiryWeek (s : State) : State :=
  let due := (s.store.sbs.filter (fun p => decide (34 ≤ p.1) && s.weekPassed p.2.week &&
    (p.2.phase = .opened || p.2.phase = .full || p.2.phase = .closed || p.2.phase = .verified) && (s.idsIn p.1).isEmpty)).map (·.1)
  (due.foldl (fun t i => (t.onSb i fun b => { b with phase := .erasing, copying := false })) s |>.onStore
    fun t => { t with eraseQ := due ++ t.eraseQ }).storeEval false

def execExpiryWeek (s : State) : Host.Outcome State Fault Refusal := .next s.expiryWeek

/-- Development of one full latent superblock (R344, R345): a reserved one whenever the pool has a free superblock, else
a general one while development runs. -/
def State.developOne (s : State) (pct : Nat) : State :=
  if s.store.stopped ∨ s.store.state = .frozen then s
  else
    let full := (s.latentIn .full).filter (fun i => !(s.sb i).copying)
    let n := full.length
    let active := if s.store.devActive then decide (s.cfgN 0x9000 3 < n) else decide (s.cfgN 0x9000 2 ≤ n)
    let s1 := s.onStore fun t => { t with devActive := active }
    let held := ([28, 29, 30, 31] : List Nat).find? (fun i => ((s.sb i).phase = .full || (s.sb i).phase = .opened) && !(s.sb i).copying && !(s.idsIn i).isEmpty)
    match (if 0 < s.freeTlc then held else none) with
    | some i => (s1.closeSb i .full).copyOut i false pct
    | none =>
      let throttled := decide (2 ≤ s.power.thermalLevel) && decide (n ≤ s.cfgN 0x9000 2 + 4)
      if !active || throttled then s1.verifyTargets pct
      else match full with
        | i :: _ => s1.copyOut i true pct
        | [] => s1.verifyTargets pct

/-- Development, and the state of the store after it (R345, R354). -/
def State.development (s : State) (pct : Nat) : State := (s.developOne pct).storeEval false

def execDevelopment (pct : Nat) (s : State) : Host.Outcome State Fault Refusal := .next (s.development pct)

/-- score of a victim (R346). -/
def State.gcScore (s : State) (i : Nat) : Nat :=
  let v := s.validPages i
  let a := min 64 ((s.power.ot - (s.sb i).closedOt) / 86400)
  ((9216 - v) * (1 + a) * 1024) / (9216 + v)

/-- Eligible victims (R346): closed and verified, v < n, an expiry week later than the current week + 1; the current week is the number of whole
weeks of OT (log 66). -/
def State.gcVictims (s : State) : List Nat :=
  (s.store.sbs.filter (fun p => decide (34 ≤ p.1) && p.2.phase = .verified && !p.2.copying && decide (s.validPages p.1 < 9216) &&
    (p.2.week = 0xFFFF || decide (s.power.ot / weekS + 1 < p.2.week)))).map (·.1)

/-- Closed and verified superblocks with no readable record are erased at the next safe point (R346). -/
def State.eraseEmpty (s : State) : State :=
  let es := (s.store.sbs.filter (fun p => decide (34 ≤ p.1) && p.2.phase = .verified && !p.2.copying && (s.idsIn p.1).isEmpty)).map (·.1)
  (es.foldl (fun t i => t.onSb i fun b => { b with phase := .erasing }) s).onStore fun t => { t with eraseQ := t.eraseQ ++ es }

/-- The first victim with the highest score (R346). -/
def State.gcBest (s : State) : Option Nat :=
  s.gcVictims.foldl (fun m i => match m with
    | some j => if s.gcScore j < s.gcScore i then some i else some j
    | none => some i) none

/-- Garbage collection of one victim (R346), suspended at thermal level 2 and above but for FULL (R431). -/
def State.garbageCollect (s : State) (pct : Nat) : State :=
  let s0 := if s.store.stopped then s else s.eraseEmpty
  if s0.store.stopped ∨ s0.store.state = .frozen then s0
  else
    let f := s0.freeTlc
    let active := if s0.store.gcActive then decide (f < s0.cfgN 0x9000 5) else decide (f < s0.cfgN 0x9000 4)
    let s1 := s0.onStore fun t => { t with gcActive := active }
    if !active ∨ (2 ≤ s1.power.thermalLevel ∧ s1.store.state ≠ .full) then s1.storeEval false
    else
      match s1.gcBest with
      | some i => (s1.copyOut i (decide (s1.store.state ≠ .full)) pct).storeEval false
      | none => s1.storeEval true

def execGarbageCollection (pct : Nat) (s : State) : Host.Outcome State Fault Refusal := .next (s.garbageCollect pct)

/-- The threshold of the weighted age in Q16.16 seconds at 40 °C (R352). -/
def refreshThreshold (i pe : Nat) : Nat :=
  let days := if i < 34 then 3650 else if pe < 300 then 3650 else if pe < 1000 then 1825 else if pe < 2000 then 730 else 365
  days * 86400 * 65536

/-- Whether a superblock's weighted age has passed its threshold; a superblock lies on both stacks, and the older one
decides (R351, R352, log 13). -/
def State.agedOut (s : State) (i : Nat) : Bool :=
  let b := s.sb i
  (List.range 2).any fun k => decide (refreshThreshold i b.pe < (s.store.ageA.getD k 0) - (b.closedA.getD k 0))

/-- Work kind of a STORE_REFRESH_NOW (R364). -/
abbrev workRefresh : Nat := 3

/-- A refresh (R352): the queued superblocks first, else the lowest whose weighted age has passed its threshold. -/
def State.refresh (s : State) (pct : Nat) : State :=
  if s.store.stopped ∨ s.store.state = .frozen then s
  else
    let aged := (s.store.sbs.filter (fun p => (p.2.phase = .full || p.2.phase = .closed || p.2.phase = .verified) && !p.2.copying && s.agedOut p.1)).map (·.1)
    let todo : Option (Nat × Nat) := match s.store.refreshQ with
      | p :: _ => some p
      | [] => (aged.head?).map (fun i => (i, 1))
    match todo with
    | none => s
    | some (i, cause) =>
      let s1 := s.onStore fun t => { t with refreshQ := t.refreshQ.filter (·.1 ≠ i) }
      let (c, s2) := if cause = 0 then s1.draw 3 1 else (cause, s1)
      if !((s.sb i).phase = .full || (s.sb i).phase = .closed || (s.sb i).phase = .verified) then s1.finish workRefresh i stDone []
      else (((s2.raise 203 (le 2 i ++ le 1 c)).copyOut i true pct).storeEval false).finish workRefresh i stDone []

def execRefresh (pct : Nat) (s : State) : Host.Outcome State Fault Refusal := .next (s.refresh pct)

/-- 60 s pass: each stack's accumulator grows by 60 × AF(T) (R351). -/
def State.weightedAge (s : State) (t0 t1 : Int) : State :=
  s.onStore fun t => { t with
    tempC := [t0, t1]
    ageA := [t.ageA.getD 0 0 + 60 * afOf t0, t.ageA.getD 1 0 + 60 * afOf t1] }

def execWeightedAge (t0 t1 : Int) (s : State) : Host.Outcome State Fault Refusal := .next (s.weightedAge t0 t1)

/-- Write the mirrored records to NAND in acceptance order and leave FROZEN with event 195 (R354, R356). -/
def State.unfreeze (s : State) : State :=
  let ids := s.store.mirrorRecs
  let s1 := s.onStore fun t => { t with state := .normal, mirrorRecs := [], mirrorBytes := 0, mirrorLost := 0 }
  let s2 := ids.foldl (fun t id => match t.store.recs.get? id with
    | some r => t.onStore fun st => { st with recs := st.recs.set id { r with place := .buffer }, buffers := st.buffers.upd r.stream [] (· ++ [(id, r.size)]) }
    | none => t) s1
  ((s2.flushAll (fun _ => true)).raise 195 (le 4 ids.length ++ le 4 s.store.mirrorLost)).resumeCopies

/-- A map checkpoint is written to stream 0, or cannot be written (R354, R357). -/
def State.mapCheckpoint (s : State) (ok : Bool) : State :=
  if s.store.state = .frozen then
    if s.cfgN 0x9000 6 + 4 ≤ s.freeTlc ∧ s.freeReserved = 4 ∧ ok then s.unfreeze else s
  else if !ok then s.freeze 3
  else
    let s1 := s.onStore fun t => { t with lastCkptOt := s.power.ot }
    ((s1.storeRecord 0 2 none (withEdge (le 8 s.store.nextId ++ le 5 s.power.ot))).issueProgram 0).storeEval false

def execMapCheckpoint (ok : Bool) (s : State) : Host.Outcome State Fault Refusal := .next (s.mapCheckpoint ok)

/-! ### Hold-up and start (R353, R357, R358) -/

/-- Steps 1 and 2 of R358. -/
def State.storeHoldup1 (s : State) : State :=
  (s.onStore fun t => { t with stopped := true, devActive := false, gcActive := false }).flushAll streamCritical

/-- Step 3 of R358: non-critical records are refused with BUSY, the other buffers are programmed. -/
def State.storeHoldup3 (s : State) : State := (s.onStore fun t => { t with refusing := true }).flushAll (fun _ => true)

/-- Records whose pages have been programmed are committed, though their turn to be acknowledged had not come: the scan of the next start finds
them (R338, R357). -/
def State.commitProgrammed (s : State) : State :=
  s.store.waiting.foldl (fun t id => match t.store.recs.get? id with
    | some r =>
      if r.programmed ∧ r.place ≠ .mirror then
        let t1 := t.onStore fun x => { x with recs := x.recs.set id { r with committed := true } }
        if r.stream = 1 then t1.readingCommitted id r
        else if r.stream = 10 ∨ r.stream = 11 then t1.recorderCommitted r.data
        else if (r.stream = 0 ∨ r.stream = 8) ∧ bit r.flags 1 then t1.supersede r.stream r.seq
        else t1
      else t
    | none => t) s

/-- Power is lost: what no page holds is gone; records of the open die that only the mirror held are counted (R356). -/
def State.storePowerLoss (s0 : State) : State :=
  let s := s0.commitProgrammed
  let lostMirror := s.store.mirrorRecs.filter fun id => match s.store.recs.get? id with
    | some r => r.stream < 2 || decide (5 < r.stream)
    | none => false
  s.onStore fun t => { t with
    recs := t.recs.filter (fun p => p.2.committed && p.2.place ≠ .mirror && p.2.place ≠ .buffer)
    waiting := [], held := [], buffers := [], programs := [], mirrorRecs := [], mirrorBytes := 0
    mirrorLost := t.mirrorLost + lostMirror.length, volWrites := [], volPushed := 0, volRead := 0, stopped := false, refusing := false, mapReady := false
    devActive := false, gcActive := false, snapshotNext := false }

/-- Copy what a stopped copy or a failed program left to relocate (R349). -/
def State.storeResume (s : State) : State :=
  if !s.mayCopy then s else
  ((s.store.sbs.filter (fun p => p.2.copying)).map (·.1)).foldl (fun t i => t.copyOut i true 0) s

/-- The read-scan of every closed superblock when the always-on counter was lost (R353): those past their weighted age, and those
whose reads met a condition of R352, which is a free value (log 135), are queued for refresh. -/
def State.readScan (s : State) : State :=
  let (bad, s1) := s.draw 8 512
  ((s.store.sbs.filter (fun p => (p.2.phase = .closed || p.2.phase = .verified) && (s.agedOut p.1 || bit bad p.1))).map (·.1)).foldl
    (fun t i => t.queueRefresh i 4) s1

/-- At a start the map is replayed (R357), unpowered time ages the stacks (R353), dies offline are read again (R350),
the start mark is set (R359). -/
def State.storeStart (s : State) (durationMs : Nat) (offSeconds : Option Nat) (diesOk : List Bool) (clean : Bool) : State :=
  let af := afOf (s.cfgI 0x9000 10)
  let s1 := s.onStore fun t => { t with
    mapReady := true, stopped := false, refusing := false, held := []
    ageA := match offSeconds with
      | some n => t.ageA.map (· + n * af)
      | none => t.ageA }
  let s2 := (List.range 8).foldl (fun t d =>
    let x := t.store.dies.getD d {}
    if !x.online ∧ diesOk.getD d true then (t.onDie d fun y => { y with online := true, hung := false }).raise 201 (le 1 d ++ le 1 1) else t) s1
  let s3 := s2.raise 204 (le 4 (if clean then 0 else s.store.pagesSince) ++ le 4 durationMs)
  let s4 := if 0 < s.store.mirrorLost then (s3.raise 195 (le 4 0 ++ le 4 s.store.mirrorLost)).onStore fun t => { t with mirrorLost := 0 } else s3
  (if offSeconds.isNone then s4.readScan else s4).startMark.storeResume

/-! ### Commands (R360, R361, R364) -/

/-- A query answered from the store: one of its records on an offline die ends it with INTERNAL_FAULT (R350). -/
def State.serveRead (s : State) (op : Nat) (c : HostCmd) (n : Nat) (bad offline : State → Bool) (data : State → Bytes) : State :=
  s.serve op c (fun t => [lenIs c n, badField (bad t), (offline t, stInternalFault)]) (fun t => (t, .done (data t)))

/-- A record as STORE_READ returns it: header and data (R337). -/
def storedBytes (r : StoreRec) : Bytes :=
  le 1 r.stream ++ le 1 r.flags ++ le 2 r.size ++ le 8 r.seq ++ le 2 r.week ++ le 2 0 ++ r.stored

/-- Refusals, valid bytes and state (R364, layout log 10). -/
def State.storeStatusData (s : State) : Bytes :=
  let streams := List.range 13 ++ (List.range 16).map (· + 16)
  le 1 s.store.state.code ++ le 2 s.freeTlc ++ le 1 s.freeReserved ++ le 1 (s.latentIn .erased).length ++
  (streams.map fun st => le 1 st ++ le 8 (((s.validRecs st).map (·.size)).sum) ++ le 4 (s.store.refusals.getD st 0)).flatten ++
  le 1 ((s.store.sbs.filter (fun p => decide (34 ≤ p.1) && p.2.phase = .opened)).length) ++
  le 1 (b2n s.store.devActive) ++ le 1 (b2n s.store.gcActive) ++ le 4 s.store.mirrorBytes

def execStoreStatus (c : HostCmd) (s : State) : Host.Outcome State Fault Refusal :=
  .next (s.serveQuery 0x0601 c 0 (fun _ => false) State.storeStatusData)

def State.storeDiesData (s : State) : Bytes :=
  let pes := s.store.sbs.vals.map (·.pe)
  (((List.range 8).map fun d =>
    let x := s.store.dies.getD d {}
    le 1 (b2n x.online) ++ le 1 x.spareBlocks.length ++ le 2 x.retired.length ++ le 2 (pes.sum / 960) ++
    le 2 (pes.foldl max 0) ++ le 2 x.hangs).flatten) ++
  ((List.range 2).map fun k => leI 2 (s.store.tempC.getD k 0) ++ le 8 (s.store.ageA.getD k 0)).flatten

def execStoreDies (c : HostCmd) (s : State) : Host.Outcome State Fault Refusal :=
  .next (s.serveQuery 0x0602 c 0 (fun _ => false) State.storeDiesData)

def execStoreRead (c : HostCmd) (s : State) : Host.Outcome State Fault Refusal :=
  let st := getLE 0 1 c.req
  let n := getLE 12 4 c.req
  .next (s.serveRead 0x0603 c 16
    (fun _ => !streamExists st || st = 0 || (decide (2 ≤ st) && decide (st ≤ 5)) || n = 0 || decide (1024 < n) || !zeroAt 1 3 c.req)
    (fun t => (((t.validRecs st).filter (fun r => decide (getLE 4 8 c.req ≤ r.seq))).take n).any fun r => !t.readable r)
    (fun t => (((t.streamRecs st).filter (fun r => decide (getLE 4 8 c.req ≤ r.seq))).take n |>.map storedBytes).flatten))

def execStoreRefreshNow (c : HostCmd) (s : State) : Host.Outcome State Fault Refusal :=
  let i := getLE 0 2 c.req
  .next (s.serve 0x0604 c
    (fun t => [lenIs c 4, badField (!((t.sb i).phase = .closed || (t.sb i).phase = .verified || (t.sb i).phase = .full) || decide (959 < i) || !zeroAt 2 2 c.req)])
    (fun t => ((t.queueRefresh i 0).defer workRefresh i 0x0604 c, .accepted)))

def execStoreStreamInfo (c : HostCmd) (s : State) : Host.Outcome State Fault Refusal :=
  let st := getLE 0 1 c.req
  .next (s.serveQuery 0x0605 c 4 (fun _ => !streamExists st || !zeroAt 1 3 c.req)
    (fun t => let rs := t.streamRecs st
      le 8 ((rs.head?.map (·.seq)).getD 0) ++ le 8 ((rs.getLast?.map (·.seq)).getD 0) ++ le 2 ((rs.head?.map (·.week)).getD 0xFFFF)))

def batchEntryBytes (n : Nat) (b : BatchEntry) : Bytes := le 8 n ++ le 4 b.cells ++ le 1 (b2n b.complete) ++ le 1 (b2n b.delivered)

def execStoreBatchList (c : HostCmd) (s : State) : Host.Outcome State Fault Refusal :=
  let n := getLE 8 4 c.req
  .next (s.serveQuery 0x0606 c 12 (fun _ => n = 0 || decide (256 < n))
    (fun t => ((t.store.batches.filter (fun p => decide (getLE 0 8 c.req ≤ p.1))).take n |>.map fun p => batchEntryBytes p.1 p.2).flatten))

/-- Whether a batch has a record on an offline die (R350). -/
def State.batchOffline (s : State) (n : Nat) : Bool :=
  ((s.store.batches.get? n).map fun b => b.complete && s.meetsOffline 1 fun r =>
    r.seq = b.header || r.seq = b.trailer || (decide (b.first ≤ r.seq) && decide (r.seq < b.first + b.cells))).getD false

/-- The delivered form of a batch: header, cells, trailer (R51, R360); none when a record of it can no longer be read. -/
def State.batchBytes (s : State) (n : Nat) : Option Bytes :=
  match s.store.batches.get? n with
  | none => none
  | some b =>
    if !b.complete then none else
    let rs := s.streamRecs 1
    let get := fun sq => rs.find? (fun r => r.seq = sq)
    match get b.header, get b.trailer with
    | some h, some t =>
      let cells := rs.filter (fun r => r.kind = 0x81 && decide (b.first ≤ r.seq) && decide (r.seq < b.first + b.cells))
      if cells.length = b.cells then some (h.data ++ (cells.map (·.data)).flatten ++ t.data) else none
    | _, _ => none

def execStoreBatchRead (c : HostCmd) (s : State) : Host.Outcome State Fault Refusal :=
  let n := getLE 0 8 c.req
  let off := getLE 8 4 c.req
  let len := getLE 12 4 c.req
  .next (s.serve 0x0607 c (fun t => [lenIs c 16, badField (len = 0 || decide (262144 < len) || decide (((t.batchBytes n).map (·.length)).getD (off + 1) ≤ off)),
      ((t.batchBytes n).isNone && !t.batchOffline n, stNotFound), (t.batchOffline n, stInternalFault)])
    (fun t => (t, .done (slice off len ((t.batchBytes n).getD [])))))

def execStoreBatchAck (c : HostCmd) (s : State) : Host.Outcome State Fault Refusal :=
  .next (s.serve 0x0608 c (fun _ => [lenIs c 8])
    (fun t => (t.onStore fun st => { st with
      batches := st.batches.mapVals fun k b => if k ≤ getLE 0 8 c.req ∧ b.complete then { b with delivered := true } else b },
      .done [])))

def execStoreRelease (c : HostCmd) (s : State) : Host.Outcome State Fault Refusal :=
  let n := getLE 0 8 c.req
  .next (s.serve 0x0609 c (fun t => [lenIs c 8, ((t.store.batches.get? n).isNone, stNotFound),
      (((t.store.batches.get? n).map (fun b => !b.delivered)).getD false, stDeniedAuth)])
    (fun t => match t.store.batches.get? n with
      | some b => (t.onStore fun st => { st with
          recs := st.recs.mapVals fun _ r => if r.stream = 1 ∧ r.seq ≤ b.trailer then { r with invalid := true } else r }, .done [])
      | none => (t, .done [])))

/-- Volume numbers above 15 do not exist. -/
def badVolume (c : HostCmd) : Bool := decide (15 < getLE 0 1 c.req) || !zeroAt 1 3 c.req

def execVolCreate (c : HostCmd) (s : State) : Host.Outcome State Fault Refusal :=
  let v := getLE 0 1 c.req
  let mib := getLE 4 4 c.req
  .next (s.serve 0x0610 c (fun t => [lenIs c 12, badField (badVolume c), (t.store.vols.has v, stExists),
      (decide (t.cfgN 0x9000 14 < (t.store.vols.vals.map (·.sizeMib)).sum + mib), stStoreFull)])
    (fun t => (t.onStore fun st => { st with vols := st.vols.set v { sizeMib := mib, days := getLE 8 4 c.req } }, .done [])))

/-- Records of a volume's blocks become invalid. -/
def State.dropVolume (s : State) (v : Nat) : State :=
  s.onStore fun st => { st with vols := st.vols.erase v
                                recs := st.recs.mapVals fun _ r => if r.stream = 16 + v then { r with invalid := true } else r }

def execVolDelete (c : HostCmd) (s : State) : Host.Outcome State Fault Refusal :=
  let v := getLE 0 1 c.req
  .next (s.serve 0x0611 c (fun t => [lenIs c 4, badField (badVolume c), (!t.store.vols.has v, stNotFound)])
    (fun t => (t.dropVolume v, .done [])))

/-- Logical blocks of a volume. -/
def State.volBlocks (s : State) (v : Nat) : Nat := ((s.store.vols.get? v).map (·.sizeMib * 256)).getD 0

/-- The packets that the host interface cuts a VOL_WRITE into: at most 15 blocks each, with the 16-byte write header (R361). -/
def volPackets : Nat → Nat → Nat → Bytes → List Bytes
  | 0, _, _, _ => []
  | fuel + 1, v, first, d =>
    if d.isEmpty then [] else
    let n := min 15 (d.length / 4096)
    withEdge (le 1 v ++ zeros 3 ++ le 4 first ++ le 4 n ++ zeros 4 ++ d.take (n * 4096)) :: volPackets fuel v (first + n) (d.drop (n * 4096))

/-- The packets of a VOL_WRITE go to queue 70 up to the first that finds no credit; how many went. -/
def pushVolume (s : State) (v first : Nat) (d : Bytes) : State × Nat × Bool :=
  (volPackets 6 v first d).foldl (fun (acc : State × Nat × Bool) p =>
    if acc.2.2 then let (t, ok) := acc.1.push 10 70 p; (t, acc.2.1 + b2n ok, ok) else acc) (s, 0, true)

def execVolWrite (c : HostCmd) (s : State) : Host.Outcome State Fault Refusal :=
  let v := getLE 0 1 c.req
  let first := getLE 4 4 c.req
  let d := c.req.drop 8
  let k := d.length / 4096
  .next (s.serve 0x0612 c (fun t => [(decide (d.length % 4096 ≠ 0) || k = 0 || decide (64 < k), stBadLength),
      badField (badVolume c || (t.store.vols.has v && decide (t.volBlocks v < first + k))), (!t.store.vols.has v, stNotFound),
      (decide (t.store.state = .full), stStoreFull), (decide (t.store.state = .frozen), stStoreFrozen)])
    (fun t =>
      let (t1, n, ok) := pushVolume t v first d
      let t2 := t1.onStore fun st => { st with
        volPushed := st.volPushed + n
        volWrites := if n = 0 then st.volWrites else st.volWrites ++ [{ headend := c.headend, tag := c.tag, first := st.volPushed, total := n, left := n, ended := !ok }] }
      (t2, if ok then .later else .status stNoCredit [])))

/-- The 4,096 bytes of a block: zeros where nothing is written or the data has expired (R361). -/
def State.volBlock (s : State) (v b : Nat) : Bytes :=
  match (s.store.vols.get? v).bind (fun x => x.blocks.get? b) with
  | none => zeros 4096
  | some key => match s.store.recs.get? (key / 16) with
    | some r => if s.recValid r then padTo 4096 (slice (16 + key % 16 * 4096) 4096 r.data) else zeros 4096
    | none => zeros 4096

/-- Whether a block was written and its data can no longer be read. -/
def State.volExpired (s : State) (v b : Nat) : Bool :=
  match (s.store.vols.get? v).bind (fun x => x.blocks.get? b) with
  | none => false
  | some key => match s.store.recs.get? (key / 16) with
    | some r => !s.recValid r
    | none => true

/-- Whether the data of a block lies on an offline die (R350). -/
def State.volOffline (s : State) (v b : Nat) : Bool :=
  match (s.store.vols.get? v).bind (fun x => x.blocks.get? b) with
  | none => false
  | some key => ((s.store.recs.get? (key / 16)).map fun r => s.recValid r && !s.readable r).getD false

def execVolRead (c : HostCmd) (s : State) : Host.Outcome State Fault Refusal :=
  let v := getLE 0 1 c.req
  let first := getLE 4 4 c.req
  let n := getLE 8 4 c.req
  .next (s.serve 0x0613 c (fun t => [lenIs c 12, badField (badVolume c || n = 0 || decide (64 < n) ||
      (t.store.vols.has v && decide (t.volBlocks v < first + n))), (!t.store.vols.has v, stNotFound)])
    (fun t =>
      let d := ((List.range n).map fun k => t.volBlock v (first + k)).flatten
      if (List.range n).any (fun k => t.volOffline v (first + k)) then (t, .status stInternalFault [])
      else if (List.range n).any (fun k => t.volExpired v (first + k)) then (t, .status stNotFound d) else (t, .done d)))

def execVolTrim (c : HostCmd) (s : State) : Host.Outcome State Fault Refusal :=
  let v := getLE 0 1 c.req
  let first := getLE 4 4 c.req
  let n := getLE 8 4 c.req
  .next (s.serve 0x0614 c (fun t => [lenIs c 12, badField (badVolume c || (t.store.vols.has v && decide (t.volBlocks v < first + n))),
      (!t.store.vols.has v, stNotFound)])
    (fun t => ((t.onStore fun st => { st with vols := st.vols.adj v fun x =>
      { x with blocks := x.blocks.filter (fun p => !(decide (first ≤ p.1) && decide (p.1 < first + n))) } }).dropReplaced v, .done [])))

/-- RELEASE of a sealed stream: records with a lower epoch are invalid (R67, R336). -/
def State.releaseEpoch (s : State) (sealedStream epoch : Nat) : State :=
  s.onStore fun t => { t with
    released := t.released.set sealedStream epoch
    recs := t.recs.mapVals fun _ r => if r.stream = sealedStream + 1 ∧ getLE 8 8 r.data < epoch then { r with invalid := true } else r }

end Sys2Proof.Machine
end

