-- ==== Sys2Proof/Machine/Recorder.lean ====
section
/-! DEFINITION. The event recorder: sequences, channel 0, token buckets, anchors, exposures (R366 to R378). -/

namespace Sys2Proof.Machine
open Sys2Proof

/-- Stream of a recorder channel (R366). -/
def recStream (ch : Nat) : Nat := if recPrivileged ch then 11 else 10

/-- Expiry of a channel's record: NONE in the negative, else roll_days (R373). -/
def State.recWeek (s : State) (ch sq : Nat) : Nat := if sq < recNegative ch then 0xFFFF else s.weekFor (s.cfgN (0xA010 + ch) 1)

/-- Assign the channel sequence, compute the new edge code and hand the record to the store in one step (R368). The record
is the 28 bytes before the edge code; `q` is the queue that holds its packet. -/
def State.recordOpen (s : State) (ch q : Nat) (body : Bytes) : State × Bytes :=
  let sq := (s.recd.channels.getD ch {}).next
  let r := withEdge (le 8 sq ++ (body.drop 8).take 20)
  let s1 := s.onRec fun x => { x with channels := x.channels.upd ch {} fun c => { c with next := sq + 1 } }
  ((s1.acceptRecord (recStream ch) 0 q 0 0 (some (s.recWeek ch sq)) r).1, r)

/-- Packets of queue 71 whose edge code fails at the recorder raise event 224 beside the fabric's own event (R320, R368). -/
def State.recorderNext (s : State) : Option Packet × State :=
  let h := s.store.held.getD 71 0
  let bad := (((s.queue 71).pkts.drop h).takeWhile (fun p => !p.good))
  let (p, s1) := s.nextUnread 71
  (p, bad.foldl (fun t b => t.raise 224 (le 1 (getLE 18 1 b.payload) ++ le 1 0 ++ le 2 (getLE 16 2 b.payload))) s1)

/-- Put a packet that was read back to the front of the unread ones of queue 71. -/
def State.holdRecorder (s : State) : State := s.onStore fun t => { t with held := t.held.upd 71 0 (· + 1) }

/-- The recorder takes an open-die record (R368) and notifies it (R455). -/
def State.recorderPacket (s : State) : State :=
  match s.recorderNext with
  | (none, s1) => s1
  | (some p, s1) =>
    if p.producer = 13 then s1
    else
      let (s2, r) := s1.holdRecorder.recordOpen (getLE 18 1 p.payload) 71 p.payload
      s2.notify (getLE 16 2 p.payload) r

def execRecorderPacket (s : State) : Host.Outcome State Fault Refusal := .next s.recorderPacket

/-- bucket_refill_ms has passed for a source: its bucket gains one token (R370). -/
def State.bucketRefill (s : State) (src : Nat) : State :=
  s.onRec fun r => { r with buckets := r.buckets.adj src fun b => { b with spent := b.spent - 1 } }

def execBucketRefill (src : Nat) (s : State) : Host.Outcome State Fault Refusal := .next (s.bucketRefill src)

/-- Write one anchor to every channel 1 to 15 (R371); none at NT level 0 or 1. -/
def State.writeAnchors (s : State) (cause : Nat) : State :=
  if s.time.level ≤ 1 then s
  else
    ((List.range 15).foldl (fun t k =>
      (t.recordOpen (k + 1) 999 (le 8 0 ++ le 5 s.power.ot ++ le 3 s.power.pcc ++ le 2 (0x100 + cause) ++ le 1 (k + 1) ++
        le 1 s.time.level ++ le 8 s.time.nt.sec)).1) s).onRec fun r => { r with lastAnchorOt := s.power.ot }

/-- Work kind of a REC_ANCHOR_NOW that waits for its anchors (R377). -/
abbrev workAnchor : Nat := 4

/-- Trigger an anchor: it is taken at the next OT increment (R371). -/
def State.anchorDue (s : State) (cause : Nat) : State := s.onRec fun r => { r with anchorsDue := r.anchorsDue ++ [cause] }

/-- Take the anchors whose trigger has come (R371); a COMMAND anchor ends its command once it is committed, which is
when every page accepted so far has been programmed (R377, R338). -/
def State.takeAnchors (s : State) : State :=
  let due := s.recd.anchorsDue
  let s1 := due.foldl (fun t c => t.writeAnchors c) (s.onRec fun r => { r with anchorsDue := [] })
  if due.contains 4 then (s1.flushAll fun _ => true).finish workAnchor 0 stDone [] else s1

/-- anchor_period_s of OT has passed since the last anchor and NT is valid (R371). -/
def State.anchorPeriodic (s : State) : State :=
  if s.recd.lastAnchorOt + s.cfgN 0xA000 0 ≤ s.power.ot ∧ 2 ≤ s.time.level then s.anchorDue 3 else s

def execAnchorPeriodic (s : State) : Host.Outcome State Fault Refusal := .next s.anchorPeriodic

/-- An exposure ends: its pins are released, and what they alone kept in the roll goes (R373, R376). -/
def State.endExposure (s : State) (e : Exposure) : State :=
  (s.onRec fun r => { r with exposures := r.exposures.filter (·.handle ≠ e.handle) }).trimRoll e.channel

/-- exposure_ttl_s has passed since the last command on a handle (R376). -/
def State.exposureExpiry (s : State) (handle : Nat) : State :=
  match s.recd.exposures.find? (·.handle = handle) with
  | none => s
  | some e =>
    if s.power.ot < e.lastOt + s.cfgN 0xA000 1 then s
    else (s.endExposure e).raise 227 (le 1 e.channel ++ zeros 3 ++ le 4 handle)

def execExposureExpiry (handle : Nat) (s : State) : Host.Outcome State Fault Refusal := .next (s.exposureExpiry handle)

/-- The stored records of a channel in ascending sequence. -/
def State.channelRecs (s : State) (ch : Nat) : List StoreRec :=
  (s.validRecs (recStream ch)).filter (fun r => recChannelOf r.data = ch)

/-- One past the last committed sequence of a channel. -/
def State.channelStop (s : State) (ch : Nat) : Nat := (((s.recd.channels.getD ch {}).high).map (· + 1)).getD 0

/-- The lowest stored roll sequence of a channel (R376); one past the last committed sequence while its roll is empty. -/
def State.rollLow (s : State) (ch : Nat) : Nat :=
  (((s.channelRecs ch).filter (fun r => decide (recNegative ch ≤ recSeqOf r.data))).head?.map (fun r => recSeqOf r.data)).getD (s.channelStop ch)

/-- The last committed sequence as 8 bytes: all ones where nothing has been committed (log 9). -/
def State.channelHigh (s : State) (ch : Nat) : Bytes :=
  match (s.recd.channels.getD ch {}).high with
  | some h => le 8 h
  | none => List.replicate 8 255

/-- Records that an exposure shows: those of the negative and of the roll from its low, up to what was committed at its open. -/
def Exposure.shows (e : Exposure) (sq : Nat) : Bool := decide (sq < e.stop) && (decide (sq < recNegative e.channel) || decide (e.low ≤ sq))

/-- A command on a handle (R376). -/
def State.exposureUsed (s : State) (h : Nat) : State :=
  s.onRec fun r => { r with exposures := r.exposures.map fun e => if e.handle = h then { e with lastOt := s.power.ot } else e }

def State.recStatusData (s : State) : Bytes :=
  ((List.range 16).map fun ch =>
    let c := s.recd.channels.getD ch {}
    le 8 (min (recNegative ch) ((c.high.map (· + 1)).getD 0)) ++ le 8 (s.rollLow ch) ++ s.channelHigh ch ++
    le 4 (s.cfgN (0xA010 + ch) 0) ++ le 4 c.lost ++ le 4 c.suppressed ++
    le 1 ((s.recd.exposures.filter (·.channel = ch)).length)).flatten

def execRecStatus (c : HostCmd) (s : State) : Host.Outcome State Fault Refusal :=
  .next (s.serveQuery 0x0701 c 0 (fun _ => false) State.recStatusData)

def execRecRead (c : HostCmd) (s : State) : Host.Outcome State Fault Refusal :=
  let ch := getLE 0 1 c.req
  let n := getLE 12 4 c.req
  .next (s.serveRead 0x0702 c 16 (fun _ => decide (15 < ch) || !zeroAt 1 3 c.req || n = 0 || decide (256 < n))
    (fun t => (((t.channelRecs ch).filter (fun r => decide (getLE 4 8 c.req ≤ recSeqOf r.data))).take n).any fun r => !t.readable r)
    (fun t => le 8 (t.rollLow ch) ++ t.channelHigh ch ++
      ((((t.channelRecs ch).filter (fun r => decide (getLE 4 8 c.req ≤ recSeqOf r.data))).take n).map (·.data)).flatten))

def execRecExposeOpen (c : HostCmd) (s : State) : Host.Outcome State Fault Refusal :=
  let ch := getLE 0 1 c.req
  .next (s.serve 0x0703 c
    (fun t => [lenIs c 4, badField (decide (15 < ch) || !zeroAt 1 3 c.req || !recPrivileged ch), (decide (4 ≤ t.recd.exposures.length), stBusy)])
    (fun t =>
      let h := t.recd.nextHandle
      let e : Exposure := { handle := h, channel := ch, low := t.rollLow ch, stop := t.channelStop ch, lastOt := t.power.ot }
      (t.onRec fun r => { r with exposures := r.exposures ++ [e], nextHandle := (h + 1) % 2 ^ 32 },
        .done (le 4 h ++ le 8 (min (recNegative ch) e.stop) ++ le 8 e.low ++ t.channelHigh ch))))

def execRecExposeRead (c : HostCmd) (s : State) : Host.Outcome State Fault Refusal :=
  let h := getLE 0 4 c.req
  let start := getLE 4 8 c.req
  let n := getLE 12 4 c.req
  .next (s.serve 0x0704 c
    (fun t =>
      let e := t.recd.exposures.find? (·.handle = h)
      [lenIs c 16,
       badField (n = 0 || decide (256 < n) || match e with
         | some x => !x.shows start
         | none => false),
       (e.isNone, stNotFound),
       ((((t.channelRecs ((e.map (·.channel)).getD 0)).filter (fun r => decide (start ≤ recSeqOf r.data) && ((e.map (·.shows (recSeqOf r.data))).getD false))).take n).any
          (fun r => !t.readable r), stInternalFault)])
    (fun t => match t.recd.exposures.find? (·.handle = h) with
      | some e => (t.exposureUsed h, .done ((((t.channelRecs e.channel).filter (fun r =>
          decide (start ≤ recSeqOf r.data) && e.shows (recSeqOf r.data))).take n).map (·.data)).flatten)
      | none => (t, .done [])))

def execRecExposeClose (c : HostCmd) (s : State) : Host.Outcome State Fault Refusal :=
  let h := getLE 0 4 c.req
  .next (s.serve 0x0705 c (fun t => [lenIs c 4, (!t.recd.exposures.any (·.handle = h), stNotFound)])
    (fun t => (((t.recd.exposures.find? (·.handle = h)).map t.endExposure).getD t, .done [])))

def execRecAnchorNow (c : HostCmd) (s : State) : Host.Outcome State Fault Refusal :=
  .next (s.serve 0x0706 c (fun t => [lenIs c 0, (decide (t.time.level ≤ 1), stTimeInvalid)])
    (fun t => ((t.anchorDue 4).defer workAnchor 0 0x0706 c, .later)))

end Sys2Proof.Machine
end

