-- ==== Sys2Proof/Machine/TimeOps.lean ====
section
/-! DEFINITION. Network time: the counter, quality levels, source selection, steps and slews, second markers and the
translation of zero-crossing stamps, PTP messages (R259 to R278). -/

namespace Sys2Proof.Machine
open Sys2Proof

def State.onTime (s : State) (f : Time → Time) : State := { s with time := f s.time }

/-- NT in units of 1/256 ns. -/
def NetTime.units (n : NetTime) : Nat := (n.sec * 1000000000 + n.ns) * 256 + n.frac

/-- NT from units of 1/256 ns; NT does not run below zero. -/
def NetTime.ofUnits (u : Int) : NetTime :=
  let v := u.toNat
  { sec := v / 256 / 1000000000, ns := v / 256 % 1000000000, frac := v % 256 }

/-- NT moved by a number of nanoseconds. -/
def NetTime.addNs (n : NetTime) (d : Int) : NetTime := NetTime.ofUnits ((n.units : Int) + d * 256)

/-- NT in ns. -/
def State.ntNs (s : State) : Int := ((s.time.nt.sec * 1000000000 + s.time.nt.ns : Nat) : Int)

def State.cand (s : State) (i : Nat) : Cand := s.time.cands.getD i {}
def State.onCand (s : State) (i : Nat) (f : Cand → Cand) : State :=
  s.onTime fun t => { t with cands := t.cands.set i (f (t.cands.getD i {})) }
def State.onPtp (s : State) (i : Nat) (f : PtpPort → PtpPort) : State :=
  s.onTime fun t => { t with ports := t.ports.set i (f (t.ports.getD i {})) }

/-- Code of a source in events: 0xFF for none (R279). -/
def sourceCode (o : Option Nat) : Nat := o.getD 0xFF

/-- The level that a candidate would give (R262). -/
def State.candLevel (s : State) (i : Nat) : Nat :=
  let c := s.cand i
  if !c.up then 0
  else if i = 2 then 3
  else if !c.locked then 0
  else if c.clockClass = 6 then 7 else if c.clockClass = 7 ∨ c.clockClass = 52 ∨ c.clockClass = 187 then 6 else 5

/-- A change of quality level: event 147, event 144 and the VALID anchors when NT becomes valid, criterion TIME of a
proving generation (R262, R371, R473). -/
def State.setLevel (s : State) (l : Nat) : State :=
  let old := s.time.level
  if l = old then s
  else
    let s1 := (s.onTime fun t => { t with level := l }).raise 147 (le 1 old ++ le 1 l)
    let s2 := if old ≤ 1 ∧ 2 ≤ l ∧ !s1.time.everValid then
        ((s1.onTime fun t => { t with everValid := true }).raise 144 (le 1 (sourceCode s1.time.source) ++ le 1 l)).anchorDue 0
      else s1
    if l < 4 ∧ 5 ≤ s2.cfg.levelAtDone then s2.criterionFails 5 else s2

/-- The stamp of an event that the time unit captures now (R259). -/
def State.stampNow (s : State) : Stamp :=
  { sec := s.time.nt.sec, ns := s.time.nt.ns, frac := s.time.nt.frac, count := s.time.stepCount % 256 }

/-- Holdover ends: a source gives a level again. -/
def Time.endHoldover (t : Time) : Time := { t with holdoverSince := none, holdoverOver := false }

/-- The source becomes the selected one: event 146 (R261). A PTP source that is not locked yet gives no level, so a holdover goes on (log 164). -/
def State.selectSource (s : State) (i : Nat) : State :=
  let l := s.candLevel i
  let s0 := s.onTime fun t => { t with source := some i, rates := if t.source = some i then t.rates else [] }
  let s1 := if l = 0 then s0 else s0.onTime Time.endHoldover
  let s2 := s1.raise 146 (le 1 (sourceCode s.time.source) ++ le 1 i ++ le 1 (if l = 0 then s.time.level else l))
  if l = 0 then s2 else s2.setLevel l

/-- The better of two candidates: the higher level, then the one listed first in source_order (R261). -/
def State.betterCand (s : State) (a b : Nat) : Nat :=
  if s.candLevel a < s.candLevel b then b
  else if s.candLevel b < s.candLevel a then a
  else
    let order := (List.range 3).map (fun k => (s.cfgE 0x6000 0 k).toNat)
    if order.idxOf b < order.idxOf a then b else a

/-- The selected source gives level `l`. A PTP source that leaves lock is in holdover from then on, like one that is lost (R262, log 164). -/
def State.sourceLevel (s : State) (i l : Nat) : State :=
  if l ≠ 0 then (s.onTime Time.endHoldover).setLevel l
  else if 5 ≤ s.time.level then (s.onTime fun t => { t with holdoverSince := some s.power.ot, lostSource := some i }).setLevel 4
  else s

/-- Select the source by R261: with none selected the best candidate that is up; else a PTP candidate of a higher level that has been
locked for lock_s (the host is never locked, log 164). -/
def State.selectBest (s : State) : State :=
  let ups := (List.range 3).filter (fun i => (s.cand i).up)
  match s.time.source with
  | none =>
    match ups with
    | [] => s
    | a :: rest => s.selectSource (rest.foldl s.betterCand a)
  | some cur =>
    let better := ups.filter (fun i => decide (s.candLevel cur < s.candLevel i) &&
      decide (i ≠ 2) && decide ((s.cand i).lockedOt + s.cfgN 0x6000 1 ≤ s.power.ot))
    match better with
    | [] => s.sourceLevel cur (s.candLevel cur)
    | a :: rest => s.selectSource (rest.foldl s.betterCand a)

/-- Mean of the rates of the last 1,000 s (R268). -/
def meanRate (l : List Int) : Int := if l.isEmpty then 0 else rdivI l.sum l.length

/-- A source is lost (R263, R268): holdover at the mean rate when it was the selected one, then another source when one
is up. Level 4 follows a PTP source of level 5 to 7, from its loss or from when it left lock; level 2 the host. -/
def State.loseSource (s : State) (i : Nat) : State :=
  let s1 := s.onCand i fun c => { c with up := false, locked := false, windowSince := none, offsets := [], delays := [], big := [], haveSync := false }
  if s.time.source = some i then
    let r := meanRate s.time.rates
    let s2 := s1.onTime fun t => { t with
      source := none, lostSource := some i, holdoverSince := some (t.holdoverSince.getD s.power.ot), freqPpb := r, phasePpb := 0 }
    let s3 := s2.raise 148 (le 1 i ++ zeros 3 ++ leI 4 r)
    let s4 := if s.time.level ≤ 1 then s3 else s3.setLevel (if 4 ≤ s.time.level then 4 else 2)
    let s5 := s4.raise 146 (le 1 i ++ le 1 0xFF ++ le 1 s4.time.level)
    s5.selectBest
  else s1

/-- The median of a list of signed numbers: the lower middle one. -/
def medianI (l : List Int) : Int :=
  let sorted := l.foldl (fun acc x => (acc.takeWhile (fun y => decide (y ≤ x))) ++ x :: (acc.dropWhile (fun y => decide (y ≤ x)))) []
  sorted.getD ((sorted.length - 1) / 2) 0

/-- Draw the frequency estimate and the phase term of a slew: the spec gives no filter for them, only the phase term's
limit (R266, log 16). -/
def State.slew (s : State) : State :=
  let lim : Int := s.cfgI 0x6000 3
  let (f, s1) := s.draw 1 4
  let (p, s2) := s1.draw 2 4
  s2.onTime fun t => { t with freqPpb := toSigned 4 f, phasePpb := clampI (-lim) lim (toSigned 4 p) }

/-- An update of the selected source with its measured offset (R266). `off` is NT minus the reference for PTP and the
correction itself is its negative; `before` is the level before the update, `d` the correction to NT in ns. While a step waits for its tick the
phase term stays zero. -/
def State.ntUpdate (s : State) (before i : Nat) (d : Int) : State :=
  if s.time.frozen then s
  else
    let lim : Int := s.cfgI 0x6000 2
    let big := if lim < d.natAbs then ((s.cand i).big ++ [d]).drop ((s.cand i).big.length + 1 - 3) else []
    let s1 := s.onCand i fun c => { c with big := big }
    if before ≤ 1 then s1.onTime fun t => { t with stepPending := some d, phasePpb := 0 }
    else if i = 2 ∧ lim < d.natAbs then s1.onTime fun t => { t with stepPending := some d, phasePpb := 0 }
    else if 3 ≤ big.length then (s1.onTime fun t => { t with stepPending := some (medianI big), phasePpb := 0 }).onCand i fun c => { c with big := [] }
    else if s1.time.stepPending.isSome then s1
    else s1.slew

/-- How far a timeline lies from the 10 ms grid, from −5 ms to 5 ms, in ns (R242). -/
def gridOffset (ns : Int) : Int := (ns + 5000000) % 10000000 - 5000000

/-- A decided step is applied at an OT increment (R266, R371): anchors, the step, event 145, anchors. The slot boundaries of
the radios stay where they are, so they lie `d` further on in NT (R242). -/
def State.applyStep (s : State) : State :=
  match s.time.stepPending with
  | none => s
  | some d =>
    let s1 := s.writeAnchors 1
    let s2 := s1.onTime fun t => { t with nt := t.nt.addNs d, stepPending := none, stepCount := (t.stepCount + 1) % 2 ^ 32 }
    let s3 : State := { s2 with radios := s2.radios.map fun x => { x with shiftNs := if x.s0.isSome then x.shiftNs + d else 0 } }
    (s3.raise 145 (leI 8 d)).writeAnchors 2

/-- NT advances by one second of its rate (R266). -/
def State.ntSecond (s : State) : State :=
  let rate := s.time.freqPpb + s.time.phasePpb
  s.onTime fun t => { t with
    nt := t.nt.addNs (1000000000 + rate)
    rates := if t.source.isSome then (t.rates ++ [rate]).drop (t.rates.length + 1 - 1000) else t.rates }

/-! ### PTP rows -/

/-- A port's delay: the median of the last five (R265). -/
def Cand.delay (c : Cand) : Int := medianI c.delays

/-- rx_lat_ns and tx_lat_ns of a port, which correct its stamps to the medium (R259, R277). -/
def State.rxLat (s : State) (port : Nat) : Int := s.cfgI (0x6010 + port) 11
def State.txLat (s : State) (port : Nat) : Int := s.cfgI (0x6010 + port) 12

/-- A Sync from the selected master with its t1 and the capture of t2, t2's step count as its stamp carries it (R259, R265); NT's UTC offset is
the master's currentUtcOffset negated, as R264 advertises it. -/
def State.ptpSync (s : State) (port : Nat) (t1 t2raw : Int) (count : Nat) : State :=
  if port > 1 ∨ s.cfgN (0x6010 + port) 0 = 0 ∨ (s.time.ports.getD port {}).role ≠ .slave then s
  else
    let s0 := s.adopt 6
    let t2 := t2raw - s0.rxLat port
    let c := s0.cand port
    let s1 := s0.onCand port fun x => { x with t1 := t1, t2 := t2, syncCount := count, haveSync := true, up := true }
    if c.delays.isEmpty ∨ count ≠ s.time.stepCount % 256 then s1.selectBest
    else
      let off := t2 - t1 - c.delay
      let offs := (c.offsets ++ [off]).drop (c.offsets.length + 1 - 4)
      let filt := fdivI offs.sum offs.length
      let within := decide (filt.natAbs ≤ 1000)
      let s2 := s1.onCand port fun x => { x with
        offsets := offs
        locked := x.locked && within
        windowSince := if within then some (x.windowSince.getD s.power.ot) else none }
      let s3 := s2.selectBest
      if s3.time.source = some port then
        (s3.onTime fun t => { t with filtered := filt, utcOffset := (c.utc.map fun u => -u).getD (s.cfgI 0x6000 8) }).ntUpdate s.time.level port (-off)
      else s3

def execPtpSync (port : Nat) (t1 t2 : Int) (count : Nat) (s : State) : Host.Outcome State Fault Refusal := .next (s.ptpSync port t1 t2 count)

/-- A Delay_Resp completes a delay measurement from the capture of t3 and the master's t4 (R265); one whose stamps carry different step counts is discarded. -/
def State.ptpDelayResp (s : State) (port : Nat) (t3 t4 : Int) (count : Nat) : State :=
  let c := s.cand port
  if port > 1 ∨ !c.haveSync ∨ c.syncCount ≠ count then s
  else
    let d := fdivI ((c.t2 - c.t1) + (t4 - (t3 + s.txLat port))) 2
    s.onCand port fun x => { x with delays := (x.delays ++ [d]).drop (x.delays.length + 1 - 5) }

def execPtpDelayResp (port : Nat) (t3 t4 : Int) (count : Nat) (s : State) : Host.Outcome State Fault Refusal := .next (s.ptpDelayResp port t3 t4 count)

/-- Lexicographic comparison of Announce data sets: the lower one is better (IEEE 1588 BMCA, log 17). -/
def lexLt : List Nat → List Nat → Bool
  | [], [] => false
  | [], _ => true
  | _, [] => false
  | a :: s, b :: t => decide (a < b) || (a = b && lexLt s t)

/-- clockClass that the device advertises by its level (R264). -/
def advertisedClass (level : Nat) : Nat := if level = 7 then 6 else if level = 6 ∨ level = 4 then 7 else 248

/-- The device's own Announce data set on a port: priority1, clockClass, accuracy and variance unknown, priority2, identity. -/
def State.ownDataset (s : State) (port : Nat) : List Nat :=
  [s.cfgN (0x6010 + port) 9, advertisedClass s.time.level, 0xFE, 0xFFFF, s.cfgN (0x6010 + port) 10, fromBE (Config.openIdentity.take 8)]

/-- An Announce is received (R264): the best master is followed; a master-capable port that is better itself is master. -/
def State.ptpAnnounce (s : State) (port : Nat) (dataset : List Nat) (gm : Bytes) (utc : Option Int) : State :=
  if port > 1 ∨ s.cfgN (0x6010 + port) 0 = 0 then s
  else
    let c := s.cand port
    let best := if c.best.isEmpty ∨ c.gm = gm ∨ lexLt dataset c.best then dataset else c.best
    let isBest := decide (best = dataset)
    let own := s.cfgN (0x6010 + port) 1 = 1 ∧ 2 ≤ s.time.level ∧ lexLt (s.ownDataset port) best
    let s1 := if isBest then s.onCand port fun x => { x with best := best, gm := gm, clockClass := dataset.getD 1 248, utc := utc }
              else s
    let s2 := s1.onPtp port fun p => { p with role := if own then .master else .slave }
    if own then (if (s.time.ports.getD port {}).role = .slave then s2.loseSource port else s2)
    else (s2.onCand port fun x => { x with up := true }).selectBest

def execPtpAnnounce (port : Nat) (dataset : List Nat) (gm : Bytes) (utc : Option Int) (s : State) :
    Host.Outcome State Fault Refusal := .next (s.ptpAnnounce port dataset gm utc)

/-- The announce receipt timeout expires: the source is lost; a master-capable port becomes master (R263, R264). -/
def State.ptpAnnounceTimeout (s : State) (port : Nat) : State :=
  if port > 1 then s
  else
    let role : PtpRole := if s.cfgN (0x6010 + port) 1 = 1 then (if 2 ≤ s.time.level then .master else .passive) else .listening
    ((s.onPtp port fun p => { p with role := role }).onCand port fun c => { c with best := [], gm := [] }).loseSource port

def execPtpAnnounceTimeout (port : Nat) (s : State) : Host.Outcome State Fault Refusal := .next (s.ptpAnnounceTimeout port)

/-- Three Sync intervals without a usable offset lose the source (R263). -/
def execPtpSyncLoss (port : Nat) (s : State) : Host.Outcome State Fault Refusal :=
  .next (if port ≤ 1 then s.loseSource port else s)

/-- The filtered offset has stayed within ±1,000 ns for lock_s: the source is locked (R263). -/
def State.ptpLocked (s : State) (port : Nat) : State :=
  match (s.cand port).windowSince with
  | some t =>
    if port ≤ 1 ∧ t + s.cfgN 0x6000 1 ≤ s.power.ot ∧ (s.cand port).up then
      (s.onCand port fun c => { c with locked := true, lockedOt := if c.locked then c.lockedOt else s.power.ot }).selectBest
    else s
  | none => s

def execPtpLocked (port : Nat) (s : State) : Host.Outcome State Fault Refusal := .next (s.ptpLocked port)

/-- A PTP message header (IEEE 1588-2019; multi-byte fields in its byte order, R8, log 17). -/
def ptpHeader (typ len domain flags seq logInt port : Nat) : Bytes :=
  le 1 typ ++ le 1 2 ++ be 2 len ++ le 1 domain ++ le 1 0 ++ be 2 flags ++ zeros 8 ++ zeros 4 ++ padTo 8 (Config.openIdentity.take 8) ++
  be 2 (port + 1) ++ be 2 seq ++ le 1 0 ++ le 1 logInt

/-- NT as a PTP timestamp. -/
def ptpStamp (n : NetTime) : Bytes := be 6 n.sec ++ be 4 n.ns

/-- As master a port sends Announce and Sync (two-step: Sync and Follow_Up) at their intervals; at level 0 or 1 nothing
(R264, R269). -/
def State.ptpSyncTx (s : State) (port : Nat) (announce : Bool) : State :=
  let p := s.time.ports.getD port {}
  if port > 1 ∨ p.role ≠ .master ∨ !p.link ∨ s.time.level ≤ 1 then s
  else
    let o := 0x6010 + port
    let dom := s.cfgN o 3
    let sent := ptpStamp (s.time.nt.addNs (s.txLat port))
    if announce then
      let body := ptpStamp s.time.nt ++ beI 2 (-s.time.utcOffset) ++ le 1 0 ++ le 1 (s.cfgN o 9) ++ le 1 (advertisedClass s.time.level) ++
        le 1 0xFE ++ be 2 0xFFFF ++ le 1 (s.cfgN o 10) ++ padTo 8 (Config.openIdentity.take 8) ++ be 2 0 ++ le 1 0xA0
      (s.onPtp port fun x => { x with announceSeq := (x.announceSeq + 1) % 65536 }).send 11 (32 + port)
        (withEdge (ptpHeader 0x0B 64 dom 0x000C p.announceSeq (s.cfgI o 7 % 256).toNat port ++ body))
    else
      let oneStep := s.cfgN o 4 = 1
      let li := (s.cfgI o 5 % 256).toNat
      let sync := ptpHeader 0x00 44 dom (if oneStep then 0 else 0x0200) p.syncSeq li port ++ (if oneStep then sent else zeros 10)
      let s1 := (s.onPtp port fun x => { x with syncSeq := (x.syncSeq + 1) % 65536 }).send 11 (32 + port) (withEdge sync)
      if oneStep then s1 else s1.send 11 (32 + port) (withEdge (ptpHeader 0x08 44 dom 0 p.syncSeq li port ++ sent))

def execPtpSyncTx (port : Nat) (announce : Bool) (s : State) : Host.Outcome State Fault Refusal := .next ((s.adopt 6).ptpSyncTx port announce)

/-- As slave a port sends a Delay_Req at its interval (R264). -/
def State.ptpDelayReqTx (s : State) (port : Nat) : State :=
  let p := s.time.ports.getD port {}
  if port > 1 ∨ p.role ≠ .slave ∨ !p.link then s
  else (s.onPtp port fun x => { x with delaySeq := (x.delaySeq + 1) % 65536 }).send 11 (32 + port)
    (withEdge (ptpHeader 0x01 44 (s.cfgN (0x6010 + port) 3) 0 p.delaySeq 0x7F port ++ ptpStamp s.time.nt))

def execPtpDelayReqTx (port : Nat) (s : State) : Host.Outcome State Fault Refusal := .next (s.ptpDelayReqTx port)

/-- As master a port answers a Delay_Req with its receive stamp t4 (R264). -/
def State.ptpDelayReqReceived (s : State) (port seq : Nat) (requester : Bytes) (t4raw : Nat) : State :=
  let p := s.time.ports.getD port {}
  let t4 := ((t4raw : Int) - s.rxLat port).toNat
  if port > 1 ∨ p.role ≠ .master ∨ s.time.level ≤ 1 then s
  else s.send 11 (32 + port) (withEdge (ptpHeader 0x09 54 (s.cfgN (0x6010 + port) 3) 0 seq (s.cfgI (0x6010 + port) 6 % 256).toNat port ++
    be 6 (t4 / 1000000000) ++ be 4 (t4 % 1000000000) ++ padTo 10 requester))

def execPtpDelayReqReceived (port seq : Nat) (requester : Bytes) (t4 : Nat) (s : State) : Host.Outcome State Fault Refusal :=
  .next (s.ptpDelayReqReceived port seq requester t4)

/-- A management message is answered read-only: a SET is answered with the error status NOT_SETABLE (R264). -/
def State.ptpManagement (s : State) (port seq action : Nat) (tlv : Bytes) : State :=
  if port > 1 ∨ s.cfgN (0x6010 + port) 0 = 0 then s
  else
    let status : Bytes := if action = 1 then be 2 2 ++ be 2 8 ++ be 2 0x0004 ++ padTo 2 (tlv.drop 4) ++ zeros 4
      else be 2 1 ++ be 2 (tlv.length - 2) ++ tlv.drop 4
    s.send 11 (32 + port) (withEdge (ptpHeader 0x0D (48 + status.length) (s.cfgN (0x6010 + port) 3) 0 seq 0x7F port ++ zeros 10 ++
      zeros 2 ++ le 1 2 ++ le 1 0 ++ status))

def execPtpManagement (port seq action : Nat) (tlv : Bytes) (s : State) : Host.Outcome State Fault Refusal := .next (s.ptpManagement port seq action tlv)

/-- An Ethernet port's link goes down or up (R263). -/
def State.ethLinkChange (s : State) (port : Nat) (up : Bool) : State :=
  if port > 1 then s
  else
    let s1 := s.onPtp port fun p => { p with link := up, role := if up then p.role else .listening }
    if up then s1 else (s1.onCand port fun c => { c with best := [], gm := [] }).loseSource port

def execEthLinkChange (port : Nat) (up : Bool) (s : State) : Host.Outcome State Fault Refusal := .next (s.ethLinkChange port up)

/-- host_hold_s after the last TIME_SET the host source is lost (R263); its level falls to 2 (R262). -/
def State.hostSourceLost (s : State) : State :=
  match s.time.hostSetOt with
  | some t => if t + s.cfgN 0x6000 6 ≤ s.power.ot ∧ (s.cand 2).up then s.loseSource 2 else s
  | none => s

def execHostSourceLost (s : State) : Host.Outcome State Fault Refusal := .next s.hostSourceLost

/-- holdover_s expires (R268): level 4 becomes 2, event 149. -/
def State.holdoverExpiry (s : State) : State :=
  match s.time.holdoverSince with
  | some t =>
    if !s.time.holdoverOver ∧ t + s.cfgN 0x6000 4 ≤ s.power.ot then
      ((if s.time.level = 4 then s.setLevel 2 else s).onTime fun x => { x with holdoverOver := true }).raise 149 (le 1 (sourceCode s.time.lostSource))
    else s
  | none => s

def execHoldoverExpiry (s : State) : Host.Outcome State Fault Refusal := .next s.holdoverExpiry

/-! ### Markers and zero-crossing stamps -/

/-- Translate a stamp that lies between two markers of equal correction count (R271): `none` while the marker after it has
not come, `some none` when it is discarded. -/
def State.translateZx (s : State) (z : ZxStamp) : Option (Option ZxNt) :=
  let sec := z.z / 1000000000
  match s.time.markers.find? (fun m => m.sec = sec), s.time.markers.find? (fun m => m.sec = sec + 1) with
  | some a, some b =>
    if a.count ≠ b.count then some none
    else
      let num : Int := ((z.z : Int) + a.delta) * 1000000000 + (b.delta - a.delta) * ((z.z % 1000000000 : Nat) : Int)
      some (some { channel := z.channel, nt := (fdivI (num * 256) 1000000000).toNat, flags := z.flags, half := z.half })
  | none, some _ => some none
  | none, none => if s.time.markers.any (fun m => decide (sec + 1 < m.sec)) then some none else none
  | some a, none => if s.time.markers.any (fun m => decide (a.sec + 1 < m.sec)) then some none else none

/-- Translate every held stamp that can be; keep translated stamps of the last 10 s. -/
def State.translateHeld (s : State) : State :=
  let res := s.time.zxHeld.map (fun z => (z, s.translateZx z))
  let done := res.filterMap (fun p => match p.2 with
    | some (some n) => some n
    | _ => none)
  let kept := res.filterMap (fun p => if p.2.isNone then some p.1 else none)
  let all := s.time.zxDone ++ done
  let newest := all.foldl (fun m z => max m z.nt) 0
  s.onTime fun t => { t with zxHeld := kept, zxDone := all.filter (fun z => decide (newest < z.nt + 10 * 256000000000)) }

/-- Whether the zero crossings of a mains phase (1 to 3) are LOST for the ports: as event 46 said, or every one while markers are missing
(R218, R271). -/
def State.phaseLost (s : State) (ph : Nat) : Bool := s.time.markerLost || s.plc.zxLost.getD (ph - 1) false

/-- Event base + 7 of every working port, for each phase whose condition changes: 0 on entering it, 1 on leaving it (R218). -/
def State.zxReference (s : State) (phases : List Nat) (st : Nat) : State :=
  (List.range 4).foldl (fun t p => if t.plcUp p then phases.foldl (fun u ph => u.raisePlc p 7 (le 1 ph ++ le 1 st)) t else t) s

/-- The phases that no event 46 holds LOST. -/
def State.phasesHeld (s : State) : List Nat := ([1, 2, 3] : List Nat).filter fun ph => !s.plc.zxLost.getD (ph - 1) false

/-- A second marker arrives with its capture in NT nanoseconds (R270). -/
def State.markerArrives (s : State) (sec count : Nat) (capture : Int) : State :=
  let m : Marker := { sec := sec, delta := capture - (Config.linkDelay % 65536 : Nat) - (sec : Int) * 1000000000, count := count, step := s.time.stepCount % 256 }
  (s.onTime fun t => { t with markers := (m :: t.markers).take 16, markerOt := some s.power.ot, markerLost := false }).translateHeld.zxReference
    (if s.time.markerLost then s.phasesHeld else []) 1

/-- The time unit takes the head of ZX_IN; skipped copies are counted, not recovered (R271, R321). -/
def State.zxInPacket (s : State) : State :=
  let (p, s1) := s.takeHead 59
  let sk := ((s1.fabric.lastNotice.get? 59).map (·.skipped)).getD 0
  match p with
  | none => s1
  | some p =>
    let b := p.payload.drop 12
    let n := getLE 0 1 b
    let zs := (List.range n).map fun k =>
      let o := 4 + 16 * k
      ({ z := getLE o 8 b * 1000000000 + getLE (o + 8) 4 b, channel := getLE (o + 12) 1 b, flags := getLE (o + 13) 1 b, half := getLE (o + 14) 2 b } : ZxStamp)
    (s1.onTime fun t => { t with
      zxHeld := if t.markerLost then t.zxHeld else t.zxHeld ++ zs
      zxSkipped := t.zxSkipped + sk }).translateHeld

/-- Δ̂: Δ of the latest marker (R272). -/
def State.deltaHat (s : State) : Int := (s.time.markers.head?.map (·.delta)).getD 0

/-- |Δ̂| in whole milliseconds, rounded up (R272). -/
def State.deltaMs (s : State) : Nat := cdiv s.deltaHat.natAbs 1000000

end Sys2Proof.Machine
end

