-- ==== Sys2Proof/Machine/Fog.lean ====
section
/-! DEFINITION. The fog registers: unlocking, locking, injection (R514 to R523). -/

namespace Sys2Proof.Machine
open Sys2Proof

/-- A test unlock comes into force (R514, R515, R517): event 248, the proving period pauses. -/
def State.fogUnlock (s : State) (duration classes version : Nat) : State :=
  let s1 := (s.onFog fun f => { f with unlock := some { classes := classes, duration := duration, since := s.power.ot, version := version } }).onCfg
    fun c => { c with paused := decide (c.genState = .proving) }
  s1.raise 248 (le 1 classes ++ zeros 3 ++ le 4 duration)

/-- The unlock ends with a cause (R515): event 249, proving resumes (R517). Injections that are
pending act no more while no unlock of their class is in force. -/
def State.fogLock (s : State) (cause : Nat) : State :=
  match s.fog.unlock with
  | none => s
  | some u =>
    let s1 := (s.onFog fun f => { f with unlock := none }).onCfg fun c => { c with paused := !c.adopting.isEmpty }
    s1.raise 249 (le 1 cause ++ zeros 3 ++ le 4 (s.power.ot - u.since))

/-- The duration expires (R515). -/
def execUnlockExpiry (s : State) : Host.Outcome State Fault Refusal :=
  .next (match s.fog.unlock with
    | some u => if u.since + u.duration ≤ s.power.ot then s.fogLock 1 else s
    | none => s)

/-- FOG_STATUS (R522). -/
def State.fogStatusData (s : State) : Bytes :=
  let u : Unlock := s.fog.unlock.getD { classes := 0, duration := 0, since := 0, version := 0 }
  le 1 (b2n s.fog.unlock.isSome) ++ zeros 3 ++ le 4 u.classes ++ le 4 (u.since + u.duration - s.power.ot) ++ le 4 u.version ++
  ((numbered 0xF000).map (fun p => leI p.2.size (s.fogN p.1))).flatten ++
  (s.fog.programFails.map (le 1)).flatten ++ (s.fog.eraseFails.map (le 1)).flatten

def execFogStatus (c : HostCmd) (s : State) : Host.Outcome State Fault Refusal :=
  .next (s.serveQuery 0x1F01 c 0 (fun _ => false) State.fogStatusData)

/-- Whether the injection lies outside the table of R519. -/
def badInjection (req : Bytes) : Bool :=
  let kind := getLE 0 1 req
  let target := getLE 1 1 req
  let p := getI 4 4 req
  !zeroAt 2 2 req ||
  !(((kind = 1 || kind = 2) && decide (target ≤ 7) && decide (1 ≤ p) && decide (p ≤ 16)) ||
    (kind = 3 && target = 0 && decide (p ≠ 0) && decide (p.natAbs ≤ 86400000)))

/-- FOG_INJECT (R519): event 250. -/
def State.fogInject (s : State) (req : Bytes) : State :=
  let kind := getLE 0 1 req
  let target := getLE 1 1 req
  let p := getI 4 4 req
  let s1 := s.onFog fun f =>
    if kind = 1 then { f with programFails := f.programFails.set target (f.programFails.getD target 0 + p.toNat) }
    else if kind = 2 then { f with eraseFails := f.eraseFails.set target (f.eraseFails.getD target 0 + p.toNat) }
    else { f with clockStepMs := some (f.clockStepMs.getD 0 + p) }
  s1.raise 250 (le 1 kind ++ le 1 target ++ zeros 2 ++ leI 4 p)

def execFogInject (c : HostCmd) (s : State) : Host.Outcome State Fault Refusal :=
  .next (s.serve 0x1F02 c
    (fun t => [lenIs c 8, badField (badInjection c.req),
      (!t.fogActs (if getLE 0 1 c.req = 3 then 5 else 2), stDeniedAuth)])
    (fun t => (t.fogInject c.req, .done [])))

def execFogLock (c : HostCmd) (s : State) : Host.Outcome State Fault Refusal :=
  .next (s.serve 0x1F03 c (fun t => [lenIs c 0, (t.fog.unlock.isNone, stNotFound)]) (fun t => (t.fogLock 2, .done [])))

end Sys2Proof.Machine
end

