-- ==== Sys2Proof/Machine/Tables.lean ====
section
/-! DEFINITION. The endpoint directory and forwarding tables: layouts, hashes, placement, writes and deletes, lookups,
notices, the shadow and its proofs (R280 to R303). -/

namespace Sys2Proof.Machine
open Sys2Proof

def State.onTbl (s : State) (f : Tbl → Tbl) : State := { s with tbl := f s.tbl }

/-- "none" of EIX fields (R286, R295). -/
abbrev noEix : Nat := 0x3FFFF

/-! ### Layouts -/

/-- A directory entry's 24 bytes (R281). -/
def DirEntry.bytes (e : DirEntry) : Bytes :=
  padTo 8 e.eui ++ le 2 e.short ++ le 1 e.port ++ le 1 e.flags ++ le 1 e.wpos ++ le 1 e.wfill ++ le 2 e.gen ++ le 4 e.rep ++ le 4 e.plain

/-- A prefix entry's 24 bytes (R286). -/
def PfxEntry.bytes (e : PfxEntry) : Bytes := padTo 16 e.pfx ++ le 1 e.len ++ le 1 e.flags ++ le 2 e.gen ++ le 4 e.result

/-- A notice's 48 bytes (R295). -/
def LearnNotice.bytes (n : LearnNotice) : Bytes :=
  le 1 n.kind ++ le 1 n.frames ++ le 2 n.number ++ le 4 n.eix ++ padTo 8 n.key ++ le 8 (n.first / 1000000000) ++
  le 4 (n.first % 1000000000) ++
  ((List.range 4).map (fun i => match n.sightings[i]? with
    | some g => le 1 g.port ++ le 1 g.cost ++ le 2 g.ms
    | none => [0xFF#8, 0#8, 0#8, 0#8])).flatten ++ zeros 4

/-- The bytes of a direct-index slot (R284). -/
def directBytes (eix : Nat) : Bytes := le 4 (eix + 2 ^ 18)

/-- Proof fields of an entry of a region (R302). -/
def proofFields (region : Nat) (b : Bytes) : Bytes :=
  if region = 0 then
    let f := getLE 11 1 b
    slice 0 11 b ++ le 1 (setBit (setBit f 1 false) 5 false) ++ slice 14 2 b
  else if region = 4 then slice 0 17 b ++ le 1 (setBit (getLE 17 1 b) 1 false) ++ slice 18 6 b
  else b

/-! ### Hashes and placement -/

/-- CRC-32C with a given initial value (R283). -/
def crcFrom (seed : Nat) (b : Bytes) : Nat := Nat.xor (b.foldl crcByte seed) 0xFFFFFFFF

/-- A free slot among the `n` at `base`. -/
def freeSlot {α : Type} (t : Tab α) (base n : Nat) : Option Nat := ((List.range n).map (· + base)).find? (fun p => !t.has p)

/-- Base of a key's buckets in bank 0 and bank 1, and its signature (R283). -/
def dirHash (seed0 seed1 : Nat) (eui : Bytes) : Nat × Nat × Nat :=
  let h0 := crcFrom seed0 eui
  ((h0 % 32768) * 8, (32768 + crcFrom seed1 eui % 32768) * 8, h0 / 32768 % 8192)

/-- Place a key in the directory index (R299): the lowest free slot of its bank-0 bucket, then of its bank-1 bucket, then by
moving one resident. -/
def placeDir (seed0 seed1 : Nat) (euiOf : Nat → Bytes) (idx : Tab (Nat × Nat)) (eix : Nat) : Option (Tab (Nat × Nat)) :=
  let (b0, b1, sig) := dirHash seed0 seed1 (euiOf eix)
  match freeSlot idx b0 8 with
  | some p => some (idx.set p (eix, sig))
  | none =>
    match freeSlot idx b1 8 with
    | some p => some (idx.set p (eix, sig))
    | none =>
      ((List.range 8).map (· + b0)).findSome? fun p =>
        match idx.get? p with
        | none => none
        | some (r, rs) =>
          let (_, r1, _) := dirHash seed0 seed1 (euiOf r)
          (freeSlot idx r1 8).map (fun j => (idx.set j (r, rs)).set p (eix, sig))

/-- EUI-64 of an EIX's entry. -/
def Tbl.euiOf (t : Tbl) (eix : Nat) : Bytes := ((t.dir.get? eix).map (·.eui)).getD []

/-- The exact lookup of R283: the EIX whose entry has EUI-64 `k`. -/
def Tbl.findEui (t : Tbl) (k : Bytes) : Option Nat :=
  let (b0, b1, sig) := dirHash t.dirSeed0 t.dirSeed1 k
  ((List.range 8).map (· + b0) ++ (List.range 8).map (· + b1)).findSome? fun p =>
    match t.index.get? p with
    | some (e, sg) => if sg = sig ∧ t.dir.has e ∧ t.euiOf e = k then some e else none
    | none => none

/-- Take an EIX out of the directory index. -/
def Tbl.unindex (t : Tbl) (eix : Nat) : Tbl := { t with index := t.index.filter (fun p => p.2.1 ≠ eix) }

/-- The direct-index position of an entry, when it owns one (R282, R284). -/
def DirEntry.slot (e : DirEntry) : Option Nat :=
  if e.port < 8 ∧ e.short ≠ 0xFFFF ∧ e.short ≠ 0 ∧ e.short ≠ 0xFFFE then some (e.port * 65536 + e.short) else none

/-- Remember changed positions of the shadow (R301). -/
def Tbl.touch (t : Tbl) (ps : List (Nat × Nat)) : Tbl :=
  { t with dirty := (t.dirty ++ ps).eraseDups, damaged := t.damaged.filter (fun d => !ps.contains d) }

/-- Write an entry that has passed its checks: directory, old and new direct-index slots (R307). -/
def Tbl.putDir (t : Tbl) (eix : Nat) (e : DirEntry) : Tbl :=
  let old := (t.dir.get? eix).bind DirEntry.slot
  let d1 := match old with
    | some p => t.direct.erase p
    | none => t.direct
  let d2 := match e.slot with
    | some p => d1.set p eix
    | none => d1
  let ps := (0, eix) :: (old.toList ++ e.slot.toList).map (fun p => (2, p))
  let bound := (t.dir.get? eix).map (fun o => (o.port, o.short, o.eui)) ≠ some (e.port, e.short, e.eui)
  ({ t with dir := t.dir.set eix e, direct := d2, bindChanged := if bound then (t.bindChanged ++ [eix]).eraseDups else t.bindChanged }).touch ps

/-- Remove an entry with its index and direct-index slots (R306). -/
def Tbl.dropDir (t : Tbl) (eix : Nat) : Tbl :=
  let old := (t.dir.get? eix).bind DirEntry.slot
  let t1 := t.unindex eix
  ({ t1 with
    dir := t1.dir.erase eix, windows := t1.windows.erase eix, bindChanged := (t1.bindChanged ++ [eix]).eraseDups
    direct := match old with
      | some p => t1.direct.erase p
      | none => t1.direct }).touch ((0, eix) :: old.toList.map (fun p => (2, p)))

/-- Unbind an entry (R297): Port UNBOUND, the slot cleared, the generation up. -/
def Tbl.unbind (t : Tbl) (eix : Nat) : Tbl :=
  match t.dir.get? eix with
  | some e => t.putDir eix { e with port := 0xF, flags := setBit e.flags 1 false, gen := (e.gen + 1) % 65536 }
  | none => t

/-! ### Prefixes -/

/-- Length of a slot, if it is active, and its bank mask (R287, R309). -/
def State.pfxSlotLen (s : State) (i : Nat) : Nat := (s.cfgE 0x7002 0 i).toNat
def State.pfxSlotMask (s : State) (i : Nat) : Nat := (s.cfgE 0x7002 1 i).toNat

/-- The active slot of a prefix length. -/
def State.pfxSlotOf (s : State) (len : Nat) : Option Nat :=
  if 128 < len then none else (List.range 32).find? (fun i => s.pfxSlotLen i = len)

/-- The first `len` bits of an address, the rest zero. -/
def maskPrefix (len : Nat) (a : Bytes) : Bytes :=
  be 16 (fromBE (padTo 16 a) / 2 ^ (128 - len) * 2 ^ (128 - len))

/-- The key of a prefix (R288). -/
def pfxKey (len : Nat) (a : Bytes) : Bytes := (maskPrefix len a).take (cdiv len 8) ++ le 1 len

/-- Base of a prefix's bucket in a bank (R288). -/
def pfxBase (seed bank len : Nat) (a : Bytes) : Nat := (bank * 1024 + crcFrom seed (pfxKey len a) % 1024) * 5

/-- Banks of a mask in ascending number. -/
def banksOf (mask : Nat) : List Nat := (List.range 16).filter (bit mask)

/-- The first free slot for a prefix (R288). -/
def placePfx {α : Type} (seed mask len : Nat) (t : Tab α) (a : Bytes) : Option Nat :=
  (banksOf mask).findSome? (fun b => freeSlot t (pfxBase seed b len a) 5)

/-- Position of a valid prefix. -/
def Tbl.findPfx (t : Tbl) (mask len : Nat) (a : Bytes) : Option Nat :=
  ((banksOf mask).map (fun b => (List.range 5).map (· + pfxBase t.pfxSeed b len a))).flatten.find? fun p =>
    match t.pfx.get? p with
    | some e => e.len = len && maskPrefix len e.pfx == maskPrefix len a
    | none => false

/-- The filter entries that a prefix sets: first entry, how many, slot (R289). -/
def filterRange (slot len : Nat) (a : Bytes) : Nat × Nat × Nat :=
  let top := getBE 0 2 (maskPrefix len a)
  if 16 ≤ len then (top, 1, slot) else (top, 2 ^ (16 - len), slot)

/-- Whether bit `slot` of filter entry `j` is set. -/
def Tbl.filterBit (t : Tbl) (j slot : Nat) : Bool :=
  t.filter.any (fun r => r.2.2 = slot && decide (r.1 ≤ j) && decide (j < r.1 + r.2.1))

/-- The prefix lookup of R290: position of the longest match among the slots that the filter names. -/
def State.lpm (s : State) (a : Bytes) : Option Nat :=
  let j := getBE 0 2 a
  let slots := (List.range 32).filter (fun i => decide (s.pfxSlotLen i ≤ 128) && s.tbl.filterBit j i)
  slots.foldl (fun best i =>
    match s.tbl.findPfx (s.pfxSlotMask i) (s.pfxSlotLen i) a with
    | none => best
    | some p =>
      match best with
      | none => some p
      | some b => if ((s.tbl.pfx.get? b).map (·.len)).getD 0 < s.pfxSlotLen i then some p else best) none

/-- Whether the queue number of a prefix result belongs to its egress (R322). -/
def State.queueOfEgress (s : State) (egress q : Nat) : Bool :=
  if egress = 12 ∨ egress = 13 then true
  else if q = egressQueue egress then true
  else decide (128 ≤ q) && decide (q ≤ 255) && decide (s.qLimit q ≠ 0) && s.cfgN (0x8100 + q) 2 = egress

/-- Event 166 (R299). -/
def State.rehashNeeded (s : State) (table len : Nat) : State := s.raise 166 (le 1 table ++ le 1 len)

/-! ### Writes and deletes -/

/-- A WRITE of a directory entry (R307): the new state and the status. -/
def State.writeDir (s : State) (replace : Bool) (eix : Nat) (img : Bytes) : State × Nat :=
  let eui := slice 0 8 img
  let short := getLE 8 2 img
  let pb := getLE 10 1 img
  let fl := getLE 11 1 img
  let t := s.tbl
  let old := t.dir.get? eix
  let fresh : DirEntry := { eui := eui, short := short, port := pb % 16, flags := setBit (setBit (setBit (fl % 64) 0 true) 1 false) 5 false }
  let bad := 16 ≤ pb ∨ 64 ≤ fl ∨ (8 ≤ pb ∧ pb ≠ 15) ∨ short = 0 ∨ short = 0xFFFE ∨
    (bit fl 3 ∧ (pb ≠ 15 ∨ some (eix / 16384) = s.member))
  let otherEui := match t.findEui eui with
    | some e => decide (e ≠ eix)
    | none => false
  let otherSlot := match fresh.slot.bind t.direct.get? with
    | some e => !replace || decide (e ≠ eix)
    | none => false
  let st := firstFailure [(t.rebuild.isSome, stBusy), (decide bad, stBadField), (replace && old.isNone, stNotFound),
    ((!replace && old.isSome) || otherEui || otherSlot, stExists)]
  match st with
  | some code => (s, code)
  | none =>
    let entry := match old with
      | some o => { fresh with
          flags := if bit o.flags 5 then setBit fresh.flags 5 true else fresh.flags
          wpos := o.wpos, wfill := if o.eui = eui then o.wfill else 0
          gen := (o.gen + 1) % 65536, rep := o.rep, plain := o.plain }
      | none => fresh
    let same := (old.map (·.eui)) = some eui
    if same then (s.onTbl fun x => x.putDir eix entry, stDone)
    else
      let t1 := t.unindex eix
      let euiOf := fun e => if e = eix then eui else t.euiOf e
      match placeDir t.dirSeed0 t.dirSeed1 euiOf t1.index eix with
      | none => (s.rehashNeeded 0 0xFF, stRehashNeeded)
      | some idx => (s.onTbl fun x => ({ x with index := idx, windows := x.windows.erase eix }).putDir eix entry, stDone)

/-- A WRITE of a prefix entry (R288, R289, R307, R322). -/
def State.writePfx (s : State) (replace : Bool) (img : Bytes) : State × Nat :=
  let a := slice 0 16 img
  let len := getLE 16 1 img
  let fl := getLE 17 1 img
  let res := getLE 20 4 img
  let egress := res / 2 ^ 18 % 16
  let t := s.tbl
  match s.pfxSlotOf len with
  | none => (s, if t.rebuild.isSome then stBusy else stBadField)
  | some slot =>
    let mask := s.pfxSlotMask slot
    let old := t.findPfx mask len a
    let bad := 8 ≤ fl ∨ 2 ^ 31 ≤ res ∨ 14 ≤ egress ∨ maskPrefix len a ≠ a ∨ !s.queueOfEgress egress (res / 2 ^ 22 % 512)
    let st := firstFailure [(t.rebuild.isSome, stBusy), (decide bad, stBadField), (replace && old.isNone, stNotFound),
      (!replace && old.isSome, stExists)]
    match st with
    | some code => (s, code)
    | none =>
      let flags := setBit (setBit fl 0 true) 1 false
      let put := fun (p gen : Nat) => s.onTbl fun x =>
        ({ x with pfx := x.pfx.set p { pfx := a, len := len, flags := flags, gen := gen, result := res }
                  filter := if x.filter.contains (filterRange slot len a) then x.filter else x.filter ++ [filterRange slot len a] }).touch [(4, p)]
      match old with
      | some p => (put p ((((t.pfx.get? p).map (·.gen)).getD 0 + 1) % 65536), stDone)
      | none =>
        match placePfx t.pfxSeed mask len t.pfx a with
        | some p => (put p 1, stDone)
        | none => (s.rehashNeeded 1 len, stRehashNeeded)

/-- Remove a prefix; its filter bits stay until the proofing scan (R289). -/
def Tbl.dropPfx (t : Tbl) (p : Nat) : Tbl := ({ t with pfx := t.pfx.erase p }).touch [(4, p)]

/-! ### Notices -/

/-- Release a notice; the entry's NOTICE_PENDING falls. -/
def Tbl.release (t : Tbl) (slot : Nat) : Tbl :=
  match t.notices.get? slot with
  | none => t
  | some n => { t with notices := t.notices.erase slot, dir := t.dir.adj n.eix fun e => { e with flags := setBit e.flags 5 false } }

/-- Attach a sighting to a pending notice (R294, R295). -/
def LearnNotice.attach (n : LearnNotice) (port cost stamp : Nat) : LearnNotice :=
  let g : Sighting := { port := port, cost := cost, ms := min 65535 ((stamp - n.first) / 1000000) }
  let n1 := { n with frames := min 255 (n.frames + 1) }
  if n.sightings.any (·.port = port) then
    { n1 with sightings := n1.sightings.map (fun x => if x.port = port ∧ cost < x.cost then { x with cost := cost } else x) }
  else if n.sightings.length < 4 then { n1 with sightings := n1.sightings ++ [g] }
  else
    let worst := n.sightings.foldl (fun m x => max m x.cost) 0
    if cost < worst then
      let last := (n.sightings.filter (·.cost = worst)).getLast?
      { n1 with sightings := n1.sightings.filter (fun x => some x ≠ last) ++ [g] }
    else n1

/-- Learn a key from a sighting: attached to its pending notice, or a new notice, or dropped with event 162 (R294, R296). -/
def State.learn (s : State) (kind : Nat) (key : Bytes) (eix port cost stamp : Nat) : State :=
  match s.tbl.notices.find? (fun p => p.2.kind = kind ∧ p.2.key = key) with
  | some (slot, n) => s.onTbl fun t => { t with notices := t.notices.set slot (n.attach port cost stamp) }
  | none =>
    if 4096 ≤ s.tbl.notices.length then
      let s1 := s.onTbl fun t => { t with dropped := t.dropped + 1, droppedSince := t.droppedSince + 1 }
      if s1.eventDue 60 162 0 then
        (s1.raiseEvery 60 162 0 (le 4 s1.tbl.droppedSince)).onTbl fun t => { t with droppedSince := 0 }
      else s1
    else
      let slot := ((List.range 4096).find? (fun i => !s.tbl.notices.has i)).getD 0
      s.onTbl fun t => { t with
        notices := t.notices.set slot { kind := kind, frames := 1, number := t.noticeNo, eix := eix, key := key, first := stamp
                                        sightings := [{ port := port, cost := cost, ms := 0 }], otSince := s.power.ot, margin := s.cfgN 0x7000 3 }
        noticeNo := (t.noticeNo + 1) % 65536
        dir := t.dir.adj eix fun e => { e with flags := setBit e.flags 5 true } }

/-- The key of a (PAN, short address) pair (R295). -/
def shortKey (pan short : Nat) : Bytes := le 1 pan ++ [0#8] ++ le 2 short ++ zeros 4

/-! ### Lookups -/

/-- A hit on an EIX's entry (R297, R282): STALE falls, a BLOCKED entry discards the frame. -/
def State.hitDir (s : State) (eix : Nat) : State :=
  let s1 := s.onTbl fun t => { t with dir := t.dir.adj eix fun e => { e with flags := setBit e.flags 1 false } }
  if bit (((s.tbl.dir.get? eix).map (·.flags)).getD 0) 4 then
    s1.onTbl fun t => { t with blockedDiscards := t.blockedDiscards + 1, last := .blocked eix }
  else s1.onTbl fun t => { t with last := .hit eix }

/-- Whether a lookup met a BLOCKED entry (R283). -/
def LookupResult.isBlocked : LookupResult → Bool
  | .blocked _ => true
  | _ => false

/-- Resolve the source of a frame (R27, R294): by EUI-64 or by the PAN's direct index, with the learning notice that a miss or
a hit on another port raises; a sighting on the bound port joins a notice that is pending. Where the full store takes no notice the frame is
discarded (R296). -/
def State.resolve (s : State) (kind : Nat) (key : Bytes) (port cost stamp : Nat) : State × Option Nat :=
  if kind = 0 then
    match s.tbl.findEui key with
    | none => ((s.learn 0 key noEix port cost stamp).onTbl fun t => { t with last := .miss, frameDiscards := t.frameDiscards + 1 }, none)
    | some e =>
      let s1 := s.hitDir e
      let bound := ((s.tbl.dir.get? e).map (·.port)).getD 0xF
      if bound ≠ port ∨ s.tbl.notices.any (fun p => p.2.kind = 0 && p.2.key == key) then
        let s2 := s1.learn 0 key e port cost stamp
        if s2.tbl.notices.any (fun p => p.2.kind = 0 && p.2.key == key) then (s2, some e)
        else (s2.onTbl fun t => { t with last := .dropped, frameDiscards := t.frameDiscards + 1 }, none)
      else (s1, some e)
  else
    let pan := getLE 0 1 key
    let short := getLE 2 2 key
    match s.tbl.direct.get? (pan * 65536 + short) with
    | some e => (s.hitDir e, some e)
    | none => ((s.learn 1 (shortKey pan short) noEix port cost stamp).onTbl fun t => { t with last := .miss, frameDiscards := t.frameDiscards + 1 }, none)

/-- Whether a frame's key has a pending notice (R294: such frames are discarded). -/
def Tbl.pendingNotice (t : Tbl) (kind : Nat) (key : Bytes) : Bool := t.notices.any (fun p => p.2.kind = kind && p.2.key == key)

/-- A prefix lookup of a destination (R290). -/
def State.lookupPrefix (s : State) (a : Bytes) (port : Nat) : State × Option PfxEntry :=
  match s.lpm a with
  | none => (s.onTbl fun t => { t with last := .miss, misses := t.misses.upd port 0 (· + 1) }, none)
  | some p =>
    let e := s.tbl.pfx.get? p
    let s1 := s.onTbl fun t => { t with last := .prefixHit p, pfx := t.pfx.adj p fun x => { x with flags := setBit x.flags 1 false } }
    match e with
    | some x => if x.result / 2 ^ 18 % 16 = 13 then (s1.onTbl fun t => { t with egressDiscards := t.egressDiscards + 1 }, e) else (s1, e)
    | none => (s1, e)

/-! ### Shadow and proofs -/

/-- Regions of the table state stream that hold the mirror of sealed objects and the provisioned endpoints (R110, log 18). -/
abbrev regMirror : Nat := 0x20
abbrev regProvisioned : Nat := 0x21

/-- Regions that hold campaigns and their members (R401, log 18). -/
abbrev regCampaign : Nat := 0x22
abbrev regMember : Nat := 0x23

/-- The bytes of the shadow at a position of a region, when valid (R301). -/
def Tbl.image (t : Tbl) (region pos : Nat) : Option Bytes :=
  if region = 0 then (t.dir.get? pos).map (·.bytes)
  else if region = 2 then (t.direct.get? pos).map directBytes
  else if region = 4 then (t.pfx.get? pos).map (·.bytes)
  else none

/-- The group of an entry (R303); the directory index, for which the rule names no groups, is taken 256 slots at a time. -/
def Tbl.groupOf (t : Tbl) (region pos : Nat) : Nat :=
  if region ≤ 2 then pos / 256
  else match t.pfx.get? pos with
    | some e => crcFrom t.pfxSeed (pfxKey e.len e.pfx) / 4 % 256
    | none => 0

/-- Valid positions of a region. -/
def Tbl.positions (t : Tbl) (region : Nat) : List Nat :=
  if region = 0 then t.dir.keys else if region = 2 then t.direct.keys else if region = 4 then t.pfx.keys else []

/-- The proof of a group (R303). -/
def Tbl.proof (t : Tbl) (region group : Nat) : Nat :=
  ((t.positions region).filter (fun p => t.groupOf region p = group)).foldl
    (fun x p => Nat.xor x (edgeCode (proofFields region ((t.image region p).getD []) ++ le 4 p))) 0

/-- How many groups a region has (R303). -/
def proofGroups (region : Nat) : Nat := if region = 0 then 1024 else if region = 2 then 2048 else if region = 4 then 256 else 0

/-- A packet of the table state stream (R301): flags with SNAPSHOT in bit 0, kind 1, region, position and image; an entry that
is gone has no image (log 18). -/
def tablePacket (region pos : Nat) (img : Option Bytes) : Bytes :=
  withEdge (le 1 0 ++ le 1 1 ++ le 1 region ++ le 1 (b2n img.isSome) ++ le 4 pos ++ img.getD [])

end Sys2Proof.Machine
end

