-- ==== Sys2Proof/Machine/Security.lean ====
section
/-! DEFINITION. The security unit: lifecycle, key slots, random numbers, images, open documents, attestation, protected
transport, upload (R379 to R400). -/

namespace Sys2Proof.Machine
open Sys2Proof

def State.onSec (s : State) (f : Sec → Sec) : State := { s with sec := f s.sec }
def State.onCp (s : State) (f : Cp → Cp) : State := { s with cp := f s.cp }

/-- A key slot. -/
def Sec.slot (x : Sec) (i : Nat) : KeySlot := x.slots.getD i {}

/-- Write a slot: its epoch advances (R382). -/
def Sec.writeSlot (x : Sec) (i : Nat) (k : Bytes) : Sec :=
  { x with slots := x.slots.set i { content := some k, epoch := ((x.slot i).epoch + 1) % 256 } }

/-- SHAKE256 limited to `n` bytes. -/
def shake (n : Nat) (b : Bytes) : Bytes := padTo n (Config.shake256 n b)

/-- The key identifier of a public key (R383). -/
def keyIdentifier (pk : Bytes) : Nat := getLE 0 4 (shake 4 pk)

/-- A signature over data under a context string, as the rules of this device form it: pure mode over SHAKE256 (64 bytes).
`rnd` is the randomness of the hedged variant, 32 zero bytes in the deterministic one (FIPS 204). -/
def verifyOver (pk : Bytes) (ctx : String) (data sig : Bytes) : Bool := Config.mldsaVerify pk (ascii ctx ++ shake 64 data) sig
def signOver (sk : Bytes) (ctx : String) (data rnd : Bytes) : Bytes := padTo 3309 (Config.mldsaSign sk (ascii ctx ++ shake 64 data) rnd)

/-- The fused digest of an image key (R388). -/
def fusedDigest (i : Nat) : Bytes := padTo 32 (Config.factoryKey (20 + i))

/-! ### Lifecycle and debug -/

/-- Whether key use is blocked by the debug access port (R381). -/
def State.keysBlocked (s : State) : Bool := s.sec.debugSeen

/-- A lifecycle transition (R380): zeroised keys and stopped channels before the fuses, event 211; a test unlock ends with
cause 4 (R515). -/
def State.lifecycleTo (s : State) (target : Nat) : State :=
  let old := s.sec.lifecycle
  let s1 := if target = 3 ∨ target = 4 then
      s.onSec fun x => { x with
        slots := x.slots.zipIdx.map (fun p => if (2 ≤ p.2 ∧ p.2 ≤ 4) ∨ 8 ≤ p.2 then { p.1 with content := none } else p.1)
        psks := [], chans := x.chans.map (fun c => { c with stopped := true }) }
    else s
  ((s1.onSec fun x => { x with lifecycle := target }).raise 211 (le 1 old ++ le 1 target)).fogLock 4

/-- The debug access port is powered up (R381): event 215 with cause 2, the key slots are blocked until the next restart.
It opens in the states that R379 allows. -/
def State.debugAttach (s : State) : State :=
  let allowed := s.sec.lifecycle ≤ 1 ∨ (s.sec.lifecycle = 3 ∧ s.sec.debugSince.isSome)
  if allowed then (s.onSec fun x => { x with debugSeen := true }).raise 215 (le 1 2 ++ zeros 3 ++ le 4 1) else s

def execDebugAttach (s : State) : Host.Outcome State Fault Refusal := .next s.debugAttach

/-- The duration of a DEBUG_AUTH document expires: the port closes (R381). -/
def execDebugWindowExpiry (s : State) : Host.Outcome State Fault Refusal :=
  .next (match s.sec.debugSince with
    | some (t, d) => if t + d ≤ s.power.ot then s.onSec fun x => { x with debugSince := none } else s
    | none => s)

/-! ### Random numbers (R386) -/

/-- A health test fails: the source restarts once; a second failure stops all output, event 210. `test` is 1 repetition, 2
proportion, 3 start-up. -/
def State.trngFail (s : State) (test samples : Nat) : State :=
  if s.sec.trngStopped then s
  else if s.sec.trngFailures = 0 then s.onSec fun x => { x with trngFailures := 1, trngRestarting := true, samples := samples }
  else (s.onSec fun x => { x with trngFailures := 2, trngRestarting := false, trngStopped := true, samples := samples }).raise 210
    (le 1 test ++ zeros 3 ++ le 4 samples)

def execTrngHealthFail (test samples : Nat) (s : State) : Host.Outcome State Fault Refusal := .next (s.trngFail test samples)

/-- 10 ms after the first failure the source restarts with its start-up test (R386); `ok` says whether the test passed. -/
def State.trngRestart (s : State) (ok : Bool) (samples : Nat) : State :=
  if s.sec.trngRestarting then
    let s1 := s.onSec fun x => { x with trngRestarting := false, samples := samples }
    if ok then s1 else s1.trngFail 3 samples
  else s

def execTrngRestart (ok : Bool) (samples : Nat) (s : State) : Host.Outcome State Fault Refusal := .next (s.trngRestart ok samples)

/-- The DRBG is reseeded after every 2^20 requests (R386). -/
def execDrbgReseed (s : State) : Host.Outcome State Fault Refusal :=
  .next (if 2 ^ 20 ≤ s.sec.requests ∧ !s.sec.trngStopped then s.onSec fun x => { x with requests := 0 } else s)

/-- `n` bytes of DRBG output. -/
def State.random (s : State) (n : Nat) : Bytes × State :=
  (padTo n (Config.drbg s.sec.drbgIndex), s.onSec fun x => { x with requests := x.requests + 1, drbgIndex := x.drbgIndex + 1 })

/-- The first key of each enabled port, from the DRBG (R382): the group master keys of slots 8 to 11, the MAC keys of slots 12 to 15. -/
def State.firstKeys (s : State) : State :=
  (List.range 8).foldl (fun t p =>
    let enabled := if p < 4 then t.cfgN (0x4000 + p) 0 = 1 else t.cfgN (0x5000 + (p - 4)) 0 = 1
    if enabled ∧ (t.sec.slot (8 + p)).content.isNone ∧ (t.sec.slot (8 + p)).epoch = 0 ∧ !t.sec.trngStopped then
      let (k, t1) := t.random 16
      t1.onSec fun x => x.writeSlot (8 + p) k
    else t) s

def execRngRead (c : HostCmd) (s : State) : Host.Outcome State Fault Refusal :=
  .next (s.serve 0x0806 c
    (fun t => [lenIs c 4, badField (getLE 0 4 c.req = 0 || decide (4096 < getLE 0 4 c.req)), (t.sec.trngStopped, stInternalFault)])
    (fun t => let (b, t1) := t.random (getLE 0 4 c.req); (t1, .done b)))

/-! ### Key slots -/

/-- Bytes of a slot's key (R382). -/
def slotKeyLength (i : Nat) : Nat := if i = 1 then 1952 else 32

/-- Why a KEY_WRITE is refused, in the order of R384; `kek` opens a wrapped key. -/
def State.keyWriteFailure (s : State) (req : Bytes) : Option Nat :=
  let slot := getLE 0 1 req
  let mode := getLE 1 1 req
  let n := getLE 4 4 req
  let named := decide (1 ≤ slot) && decide (slot ≤ 4) && decide (mode ≤ 1)
  let want := if mode = 0 then slotKeyLength slot else 28 + slotKeyLength slot
  orderedFailure [
    (decide (req.length < 8) || req.length ≠ 8 + n || (named && n ≠ want), stBadLength),
    (!named || !zeroAt 2 2 req, stBadField),
    (decide (3 ≤ s.sec.lifecycle) || (mode = 0 && s.sec.lifecycle = 2) || (slot = 1 && s.sec.lifecycle = 2) ||
      (mode = 1 && (s.sec.slot 2).content.isNone) || s.keysBlocked, stDeniedAuth)]

/-- The key that a wrapped write carries (R384): IV, ciphertext, tag under slot WRAP with the associated data. -/
def State.unwrapSlot (s : State) (aad data : Bytes) : Option Bytes :=
  Config.gcmOpen 16 ((s.sec.slot 2).content.getD []) (data.take 12) aad (data.drop 12)

/-- KEY_WRITE (R384). -/
def State.keyWrite (s : State) (req : Bytes) : State × Reply :=
  let slot := getLE 0 1 req
  let mode := getLE 1 1 req
  let epoch := ((s.sec.slot slot).epoch + 1) % 256
  let data := req.drop 8
  let key := if mode = 0 then some data
    else s.unwrapSlot (padTo 16 Config.openIdentity ++ le 1 slot ++ le 1 epoch) data
  match key with
  | none => (s, .status stSignatureBad [])
  | some k => ((s.onSec fun x => x.writeSlot slot (padTo (slotKeyLength slot) k)).raise 214 (le 1 slot ++ le 1 epoch ++ le 1 mode), .done [])

def execKeyWrite (c : HostCmd) (s : State) : Host.Outcome State Fault Refusal :=
  .next (s.serve 0x0804 c (fun t => [((t.keyWriteFailure c.req).isSome, (t.keyWriteFailure c.req).getD 0)]) (fun t => t.keyWrite c.req))

def execLifecycleAdvance (c : HostCmd) (s : State) : Host.Outcome State Fault Refusal :=
  .next (s.serve 0x0803 c
    (fun t => [lenIs c 4, badField (getLE 0 1 c.req ≠ 2 || !zeroAt 1 3 c.req),
      (t.sec.lifecycle ≠ 1 || (t.sec.slot 1).content.isNone || (t.sec.slot 2).content.isNone, stDeniedAuth)])
    (fun t => (t.lifecycleTo 2, .done [])))

/-! ### Images -/

/-- The digest of a slot's image (R389): the boot measurement. -/
def State.imageDigest (s : State) (slot : Nat) : Bytes :=
  let f := s.sec.fw.getD slot {}
  if f.factory then padTo 64 (Config.factoryImage (2 + slot)) else shake 64 f.data

/-- The step of R388 at which an image fails, if it does. -/
def State.imageFailure (s : State) (b : Bytes) : Option Nat :=
  let n := getLE 16 4 b
  let flags := getLE 28 4 b
  let pk := slice 64 1952 b
  let d := shake 32 pk
  let known := (List.range 4).any (fun i => fusedDigest i = d && !s.sec.revoked.getD i true)
  orderedFailure [
    (slice 0 4 b ≠ ascii "SLIM" || getLE 4 2 b ≠ 1 || getLE 6 2 b ≠ 1 || decide (128 < getLE 12 4 b) || n = 0 ||
      decide (16771824 < n) || b.length ≠ 5392 + n || decide (n ≤ getLE 20 4 b) || decide (2 ≤ flags) || !zeroAt 48 16 b ||
      !zeroAt 5389 3 b, 1),
    (!known || keyIdentifier pk ≠ getLE 24 4 b, 2),
    (!verifyOver pk "STOLRID-IMAGE-1" (b.take 2080) (slice 2080 3309 b), 3),
    (shake 64 (b.drop 5392) ≠ slice 2016 64 b, 4),
    (flags % 2 = 1 && s.sec.lifecycle ≠ 0, 5),
    (decide (getLE 12 4 b < s.sec.rollback), 6)]

/-- The same for a slot, as the boot ROM checks it. -/
def State.slotFailure (s : State) (slot : Nat) : Option Nat :=
  let f := s.sec.fw.getD slot {}
  if !f.valid then some 1
  else if f.factory then (if f.security < s.sec.rollback then some 6 else none)
  else s.imageFailure f.data

def State.onFw (s : State) (i : Nat) (f : FwSlot → FwSlot) : State := s.onSec fun x => { x with fw := x.fw.set i (f (x.fw.getD i {})) }

/-- Raise the rollback counter when both slots could boot (R391); after a power-fail warning the value is held pending. -/
def State.rollbackRaise (s : State) : State :=
  let a := s.sec.fw.getD s.sec.active {}
  let o := s.sec.fw.getD (1 - s.sec.active) {}
  if s.sec.rollback < a.security ∧ o.valid ∧ a.security ≤ o.security then
    if s.power.pfw then s.onPower fun p => { p with pendingRollback := some a.security }
    else s.onSec fun x => { x with rollback := a.security }
  else s

/-- The slot that updates write (R390): neither active nor trial. -/
def State.idleSlot (s : State) : Nat := 1 - s.sec.active

def State.fwDenied (s : State) : Bool × Nat := (s.sec.lifecycle = 4, stDeniedAuth)

def execFwBegin (c : HostCmd) (s : State) : Host.Outcome State Fault Refusal :=
  .next (s.serve 0x0810 c
    (fun t => [lenIs c 4, badField (decide (getLE 0 4 c.req < 5393) || decide (16777216 < getLE 0 4 c.req)), (t.sec.trial.isSome, stBusy), t.fwDenied])
    (fun t => (t.onFw t.idleSlot fun _ => { length := getLE 0 4 c.req }, .done [])))

def execFwWrite (c : HostCmd) (s : State) : Host.Outcome State Fault Refusal :=
  .next (s.serve 0x0811 c
    (fun t =>
      let n := getLE 4 4 c.req
      let f := t.sec.fw.getD t.idleSlot {}
      [(decide (c.req.length ≠ 8 + n), stBadLength),
       badField (n = 0 || decide (65536 < n) || t.sec.trial.isSome || f.valid || getLE 0 4 c.req ≠ f.data.length || decide (f.length < f.data.length + n)),
       t.fwDenied])
    (fun t => (t.onFw t.idleSlot fun f => { f with data := f.data ++ c.req.drop 8 }, .done [])))

/-- FW_VERIFY (R388, R390, R391): the slot becomes VALID; a failure at step 6 raises event 215 with cause 4. -/
def State.fwVerify (s : State) : State × Reply :=
  let i := s.idleSlot
  let f := s.sec.fw.getD i {}
  let fail := if f.factory then s.slotFailure i else if f.data.length ≠ f.length then some 1 else s.imageFailure f.data
  match fail with
  | none =>
    ((s.onFw i fun x => { x with valid := true, image := if x.factory then x.image else getLE 8 4 x.data,
                                 security := if x.factory then x.security else getLE 12 4 x.data }).rollbackRaise, .done [])
  | some k =>
    (if k = 6 then s.raise 215 (le 1 4 ++ le 1 i ++ zeros 2 ++ le 4 1) else s,
     .status (if 5 ≤ k then stDeniedAuth else stSignatureBad) [])

def execFwVerify (c : HostCmd) (s : State) : Host.Outcome State Fault Refusal :=
  .next (s.serve 0x0812 c (fun t => [lenIs c 0, t.fwDenied]) (fun t => t.fwVerify))

def execFwActivate (c : HostCmd) (s : State) : Host.Outcome State Fault Refusal :=
  .next (s.serve 0x0813 c
    (fun t => [lenIs c 0, (t.sec.trial.isSome, stBusy), t.fwDenied, (!(t.sec.fw.getD t.idleSlot {}).valid, stNotFound)])
    (fun t => (t.onSec fun x => { x with
      trial := some (1 - x.active), attempts := 0, activateDue := true, trialConfirm := t.cfgN 0xB000 0, trialMax := t.cfgN 0xB000 1 }, .done [])))

def execFwConfirm (c : HostCmd) (s : State) : Host.Outcome State Fault Refusal :=
  .next (s.serve 0x0814 c (fun t => [lenIs c 0, t.fwDenied, (t.sec.trial ≠ some t.sec.running, stNotFound)])
    (fun t => ((t.onSec fun x => { x with active := x.running, trial := none, attempts := 0 }).rollbackRaise, .done [])))

def State.fwStatusData (s : State) : Bytes :=
  ((List.range 2).map (fun i =>
    let f := s.sec.fw.getD i {}
    le 1 (b2n f.valid) ++ zeros 3 ++ le 4 f.image ++ le 4 f.security)).flatten ++ le 1 s.sec.attempts ++ zeros 3

def execFwStatus (c : HostCmd) (s : State) : Host.Outcome State Fault Refusal :=
  .next (s.serveQuery 0x0815 c 0 (fun _ => false) State.fwStatusData)

/-! ### Open documents (R392) -/

/-- The body rule of an open document (step 8 of R63). -/
def State.openBodyBad (s : State) (typ : Nat) (body : Bytes) : Bool :=
  let lc := s.sec.lifecycle
  match typ with
  | 0x0101 => body.length ≠ 1952 || lc ≠ 2
  | 0x0102 =>
    let t := getLE 0 1 body
    body.length ≠ 4 || !zeroAt 1 3 body || !((lc = 1 && t = 2) || (lc = 2 && t = 3) || (t = 4 && decide (1 ≤ lc) && decide (lc ≤ 3)))
  | 0x0103 => body.length ≠ 4 || decide (getLE 0 4 body < 60) || decide (28800 < getLE 0 4 body) || lc ≠ 3
  | _ =>
    let d := getLE 0 4 body
    let c := getLE 4 4 body
    body.length ≠ 16 || decide (d < 60) || decide (86400 < d) || c = 0 || decide (64 ≤ c) || !zeroAt 8 8 body || lc = 4

/-- The public keys that may sign a type, with the identifiers they go by (R392). -/
def State.openSigners (s : State) (typ : Nat) : List (Nat × Bytes) :=
  if typ = 0x0103 then ((List.range 4).filter (fun i => !s.sec.revoked.getD i true)).map (fun i => (getLE 0 4 (fusedDigest i), fusedDigest i))
  else match (s.sec.slot 1).content with
    | some pk => [(keyIdentifier pk, pk)]
    | none => []

/-- The first check that an open document fails (R63, R392). -/
def State.openDocFailure (s : State) (d : Bytes) : Option Nat :=
  let typ := getLE 4 2 d
  let n := getLE 8 4 d
  let body := slice 56 n d
  let signers := (s.openSigners typ).filter (fun k => k.1 = getLE 48 4 d)
  let nb := getLE 32 8 d
  let exp := getLE 40 8 d
  orderedFailure [
    (slice 0 4 d ≠ ascii "SLDC" || !([0x0101, 0x0102, 0x0103, 0x0104].contains typ) || d.length ≠ 56 + n + 3312 || !zeroAt 6 2 d ||
      !zeroAt 52 4 d || !zeroAt (3365 + n) 3 d, stBadField),
    (signers.isEmpty, stDeniedAuth),
    (!signers.any (fun k => verifyOver k.2 "STOLRID-DOC-1" (d.take (56 + n)) (slice (56 + n) 3309 d)), stSignatureBad),
    (slice 16 16 d ≠ padTo 16 Config.openIdentity, stDeniedSeal),
    (decide (s.time.nt.sec < nb) || (exp ≠ 0 && (decide (exp ≤ s.time.nt.sec) || decide (s.time.level ≤ 1))), stTimeInvalid),
    (match s.sec.docVersions.get? typ with
      | some v => decide (getLE 12 4 d ≤ v)
      | none => false, stDeniedSeal),
    (s.openBodyBad typ body, stBadField)]

/-- An accepted open document takes effect (R392, R514). -/
def State.openDocEffect (s : State) (typ version : Nat) (body : Bytes) : State :=
  match typ with
  | 0x0101 => s.onSec fun x => x.writeSlot 1 body
  | 0x0102 => s.lifecycleTo (getLE 0 1 body)
  | 0x0103 => s.onSec fun x => { x with debugSince := some (s.power.ot, getLE 0 4 body) }
  | _ => s.fogUnlock (getLE 0 4 body) (getLE 4 4 body) version

/-- SUBMIT_OPEN_DOC (R392): event 213 or 212. -/
def State.submitOpenDoc (s : State) (d : Bytes) : State × Reply :=
  let typ := getLE 4 2 d
  let v := getLE 12 4 d
  match s.openDocFailure d with
  | some st => (s.raise 213 (le 2 typ ++ le 2 st ++ le 4 v), .status st [])
  | none =>
    let s1 := (s.onSec fun x => { x with docVersions := x.docVersions.set typ v }).raise 212 (le 2 typ ++ le 2 0 ++ le 4 v)
    (s1.openDocEffect typ v (slice 56 (getLE 8 4 d) d), .done [])

def execSubmitOpenDoc (c : HostCmd) (s : State) : Host.Outcome State Fault Refusal :=
  .next (s.serve 0x0802 c (fun _ => [(decide (c.req.length < 3368), stBadLength)]) (fun t => t.submitOpenDoc c.req))

/-! ### Attestation (R393, R394) -/

def State.slotMap (s : State) : Nat := (s.sec.slots.zipIdx.map (fun p => b2n p.1.content.isSome * 2 ^ p.2)).sum

/-- The flags of the report and of event 208 (R394). -/
def State.attestFlags (s : State) : Nat := b2n (s.sec.trial = some s.sec.running) + 2 * b2n s.sec.reverted + 4 * b2n s.sec.debugSeen

/-- The attestation report (R394), signed with the randomness `rnd`. -/
def State.attestReport (s : State) (nonce rnd : Bytes) : Bytes :=
  let f := s.sec.fw.getD s.sec.running {}
  let seed := Config.factoryKey 0
  let head := ascii "SLAT" ++ le 2 1 ++ le 2 0 ++ padTo 32 nonce ++ padTo 16 Config.openIdentity ++ padTo 16 (slice 72 16 s.cp.ident) ++
    le 1 s.sec.lifecycle ++ le 1 s.sec.running ++ le 1 s.attestFlags ++ le 1 0 ++ le 4 f.image ++ le 4 f.security ++ le 4 s.sec.rollback ++
    s.imageDigest s.sec.running ++ padTo 8 (slice 0 8 s.cp.ident) ++ padTo 64 (slice 8 64 s.cp.ident) ++ padTo 64 (slice 96 64 s.cp.ident) ++
    le 4 s.cfg.force.number ++ le 4 s.slotMap ++ le 8 s.power.ot ++ le 4 s.power.pcc ++ le 8 s.time.nt.sec ++ le 1 s.time.level ++ zeros 3 ++
    le 4 (keyIdentifier (Config.factoryKey 1))
  head ++ signOver seed "STOLRID-ATTEST-1" head rnd ++ zeros 3

def execAttest (c : HostCmd) (s : State) : Host.Outcome State Fault Refusal :=
  .next (s.serve 0x0805 c (fun t => [lenIs c 32, (t.keysBlocked, stDeniedAuth)]) (fun t =>
    let (rnd, t1) := if t.sec.trngStopped then (zeros 32, t) else t.random 32
    (t1, .done (t.attestReport c.req rnd))))

def execCertRead (c : HostCmd) (s : State) : Host.Outcome State Fault Refusal :=
  .next (s.serveQuery 0x0807 c 4 (fun _ => getLE 0 1 c.req = 0 || decide (2 < getLE 0 1 c.req) || !zeroAt 1 3 c.req)
    (fun _ => padTo 5320 (Config.certificate (getLE 0 1 c.req - 1))))

def State.secStatusData (s : State) : Bytes :=
  le 1 s.sec.lifecycle ++ zeros 3 ++ le 4 s.slotMap ++ (s.sec.slots.map (fun k => le 1 k.epoch)).flatten ++
  le 1 s.sec.active ++ le 1 (s.sec.trial.getD 0xFF) ++ le 1 s.sec.attempts ++ le 1 s.sec.running ++ le 4 s.sec.rollback ++
  le 1 (b2n s.sec.trngStopped) ++ zeros 3 ++
  (s.sec.chans.map (fun c => le 4 c.sendEpoch ++ le 8 c.sendNum ++ le 4 c.recvEpoch ++ le 8 c.recvHigh ++ le 4 c.discards)).flatten

def execSecStatus (c : HostCmd) (s : State) : Host.Outcome State Fault Refusal :=
  .next (s.serveQuery 0x0801 c 0 (fun _ => false) State.secStatusData)

/-! ### Protected transport (R395, R396) -/

/-- Slot of a channel's key. -/
def chanSlot (ch : Nat) : Nat := if ch = 2 then 4 else 3

def State.chan (s : State) (ch : Nat) : Chan := s.sec.chans.getD (ch - 1) {}
def State.onChan (s : State) (ch : Nat) (f : Chan → Chan) : State :=
  s.onSec fun x => { x with chans := x.chans.set (ch - 1) (f (x.chans.getD (ch - 1) {})) }

/-- The traffic key (R395). -/
def trafficKey (k : Bytes) (ch epoch : Nat) : Bytes := shake 32 (k ++ ascii "STOLRID-TX" ++ le 1 ch ++ le 1 epoch)

/-- The IV (R395). -/
def transportIv (ch dir epoch num : Nat) : Bytes := le 1 ch ++ le 1 dir ++ le 1 epoch ++ le 1 0 ++ le 8 num

/-- Whether a channel can protect and open records: its key is held, no debug port blocks it, it has not been stopped. -/
def State.chanReady (s : State) (ch : Nat) : Bool :=
  (s.sec.slot (chanSlot ch)).content.isSome && !s.keysBlocked && !(s.chan ch).stopped

/-- A sender's channel moves to the next epoch (R396). -/
def State.rekey (s : State) (ch : Nat) : State := s.onChan ch fun x => { x with sendEpoch := x.sendEpoch + 1, sendNum := 0 }

/-- Send a plaintext as a protected record (R395), in the next epoch after 2^32 records (R396): the record, after `header` as more associated
data. -/
def State.protect (s : State) (ch : Nat) (header pt : Bytes) : State × Option Bytes :=
  if !s.chanReady ch then (s, none)
  else
    let s := if 2 ^ 32 ≤ (s.chan ch).sendNum then s.rekey ch else s
    let c := s.chan ch
    let num := c.sendNum + 1
    let e := c.sendEpoch % 256
    let h := le 1 ch ++ le 1 e ++ le 2 0 ++ le 8 num ++ le 4 pt.length
    let key := trafficKey ((s.sec.slot (chanSlot ch)).content.getD []) ch e
    let ct := padTo (pt.length + 16) (Config.gcmSeal 16 key (transportIv ch 0 e num) (header ++ h) pt)
    (s.onChan ch fun x => { x with sendNum := num }, some (h ++ ct))

/-- What a receiver keeps for a channel (R396); on channel TIER for each source member (log 47). -/
def State.rxChan (s : State) (ch src : Nat) : Chan := if ch = 2 then s.tier.rx.getD src {} else s.chan ch
def State.onRxChan (s : State) (ch src : Nat) (f : Chan → Chan) : State :=
  if ch = 2 then s.onTier fun t => { t with rx := t.rx.upd src {} f } else s.onChan ch f

/-- Discard a received record and count it (R396); a failed tag raises event 215 at most once per 60 s per channel. -/
def State.discardRecord (s : State) (ch : Nat) (tag : Bool) : State :=
  let s1 := s.onChan ch fun x => { x with discards := x.discards + 1, tagFails := x.tagFails + b2n tag }
  if tag then s1.raiseEvery 60 215 ch (le 1 1 ++ le 1 ch ++ zeros 2 ++ le 4 (s1.chan ch).tagFails) else s1

/-- Check a received record (R396): its plaintext when it is accepted. `header` is the tier frame header on channel 2, whose byte 2 is
the source member. -/
def State.unprotect (s : State) (header r : Bytes) : State × Option Bytes :=
  let ch := getLE 0 1 r
  let n := getLE 12 4 r
  let src := getLE 2 1 header
  if ch = 0 ∨ 3 < ch then (s, none)
  else if !s.chanReady ch ∨ !zeroAt 2 2 r ∨ n = 0 ∨ 1400 < n ∨ r.length ≠ 32 + n then (s.discardRecord ch false, none)
  else
    let c := s.rxChan ch src
    let e := getLE 1 1 r
    let num := getLE 4 8 r
    let next := decide (e = (c.recvEpoch + 1) % 256)
    let cur := decide (e = c.recvEpoch % 256)
    let stale := cur && (decide (num + 64 ≤ c.recvHigh) || c.recvSeen.contains num)
    if (!cur && !next) ∨ stale then (s.discardRecord ch false, none)
    else
      let key := trafficKey ((s.sec.slot (chanSlot ch)).content.getD []) ch e
      match Config.gcmOpen 16 key (transportIv ch (if ch = 2 then 0 else 1) e num) (header ++ r.take 16) (r.drop 16) with
      | none => (s.discardRecord ch true, none)
      | some pt =>
        let high := if next then num else max c.recvHigh num
        let seen := (num :: (if next then [] else c.recvSeen)).filter (fun k => decide (high < k + 64))
        (s.onRxChan ch src fun x => { x with recvEpoch := if next then x.recvEpoch + 1 else x.recvEpoch, recvHigh := high, recvSeen := seen }, some (padTo n pt))

/-- A protected transport record arrives (R396). What an accepted record carries acts as its own step. -/
def State.protectedRecord (s : State) (header record : Bytes) : State :=
  match s.unprotect header record with
  | (s1, some pt) => s1.onSec fun x => { x with lastPlain := (getLE 0 1 record, pt) }
  | (s1, none) => s1

def execProtectedRecordRx (header record : Bytes) (s : State) : Host.Outcome State Fault Refusal := .next (s.protectedRecord header record)

def execTransportEpochRoll (ch : Nat) (s : State) : Host.Outcome State Fault Refusal :=
  .next (if 1 ≤ ch ∧ ch ≤ 3 ∧ 2 ^ 32 ≤ (s.chan ch).sendNum then s.rekey ch else s)

def execTransportRekey (c : HostCmd) (s : State) : Host.Outcome State Fault Refusal :=
  .next (s.serve 0x0809 c
    (fun t => [lenIs c 4, badField (getLE 0 1 c.req = 0 || decide (3 < getLE 0 1 c.req) || !zeroAt 1 3 c.req), (t.keysBlocked, stDeniedAuth)])
    (fun t => (t.rekey (getLE 0 1 c.req), .done [])))

/-! ### Upload (R397, R488) -/

/-- A datagram for an Ethernet transmit queue: address, port and payload (log 19). -/
def datagram (addr : Bytes) (port : Nat) (b : Bytes) : Bytes := withEdge (padTo 16 addr ++ le 2 port ++ b)

/-- The head-end's address, as it stands in security-setup. -/
def State.headendAddr (s : State) : Bytes := leI 16 (s.cfgI 0xB000 3)

/-- Send one plaintext to the head-end on channel UPLOAD. -/
def State.sendUpload (s : State) (pt : Bytes) : State :=
  match s.protect 1 [] pt with
  | (s1, some r) => s1.send 11 (32 + s1.cfgN 0xB000 2) (datagram s1.headendAddr (s1.cfgN 0xB000 4) r)
  | (s1, none) => s1

/-- The segments of a batch as plaintexts (R397): `lead` is the type with its reserved bytes. -/
def segmentsOf (lead : Bytes) (n : Nat) (b : Bytes) : List Bytes :=
  (chunks 1184 b).zipIdx.map (fun p => lead ++ le 8 n ++ le 4 (1184 * p.2) ++ le 4 b.length ++ p.1)

/-- The device sends a batch whole (R397): the oldest COMPLETE one that is neither delivered nor under way, within
upload_window; a worker's batches go to its manager (R488). -/
def State.uploadSend (s : State) (n : Nat) : State :=
  let due := match s.store.batches.get? n with
    | some b => b.complete && !b.delivered
    | none => false
  if s.headendAddr = zeros 16 ∨ s.role = 2 ∨ !due ∨ s.sec.uploads.any (·.batch = n) ∨ s.cfgN 0xB000 5 ≤ s.sec.uploads.length then s
  else
    match s.batchBytes n with
    | none => s
    | some b =>
      let s1 := s.onSec fun x => { x with uploads := x.uploads ++ [{ batch := n, attempts := 0 }] }
      (segmentsOf (le 1 1 ++ zeros 3) n b).foldl State.sendUpload s1

/-- A batch is acknowledged as under 0x0608 (R360, R397). -/
def State.batchDelivered (s : State) (n : Nat) : State :=
  s.onStore fun st => { st with batches := st.batches.mapVals fun k b => if k = n ∧ b.complete then { b with delivered := true } else b }

/-- No acknowledgement within upload_ack_ms: the batch is sent again, up to upload_retries times, then left (R397). -/
def State.uploadTimeout (s : State) (n : Nat) : State :=
  match s.sec.uploads.find? (·.batch = n) with
  | none => s
  | some u =>
    if u.attempts < s.cfgN 0xB000 7 then
      match s.batchBytes n with
      | some b =>
        let s1 := s.onSec fun x => { x with uploads := x.uploads.map (fun v => if v.batch = n then { v with attempts := v.attempts + 1 } else v) }
        (segmentsOf (le 1 1 ++ zeros 3) n b).foldl State.sendUpload s1
      | none => s.onSec fun x => { x with uploads := x.uploads.filter (·.batch ≠ n) }
    else s.onSec fun x => { x with uploads := x.uploads.filter (·.batch ≠ n) }

end Sys2Proof.Machine
end

