-- ==== Sys2Proof/Machine/Calendar.lean ====
section
/-! DEFINITION. Civil dates, the fields of a tariff document, local time, the choice of document and table, calendar
boundaries (R138 to R144, R153, R155). -/

namespace Sys2Proof.Machine
open Sys2Proof

/-! ### Civil dates (proleptic Gregorian, days since 1970-01-01) -/

/-- Days since 1970-01-01 of a date. -/
def daysOf (y m d : Nat) : Int :=
  let y1 : Int := (y : Int) - (if m ≤ 2 then 1 else 0)
  let era := y1.fdiv 400
  let yoe := y1 - era * 400
  let mp : Int := if 2 < m then (m : Int) - 3 else (m : Int) + 9
  let doy := (153 * mp + 2) / 5 + (d : Int) - 1
  era * 146097 + (yoe * 365 + yoe / 4 - yoe / 100 + doy) - 719468

/-- Year, month and day of a day number. -/
def dateOf (n : Int) : Nat × Nat × Nat :=
  let z := n + 719468
  let era := z.fdiv 146097
  let doe := z - era * 146097
  let yoe := (doe - doe / 1460 + doe / 36524 - doe / 146096) / 365
  let doy := doe - (365 * yoe + yoe / 4 - yoe / 100)
  let mp := (5 * doy + 2) / 153
  let d := doy - (153 * mp + 2) / 5 + 1
  let m := if mp < 10 then mp + 3 else mp - 9
  let y := yoe + era * 400 + (if m ≤ 2 then 1 else 0)
  (y.toNat, m.toNat, d.toNat)

/-- Weekday of a day number: 0 Monday to 6 Sunday. -/
def weekdayOf (n : Int) : Nat := ((n + 3) % 7).toNat

/-- Day number of a rule's week and weekday in a month (R139): week 5 is the last. -/
def ruleDay (y m week wd : Nat) : Int :=
  let first := daysOf y m 1
  let next := if m = 12 then daysOf (y + 1) 1 1 else daysOf y (m + 1) 1
  let off : Int := ((wd - 1 : Nat) : Int) - (weekdayOf first : Int)
  let d0 := first + (if off < 0 then off + 7 else off)
  if week < 5 then d0 + 7 * ((week - 1 : Nat) : Int)
  else if d0 + 28 < next then d0 + 28 else d0 + 21

/-! ### Fields of a tariff document's body (R138, R139) -/

def TDoc.u (d : TDoc) (off n : Nat) : Nat := getLE off n d.body
def TDoc.i (d : TDoc) (off n : Nat) : Int := getI off n d.body
def TDoc.stdOffset (d : TDoc) : Int := d.i 40 2 * 60
def TDoc.dstShift (d : TDoc) : Int := d.i 42 2 * 60
def TDoc.demandS (d : TDoc) : Nat := d.u 10 2
def TDoc.standing (d : TDoc) : Nat := d.u 12 4
def TDoc.threshold (d : TDoc) (b : Nat) : Nat := d.u (24 + 8 * (b - 1)) 8
def TDoc.tableOff (t : Nat) : Nat := 64 + 24 * t
def TDoc.impReg (d : TDoc) (t : Nat) : Nat := d.u (TDoc.tableOff t) 1
def TDoc.expReg (d : TDoc) (t : Nat) : Nat := d.u (TDoc.tableOff t + 1) 1
def TDoc.blockPrice (d : TDoc) (t b : Nat) : Nat := d.u (TDoc.tableOff t + 4 + 4 * (b - 1)) 4
def TDoc.exportPrice (d : TDoc) (t : Nat) : Nat := d.u (TDoc.tableOff t + 16) 4

/-- UTC seconds of a DST rule's transition in a year: at its hour of local standard time (R142). -/
def TDoc.transition (d : TDoc) (off y : Nat) : Int :=
  ruleDay y (d.u off 1) (d.u (off + 1) 1) (d.u (off + 2) 1) * 86400 + (d.u (off + 3) 1 : Int) * 3600 - d.stdOffset

/-- Whether DST is active at a UTC instant (R142). -/
def TDoc.dst (d : TDoc) (utc : Int) : Bool :=
  if d.dstShift = 0 then false
  else
    let y := (dateOf ((utc + d.stdOffset).fdiv 86400)).1
    let a := d.transition 44 y
    let b := d.transition 48 y
    if d.u 44 1 ≤ d.u 48 1 then decide (a ≤ utc) && decide (utc < b) else !(decide (b ≤ utc) && decide (utc < a))

/-- Local time of an NT instant, in seconds since 1970-01-01 of the local calendar (R142). -/
def TDoc.localOf (d : TDoc) (utcOff : Int) (nt : Int) : Int :=
  let utc := nt + utcOff
  utc + d.stdOffset + (if d.dst utc then d.dstShift else 0)

/-- The NT instant of a local time: its first occurrence, or the first local minute after a gap (R143). -/
def TDoc.ntOf (d : TDoc) (utcOff : Int) (loc : Int) : Int :=
  let std := loc - d.stdOffset - utcOff
  let dst := std - d.dstShift
  let lo := min std dst
  let hi := max std dst
  if d.localOf utcOff lo = loc then lo
  else if d.localOf utcOff hi = loc then hi
  else
    let y := (dateOf ((hi + utcOff + d.stdOffset).fdiv 86400)).1
    let ts := [d.transition 44 y - utcOff, d.transition 48 y - utcOff]
    (ts.find? (fun t => decide (lo < t) && decide (t ≤ hi))).getD hi

/-- Index of the season in force at a local date (R144). -/
def TDoc.seasonAt (d : TDoc) (dayNo : Int) : Nat :=
  let (_, m, dd) := dateOf dayNo
  let n := d.u 5 1
  let on := (List.range n).filter (fun i =>
    let sm := d.u (448 + 4 * i) 1
    let sd := d.u (449 + 4 * i) 1
    decide (sm < m) || (sm = m && decide (sd ≤ dd)))
  on.getLast?.getD (n - 1)

/-- The special day that matches a local date (R144). -/
def TDoc.specialAt (d : TDoc) (dayNo : Int) : Option Nat :=
  let (y, m, dd) := dateOf dayNo
  (List.range (d.u 8 1)).find? (fun i =>
    let o := 1360 + 8 * i
    (d.u o 2 = 0 || d.u o 2 = y) && d.u (o + 2) 1 = m && d.u (o + 3) 1 = dd)

/-- The day profile of a local date (R144). -/
def TDoc.dayProfile (d : TDoc) (dayNo : Int) : Nat :=
  match d.specialAt dayNo with
  | some i => d.u (1360 + 8 * i + 4) 1
  | none => d.u (464 + 8 * d.u (448 + 4 * d.seasonAt dayNo + 2) 1 + weekdayOf dayNo) 1

/-- The table of a local instant (R144). -/
def TDoc.tableAt (d : TDoc) (loc : Int) : Nat :=
  let o := 528 + 52 * d.dayProfile (loc.fdiv 86400)
  let minute := ((loc % 86400) / 60).toNat
  let ps := (List.range (d.u o 1)).filter (fun i => decide (d.u (o + 4 + 4 * i) 2 ≤ minute))
  d.u (o + 4 + 4 * (ps.getLast?.getD 0) + 2) 1

/-! ### The held documents -/

/-- The documents that the sealed die holds (R141). -/
def Sealed.docs (x : Sealed) : List TDoc := x.active.toList ++ x.previous.toList ++ x.pendingDoc.toList

/-- The later of two documents: by activation, then by order of acceptance (R141). -/
def laterDoc (a b : TDoc) : TDoc := if a.activation < b.activation ∨ (a.activation = b.activation ∧ a.order < b.order) then b else a

/-- The document with the latest activation at or before an instant (R141, R155). -/
def Sealed.docInForce (x : Sealed) (t : Int) : Option TDoc :=
  match x.docs.filter (fun d => decide ((d.activation : Int) ≤ t)) with
  | [] => none
  | d :: rest => some (rest.foldl laterDoc d)

/-- The document for a cell with interval start `t`, and whether it is one that had to be used before its activation (R141). -/
def Sealed.docFor (x : Sealed) (t : Int) : Option (TDoc × Bool) :=
  match x.docInForce t with
  | some d => some (d, false)
  | none =>
    match x.docs with
    | [] => none
    | d :: rest => some (rest.foldl (fun a b =>
        if b.activation < a.activation ∨ (b.activation = a.activation ∧ a.order < b.order) then b else a) d, true)

/-! ### Calendar boundaries (R153, R155) -/

/-- The boundaries of item `i` of a document on the days around an instant, later than it and taken under this document. -/
def Sealed.itemBoundary (x : Sealed) (d : TDoc) (i : Nat) (from_ : Int) : Option Int :=
  let o := 1872 + 8 * i
  let start := max from_ ((d.activation : Int) - 1)
  let day0 := (d.localOf x.utcOffset start).fdiv 86400 - 1
  let days := (List.range 66).map (fun (k : Nat) => day0 + (k : Int))
  let want := days.filter (fun n => d.u o 1 = 2 || (dateOf n).2.2 = d.u (o + 1) 1)
  let bs := want.map (fun n => d.ntOf x.utcOffset (n * 86400 + (d.u (o + 2) 2 : Int) * 60))
  bs.find? (fun b => decide (from_ < b) && (x.docInForce b).map (·.order) == some d.order)

/-- The boundaries of a type, each item's first one after an instant: boundary, delay, item index (R153). -/
def Sealed.itemBoundaries (x : Sealed) (typ : Nat) (from_ : Int) : List (Int × Nat × Nat) :=
  (x.docs.map (fun d => ((List.range (d.u 9 1)).filter (fun i => d.u (1872 + 8 * i) 1 = typ)).filterMap
    (fun i => (x.itemBoundary d i from_).map (fun b => (b, d.u (1872 + 8 * i + 4) 2, i))))).flatten

/-- The earliest of a list of boundaries. -/
def earliest : List (Int × Nat × Nat) → Option (Int × Nat × Nat)
  | [] => none
  | c :: rest => some (rest.foldl (fun a b => if b.1 < a.1 then b else a) c)

/-- The next boundary of a type (1 BILLING_CLOSE, 2 SNAPSHOT) after an instant: boundary, delay, item index. -/
def Sealed.nextBoundary (x : Sealed) (typ : Nat) (from_ : Int) : Option (Int × Nat × Nat) := earliest (x.itemBoundaries typ from_)

/-- The first boundary of a type after an instant that sealed time has reached with its delay (R155). -/
def Sealed.dueBoundary (x : Sealed) (typ : Nat) (now from_ : Int) : Option (Int × Nat × Nat) :=
  earliest ((x.itemBoundaries typ from_).filter (fun b => decide (b.1 + (b.2.1 : Int) ≤ now)))

/-- The instant after which a type's boundaries execute: its mark, or just before the first activation (R155). -/
def Sealed.markFrom (x : Sealed) (mark : Option Nat) : Option Int :=
  match mark with
  | some m => some (m : Int)
  | none => x.firstActivation.map (fun a => (a : Int) - 1)

/-- The next BILLING_CLOSE boundary that has not been executed (R154). -/
def Sealed.closeBoundary (x : Sealed) : Option (Int × Nat × Nat) := (x.markFrom x.markClose).bind (x.nextBoundary 1)

/-- Whether a body is valid (R140); `utcOff` is the offset held at acceptance, `version` the envelope's. -/
def tariffBodyValid (b : Bytes) (utcOff : Int) (version : Nat) : Bool :=
  let d : TDoc := { version := version, activation := getLE 16 8 b, order := 0, body := b }
  let nI := d.u 2 1
  let nE := d.u 3 1
  let nT := d.u 4 1
  let nS := d.u 5 1
  let nW := d.u 6 1
  let nD := d.u 7 1
  let nX := d.u 8 1
  let nC := d.u 9 1
  let within := fun (v lo hi : Nat) => decide (lo ≤ v) && decide (v ≤ hi)
  let rule := fun (o : Nat) => within (d.u o 1) 1 12 && within (d.u (o + 1) 1) 1 5 && within (d.u (o + 2) 1) 1 7 && within (d.u (o + 3) 1) 0 23
  let counts := within nI 1 8 && within nE 0 4 && within nT 1 16 && within nS 1 4 && within nW 1 8 && within nD 1 16 &&
    within nX 0 64 && within nC 1 16
  let head := [900, 1800, 3600].contains d.demandS && (d.activation = 0 || decide (((d.activation : Int) + utcOff) % 60 = 0)) &&
    decide (0 < d.threshold 1) && decide (d.threshold 1 < d.threshold 2) && decide (-720 ≤ d.i 40 2) && decide (d.i 40 2 ≤ 840) &&
    ([0, 30, -30, 60, -60] : List Int).contains (d.i 42 2) && (if d.i 42 2 = 0 then zeroAt 44 8 b else rule 44 && rule 48) &&
    zeroAt 52 12 b && decide (1 ≤ version)
  let tables := (List.range nT).all fun t =>
    let o := TDoc.tableOff t
    decide (d.u o 1 < nI) && (d.u (o + 1) 1 = 0xF || decide (d.u (o + 1) 1 < nE)) && zeroAt (o + 2) 2 b && zeroAt (o + 20) 4 b
  let seasons := (List.range nS).all fun i =>
    let o := 448 + 4 * i
    within (d.u o 1) 1 12 && within (d.u (o + 1) 1) 1 28 && decide (d.u (o + 2) 1 < nW) && zeroAt (o + 3) 1 b &&
      (i = 0 || decide (d.u (o - 4) 1 * 32 + d.u (o - 3) 1 < d.u o 1 * 32 + d.u (o + 1) 1))
  let weeks := (List.range nW).all fun i =>
    (List.range 7).all (fun k => decide (d.u (464 + 8 * i + k) 1 < nD)) && zeroAt (464 + 8 * i + 7) 1 b
  let days := (List.range nD).all fun i =>
    let o := 528 + 52 * i
    let n := d.u o 1
    within n 1 12 && zeroAt (o + 1) 3 b && d.u (o + 4) 2 = 0 &&
      (List.range n).all (fun k =>
        let p := o + 4 + 4 * k
        decide (d.u p 2 ≤ 1439) && decide (d.u (p + 2) 1 < nT) && zeroAt (p + 3) 1 b && (k = 0 || decide (d.u (p - 4) 2 < d.u p 2))) &&
      zeroAt (o + 4 + 4 * n) (4 * (12 - n)) b
  let specials := (List.range nX).all fun i =>
    let o := 1360 + 8 * i
    within (d.u (o + 2) 1) 1 12 && within (d.u (o + 3) 1) 1 31 && decide (d.u (o + 4) 1 < nD) && decide (d.u (o + 5) 1 < 2) && zeroAt (o + 6) 2 b
  let items := (List.range nC).all fun i =>
    let o := 1872 + 8 * i
    ((d.u o 1 = 1 && within (d.u (o + 1) 1) 1 28) || (d.u o 1 = 2 && d.u (o + 1) 1 = 0)) && decide (d.u (o + 2) 2 ≤ 1439) &&
      decide (d.u (o + 4) 2 ≤ 14400) && zeroAt (o + 6) 2 b
  let rest := zeroAt (64 + 24 * nT) (24 * (16 - nT)) b && zeroAt (448 + 4 * nS) (4 * (4 - nS)) b && zeroAt (464 + 8 * nW) (8 * (8 - nW)) b &&
    zeroAt (528 + 52 * nD) (52 * (16 - nD)) b && zeroAt (1360 + 8 * nX) (8 * (64 - nX)) b && zeroAt (1872 + 8 * nC) (8 * (16 - nC)) b
  b.length = 2000 && counts && head && tables && seasons && weeks && days && specials && items && rest &&
    (((List.range nC).filter (fun i => d.u (1872 + 8 * i) 1 = 1)).length = 1)

end Sys2Proof.Machine
end

