-- ==== Sys2Proof/Machine/SealedOps.lean ====
section
/-! DEFINITION. Operations of the sealed die: its time, the output buffer and batches, events of channel 0, sealed records
and journal transactions, clock corrections (R50 to R52, R66, R69, R71, R79, R159, R184, R185, R370). -/

namespace Sys2Proof.Machine
open Sys2Proof

def State.onSealed (s : State) (f : Sealed → Sealed) : State := { s with sealedDie := f s.sealedDie }

/-- A field of a sealed object (R42, R71, R104, R163, R188, R189). -/
def State.sv (s : State) (o f : Nat) : Int := cfgValue s.sealedDie.values o f 0
def State.svN (s : State) (o f : Nat) : Nat := (s.sv o f).toNat

/-- Sealed time in ns and in whole seconds. -/
def State.sealedNs (s : State) : Int := s.sealedDie.base + s.sealedDie.elapsed
def State.sealedSec (s : State) : Nat := (s.sealedNs.fdiv 1000000000).toNat
def State.sealedMs (s : State) : Int := s.sealedNs.fdiv 1000000

/-- The sealed endpoint record of an EIX. -/
def State.ep? (s : State) (eix : Nat) : Option Ep := s.sealedDie.eps.get? eix
def State.ep (s : State) (eix : Nat) : Ep := s.sealedDie.eps.getD eix {}
def State.onEp (s : State) (eix : Nat) (f : Ep → Ep) : State := s.onSealed fun x => { x with eps := x.eps.adj eix f }

/-! ### The output buffer (R66, R69) -/

/-- Kinds of the reading part. -/
def readingKind (k : Nat) : Bool := k = 0x81 || k = 0x86 || k = 0x87

/-- Cells of a payload in the output buffer. -/
def outCells (p : Bytes) : Nat := cdiv p.length 64

/-- Cells in use in a part of the output buffer. -/
def State.outUsed (s : State) (reading : Bool) : Nat :=
  ((s.sealedDie.outBuf.filter (fun m => readingKind m.kind = reading)).map (fun m => outCells m.payload)).sum

/-- Whether a payload fits its part. -/
def State.outFits (s : State) (kind : Nat) (p : Bytes) : Bool := decide (s.outUsed (readingKind kind) + outCells p ≤ 4096)

/-- Place a message in the output buffer under the next outbound sequence (R58). -/
def State.pushOut (s : State) (i : OutItem) : State :=
  s.onSealed fun x => { x with
    outBuf := x.outBuf ++ [{ seq := x.outSeq, kind := i.kind, payload := i.payload, txn := i.txn }], outSeq := (x.outSeq + 1) % 2 ^ 32 }

/-- The 64-byte batch header (R51). -/
def batchHeader (number count reason opened closed : Nat) : Bytes :=
  withEdge (ascii "SLUB" ++ le 2 1 ++ le 2 0 ++ le 8 number ++ le 4 count ++ le 4 reason ++ le 8 opened ++ le 8 closed ++
    padTo 16 Config.sealedIdentity ++ le 4 (keyIdentifier (Config.factoryKey 3)))

/-- Close the open batch (R50, R51): it takes its number, its cells belong to a closed batch, signing begins. -/
def State.closeBatch (s : State) (reason : Nat) : State :=
  let b := s.sealedDie.batch
  if b.count = 0 then s
  else
    let n := s.sealedDie.batchNumber + 1
    s.onSealed fun x => { x with
      batchNumber := n
      signing := x.signing ++ [{ header := batchHeader n b.count reason b.opened s.sealedSec, cells := b.cells }]
      batch := {}
      eps := x.eps.mapVals fun _ e => { e with hist := e.hist.map fun h => if h.inOpen then { h with inOpen := false, signed := true } else h } }

/-- A cell that leaves the gate joins the open batch (R50). -/
def State.joinBatch (s : State) (i : OutItem) : State :=
  let b0 := s.sealedDie.batch
  let b := if b0.count = 0 then { b0 with openedElapsed := s.sealedDie.elapsed, opened := s.sealedSec, cap := s.svN 0x1100 6, ageS := s.svN 0x1100 7 } else b0
  let counts := i.first && decide (getLE 0 4 i.payload / 2 ^ 18 % 16 ≤ 1)
  let b1 := { b with
    cells := b.cells ++ i.payload, count := b.count + 1
    perEix := if counts then b.perEix.upd i.eix 0 (· + 1) else b.perEix }
  let s1 := (s.onSealed fun x => { x with batch := b1 }).onEp i.eix fun e => { e with
    hist := e.hist.map fun h => if h.bytes = i.payload ∧ !h.signed then { h with inOpen := true } else h }
  if b1.cap ≤ b1.count then s1.closeBatch 1 else if 32 ≤ b1.perEix.getD i.eix 0 then s1.closeBatch 5 else s1

/-- Move what fits from the reading messages that wait into the output buffer; cells of the next batch wait for the header
and trailer of the closed one (R51, R69). `n` bounds the work. -/
def State.drainReading : Nat → State → State
  | 0, s => s
  | n + 1, s =>
    match s.sealedDie.readingQ with
    | [] => s
    | i :: rest =>
      if (i.kind = 0x81 ∧ !s.sealedDie.signing.isEmpty) ∨ !s.outFits i.kind i.payload then s
      else
        let s1 := (s.onSealed fun x => { x with readingQ := rest }).pushOut i
        State.drainReading n (if i.kind = 0x81 then s1.joinBatch i else s1)

/-- The same for the record part. -/
def State.drainRecord : Nat → State → State
  | 0, s => s
  | n + 1, s =>
    match s.sealedDie.recordQ with
    | [] => s
    | i :: rest =>
      if !s.outFits i.kind i.payload then s
      else State.drainRecord n ((s.onSealed fun x => { x with recordQ := rest }).pushOut i)

/-- CLOSE and SNAPSHOT images follow what waits for the record part, as it frees (R69). -/
def State.drainImages : Nat → State → State
  | 0, s => s
  | n + 1, s =>
    match s.sealedDie.imageQ with
    | [] => s
    | i :: rest =>
      if !s.sealedDie.recordQ.isEmpty ∨ !s.outFits i.kind i.payload then s
      else State.drainImages n ((s.onSealed fun x => { x with imageQ := rest }).pushOut i)

def State.drainOut (s : State) : State :=
  let s1 := s.drainRecord (s.sealedDie.recordQ.length + 1)
  let s2 := s1.drainImages (s1.sealedDie.imageQ.length + 1)
  s2.drainReading (s2.sealedDie.readingQ.length + 1)

/-- The core's work is paused at a message that does not fit its part, or at a cell that waits for the trailer of the closed batch
(R51, R69; log 139). -/
def State.corePaused (s : State) : Bool := !s.sealedDie.readingQ.isEmpty || !s.sealedDie.recordQ.isEmpty

/-- Whether a message is a CLOSE or SNAPSHOT image (R170). -/
def OutItem.isImage (i : OutItem) : Bool := i.kind = 0x82 && getLE 4 1 i.payload ≠ 0

/-- Emit messages in order (R69): they wait where they do not fit, images apart from the rest. -/
def State.emit (s : State) (is : List OutItem) : State :=
  (s.onSealed fun x => { x with
    readingQ := x.readingQ ++ is.filter (fun i => readingKind i.kind)
    recordQ := x.recordQ ++ is.filter (fun i => !readingKind i.kind && !i.isImage)
    imageQ := x.imageQ ++ is.filter OutItem.isImage }).drainOut

/-! ### Sealed events (R366, R370) -/

/-- A record of channel 0: an event or an anchor. -/
def State.sealedRecordMsg (s : State) (code b19 : Nat) (data : Bytes) : State :=
  let r := recordBytes s.sealedDie.eventSeq s.sealedDie.ot s.sealedDie.pcc code 0 b19 data
  (s.onSealed fun x => { x with eventSeq := x.eventSeq + 1 }).emit [{ kind := 0x85, payload := r }]

/-- The sealed die raises an event: its own bucket of depth 32, then a SEALED_EVENT message. Event 47 SEALED_FAULT of R82 is never raised:
the spec names no cause of it (log 150). -/
def State.raiseSealed (s : State) (src : Nat) (data : Bytes) : State :=
  if !s.sealedDie.running then s
  else if 32 ≤ s.sealedDie.bucketSpent.getD src 0 then
    s.onSealed fun x => { x with bucketSuppressed := x.bucketSuppressed.upd src 0 (fun n => min 255 (n + 1)) }
  else
    let sup := s.sealedDie.bucketSuppressed.getD src 0
    (s.onSealed fun x => { x with bucketSpent := x.bucketSpent.upd src 0 (· + 1), bucketSuppressed := x.bucketSuppressed.erase src }).sealedRecordMsg src sup data

/-- A sealed anchor (R371): 0x0110 START, 0x0111 STEPPED, 0x0112 PROVISIONAL. -/
def State.sealedAnchor (s : State) (code : Nat) : State := s.sealedRecordMsg code s.sealedDie.timeState.code (le 8 s.sealedSec)

/-- The 3 bytes of an EIX in event data. -/
def eix3 (eix : Nat) : Bytes := le 3 (eix % 2 ^ 18)

/-! ### Sealed time -/

/-- The second markers and the per-second work that fall in a span of elapsed crystal time (R270, R370). -/
def State.sealedSeconds (s : State) (to_ : Nat) : State :=
  let e0 := s.sealedDie.elapsed
  let ticks := to_ / 1000000000 - e0 / 1000000000
  let sec0 := s.sealedSec
  let s1 := s.onSealed fun x => { x with
    elapsed := to_, ot := x.ot + ticks
    bucketSpent := (x.bucketSpent.mapVals fun _ n => n - ticks).filter (fun p => decide (0 < p.2)) }
  let sec1 := s1.sealedSec
  if sec0 < sec1 ∧ s.gate.up then s1.onGate fun g => { g with units := g.units ++ [.marker (s.sealedDie.corrections % 256) sec1] } else s1

/-- The sealed crystal has run to an elapsed time, if it is later than where it stands. -/
def State.sealedAdvance (s : State) (to_ : Nat) : State := if s.sealedDie.elapsed < to_ then s.sealedSeconds to_ else s

/-! ### Sealed records and the journal (R79, R184, R185) -/

/-- Form the next sealed record of a stream: encrypted and chained (R79). The stream number enters the key as 2 bytes and the epoch as 8,
the widths of the record's own fields, and the tag before a stream's first record is empty: DESIGN CHOICE (log 140). -/
def State.sealRecord (s : State) (stream : Nat) (plain : Bytes) : State × Bytes :=
  let st := s.sealedDie.streams.getD (stream - 1) {}
  let head := ascii "SLSR" ++ le 2 stream ++ le 2 1 ++ le 8 st.epoch ++ le 8 st.next ++ le 4 plain.length
  let key := shake 32 (Config.factoryKey 4 ++ le 2 stream ++ le 8 st.epoch)
  let ct := padTo (plain.length + 16) (Config.gcmSeal 16 key (le 8 st.next ++ zeros 4) (head ++ st.tag) plain)
  (s.onSealed fun x => { x with streams := x.streams.set (stream - 1) { st with next := st.next + 1, tag := ct.drop plain.length } },
   withEdge (head ++ ct))

/-- Write a record of a stream other than the journal: checkpoint, metrology log, tamper log. In STORE_FAULT the anchored streams
stand as they are (R80). -/
def State.writeSealed (s : State) (stream : Nat) (plain : Bytes) : State :=
  if s.sealedDie.storeFault then s
  else
    let (s1, r) := s.sealRecord stream plain
    s1.emit [{ kind := 0x8A, payload := r }]

/-- Messages that belong to no transaction leave after what is still on its way (R48, R185). -/
def State.emitAfter (s : State) (is : List OutItem) : State :=
  match s.sealedDie.txns.getLast? with
  | some t => s.onSealed fun x => { x with txns := x.txns.dropLast ++ [{ t with outputs := t.outputs ++ is }] }
  | none => s.emit is

/-- Offer the next part of the oldest transaction: one part at a time, so that parts keep their order (R185). -/
def State.pumpJournal (s : State) : State :=
  match s.sealedDie.txns with
  | [] => s
  | t :: rest =>
    if t.offered ∨ t.refused then s
    else
      match t.record, t.parts with
      | some r, _ => (s.onSealed fun x => { x with txns := { t with offered := true } :: rest }).emit [{ kind := 0x8A, payload := r, txn := some t.number }]
      | none, p :: ps =>
        let (s1, r) := s.sealRecord 1 p
        (s1.onSealed fun x => { x with txns := { t with offered := true, record := some r, parts := ps } :: rest }).emit
          [{ kind := 0x8A, payload := r, txn := some t.number }]
      | none, [] => s

/-- One journal item with its 4-byte header (R184). -/
def jItem (typ : Nat) (d : Bytes) : Bytes := le 1 typ ++ le 1 0 ++ le 2 d.length ++ d

/-- Pack items into parts of at most `cap` bytes; no item straddles two parts. -/
def packParts (cap : Nat) (items : List Bytes) : List Bytes :=
  (items.foldl (fun (acc : List Bytes) i =>
    match acc with
    | p :: ps => if p.length + i.length ≤ cap then (p ++ i) :: ps else i :: p :: ps
    | [] => [i]) []).reverse

/-- A journal transaction (R184): its header and items in parts; `outputs` leave the gate once every part is accepted. In STORE_FAULT
nothing is journaled (R80, log 138). -/
def State.transact (s : State) (kind flags : Nat) (items : List Bytes) (outputs : List OutItem) (images : List Nat)
    (mark : Option (Nat × Nat) := none) : State :=
  if s.sealedDie.storeFault then s else
  let n := s.sealedDie.txnNext + 1
  let len := 24 + (items.map (·.length)).sum
  let fl := if s.sealedDie.pfw then setBit flags 1 true else flags
  let head := le 8 n ++ le 8 s.sealedSec ++ le 1 kind ++ le 1 fl ++ le 2 items.length ++ le 4 len
  let bodies := packParts (65472 - 16) (head :: items)
  let parts := bodies.zipIdx.map (fun p => le 8 n ++ le 2 p.2 ++ le 2 bodies.length ++ zeros 4 ++ p.1)
  (s.onSealed fun x => { x with
    txnNext := n, txnSinceCkpt := x.txnSinceCkpt + 1
    txns := x.txns ++ [{ number := n, parts := parts, outputs := outputs, mark := mark, images := images }] }).pumpJournal

/-- Whether a transaction that was refused is held: from the refusal until every part has been accepted (R185, R541). -/
def State.journalHeld (s : State) : Bool := s.sealedDie.txns.any (·.faultRaised)

/-- The oldest transaction is whole: its calendar mark goes to sealed NOR, what it produced leaves the gate
(R155, R185). -/
def State.txnDone (s : State) (t : Txn) : State :=
  let marked := fun (l : List (Option Nat)) => match t.mark with
    | some (typ, b) => l.set (typ - 1) (some b)
    | none => l
  ((s.onSealed fun x => { x with txns := x.txns.drop 1, norMarks := marked x.norMarks }).emit t.outputs).pumpJournal

/-- The store's answer to a journal part (R185). -/
def State.partResult (s : State) (refused : Bool) : State :=
  match s.sealedDie.txns with
  | [] => s
  | t :: rest =>
    if refused then
      let s1 := s.onSealed fun x => { x with txns := { t with offered := false, refused := true, faultRaised := true } :: rest }
      if t.faultRaised then s1 else s1.raiseSealed 63 (le 1 1 ++ eix3 (t.images.headD 0))
    else if t.parts.isEmpty then s.txnDone t
    else (s.onSealed fun x => { x with txns := { t with offered := false, refused := false, record := none } :: rest }).pumpJournal

/-- 100 ms after a refusal the refused part is offered again under a new sequence (R185). -/
def State.reofferPart (s : State) : State :=
  match s.sealedDie.txns with
  | t :: rest =>
    if t.refused then
      match t.record with
      | some r => (s.onSealed fun x => { x with txns := { t with offered := true } :: rest }).emit [{ kind := 0x8A, payload := r, txn := some t.number }]
      | none => s
    else s
  | [] => s

/-- Refused records of the other streams are offered again too (R67, R185). -/
def State.reofferRecords (s : State) : State :=
  (s.onSealed fun x => { x with refusedRecs := [] }).emit (s.sealedDie.refusedRecs.map fun r => { kind := 0x8A, payload := r })

def execJournalPartReoffer (s : State) : Host.Outcome State Fault Refusal :=
  .next (if s.sealedDie.txns.any (fun t => t.refused && !t.offered) then s.reofferPart.reofferRecords else s.reofferRecords)

/-- Freed cells let paused work go on (R69). -/
def execSealedOutputResume (s : State) : Host.Outcome State Fault Refusal := .next s.drainOut.pumpJournal

/-- batch_age_s of crystal time since the first cell (R50). -/
def State.batchAge (s : State) : State :=
  let b := s.sealedDie.batch
  if 0 < b.count ∧ b.openedElapsed + b.ageS * 1000000000 ≤ s.sealedDie.elapsed then s.closeBatch 2 else s

def execBatchAgeExpiry (s : State) : Host.Outcome State Fault Refusal := .next s.batchAge

/-- Signing of the oldest closed batch ends (the rule leaves the variant of FIPS 204 open: its randomness is a free value, log 7): header and trailer leave before the cells of the next batch (R51, R52). -/
def State.trailerReady (s : State) : State :=
  match s.sealedDie.signing with
  | [] => s
  | g :: rest =>
    let data := g.cells ++ g.header
    let (rnd, s1) := s.draw 10 32
    let trailer := withEdge (shake 64 data ++ signOver (Config.factoryKey 2) "STOLRID-UPLOAD-1" data (le 32 rnd) ++ zeros 3)
    (s1.onSealed fun x => { x with
      signing := rest, readingQ := { kind := 0x86, payload := g.header } :: { kind := 0x87, payload := trailer } :: x.readingQ }).drainOut

def execBatchTrailerReady (s : State) : Host.Outcome State Fault Refusal := .next s.trailerReady

end Sys2Proof.Machine
end

