-- ==== Sys2Proof/Machine/Ledger.lean ====
section
/-! DEFINITION. The ledger engine: records, warning levels, emergency credit, orders, evaluations, credit transactions
(R167 to R191), and what R170 emits. -/

namespace Sys2Proof.Machine
open Sys2Proof

/-- The available amount A (R169). -/
def Ledger.avail (l : Ledger) : Int := l.balance + l.emergency

/-- A ledger record's 256 bytes (R168). -/
def ledgerBytes (eix image : Nat) (l : Ledger) : Bytes :=
  withEdge (le 4 eix ++ le 1 image ++ le 1 l.mode ++ le 1 l.supply ++ le 1 l.warn ++ le 1 l.flags ++ le 1 l.profile ++ le 2 0 ++
    le 4 l.revision ++ leI 8 l.balance ++ leI 8 l.emergency ++ leI 8 l.credited ++ leI 8 l.debited ++ le 4 l.txnHigh ++ le 4 l.txnWindow ++
    le 4 l.period ++ le 4 l.lastSeq ++ le 8 l.pImport ++ le 8 l.pExport ++ leI 8 l.pDebit ++ (l.regI.map (le 8)).flatten ++
    (l.regE.map (le 8)).flatten ++ le 8 l.maxTime ++ le 4 l.maxDemand ++ le 4 l.carryS ++ leI 8 l.carryE ++ le 4 l.orderNo ++
    le 1 l.orderKind ++ le 1 l.orderCause ++ le 1 l.apdu.length ++ le 1 0 ++ padTo 36 l.apdu)

/-- The EIX_STATE item (R184). -/
def eixState (e : Ep) : Bytes :=
  le 4 e.seq ++ le 8 e.lastEnd ++ le 8 e.imp ++ le 8 e.exp ++ le 8 e.react ++ le 1 e.gen ++ le 1 (b2n e.reOpen) ++ le 1 (b2n e.reFirst) ++ le 1 (b2n e.has) ++
  le 8 e.opening.imp ++ le 8 e.opening.exp ++ leI 8 e.opening.debit ++ (e.opening.regI.map (le 8)).flatten ++
  (e.opening.regE.map (le 8)).flatten ++ le 4 e.opening.maxDemand ++ le 8 e.opening.maxTime ++ zeros 4

/-- The journal items that carry an EIX's after-image. -/
def State.afterImages (s : State) (eix : Nat) : List Bytes :=
  [jItem 2 (ledgerBytes eix 0 (s.ep eix).ledger), jItem 3 (eixState (s.ep eix))]

/-- A CURRENT record as a LEDGER_STATE message; it is emitted now (R170). -/
def State.currentItem (s : State) (eix : Nat) : OutItem := { kind := 0x82, payload := ledgerBytes eix 0 (s.ep eix).ledger }
def State.markEmitted (s : State) (eix : Nat) : State := s.onEp eix fun e => { e with lastEmit := s.sealedDie.elapsed, unemitted := false }

/-- A profile field of an account (R189). -/
def State.profileField (s : State) (l : Ledger) (f : Nat) : Int := s.sv (0x3010 + l.profile) f

/-- Flag bits of R169. -/
def Ledger.flag (l : Ledger) (b : Nat) : Bool := bit l.flags b
def Ledger.setFlag (l : Ledger) (b : Nat) (v : Bool) : Ledger := { l with flags := setBit l.flags b v }

/-! ### Warning levels (R176) -/

/-- The bound of a level. -/
def warnBound (low crit : Int) (level : Nat) : Int := if level = 1 then low else if level = 2 then crit else 0

/-- Leave worse levels while A stands at or above their bound plus the hysteresis; `n` bounds the steps. -/
def betterLevel (low crit hyst a : Int) : Nat → Nat → Nat
  | 0, l => l
  | n + 1, l => if 0 < l ∧ warnBound low crit l + hyst ≤ a then betterLevel low crit hyst a n (l - 1) else l

/-- The level that follows from A (R176). -/
def nextLevel (low crit hyst a : Int) (level : Nat) : Nat :=
  let worst := if a < 0 then 3 else if a < crit then 2 else if a < low then 1 else 0
  if level < worst then worst else betterLevel low crit hyst a 3 level

/-- Re-evaluate the warning level of an EIX, event 58 on a change. -/
def State.reWarn (s : State) (eix : Nat) : State :=
  let l := (s.ep eix).ledger
  let new := if l.mode = 1 then nextLevel (s.profileField l 0) (s.profileField l 1) (s.profileField l 2) l.avail l.warn else 0
  if new = l.warn then s
  else (s.onEp eix fun e => { e with ledger := { e.ledger with warn := new } }).raiseSealed 58 (eix3 eix ++ le 1 l.warn ++ le 1 new)

/-! ### Emergency credit (R175) -/

/-- Whether emergency credit is available. -/
def State.emergencyAvailable (s : State) (l : Ledger) : Bool := l.mode = 1 && decide (0 < s.profileField l 3) && !l.flag 1

/-- Grant emergency credit: event 57. -/
def State.grant (s : State) (eix : Nat) : State :=
  let a := s.profileField (s.ep eix).ledger 3
  (s.onEp eix fun e => { e with ledger := { (e.ledger.setFlag 0 true).setFlag 1 true with emergency := a } }).raiseSealed 57
    (eix3 eix ++ le 1 0 ++ le 4 (min a.toNat 0xFFFFFFFF))

/-! ### Orders (R180, R181) -/

/-- The 34 bytes of an order (R180). -/
def State.orderApdu (s : State) (e : Ep) (number kind : Nat) : Bytes :=
  let obis := leI 6 (s.profileField e.ledger 11)
  let pt := [0xC3#8, 0x01#8] ++ le 1 (0xC0 + number % 16) ++ [0x00#8, 0x46#8] ++ obis ++ le 1 kind ++ [0x01#8, 0x0F#8, 0x00#8]
  let title := leI 8 (s.sv 0x3001 0)
  let ct := padTo 27 (Config.gcmSeal 12 e.guek (title ++ be 4 e.client) (0x30#8 :: e.ak) pt)
  [0xCB#8, 0x20#8, 0x30#8] ++ be 4 e.client ++ ct

/-- An event that is raised once per EIX and cause (R181). -/
def State.raiseOnce (s : State) (eix src : Nat) (data : Bytes) : State :=
  if (s.ep eix).once.contains src then s
  else (s.onEp eix fun e => { e with once := e.once ++ [src] }).raiseSealed src data

/-- Build an order of kind 1 DISCONNECT or 2 RECONNECT (R179 to R181): the supply state changes; no order while the client
counter is exhausted or client_title is zero. -/
def State.buildOrder (s : State) (eix kind cause : Nat) : State :=
  let e := s.ep eix
  let noTitle := s.sv 0x3001 0 = 0
  let supply := if kind = 1 then 1 else 0
  if noTitle ∨ e.clientDone then
    let s1 := s.onEp eix fun x => { x with ledger := { x.ledger with supply := supply, orderKind := 0, orderCause := cause, apdu := [] } }
    let s2 := s1.raiseSealed (58 + kind) (eix3 eix ++ le 1 cause ++ le 4 e.ledger.orderNo)
    let s3 := if e.clientDone then s2.raiseOnce eix 55 (eix3 eix ++ le 1 1) else s2
    if noTitle then s3.raiseOnce eix 63 (le 1 2 ++ eix3 eix) else s3
  else
    let n := (e.ledger.orderNo + 1) % 2 ^ 32
    let s1 := s.onEp eix fun x => { x with
      client := x.client + 1, clientDone := decide (0xFFFFFFFF ≤ x.client)
      ledger := { x.ledger with supply := supply, orderNo := n, orderKind := kind, orderCause := cause, apdu := s.orderApdu e n kind } }
    s1.raiseSealed (58 + kind) (eix3 eix ++ le 1 cause ++ le 4 n)

/-! ### Friendly windows and heat (R177, R178) -/

/-- Why a friendly window applies at this instant: 0 none, 1 FRIENDLY, 2 SPECIAL_DAY. -/
def State.friendly (s : State) (l : Ledger) : Nat :=
  let x := s.sealedDie
  let nt : Int := (s.sealedSec : Int)
  let loc := match x.active with
    | some d => d.localOf x.utcOffset nt
    | none => nt + x.utcOffset
  let day := loc.fdiv 86400
  let minute : Int := (loc % 86400) / 60
  let a := s.profileField l 6
  let b := s.profileField l 7
  let special := s.profileField l 9 = 1 && (match x.active with
    | some d => (List.range (d.u 8 1)).any (fun i =>
        let o := 1360 + 8 * i
        let (y, m, dd) := dateOf day
        (d.u o 2 = 0 || d.u o 2 = y) && d.u (o + 2) 1 = m && d.u (o + 3) 1 = dd && bit (d.u (o + 5) 1) 0)
    | none => false)
  let daily := if a < b then decide (a ≤ minute) && decide (minute < b)
    else if b < a then decide (a ≤ minute) || decide (minute < b) else false
  if special then 2 else if daily || bit (s.profileField l 8).toNat (weekdayOf day) then 1 else 0

/-- The heat condition at a minute evaluation (R178): the mean of the last 600 s minus die_rise_c. -/
def State.heatNow (s : State) : Bool :=
  let ts := s.sealedDie.temps
  if ts.isEmpty then s.sealedDie.heat
  else
    let n : Int := (ts.length : Int)
    let sum := ts.foldl (· + ·) 0 - s.sv 0x3001 5 * 100 * n
    if s.sv 0x3001 6 * 100 * n ≤ sum then true
    else if sum ≤ s.sv 0x3001 7 * 100 * n then false
    else s.sealedDie.heat

/-! ### Evaluations (R179) -/

/-- Whether disconnections are held by the restart grace. -/
def State.inGrace (s : State) : Bool :=
  match s.sealedDie.graceSince with
  | some t => decide (s.sealedDie.elapsed < t + s.svN 0x3001 8 * 1000000000)
  | none => false

/-- The reason that holds a disconnection: 0 none, 1 FRIENDLY, 2 SPECIAL_DAY, 3 HEAT. -/
def State.holdReason (s : State) (l : Ledger) : Nat :=
  if s.sealedDie.heat ∧ s.profileField l 10 = 1 then 3 else s.friendly l

/-- The rows of R179 for one EIX. `minute` is false in a document evaluation; `may` says whether a disconnection may be
ordered now; `granted` whether this document made a grant. -/
def State.evaluate (s : State) (eix : Nat) (minute may granted : Bool) : State :=
  let l0 := (s.ep eix).ledger
  if l0.supply = 1 then
    if l0.mode ≠ 1 ∨ l0.flag 3 then s.buildOrder eix 2 3
    else
      let auto := minute && decide (l0.avail < 0) && s.profileField l0 4 = 1 && s.emergencyAvailable l0
      let s1 := if auto then s.grant eix else s
      if s1.profileField l0 5 ≤ (s1.ep eix).ledger.avail then s1.buildOrder eix 2 (if granted || auto then 4 else 2) else s1
  else
    let clear := fun (t : State) => t.onEp eix fun e => { e with suppressReason := 0, ledger := e.ledger.setFlag 2 false }
    if (l0.mode ≠ 1 ∨ l0.flag 3) ∧ l0.flag 2 then clear s
    else if minute ∧ l0.mode = 1 ∧ !l0.flag 3 ∧ l0.avail < 0 then
      let s1 := if s.profileField l0 4 = 1 ∧ s.emergencyAvailable l0 then s.grant eix else s
      let l := (s1.ep eix).ledger
      if 0 ≤ l.avail then (if l.flag 2 then clear s1 else s1)
      else
        let r := s1.holdReason l
        if r ≠ 0 then
          let fresh := !l.flag 2 || (s1.ep eix).suppressReason ≠ r
          let s2 := s1.onEp eix fun e => { e with suppressReason := r, ledger := e.ledger.setFlag 2 true }
          if fresh then s2.raiseSealed 61 (eix3 eix ++ le 1 r) else s2
        else if !may then s1
        else (clear s1).buildOrder eix 1 1
    else if l0.flag 2 ∧ 0 ≤ l0.avail then clear s
    else s

/-- Finish an EIX's part of a transaction: the level, the HEAT flag at an evaluation, the revision when the record changed.
The flag says whether the CURRENT record must leave at once (R170). -/
def State.settle (s : State) (eix : Nat) (before : Ledger) (credit : Bool) : State × Bool :=
  let s1 := s.reWarn eix
  let l := (s1.ep eix).ledger
  if l = before then (s1, false)
  else
    let now := credit || l.orderNo ≠ before.orderNo || l.warn ≠ before.warn || l.supply ≠ before.supply || l.flags ≠ before.flags
    let s2 := s1.onEp eix fun e => { e with ledger := { e.ledger with revision := (e.ledger.revision + 1) % 2 ^ 32 }, unemitted := true }
    (if now then s2.markEmitted eix else s2, now)

/-- EIX that R179 visits at a minute evaluation. -/
def State.visited (s : State) : List Nat :=
  (s.sealedDie.eps.filter (fun p => p.2.ledger.mode = 1 || p.2.ledger.supply = 1)).map (·.1)

/-- Whether an EIX would receive a disconnection at this evaluation. -/
def State.wouldDisconnect (s : State) (eix : Nat) : Bool :=
  decide ((s.ep eix).ledger.supply = 0) && decide (((s.evaluate eix true true false).ep eix).ledger.supply = 1)

/-- One endpoint of the minute's rotation (R187): what the transaction gains for it. `chosen` are the endpoints that may
disconnect now. -/
def State.visitEndpoint (chosen : List Nat) (acc : State × List Bytes × List OutItem × List Nat) (eix : Nat) :
    State × List Bytes × List OutItem × List Nat :=
  let (t, items, outs, imgs) := acc
  let before := (t.ep eix).ledger
  let t0 := t.onEp eix fun e => { e with ledger := e.ledger.setFlag 4 t.sealedDie.heat }
  let (t1, now) := (t0.evaluate eix true (chosen.contains eix) false).settle eix before false
  if (t1.ep eix).ledger = before then (t1, items, outs, imgs)
  else (t1, items ++ t1.afterImages eix, if now then outs ++ [t1.currentItem eix] else outs, imgs ++ [eix])

/-- A minute evaluation (R179): one transaction with the after-images of the records that changed. -/
def State.minuteEvaluation (s : State) : State :=
  let minute := s.sealedSec / 60
  if !s.sealedDie.running ∨ !s.sealedDie.started ∨ s.sealedDie.pfw ∨ s.sealedDie.timeState = .invalid ∨ s.sealedDie.storeFault ∨ s.corePaused ∨
      minute ≤ s.sealedDie.lastMinute then s
  else
    let s0 := s.onSealed fun x => { x with lastMinute := minute, heat := s.heatNow }
    let es := s0.visited
    let rot := match s0.sealedDie.discNext with
      | some k => es.filter (fun e => decide (k ≤ e)) ++ es.filter (fun e => decide (e < k))
      | none => es
    let due := if s0.inGrace then [] else rot.filter s0.wouldDisconnect
    let chosen := due.take (s0.svN 0x3001 9)
    let (s1, items, outs, imgs) := es.foldl (State.visitEndpoint chosen) (s0, [], [], [])
    let s2 := s1.onSealed fun x => { x with
      discNext := if due.length ≤ chosen.length then none else chosen.getLast?.map (· + 1) }
    if imgs.isEmpty then s2 else s2.transact 4 0 items outs imgs

def execMinuteEvaluation (s : State) : Host.Outcome State Fault Refusal := .next s.minuteEvaluation

/-- A CURRENT record with a change not yet emitted leaves once state_emit_s has passed on the crystal (R170), after the transactions that
are still on their way (R185). -/
def State.stateEmit (s : State) : State :=
  let due := (s.sealedDie.eps.filter (fun p => p.2.unemitted && decide (p.2.lastEmit + s.svN 0x3001 3 * 1000000000 ≤ s.sealedDie.elapsed))).map (·.1)
  if !s.sealedDie.running ∨ !s.sealedDie.started ∨ s.corePaused then s
  else due.foldl (fun t e => (t.markEmitted e).emitAfter [t.currentItem e]) s

def execStateEmit (s : State) : Host.Outcome State Fault Refusal := .next s.stateEmit

/-! ### Credit transactions (R172, R173) -/

/-- Whether a transaction number may be accepted (check 6 of R63, R173). -/
def txnNumberOk (l : Ledger) (v : Nat) : Bool :=
  decide (l.txnHigh < v) || (decide (v < l.txnHigh) && decide (l.txnHigh < v + 33) && !bit l.txnWindow (l.txnHigh - 1 - v))

/-- The window and high after an accepted number. -/
def Ledger.markTxn (l : Ledger) (v : Nat) : Ledger :=
  if l.txnHigh < v then
    let sh := v - l.txnHigh
    { l with txnHigh := v, txnWindow := if 33 ≤ sh then 0 else (l.txnWindow * 2 ^ sh + if l.txnHigh = 0 then 0 else 2 ^ (sh - 1)) % 2 ^ 32 }
  else { l with txnWindow := setBit l.txnWindow (l.txnHigh - 1 - v) true }

/-- Whether the body is outside R172 and R173 (check 8 of R63). -/
def State.creditBad (s : State) (b : Bytes) (notBefore expiry : Nat) : Bool :=
  let eix := getLE 0 4 b
  let kind := getLE 4 1 b
  let amount := getI 8 8 b
  let maxC := s.sv 0x3001 1
  let acct := kind = 3
  b.length ≠ 40 || (s.ep? eix).isNone || decide (2 ^ 18 ≤ eix) || kind = 0 || decide (4 < kind) || !zeroAt 5 3 b || !zeroAt 19 1 b || !zeroAt 36 4 b ||
    (kind = 1 && !(decide (1 ≤ amount) && decide (amount ≤ maxC))) || (kind = 2 && (amount = 0 || decide (maxC < amount.natAbs))) ||
    (decide (3 ≤ kind) && amount ≠ 0) || (!acct && !zeroAt 16 3 b) ||
    (acct && (decide (2 < getLE 16 1 b) || decide (15 < getLE 17 1 b) || decide (1 < getLE 18 1 b))) ||
    expiry = 0 || decide (notBefore + s.svN 0x3001 2 < expiry) || (kind = 4 && !s.emergencyAvailable (s.ep eix).ledger)

/-- The effect of an accepted transaction by kind (R173). -/
def State.creditEffect (s : State) (eix kind : Nat) (b : Bytes) : State :=
  let amount := getI 8 8 b
  let add := fun (l : Ledger) => { l with balance := l.balance + amount, credited := l.credited + amount }
  let settled := fun (l : Ledger) (full : Bool) =>
    if 0 ≤ l.balance then
      let l1 := { l.setFlag 0 false with emergency := 0 }
      if full then l1.setFlag 1 false else l1
    else l
  match kind with
  | 1 => s.onEp eix fun e => { e with ledger := settled (add e.ledger) true }
  | 2 => s.onEp eix fun e => { e with ledger := settled (add e.ledger) false }
  | 3 => s.onEp eix fun e => { e with ledger := { e.ledger.setFlag 3 (getLE 18 1 b = 1) with mode := getLE 16 1 b, profile := getLE 17 1 b } }
  | _ => s.grant eix

/-- Apply an accepted credit transaction: window, effect, event 56, document evaluation, one transaction (R173, R179). -/
def State.applyCredit (s : State) (v : Nat) (b : Bytes) : State :=
  let eix := getLE 0 4 b
  let kind := getLE 4 1 b
  let before := (s.ep eix).ledger
  let s1 := (s.onEp eix fun e => { e with ledger := e.ledger.markTxn v }).creditEffect eix kind b
  let s2 := s1.raiseSealed 56 (eix3 eix ++ le 1 kind ++ le 4 v)
  let (s3, _) := (if s2.sealedDie.pfw then s2 else s2.evaluate eix false false (kind = 4)).settle eix before true
  s3.transact 2 0 (jItem 4 (le 4 v ++ zeros 4 ++ b) :: s3.afterImages eix) [s3.currentItem eix] [eix]

end Sys2Proof.Machine
end

