-- ==== Sys2Proof/Machine/MetroOps.lean ====
section
/-! DEFINITION. Feeder metrology: sample scaling, zero crossings, cycles, periods and feeder energy records (R83 to R109).
The filters of R86 steps 5 to 7, the band-pass filter of R100 and the resampling and the harmonic amplitudes of R91 are functions
of Config: the spec gives their purpose and corners, not their coefficients (log 94). -/

namespace Sys2Proof.Machine
open Sys2Proof

def State.onMetro (s : State) (f : Metro → Metro) : State := { s with metro := f s.metro }

/-- The factory values of a calibration object (R103). -/
def factoryCal : Bytes := [0xFF#8, 0#8, 0#8, 0#8] ++ le 4 500000 ++ le 4 0x40000000 ++ zeros 20

/-- The calibration object of a channel. -/
def State.cal (s : State) (ch : Nat) : Bytes := s.sealedDie.objects.getD (0x1200 + ch) factoryCal

/-- Sensor type of a channel (R84). -/
def State.sensor (s : State) (ch : Nat) : Nat := getLE 0 1 (s.cal ch)

/-- A feeder emits records when one of its phase-current channels is used (R85). -/
def State.feederEnabled (s : State) (f : Nat) : Bool := (List.range 3).any (fun p => s.sensor (4 + 4 * f + p) ≠ 0xFF)

/-- Fields of metro-setup (R104). -/
def State.ms (s : State) (f : Nat) : Nat := s.svN 0x1110 f

/-- The calibration digest (R74): SHAKE256 over objects 0x1200 to 0x12FF in ascending ID order. -/
def calDigest (objects : Tab Bytes) : Bytes := shake 64 (((List.range 20).map (fun n => objects.getD (0x1200 + n) factoryCal)).flatten)

/-- Steps 4 to 7 of R86 on a code, in units of 2⁻²⁴ code. -/
def State.filterSample (s : State) (ch : Nat) (x : Int) : Int × ChFilter :=
  let c := s.cal ch
  let t := getLE 0 1 c
  let q := s.metro.filters.getD ch {}
  let v4 := (x * 256 - getI 12 4 c) * 65536
  let v5 := if t = 2 ∨ getLE 2 1 c = 1 then Config.highPass v4 q.hpX q.hpY else v4
  let v6 := if t = 2 then Config.integrator s.metro.nominalHz v5 q.inX q.inY else v5
  let recent := (v6 :: q.recent).take 64
  let v7 := if 4 ≤ ch ∧ getI 16 4 c ≠ 0 then Config.fractionalDelay (getI 16 4 c) recent else v6
  (v7, { hpX := v4, hpY := v5, inX := v5, inY := v6, recent := recent })

/-- Step 8 of R86 with R87: a filtered sample in units of 2⁻³² mV or mA. -/
def State.scaleSample (s : State) (ch : Nat) (v : Int) : Int :=
  let c := s.cal ch
  if getLE 0 1 c = 0xFF then 0
  else
    let dt := s.sealedDie.tempCentiC - 2500
    let p : Int := 10000000000000 + getI 20 2 c * dt * 1000 + getI 22 2 c * dt * dt
    (v * ((getLE 8 4 c * getLE 4 4 c : Nat) : Int) * p * 2 ^ 32).fdiv (2 ^ 77 * 10000000000000)

/-! ### Cycles (R88, R89, R92) -/

/-- Root mean square of samples. -/
def rmsOf (l : List Int) : Nat := if l.isEmpty then 0 else isqrt ((l.map (fun v => (v * v).natAbs)).sum / l.length)

/-- Σ a·b over two lists of samples. -/
def dot (a b : List Int) : Int := (List.zipWith (· * ·) a b).sum

/-- The delay vq: v a quarter of the cycle's own length earlier, interpolated linearly (R89). Newest first. -/
def quarterDelayed (n : Nat) (vs : List Int) : List Int :=
  let q := n / 4
  let r : Int := ((n % 4 : Nat) : Int)
  (List.range n).map fun i => (vs.getD (i + q) 0 * (4 - r) + vs.getD (i + q + 1) 0 * r).fdiv 4

/-- Energy in units of 2⁻³² mWh from Σ v·i in units of 2⁻⁶⁴ mV·mA (R89: k = 125 µs / 3.6e12). -/
def energyOf (sum : Nat) : Nat := sum * 125 / (3600000000000 * 2 ^ 32)

/-- The registers of a feeder phase after one cycle (R89, R90). -/
def cycleRegs (n : Nat) (vs is : List Int) (regs : List Nat) : List Nat :=
  let p := dot (vs.take n) is
  let q := dot (quarterDelayed n vs) is
  let v := rmsOf (vs.take n)
  let i := rmsOf is
  let r1 := if 0 ≤ p then
      [regs.getD 0 0 + energyOf p.natAbs, regs.getD 1 0, regs.getD 2 0 + energyOf q.natAbs]
    else [regs.getD 0 0, regs.getD 1 0 + energyOf p.natAbs, regs.getD 2 0]
  r1 ++ [regs.getD 3 0 + energyOf (n * v * i)]

/-- A THD window has closed (R91): its value stays unrounded, in units of 2⁻³² of 0.01 %. A window whose X_1 is 0 is left out of the mean:
DESIGN CHOICE (log 154). `nominal` is in units of 2⁻³² mV or mA. -/
def Thd.add (t : Thd) (window : List (List Int)) (nominal : Nat) : Thd :=
  let x1 := Config.harmonic 1 window
  let h2 := ((List.range 39).map (fun k => Config.harmonic (k + 2) window ^ 2)).sum
  { sum := if x1 = 0 then t.sum else t.sum + isqrt (h2 * 10 ^ 8 * 2 ^ 64) / x1, count := if x1 = 0 then t.count else t.count + 1,
    good := t.good || decide (nominal ≤ x1 * 20) }

/-- The value reported for a period: the mean of its windows, rounded once. -/
def Thd.value (t : Thd) : Nat := if !t.good ∨ t.count = 0 then 0xFFFF else min 0xFFFE (rdiv t.sum (2 ^ 32 * t.count))

/-- One cycle resampled to 128 points (R91); `newest` is newest first. -/
def resampled (newest : List Int) : List Int := (Config.resample newest.reverse).take 128

/-- Close the open cycle of a phase: energies of the four feeders, voltage and current of the period, the THD window, and for
phase L1 the neutral residuals and VNE (R88, R89, R91, R92). -/
def State.closeCycle (s : State) (p : Nat) (noZx : Bool) : State :=
  let m := s.metro
  let ph := m.phases.getD p {}
  if ph.n = 0 then s
  else
    let n := ph.n
    let v := rmsOf (ph.vs.take n)
    let w := ph.window + 1
    let close := decide ((if m.nominalHz = 60 then 12 else 10) ≤ w)
    let isLow := decide (v * 100 < s.ms 3 * s.ms 2 * 2 ^ 32)
    let win := ph.win ++ [resampled (ph.vs.take n)]
    let ph1 : MPhase := { ph with
      n := 0
      vs := ph.vs.take 800
      cur := [[], [], [], []]
      residual := [[], [], [], []]
      vne := []
      rms := v
      window := if close then 0 else w
      cycles := ph.cycles + 1
      vSum := ph.vSum + v
      samples := ph.samples + n
      low := if isLow then ph.low + n else ph.low
      noZx := ph.noZx || noZx
      win := if close then [] else win
      thd := if close then ph.thd.add win (s.ms 2 * 2 ^ 32) else ph.thd }
    let feeders := m.feeders.zipIdx.map fun (fp, k) =>
      if k % 3 = p then
        let is := ph.cur.getD (k / 3) []
        let iwin := fp.win ++ [resampled is]
        { fp with
          regs := cycleRegs n ph.vs is fp.regs
          iSum := fp.iSum + rmsOf is
          win := if close then [] else iwin
          thd := if close then fp.thd.add iwin (getLE 4 4 (s.cal (4 + 4 * (k / 3) + p)) * 2 ^ 32 / 100) else fp.thd }
      else fp
    s.onMetro fun x => { x with
      phases := x.phases.set p ph1
      feeders := feeders
      residualSum := if p = 0 then x.residualSum.zipIdx.map (fun q => q.1 + rmsOf (ph.residual.getD q.2 [])) else x.residualSum
      vneSum := if p = 0 then x.vneSum + rmsOf ph.vne else x.vneSum
      neutralCycles := if p = 0 then x.neutralCycles + 1 else x.neutralCycles }

/-- Length of the run that stands in for a cycle (R88). -/
def runLength (hz k : Nat) : Nat := if hz = 60 then (if k % 3 = 2 then 134 else 133) else 160

/-! ### Zero crossings (R100 to R102) -/

/-- Nominal half-period in ns. -/
def nominalHalf (hz : Nat) : Int := if hz = 60 then 8333333 else 10000000

/-- Half-cycles between two considered crossings. -/
def State.zxStep (s : State) : Nat := if s.ms 5 = 1 then 1 else 2

/-- Mean of the last half-periods, or the nominal one. -/
def State.meanHalf (s : State) (z : ZxPhase) : Int :=
  if z.halves.isEmpty then nominalHalf s.metro.nominalHz else z.halves.sum / (z.halves.length : Int)

def State.onZx (s : State) (p : Nat) (f : ZxPhase → ZxPhase) : State :=
  s.onMetro fun m => { m with phases := m.phases.set p (let ph := m.phases.getD p {}; { ph with zx := f ph.zx }) }

def State.zx (s : State) (p : Nat) : ZxPhase := (s.metro.phases.getD p {}).zx

/-- Send the collected stamps (R102). -/
def State.flushZx (s : State) : State :=
  let l := s.metro.zxMsg.take 32
  if l.isEmpty then s
  else (s.onMetro fun m => { m with zxMsg := m.zxMsg.drop 32, zxSince := s.sealedDie.elapsed }).emit [{ kind := 0x84, payload := le 1 l.length ++ zeros 3 ++ l.flatten }]

/-- Produce a stamp for an accepted crossing at crystal time `t` (R65, R102); none while the time is INVALID (R98). -/
def State.stampZx (s : State) (p : Nat) (t : Int) (falling : Bool) : State :=
  let z := s.zx p
  if s.sealedDie.timeState = .invalid ∨ !bit (s.ms 4) p then s
  else
    let us := (s.sealedDie.base + t).fdiv 1000
    let flags := b2n falling + 2 * b2n z.regained + 4 * b2n (s.sealedDie.timeState ≠ .valid) + 8 * b2n z.gap
    let st := leI 8 (us.fdiv 1000000) ++ le 4 ((us % 1000000).toNat * 1000) ++ le 1 (p + 1) ++ le 1 flags ++ le 2 (z.half % 65536)
    (s.onZx p fun x => { x with regained := false, gap := false }).onMetro fun m => { m with
      zxMsg := m.zxMsg ++ [st], zxSince := if m.zxMsg.isEmpty then s.sealedDie.elapsed else m.zxSince }

/-- A crossing is accepted: the measured half-period, the next prediction, the stamp. -/
def State.acceptZx (s : State) (p : Nat) (t : Int) (falling : Bool) : State :=
  let z := s.zx p
  let step := s.zxStep
  let halves := match z.last with
    | some l => ((t - l) / ((step * (z.missed + 1) : Nat) : Int) :: z.halves).take 8
    | none => z.halves
  let s1 := s.onZx p fun x => { x with
    last := some t, halves := halves, missed := 0
    half := if z.last.isSome then x.half + step else x.half }
  let s2 := s1.onZx p fun x => { x with next := if z.last.isSome then some (t + s1.meanHalf x * (step : Int)) else none }
  s2.stampZx p t falling

/-- A prediction that passed without a crossing (R101, R102); the half-cycle count goes on while the phase is LOST. -/
def State.missZx (s : State) (p : Nat) (now : Int) : State :=
  let z := s.zx p
  match z.next with
  | some t =>
    if t + 500000 < now then
      s.onZx p fun x => { x with
        missed := z.missed + 1, gap := true, half := x.half + s.zxStep, next := some (t + s.meanHalf x * (s.zxStep : Int)) }
    else s
  | none => s

/-- ZX_LOST: 8 consecutive predictions of a voltage channel (1 to 3) passed without an accepted crossing (R101). -/
def State.zxLost (s : State) (channel : Nat) : State :=
  let p := channel - 1
  let z := s.zx p
  if 1 ≤ channel ∧ channel ≤ 3 ∧ !z.lost ∧ 8 ≤ z.missed then
    (s.onZx p fun x => { x with lost := true, regain := 0 }).raiseSealed 46 (le 1 channel ++ le 1 0)
  else s

def execZxLost (channel : Nat) (s : State) : Host.Outcome State Fault Refusal := .next (s.zxLost channel)

/-- ZX_REGAINED: four further crossings after the first came within their windows (R101). -/
def State.zxRegained (s : State) (channel : Nat) : State :=
  let p := channel - 1
  let z := s.zx p
  if 1 ≤ channel ∧ channel ≤ 3 ∧ z.lost ∧ 5 ≤ z.regain then
    (s.onZx p fun x => { x with lost := false, regain := 0, missed := 0, regained := true }).raiseSealed 46 (le 1 channel ++ le 1 1)
  else s

def execZxRegained (channel : Nat) (s : State) : Host.Outcome State Fault Refusal := .next (s.zxRegained channel)

/-- ZX_STAMPS_SEND: 32 stamps, or 100 ms since the first (R102). -/
def State.zxStampsSend (s : State) : State :=
  if !s.metro.zxMsg.isEmpty ∧ (32 ≤ s.metro.zxMsg.length ∨ s.metro.zxSince + 100000000 ≤ s.sealedDie.elapsed) then s.flushZx else s

def execZxStampsSend (s : State) : Host.Outcome State Fault Refusal := .next s.zxStampsSend

/-- A crossing while the phase is LOST (R101): the first is taken, four more within their windows regain it, others are ignored; after 8
missed predictions a crossing counts as the first again, and the first stands for the half-cycle predicted nearest (log 95). -/
def State.regainZx (s : State) (p : Nat) (t : Int) : State :=
  let z := s.zx p
  let step : Int := ((s.zxStep : Nat) : Int)
  let ok := match z.next with
    | some n => decide ((t - n).natAbs ≤ 500000)
    | none => false
  if z.regain = 0 ∨ 8 ≤ z.missed then
    let near := match z.next with
      | some n => decide (2 * (n - t) ≤ s.meanHalf z * step)
      | none => true
    s.onZx p fun x => { x with
      regain := 1, missed := 0, last := some t, halves := [], half := if near then x.half + s.zxStep else x.half
      next := some (t + nominalHalf s.metro.nominalHz * step) }
  else if !ok then s
  else
    let halves := match z.last with
      | some l => ((t - l) / (step * ((z.missed + 1 : Nat) : Int)) :: z.halves).take 8
      | none => z.halves
    let s1 := s.onZx p fun x => { x with regain := x.regain + 1, missed := 0, half := x.half + s.zxStep, last := some t, halves := halves }
    s1.onZx p fun x => { x with next := some (t + s1.meanHalf x * step) }

/-- Whether a crossing at `t` is accepted while the phase is not LOST. -/
def ZxPhase.inWindow (z : ZxPhase) (t : Int) : Bool :=
  match z.next with
  | some n => decide ((t - n).natAbs ≤ 500000)
  | none => true

/-- Judge the fundamental of a phase at this sample (R100): its value now and the crossing between the two samples. The flag
says whether a rising crossing was accepted. -/
def State.zxSample (s : State) (p : Nat) (fund : Int) : State × Bool :=
  let z := s.zx p
  let now : Int := (s.sealedDie.elapsed : Int)
  let s0 := s.onZx p fun x => { x with prev := fund, seen := true }
  let rising := z.seen && decide (z.prev < 0) && decide (0 ≤ fund)
  let falling := z.seen && decide (0 ≤ z.prev) && decide (fund < 0) && s.ms 5 = 1
  let strong := decide (s.ms 2 * 2 ^ 32 ≤ (s.metro.phases.getD p {}).rms * 10)
  if (rising || falling) ∧ strong then
    let t := now - 125000 + (125000 * (-z.prev)).fdiv (fund - z.prev)
    let s1 := s0.missZx p t
    let z1 := s1.zx p
    if z1.lost then (s1.regainZx p t, false)
    else if z1.inWindow t then (s1.acceptZx p t falling, rising)
    else (s1, false)
  else (s0.missZx p now, false)

/-! ### One sample (R86) -/

/-- The overload test of R107: the largest overloaded |x| of a channel in the period. -/
def State.overload (s : State) (ch : Nat) (x : Int) : State :=
  if x.natAbs < 0x7F0000 ∨ s.sensor ch = 0xFF then s
  else s.onMetro fun m => { m with peaks := m.peaks.set ch (max (m.peaks.getD ch 0) x.natAbs) }

/-- Add the sample to a phase's open cycle. -/
def MPhase.addSample (ph : MPhase) (p : Nat) (y : List Int) : MPhase :=
  { ph with
    n := ph.n + 1
    vs := y.getD p 0 :: ph.vs
    cur := ph.cur.zipIdx.map (fun q => y.getD (4 + 4 * q.2 + p) 0 :: q.1)
    residual := if p = 0 then
        ph.residual.zipIdx.map (fun q => (y.getD (4 + 4 * q.2) 0 + y.getD (5 + 4 * q.2) 0 + y.getD (6 + 4 * q.2) 0 + y.getD (7 + 4 * q.2) 0) :: q.1)
      else ph.residual
    vne := if p = 0 then y.getD 3 0 :: ph.vne else ph.vne }

/-- One phase at one sample: a crossing or, without crossings, a full run closes its cycle before the sample is added. -/
def State.phaseSample (s : State) (p : Nat) (y : List Int) : State :=
  let fund := Config.fundamental s.metro.nominalHz ((y.getD p 0 :: (s.metro.phases.getD p {}).vs).take 800)
  let (s1, rising) := s.zxSample p fund
  let ph := s1.metro.phases.getD p {}
  let blind := ph.zx.lost || ph.zx.last.isNone || decide (8 ≤ ph.zx.missed)
  let full := blind && decide (runLength s1.metro.nominalHz ph.run ≤ ph.n)
  let s2 := if rising then s1.closeCycle p false
    else if full then (s1.closeCycle p true).onMetro fun m => { m with phases := m.phases.set p (let q := m.phases.getD p {}; { q with run := q.run + 1 }) }
    else s1
  s2.onMetro fun m => { m with phases := m.phases.set p ((m.phases.getD p {}).addSample p y) }

/-- METRO_SAMPLE: 125 µs pass, all 20 channels produce a code (R86). -/
def State.metroSample (s : State) (codes : List Int) : State :=
  if !s.sealedDie.running then s
  else
    let s1 := s.sealedAdvance (s.sealedDie.elapsed + 125000)
    let s2 := (List.range 20).foldl (fun t ch => t.overload ch (codes.getD ch 0)) s1
    let f := (List.range 20).map (fun ch => s2.filterSample ch (codes.getD ch 0))
    let y := f.zipIdx.map (fun q => s2.scaleSample q.2 q.1.1)
    let s3 := (List.range 3).foldl (fun t p => t.phaseSample p y) (s2.onMetro fun m => { m with filters := f.map (·.2) })
    s3.onMetro fun m => { m with samples := m.samples + 1 }

/-- The codes in the order of the channels (R86): V1 to V3, VNE, and of each feeder the three phase currents and the neutral current. -/
def channelCodes (volts : List Int) (vne : Int) (currents neutrals : List Int) : List Int :=
  (List.range 3).map (volts.getD · 0) ++ vne :: ((List.range 4).map fun f =>
    (List.range 3).map (fun p => currents.getD (3 * f + p) 0) ++ [neutrals.getD f 0]).flatten

def execMetroSample (volts : List Int) (vne : Int) (currents neutrals : List Int) (s : State) : Host.Outcome State Fault Refusal :=
  .next (s.metroSample (channelCodes volts vne currents neutrals))

/-! ### Periods (R93 to R99) -/

/-- The metrology log's image of the registers and interval ends (R90, R98). -/
def Metro.logBytes (m : Metro) : Bytes :=
  (m.feeders.map fun f => (f.regs.map fun r => le 8 (r / 2 ^ 32) ++ le 4 (r % 2 ^ 32)).flatten ++ le 8 (f.prevEnd.getD (2 ^ 64 - 1))).flatten

/-- Read a metrology log record back (R90, R98): what was measured since the start adds to the registers it holds. -/
def Metro.restore (m : Metro) (b : Bytes) : Metro :=
  { m with feeders := m.feeders.zipIdx.map fun (fp, k) =>
      let o := 56 * k
      let saved := (List.range 4).map (fun r => getLE (o + 12 * r) 8 b * 2 ^ 32 + getLE (o + 12 * r + 8) 4 b)
      { fp with
        regs := (List.range 4).map (fun r => fp.regs.getD r 0 - fp.saved.getD r 0 + saved.getD r 0)
        saved := saved
        prevEnd := if getLE (o + 48) 8 b = 2 ^ 64 - 1 then none else some (getLE (o + 48) 8 b) } }

/-- One feeder energy record (R94, R95): `causes` are the flag bits that the close itself brings. -/
def State.feederRecord (s : State) (f p fin : Nat) (causes : List Nat) : Bytes :=
  let m := s.metro
  let fp := m.feeders.getD (3 * f + p) {}
  let ph := m.phases.getD p {}
  let since := (s.sealedDie.elapsed - m.startElapsed) / 1000000000
  let period := match fp.prevEnd with
    | some e => fin - e
    | none => since
  let overIn := decide (0 < m.peaks.getD p 0) || decide (0 < m.peaks.getD (4 + 4 * f + p) 0)
  let neutral := decide (s.ms 7 * 2 ^ 32 * m.neutralCycles < m.residualSum.getD f 0)
  let vne := decide (s.ms 8 * 2 ^ 32 * m.neutralCycles < m.vneSum)
  let flags :=
    (if period < s.ms 0 ∨ m.firstAfterStart ∨ causes.contains 0 then [0] else []) ++
    (if m.powerInterrupted ∨ causes.contains 1 then [1] else []) ++
    (if causes.contains 2 then [2] else []) ++ (if overIn then [3] else []) ++
    (if ph.samples < 2 * ph.low then [4] else []) ++ (if ph.noZx then [5] else []) ++ (if neutral then [6] else []) ++ (if vne then [7] else []) ++
    (if m.testSeen ∨ s.sealedDie.session.isSome then [8] else []) ++ (if s.sealedDie.timeState ≠ .valid then [9] else []) ++
    (if m.calChanged then [10] else [])
  withEdge (le 1 f ++ le 1 (p + 1) ++ le 2 ((flags.map (2 ^ ·)).sum) ++ le 4 period ++ le 8 fin ++ (fp.regs.map (fun r => le 8 (r / 2 ^ 32))).flatten ++
    le 4 (rdiv ph.vSum (2 ^ 32 * ph.cycles)) ++ le 4 (rdiv fp.iSum (2 ^ 32 * ph.cycles)) ++ le 2 ph.thd.value ++ le 2 fp.thd.value)

/-- Apply the object writes that wait for the metrology's safe point (R99). -/
def State.applyMetroStaged (s : State) : State :=
  let x := s.sealedDie
  if x.staged.isEmpty then s
  else
    (s.onSealed fun q => { q with staged := [], objects := x.staged.foldl (fun o p => if p.1 / 256 = 0x12 then o.set p.1 p.2 else o) q.objects
                                  values := x.staged.foldl (fun v p => if p.1 / 256 = 0x12 then v else v.set p.1 (getI 0 8 p.2)) q.values }).onMetro
      fun m => { m with calChanged := true }

/-- Event 45 for each channel that overloaded in the period, with its largest |x| (R107): raised when the period closes, since only then is
that value known (log 96). -/
def State.overloadEvents (s : State) : State :=
  (s.metro.peaks.zipIdx.filter (fun q => decide (0 < q.1))).foldl (fun t q => t.raiseSealed 45 (le 1 q.2 ++ le 3 q.1)) s

/-- The end of an early close (R97, R98): the whole sealed seconds, or the previous interval end plus 1. -/
def earlyEnd (sec : Nat) (prev : Option Nat) : Nat :=
  match prev with
  | some e => max sec (e + 1)
  | none => sec

/-- The records of the open period in the order of R96; `fin` as a function of the previous interval end. -/
def State.periodRecords (s : State) (fin : Option Nat → Nat) (causes : List Nat) : List Bytes :=
  (((List.range 4).filter s.feederEnabled).map fun f => (List.range 3).map fun p =>
    s.feederRecord f p (fin (s.metro.feeders.getD (3 * f + p) {}).prevEnd) causes).flatten

/-- A new period begins: the interval ends of the enabled feeders move, sums and marks start anew. -/
def State.periodReset (s : State) (fin : Option Nat → Nat) : State :=
  s.onMetro fun x => { x with
    feeders := x.feeders.zipIdx.map (fun q => { q.1 with
      iSum := 0, thd := {}, prevEnd := if s.feederEnabled (q.2 / 3) then some (fin q.1.prevEnd) else q.1.prevEnd })
    phases := x.phases.map (fun ph => { ph with cycles := 0, vSum := 0, samples := 0, low := 0, noZx := false, thd := {} })
    residualSum := [0, 0, 0, 0], vneSum := 0, neutralCycles := 0, peaks := List.replicate 20 0, samples := 0
    firstAfterStart := false, powerInterrupted := false, calChanged := false, testSeen := s.sealedDie.session.isSome }

/-- Whether the open period can close with records: it has samples, the time is not INVALID (R98, R99), the replay is over. -/
def State.periodCloses (s : State) : Bool :=
  decide (s.metro.samples ≠ 0) && decide (s.sealedDie.timeState ≠ .invalid) && s.sealedDie.started

/-- Close the open period (R93, R97): its records leave, the registers go to the metrology log, staged writes apply (R99). -/
def State.closePeriod (s : State) (fin : Option Nat → Nat) (causes : List Nat) : State :=
  if !s.periodCloses then s
  else
    let items := (s.periodRecords fin causes).map fun b => ({ kind := 0x83, payload := b } : OutItem)
    let s1 := (s.overloadEvents.periodReset fin).emit items
    (s1.writeSealed 3 s1.metro.logBytes).applyMetroStaged

/-- The first multiple of period_s later than `t`. -/
def State.periodAfter (s : State) (t : Nat) : Nat := (t / s.ms 0 + 1) * s.ms 0

/-- METRO_PERIOD_END: sealed time has reached the period's end (R93). A period end that falls in the replay waits for the replay's end,
which knows where the metrology log stands (log 96). -/
def State.metroPeriodEnd (s : State) : State :=
  match s.metro.nextEnd with
  | some e =>
    if s.sealedDie.running ∧ s.sealedDie.started ∧ e ≤ s.sealedSec then
      let s1 := s.closePeriod (fun _ => e) []
      let s2 := s1.applyMetroStaged
      s2.onMetro fun m => { m with nextEnd := some (s2.periodAfter e) }
    else s
  | none => s

def execMetroPeriodEnd (s : State) : Host.Outcome State Fault Refusal := .next s.metroPeriodEnd

/-- A correction of `d` ms is about to be applied (R97): a period that has ended closes first (R99); at split_threshold_ms or more the
open one closes too. `secAfter` is the corrected sealed second. -/
def State.metroCorrection (s0 : State) (dMs : Int) (secAfter : Nat) : State :=
  let s := s0.metroPeriodEnd
  if dMs.natAbs < s.ms 6 then s
  else
    let s1 := s.closePeriod (earlyEnd s.sealedSec) [0, 2]
    let last := (s1.metro.feeders.map (fun f => f.prevEnd.getD 0)).foldl max 0
    s1.onMetro fun m => { m with nextEnd := some (s1.periodAfter (max secAfter last)) }

/-- The time state has left INVALID: periods are counted from here (R98). -/
def State.metroTimeSet (s : State) : State :=
  let last := (s.metro.feeders.map (fun f => f.prevEnd.getD 0)).foldl max 0
  s.onMetro fun m => { m with nextEnd := some (s.periodAfter (max s.sealedSec last)) }

/-- A power-fail warning closes the open period at once (R98), after one that has ended (R99); its records wait for step 2 of the hold-up
order. -/
def State.metroPowerFail (s0 : State) : State :=
  let s := s0.metroPeriodEnd
  if !s.periodCloses then s.onMetro fun m => { m with powerInterrupted := true }
  else
    ((s.overloadEvents.periodReset (earlyEnd s.sealedSec)).onMetro fun m => { m with
      owed := m.owed ++ s.periodRecords (earlyEnd s.sealedSec) [0, 1] }).applyMetroStaged

/-- Step 2 of the hold-up order (R90, R98): the records of the closed period leave, the registers go to the metrology log, in INVALID
too. -/
def State.metroHoldup (s : State) : State :=
  let s1 := (s.onMetro fun m => { m with owed := [] }).emit (s.metro.owed.map fun b => ({ kind := 0x83, payload := b } : OutItem))
  s1.writeSealed 3 s1.metro.logBytes

end Sys2Proof.Machine
end

