-- ==== Sys2Proof/Machine/CalendarExec.lean ====
section
/-! DEFINITION. Calendar executions (R153 to R157) and what a clock adjustment does (R159 to R162). -/

namespace Sys2Proof.Machine
open Sys2Proof

/-- One execution that is due: type 1 BILLING_CLOSE, 2 SNAPSHOT, 3 activation; boundary; item index. -/
structure Due where
  typ : Nat
  boundary : Nat
  item : Nat
  deriving DecidableEq, Repr

/-- Order at one boundary (R155). -/
def Due.rank (d : Due) : Nat := if d.typ = 2 then 0 else if d.typ = 1 then 1 else 2

def Due.before (a b : Due) : Bool := decide (a.boundary < b.boundary) || (decide (a.boundary = b.boundary) && decide (a.rank < b.rank))

/-- The executions due at the sealed time (R153, R155). -/
def State.calendarDue (s : State) : List Due :=
  let x := s.sealedDie
  let now : Int := (s.sealedSec : Int)
  let item := fun (typ : Nat) (mark : Option Nat) =>
    match (x.markFrom mark).bind (x.dueBoundary typ now) with
    | some (b, _, i) => [({ typ := typ, boundary := b.toNat, item := i } : Due)]
    | none => []
  let act := match x.pendingDoc, x.markFrom x.markActivation with
    | some d, some m => if m < (d.activation : Int) ∧ (d.activation : Int) ≤ now then [({ typ := 3, boundary := d.activation, item := 0xFF } : Due)] else []
    | _, _ => []
  item 2 x.markSnapshot ++ item 1 x.markClose ++ act

/-- The CALENDAR item (R184). -/
def calendarItem (d : Due) (period : Nat) : Bytes := jItem 5 (le 1 d.item ++ le 1 d.typ ++ zeros 2 ++ le 4 period ++ le 8 d.boundary)

/-- An endpoint after a close: the opening set becomes the period fields under the new number (R154, R170). -/
def Ep.afterClose (e : Ep) (period : Nat) : Ep :=
  let o := e.opening
  { e with
    opening := {}
    unemitted := true
    ledger := { e.ledger with
      period := period, revision := (e.ledger.revision + 1) % 2 ^ 32, pImport := o.imp, pExport := o.exp, pDebit := o.debit, regI := o.regI
      regE := o.regE, maxTime := o.maxTime, maxDemand := o.maxDemand } }

/-- The images of one execution, in ascending EIX order (R170). -/
def State.imageItems (s : State) (image : Nat) : List OutItem :=
  s.sealedDie.eps.map fun p => { kind := 0x82, payload := ledgerBytes p.1 image p.2.ledger }

/-- The pending document becomes active (R141): event 65. -/
def State.activatePending (s : State) : State :=
  match s.sealedDie.pendingDoc with
  | none => s
  | some d =>
    let old := (s.sealedDie.active.map (·.version)).getD 0
    (s.onSealed fun x => { x with active := some d, previous := x.active, pendingDoc := none }).raiseSealed 65 (le 4 d.version ++ le 4 old)

/-- Run one execution (R153): `interrupted` when it was missed over an outage (R157). -/
def State.executeDue (s : State) (d : Due) (interrupted : Bool) : State :=
  let n := s.sealedDie.eps.length
  let eixs := Tab.keys s.sealedDie.eps
  let owe := fun (t : State) => if interrupted then
      (t.onSealed fun x => { x with eps := x.eps.mapVals fun _ e => { e with piOwed := e.piOwed ++ [d.boundary] } }).raiseSealed 69
        (le 1 d.item ++ zeros 3 ++ le 4 d.boundary)
    else t
  let fl := b2n interrupted
  if d.typ = 1 then
    let outs := s.imageItems 1
    let closed := s.sealedDie.period
    let s1 := s.onSealed fun x => { x with
      markClose := some d.boundary, period := closed + 1, eps := x.eps.mapVals fun _ e => e.afterClose (closed + 1) }
    let s2 := (owe s1).raiseSealed 67 (le 4 closed ++ le 4 n)
    s2.transact 3 fl (calendarItem d (closed + 1) :: (eixs.map s2.afterImages).flatten) outs eixs (some (1, d.boundary))
  else if d.typ = 2 then
    let s1 := (owe (s.onSealed fun x => { x with markSnapshot := some d.boundary })).raiseSealed 68 (le 1 d.item ++ zeros 3 ++ le 4 n)
    s1.transact 3 fl [calendarItem d s.sealedDie.period] (s.imageItems 2) [] (some (2, d.boundary))
  else
    let s1 := owe ((s.onSealed fun x => { x with markActivation := some d.boundary }).activatePending)
    s1.transact 3 fl [calendarItem d s.sealedDie.period] [] [] (some (3, d.boundary))

/-- The execution that comes first. -/
def firstDue : List Due → Option Due
  | [] => none
  | d :: rest => some (rest.foldl (fun a b => if b.before a then b else a) d)

/-- Run everything that is due in ascending boundary; the number run. `n` bounds them. -/
def State.runCalendar (interrupted : Bool) : Nat → State → Nat → State × Nat
  | 0, s, k => (s, k)
  | n + 1, s, k =>
    match firstDue s.calendarDue with
    | some d => State.runCalendar interrupted n (s.executeDue d interrupted) (k + 1)
    | none => (s, k)

/-- Executions that one catch-up can hold: 48 items a day on every day since the earlier mark, and an activation (R138, R155, R162). -/
def State.calendarFuel (s : State) : Nat :=
  let x := s.sealedDie
  let from_ := min ((x.markFrom x.markClose).getD s.sealedSec) ((x.markFrom x.markSnapshot).getD s.sealedSec)
  48 * (((s.sealedSec : Int) - from_) / 86400 + 3).toNat + 1

/-- Everything that is due, and how many executions ran. -/
def State.catchUp (s : State) (interrupted : Bool) : State × Nat := State.runCalendar interrupted s.calendarFuel s 0

/-- Whether calendar executions may run now (R80, R157). -/
def State.calendarRuns (s : State) : Bool :=
  s.sealedDie.running && s.sealedDie.started && !s.sealedDie.pfw && !s.sealedDie.calFrozen && !s.sealedDie.storeFault && s.sealedDie.timeState ≠ .invalid

/-- CALENDAR_EXECUTION: sealed time has reached a boundary plus its delay. -/
def State.calendarExecution (s : State) : State :=
  if s.calendarRuns && !s.corePaused then
    match firstDue s.calendarDue with
    | some d => s.executeDue d false
    | none => s
  else s

def execCalendarExecution (s : State) : Host.Outcome State Fault Refusal := .next s.calendarExecution

/-! ### Clock adjustments (R159 to R162) -/

/-- Milliseconds of a correction, toward zero. -/
def msOf (ns : Int) : Int := ns.tdiv 1000000

/-- Whole milliseconds of |d|, rounded up (R71). -/
def msUp (ns : Int) : Nat := cdiv ns.natAbs 1000000

/-- A backward step raises the generation of every EIX and opens its re-entry span (R161); an EIX without an accepted interval has no last
accepted end, so its span is over before its first entry. -/
def State.openReentry (s : State) (backTo : Int) : State :=
  let full := (s.sealedDie.eps.filter (fun p => p.2.gen = 3)).map (·.1)
  let s1 := s.onSealed fun x => { x with eps := x.eps.mapVals fun _ e =>
    { e with e0 := e.lastEnd, gen := min 3 (e.gen + 1), reOpen := e.has, reFirst := e.has, reAfterMs := backTo } }
  full.foldl (fun t e => t.raiseSealed 72 (eix3 e)) s1

/-- Apply a correction or a step of `d` ns to the sealed counter: metrology first (R97, R99), then the counter, then, for a
step, the log, event 70, the TIME transaction, re-entry and passed boundaries (R159 to R162). -/
def State.adjustClock (s : State) (d : Int) : State :=
  let stepLimit := s.svN 0x3000 0
  let pre := s.sealedMs
  let s0 := s.metroCorrection (msOf d) ((s.sealedNs + d).fdiv 1000000000).toNat
  let s1 := s0.onSealed fun x => { x with base := x.base + d, corrections := (x.corrections + 1) % 2 ^ 32 }
  let s2 := if d < 0 then s1.onSealed fun x => { x with lastMinute := min x.lastMinute (s1.sealedSec / 60) } else s1
  if d.natAbs < stepLimit * 1000000 then s2
  else
    let dm := msOf d
    let s3 := (s2.onSealed fun x => { x with stepLog := ((pre, dm) :: x.stepLog).take 16 }).raiseSealed 70 (leI 8 dm)
    let s4 := if d < 0 then s3.openReentry (pre + dm) else s3
    let eixs := if d < 0 then Tab.keys s4.sealedDie.eps else []
    let s5 := s4.transact 5 0 (jItem 7 (leI 8 pre ++ leI 8 dm ++ zeros 8) :: (eixs.map s4.afterImages).flatten) [] eixs
    if 0 < d ∧ s5.calendarRuns then
      let (s6, n) := s5.catchUp false
      if 0 < n then s6.raiseSealed 77 (le 4 n) else s6
    else s5

/-- The counter is set while its state is INVALID (R72, R73): no step is logged, nothing reaches accounting or metrology. -/
def State.setClock (s : State) (ns : Int) (st : TimeState) : State :=
  let s1 := s.onSealed fun x => { x with
    base := ns - x.elapsed, corrections := (x.corrections + 1) % 2 ^ 32, timeState := st, graceSince := some x.elapsed }
  (s1.onSealed fun x => { x with lastMinute := s1.sealedSec / 60 }).metroTimeSet

end Sys2Proof.Machine
end

