-- ==== Sys2Proof/Machine/Dlms.lean ====
section
/-! DEFINITION. DLMS/COSEM as the device reads it: the clear security header (R25), decrypted payloads and blocks (R30),
profile buffers and their conversion (R32 to R35). Formats of the external standard are taken from IEC 62056 (log 20). -/

namespace Sys2Proof.Machine
open Sys2Proof

/-- An A-XDR length. -/
def axLen : Bytes → Option (Nat × Bytes)
  | [] => none
  | b :: t =>
    if b.toNat < 0x80 then some (b.toNat, t)
    else
      let n := b.toNat - 0x80
      if n = 0 ∨ 4 < n ∨ t.length < n then none else some (fromBE (t.take n), t.drop n)

/-- The clear security header of a ciphered APDU (R25): system title when the tag carries one, security control, invocation
counter, what follows. -/
structure ClearHeader where
  title : Option Bytes
  sc : Nat
  ic : Nat
  rest : Bytes
  deriving DecidableEq, Repr

def clearHeader (a : Bytes) : Option ClearHeader :=
  match a with
  | [] => none
  | tag :: t =>
    let start : Option (Option Bytes × Bytes) :=
      if tag = 0xCC#8 then some (none, t)
      else if tag = 0xDB#8 then (if getLE 0 1 t = 8 ∧ 9 ≤ t.length then some (some ((t.drop 1).take 8), t.drop 9) else none)
      else none
    match start with
    | none => none
    | some (title, r) =>
      match axLen r with
      | none => none
      | some (n, body) =>
        if n ≠ body.length ∨ n < 5 then none
        else some { title := title, sc := getLE 0 1 body, ic := getBE 1 4 body, rest := body.drop 5 }

/-- A data value. -/
inductive DVal where
  | null | num (v : Int) | octets (b : Bytes)
  deriving DecidableEq, Repr

/-- Width of a fixed-length data type by its tag. -/
def dFixed (tag : Nat) : Option (Nat × Bool) :=
  match tag with
  | 3 => some (1, false) | 5 => some (4, true) | 6 => some (4, false) | 13 => some (1, false) | 15 => some (1, true)
  | 16 => some (2, true) | 17 => some (1, false) | 18 => some (2, false) | 20 => some (8, true) | 21 => some (8, false)
  | 22 => some (1, false) | _ => none

/-- One scalar value. -/
def parseVal (b : Bytes) : Option (DVal × Bytes) :=
  match b with
  | [] => none
  | t :: r =>
    let tag := t.toNat
    if tag = 0 then some (.null, r)
    else if tag = 9 ∨ tag = 10 ∨ tag = 12 then
      (axLen r).bind fun p => if p.2.length < p.1 then none else some (.octets (p.2.take p.1), p.2.drop p.1)
    else if tag = 4 then
      (axLen r).bind fun p => if p.2.length < cdiv p.1 8 then none else some (.octets (p.2.take (cdiv p.1 8)), p.2.drop (cdiv p.1 8))
    else if tag = 23 ∨ tag = 24 ∨ tag = 25 ∨ tag = 26 ∨ tag = 27 then
      let n := if tag = 23 then 4 else if tag = 24 then 8 else if tag = 25 then 12 else if tag = 26 then 5 else 4
      if r.length < n then none else some (.octets (r.take n), r.drop n)
    else match dFixed tag with
      | some (n, sg) =>
        if r.length < n then none
        else
          let v := fromBE (r.take n)
          some (.num (if sg then toSigned n v else (v : Int)), r.drop n)
      | none => none

/-- `n` values. -/
def parseVals : Nat → Bytes → Option (List DVal × Bytes)
  | 0, b => some ([], b)
  | n + 1, b => (parseVal b).bind fun p => (parseVals n p.2).map fun q => (p.1 :: q.1, q.2)

/-- `n` structures of `cols` values. -/
def parseRows (cols : Nat) : Nat → Bytes → Option (List (List DVal) × Bytes)
  | 0, b => some ([], b)
  | n + 1, b =>
    if getLE 0 1 b ≠ 2 ∨ b.length < 2 then none
    else (axLen (b.drop 1)).bind fun h =>
      if h.1 ≠ cols then none
      else (parseVals cols h.2).bind fun p => (parseRows cols n p.2).map fun q => (p.1 :: q.1, q.2)

/-- A profile buffer: an array of at most 512 structures (R41). -/
def parseBuffer (cols : Nat) (b : Bytes) : Option (List (List DVal)) :=
  if getLE 0 1 b ≠ 1 then none
  else (axLen (b.drop 1)).bind fun h =>
    if 512 < h.1 then none
    else (parseRows cols h.1 h.2).bind fun q => if q.2.isEmpty then some q.1 else none

/-- What a decrypted APDU carries: a whole buffer with the meter time it may hold, or one block (R29, R30). -/
inductive Payload where
  | whole (data : Bytes) (meterTime : Option Bytes)
  | block (last : Bool) (number : Nat) (raw : Bytes)
  | bad
  deriving DecidableEq, Repr

def payloadOf (p : Bytes) : Payload :=
  match getLE 0 1 p with
  | 0xC4 =>
    if getLE 1 1 p = 1 then (if p.length < 4 ∨ getLE 3 1 p ≠ 0 then .bad else .whole (p.drop 4) none)
    else if getLE 1 1 p = 2 ∧ 9 ≤ p.length ∧ getLE 8 1 p = 0 then
      match axLen (p.drop 9) with
      | some (n, r) => if n = r.length then .block (getLE 3 1 p ≠ 0) (getBE 4 4 p) r else .bad
      | none => .bad
    else .bad
  | 0x0F =>
    let n := getLE 5 1 p
    if p.length < 6 then .bad
    else if n = 0 then .whole (p.drop 6) none
    else if n = 12 ∧ 18 ≤ p.length then .whole (p.drop 18) (some (slice 6 12 p))
    else .bad
  | _ => .bad

/-! ### Descriptors (R32 to R34) -/

/-- One column of a descriptor. -/
structure Column where
  scaler : Int
  target : Nat
  limit : Nat
  deriving DecidableEq, Repr

/-- A profile layout descriptor: interval length and columns. -/
structure Descriptor where
  len : Nat
  cols : List Column
  deriving DecidableEq, Repr

def descriptorOf (b : Bytes) : Descriptor :=
  { len := getLE 4 4 b
    cols := (List.range (getLE 1 1 b)).map fun i =>
      let o := 8 + 16 * i
      { scaler := getI (o + 9) 1 b, target := getLE (o + 11) 1 b, limit := getLE (o + 12) 4 b } }

/-- Whether a descriptor object is valid (R32 to R34). -/
def descriptorValid (index : Nat) (b : Bytes) : Bool :=
  let d := descriptorOf b
  let count := fun t => (d.cols.filter (·.target = t)).length
  getLE 0 1 b = index && decide (1 ≤ d.cols.length) && decide (d.cols.length ≤ 16) && zeroAt 2 2 b && b.length = 8 + 16 * d.cols.length &&
    decide (60 ≤ d.len) && decide (d.len ≤ 86400) && 86400 % d.len = 0 && count 1 = 1 && count 2 = 1 &&
    ((List.range 8).all fun k => decide (count (k + 1) ≤ 1)) &&
    d.cols.all (fun c => decide (c.target ≤ 8) && (!([0, 1, 7].contains c.target) || c.limit = 0)) &&
    ((List.range d.cols.length).all fun i => [1, 3, 4, 5, 8].contains (getLE (8 + 16 * i + 6) 2 b) && [30, 32, 27, 35, 255].contains (getLE (8 + 16 * i + 10) 1 b))

/-- The column of a target. -/
def Descriptor.col (d : Descriptor) (t : Nat) : Option Column := d.cols.find? (·.target = t)

/-- A converted interval entry. -/
structure Entry where
  fin : Int
  imp : Nat
  exp : Nat
  react : Nat
  dem : Nat
  volt : Nat
  hasVolt : Bool
  status : Bool
  deriving DecidableEq, Repr

/-- Scaling to the cell unit (R35): by 10^(scaler + 3), truncated toward zero. -/
def scaled (v scaler : Int) : Int :=
  if 0 ≤ scaler + 3 then v * (10 ^ (scaler + 3).toNat : Nat) else v.tdiv ((10 ^ (-(scaler + 3)).toNat : Nat) : Int)

/-- A value of a column converted into `bits` bits; none where it does not fit (R35). -/
def fieldValue (c : Option Column) (row : List (Nat × DVal)) (t width : Nat) : Option Nat :=
  match c with
  | none => some 0
  | some col =>
    match row.find? (fun p => p.1 = t) with
    | some (_, .num v) =>
      let x := scaled v col.scaler
      if 0 ≤ x ∧ x < (2 ^ width : Nat) then some x.toNat else none
    | _ => none

/-- NT seconds of a COSEM date-time (R35); `zone` is the active tariff document. A date-time without a deviation while no tariff document
is active has no zone rules: it is a PARSE refusal (DESIGN CHOICE, log 143). -/
def cosemTime (zone : Option TDoc) (utcOff : Int) (b : Bytes) : Option Int :=
  let y := getBE 0 2 b
  let m := getLE 2 1 b
  let d := getLE 3 1 b
  let hh := getLE 5 1 b
  let mi := getLE 6 1 b
  let ss := getLE 7 1 b
  if b.length ≠ 12 ∨ m = 0 ∨ 12 < m ∨ d = 0 ∨ 31 < d ∨ 23 < hh ∨ 59 < mi ∨ 59 < ss ∨ y = 0xFFFF then none
  else
    let loc := daysOf y m d * 86400 + ((hh * 3600 + mi * 60 + ss : Nat) : Int)
    if getBE 9 2 b = 0x8000 then zone.map (fun z => z.ntOf utcOff loc)
    else some (loc + toSigned 2 (getBE 9 2 b) * 60 - utcOff)

/-- Convert one row (R35); none is a PARSE refusal. -/
def entryOf (d : Descriptor) (zone : Option TDoc) (utcOff : Int) (vals : List DVal) : Option Entry :=
  let row := (d.cols.map (·.target)).zip vals
  let fin := match row.find? (fun p => p.1 = 1) with
    | some (_, .octets b) => cosemTime zone utcOff b
    | _ => none
  match fin, fieldValue (d.col 2) row 2 64, fieldValue (d.col 3) row 3 64, fieldValue (d.col 4) row 4 64, fieldValue (d.col 5) row 5 64,
      fieldValue (d.col 6) row 6 32, fieldValue (d.col 7) row 7 32 with
  | some f, some i, some e, some q1, some q4, some dem, some v =>
    if 2 ^ 64 ≤ q1 + q4 ∨ f < 0 then none
    else
      let st := match d.col 8, row.find? (fun p => p.1 = 8) with
        | some c, some (_, .num w) => decide (Nat.land (w % (2 ^ 32 : Nat)).toNat c.limit ≠ 0)
        | some c, some (_, .octets b) => decide (Nat.land (fromBE b) c.limit ≠ 0)
        | _, _ => false
      some { fin := f, imp := i, exp := e, react := q1 + q4, dem := dem, volt := v, hasVolt := (d.col 7).isSome, status := st }
  | _, _, _, _, _, _, _ => none

/-- All entries of a buffer. -/
def entriesOf (d : Descriptor) (zone : Option TDoc) (utcOff : Int) (b : Bytes) : Option (List Entry) :=
  (parseBuffer d.cols.length b).bind fun rows => rows.mapM (entryOf d zone utcOff)

end Sys2Proof.Machine
end

