-- ==== Sys2Proof/Machine/Pricing.lean ====
section
/-! DEFINITION. Forming and pricing the cells of an accepted entry: flags, tariff reference, debit, demand, period fields
(R14, R37, R44 to R47, R145 to R152, R156, R160, R161, R174). -/

namespace Sys2Proof.Machine
open Sys2Proof

/-- A cell to be formed: what validation has decided about it before pricing. -/
structure CellReq where
  cls : Nat
  seq : Nat
  fin : Nat
  imp : Nat
  exp : Nat
  react : Nat
  dem : Nat
  volt : Nat
  len : Nat
  estimated : Bool := false
  status : Bool := false
  skewWarned : Bool := false
  mark : Nat := 0
  /-- The first re-entered cell: charged only after this sealed instant in ms (R161). -/
  after : Option Int := none
  /-- The endpoint's first accepted cell: debit zero (R38, R149). -/
  first : Bool := false
  deriving DecidableEq, Repr

/-- The 64 bytes of a cell (R14). -/
def cellBytes (identity sq fin imp exp react dem volt : Nat) (debit : Int) (tref valid : Nat) : Bytes :=
  withEdge (le 4 identity ++ le 4 sq ++ le 8 fin ++ le 8 imp ++ le 8 exp ++ le 8 react ++ le 4 dem ++ le 4 volt ++ leI 4 debit ++
    le 4 tref ++ le 4 valid)

/-- The identity word (R14, R44, R45): `flags` lists the flag bits that are set. -/
def identityWord (eix cls : Nat) (flags : List Nat) (mark : Nat) : Nat :=
  eix % 2 ^ 18 + cls * 2 ^ 18 + (flags.map (2 ^ ·)).sum + mark * 2 ^ 26

/-- A span put into a list that rises by the spans' starts. -/
def insertSpan (p : Int × Int) : List (Int × Int) → List (Int × Int)
  | [] => [p]
  | q :: t => if p.1 ≤ q.1 then p :: q :: t else q :: insertSpan p t

/-- Milliseconds of the interval (a, b] that lie in the union of the spans which the logged forward steps jumped (R160). -/
def jumpedMs (log : List (Int × Int)) (a b : Int) : Int :=
  let spans := (log.filter (fun p => decide (0 < p.2))).foldr insertSpan []
  (spans.foldl (fun (acc : Int × Int) p => (acc.1 + max 0 (min b (p.1 + p.2) - max acc.2 p.1), max acc.2 (min b (p.1 + p.2)))) (0, a)).1

/-- Charged seconds of a cell (R148) and whether it carries CLOCK_SPLIT (R160, R161). -/
def chargedSeconds (log : List (Int × Int)) (c : CellReq) : Nat × Bool :=
  let b : Int := (c.fin : Int) * 1000
  let a := b - (c.len : Int) * 1000
  let jumped := jumpedMs log a b
  match c.after with
  | some t => ((max 0 (b - max a t - jumpedMs log (max a t) b) / 1000).toNat, true)
  | none => if 0 < jumped then ((max 0 (b - a - jumped) / 1000).toNat, true) else (c.len, false)

/-- Pricing (R147): debit, new energy carry, new standing carry, units deferred. `prices` are the three block prices. -/
def priceCell (thr1 thr2 : Nat) (prices : List Nat) (exportPrice : Option Nat) (standing : Nat) (carryE : Int) (carryS p dI dE charged : Nat) :
    Int × Int × Nat × Int :=
  let part1 := min dI (thr1 - p)
  let p1 := p + part1
  let part2 := min (dI - part1) (thr2 - p1)
  let part3 := dI - part1 - part2
  let acc0 : Int := carryE + ((part1 * prices.getD 0 0 + part2 * prices.getD 1 0 + part3 * prices.getD 2 0 : Nat) : Int)
  let acc := match exportPrice with
    | some x => acc0 - ((dE * x : Nat) : Int)
    | none => acc0
  let e := acc.fdiv 1000000
  let sacc := carryS + standing * charged
  let debit : Int := e + ((sacc / 86400 : Nat) : Int)
  let lim := clampI (-(2 ^ 31)) (2 ^ 31 - 1) debit
  (lim, acc - e * 1000000 + (debit - lim) * 1000000, sacc % 86400, debit - lim)

/-- Period totals that a cell adds to: the ledger record's, or the opening set (R154). -/
structure Totals where
  imp : Nat
  exp : Nat
  debit : Int
  regI : List Nat
  regE : List Nat
  maxTime : Nat
  maxDemand : Nat
  deriving DecidableEq, Repr

def Ep.totals (e : Ep) (opening : Bool) : Totals :=
  if opening then
    { imp := e.opening.imp, exp := e.opening.exp, debit := e.opening.debit, regI := e.opening.regI, regE := e.opening.regE,
      maxTime := e.opening.maxTime, maxDemand := e.opening.maxDemand }
  else
    { imp := e.ledger.pImport, exp := e.ledger.pExport, debit := e.ledger.pDebit, regI := e.ledger.regI, regE := e.ledger.regE,
      maxTime := e.ledger.maxTime, maxDemand := e.ledger.maxDemand }

def Ep.setTotals (e : Ep) (opening : Bool) (t : Totals) : Ep :=
  if opening then
    { e with opening := { imp := t.imp, exp := t.exp, debit := t.debit, regI := t.regI, regE := t.regE, maxTime := t.maxTime, maxDemand := t.maxDemand } }
  else
    { e with ledger := { e.ledger with
        pImport := t.imp, pExport := t.exp, pDebit := t.debit, regI := t.regI, regE := t.regE, maxTime := t.maxTime, maxDemand := t.maxDemand } }

/-- `l` with `n` added at index `i`. -/
def addAt (l : List Nat) (i n : Nat) : List Nat := l.set i (l.getD i 0 + n)

/-- Whether a DST transition lies in (e − span, e]. -/
def TDoc.dstIn (d : TDoc) (utcOff e span : Int) : Bool := d.dst (e + utcOff) != d.dst (e - span + utcOff)

/-- Whether the cell ending at `e` with interval `len` closes a demand interval (R143, R150, R151): at a demand boundary, which a repeated
hour has at its first occurrence only, or when it reaches a DST transition. -/
def TDoc.closesDemand (d : TDoc) (utcOff : Int) (e len : Nat) : Bool :=
  let loc := d.localOf utcOff e
  d.demandS % len = 0 && ((loc % (d.demandS : Int) = 0 && d.ntOf utcOff loc = (e : Int)) || d.dstIn utcOff e len)

/-- Whether a change of document or season applies at the cell's interval end (R152 step 3). -/
def Sealed.tariffChanged (x : Sealed) (e len : Nat) : Bool :=
  let a : Int := (e : Int) - len
  let da := x.docInForce a
  let db := x.docInForce (e : Int)
  if da.map (·.order) != db.map (·.order) then true
  else match db with
    | some d => d.seasonAt ((d.localOf x.utcOffset a).fdiv 86400) != d.seasonAt ((d.localOf x.utcOffset e).fdiv 86400)
    | none => false

/-- The demand rules at a cell (R150, R151, R156) on the totals it belongs to. -/
def demandTotals (d : TDoc) (utcOff : Int) (recents : List (Nat × Nat × Bool)) (c : CellReq) (closes late : Bool) (t : Totals) : Totals :=
  if late then t
  else if d.demandS % c.len = 0 then
    if closes then
      let mine := recents.filter (fun r => decide (r.1 ≤ c.fin) && decide (c.fin < r.1 + d.demandS))
      let dem := (mine.map (·.2.1)).sum * 3600 / d.demandS
      if mine.any (·.2.2) ∨ d.dstIn utcOff c.fin c.len ∨ dem ≤ t.maxDemand then t
      else { t with maxDemand := dem % 2 ^ 32, maxTime := c.fin }
    else t
  else if c.cls = 0 ∧ t.maxDemand < c.dem then { t with maxDemand := c.dem, maxTime := c.fin } else t

/-- What pricing answers about a cell: debit, tariff reference, the endpoint after it, DEMAND_CLOSED, units deferred. -/
structure Priced where
  debit : Int := 0
  tref : Nat := 0
  ep : Ep
  closes : Bool := false
  deferred : Int := 0
  oldest : Option Nat := none
  deriving DecidableEq, Repr

/-- Price one INTERVAL or FILL cell of an endpoint and add it to its period and balance (R145 to R151, R174). -/
def State.priceFor (s : State) (e : Ep) (c : CellReq) (late opening : Bool) (recents : List (Nat × Nat × Bool)) : Priced :=
  let x := s.sealedDie
  let dI := if c.first then 0 else c.imp - e.imp
  let dE := if c.first then 0 else c.exp - e.exp
  let t0 := e.totals opening
  match x.docFor ((c.fin : Int) - c.len) with
  | none =>
    -- tariff reference 0 names import register 0 and export register 0 (R46, R149; log 23)
    let t1 : Totals := { t0 with imp := t0.imp + dI, exp := t0.exp + dE, regI := addAt t0.regI 0 dI, regE := addAt t0.regE 0 dE }
    { ep := e.setTotals opening t1 }
  | some (d, old) =>
    let tb := d.tableAt (d.localOf x.utcOffset ((c.fin : Int) - c.len))
    let er := d.expReg tb
    let l := e.ledger
    let (debit, ce, cs, deferred) := if c.first then (0, l.carryE, l.carryS, 0) else
      priceCell (d.threshold 1) (d.threshold 2) [d.blockPrice tb 1, d.blockPrice tb 2, d.blockPrice tb 3]
        (if er = 0xF then none else some (d.exportPrice tb)) d.standing l.carryE l.carryS t0.imp dI dE (chargedSeconds x.stepLog c).1
    let closes := d.closesDemand x.utcOffset c.fin c.len
    let t1 : Totals := { t0 with
      imp := t0.imp + dI, exp := t0.exp + dE, debit := t0.debit + debit, regI := addAt t0.regI (d.impReg tb) dI
      regE := if er = 0xF then t0.regE else addAt t0.regE er dE }
    let e1 := e.setTotals opening (demandTotals d x.utcOffset recents c closes late t1)
    let l1 : Ledger := { e1.ledger with carryE := ce, carryS := cs }
    let l2 : Ledger := if l1.mode = 0 then l1 else { l1 with balance := l1.balance - debit, debited := l1.debited + debit }
    { debit := debit, tref := d.impReg tb % 16 + er % 16 * 16 + d.version % 2 ^ 24 * 256, ep := { e1 with ledger := l2 }, closes := closes,
      deferred := deferred, oldest := if old then some d.version else none }

/-- The cells that a later demand interval may still need (R150): interval end, ΔI, and whether the cell bars a maximum (R151). -/
def pushRecent (l : List (Nat × Nat × Bool)) (fin dI : Nat) (bad : Bool) : List (Nat × Nat × Bool) :=
  l.filter (fun r => decide (fin < r.1 + 3600)) ++ [(fin, dI, bad)]

/-- Form, price and finish one INTERVAL or FILL cell (R47, R152): the state after it and the cell. -/
def State.formCell (s : State) (eix desc : Nat) (c : CellReq) : State × Bytes :=
  let x := s.sealedDie
  let e0 := s.ep eix
  let late := match x.markClose with
    | some m => decide (c.fin ≤ m)
    | none => false
  let opening := match x.closeBoundary with
    | some b => decide (b.1 < (c.fin : Int))
    | none => false
  let split := (chargedSeconds x.stepLog c).2
  let owed := e0.piOwed.filter (fun b => decide (c.fin < b + c.len) && decide (b ≤ c.fin))
  let pi := c.status || !owed.isEmpty
  let dI := if c.first then 0 else c.imp - e0.imp
  let bad := c.estimated || split || pi || decide (c.mark ≠ 0)
  let recents := pushRecent e0.recents c.fin dI bad
  let p := s.priceFor e0 c late opening recents
  let flags := (if c.estimated then [22] else []) ++ (if pi then [23] else []) ++ (if c.skewWarned then [24] else []) ++
    (if split then [25] else []) ++ (if late then [28] else []) ++ (if p.closes then [29] else []) ++
    (if x.tariffChanged c.fin c.len then [30] else []) ++ (if x.session.isSome then [31] else [])
  let reason := if c.skewWarned then 1 else if c.estimated then 2 else if late then 3 else 0
  let cell := cellBytes (identityWord eix c.cls flags c.mark) c.seq c.fin c.imp c.exp c.react c.dem c.volt p.debit p.tref
    (b2n c.skewWarned + reason * 256 + desc * 65536)
  let s1 := s.onEp eix fun _ => { p.ep with
    has := true, seq := c.seq, lastEnd := c.fin, imp := c.imp, exp := c.exp, react := c.react
    piOwed := e0.piOwed.filter (fun b => !owed.contains b)
    recents := recents
    hist := ({ bytes := cell : HeldCell } :: e0.hist).take 32
    latePeriod := if late then some e0.ledger.period else e0.latePeriod
    ledger := { p.ep.ledger with lastSeq := c.seq } }
  let s2 := match p.oldest with
    | some v => s1.raiseSealed 75 (eix3 eix ++ le 4 v)
    | none => s1
  let s3 := if p.deferred ≠ 0 then s2.raiseSealed 74 (eix3 eix ++ le 1 0 ++ le 4 (min p.deferred.natAbs (2 ^ 32 - 1))) else s2
  let s4 := if late ∧ s.svN 0x3000 1 = 1 ∧ e0.latePeriod ≠ some e0.ledger.period then s3.raiseSealed 73 (eix3 eix ++ le 1 0 ++ le 4 c.seq) else s3
  (s4, cell)

end Sys2Proof.Machine
end

