-- ==== Sys2Proof/Machine/Validate.lean ====
section
/-! DEFINITION. The sealed validation pipeline: admission by the sealed core, the replay window, reassembly, judging of
entries, re-entry, and what leaves for each accepted entry (R29 to R41, R161, R541). -/

namespace Sys2Proof.Machine
open Sys2Proof

/-! ### Responses to inbound messages (R61, R67) -/

/-- The payload of a gate message: what stands between its header and its edge code (R58). -/
def InboundMsg.payload (m : InboundMsg) : Bytes := (m.bytes.drop 12).take (m.bytes.length - 16)

/-- The first admitted message of a kind. -/
def State.admittedOf (s : State) (kind : Nat) : Option InboundMsg := s.gate.admitted.find? (fun m => m.kind = kind)

/-- Answer an admitted message with its one response word; refusals are counted (R61, R541). -/
def State.respond (s : State) (m : InboundMsg) (status : Nat) : State :=
  s.onGate fun g => { g with
    admitted := g.admitted.erase m
    units := g.units ++ [.response m.seq status]
    refusals := if status = stDone then g.refusals else g.refusals.upd status 0 (· + 1) }

/-- The checks of R541, in order. -/
def State.apduRefusal (s : State) (p : Bytes) (total : Nat) : Option Nat :=
  let n := getLE 6 2 p
  orderedFailure [
    (s.sealedDie.pfw, stBusy),
    (decide (n < 1) || decide (2048 < n) || decide (total ≠ 36 + n), stBadLength),
    (decide (2 ^ 18 ≤ getLE 0 4 p) || decide (7 < getLE 4 1 p) || !zeroAt 5 1 p || decide (999999999 < getLE 16 4 p), stBadField),
    (s.sealedDie.storeFault, stDeniedSeal),
    (decide (s.sealedDie.timeState = .invalid), stTimeInvalid),
    (s.journalHeld, stBusy)]

/-! ### Refusals of R41 -/

/-- Count an APDU refusal at its EIX, whether it has an endpoint record or not, and raise its event (R41, R192). -/
def State.refuseApdu (s : State) (eix ev : Nat) (data : Bytes) : State :=
  (if (s.ep? eix).isSome then s.onEp eix fun e => { e with refusals := e.refusals.upd ev 0 (· + 1) }
    else s.onSealed fun x => { x with noEndpoint := x.noEndpoint.upd eix 0 (· + 1) }).raiseSealed ev (eix3 eix ++ data)

/-! ### The replay window (R31) -/

/-- Whether a counter may be used. -/
def Ep.icOk (e : Ep) (ic : Nat) : Bool :=
  !e.exhausted && (decide (e.icHigh < ic) || (decide (ic < e.icHigh) && decide (e.icHigh ≤ ic + 32) && !bit e.icSeen (e.icHigh - 1 - ic)))

/-- The window after an accepted counter. -/
def Ep.icMark (e : Ep) (ic : Nat) : Ep :=
  let e1 := if e.icHigh < ic then
      let sh := ic - e.icHigh
      { e with icHigh := ic, icSeen := if 33 ≤ sh then 0 else (e.icSeen * 2 ^ sh + 2 ^ (sh - 1)) % 2 ^ 32 }
    else { e with icSeen := setBit e.icSeen (e.icHigh - 1 - ic) true }
  { e1 with exhausted := decide (ic = 0xFFFFFFFF) }

/-! ### Reassembly (R30) -/

/-- Discard the reassembly of an EIX with refusal REASSEMBLY. -/
def State.dropReasm (s : State) (eix cause : Nat) : State :=
  (s.onSealed fun x => { x with reasm := x.reasm.filter (fun r => decide (r.eix ≠ eix)) }).refuseApdu eix 52 (le 1 cause)

/-- Start a reassembly; a 65th discards the oldest. -/
def State.startReasm (s : State) (eix port : Nat) (raw : Bytes) : State :=
  let s1 := if 64 ≤ s.sealedDie.reasm.length then
      match s.sealedDie.reasm.head? with
      | some r => s.dropReasm r.eix 4
      | none => s
    else s
  s1.onSealed fun x => { x with reasm := x.reasm ++ [{ eix := eix, last := 1, data := raw, at_ := x.elapsed, port := port }] }

/-- A block that the reassembly has taken: the data when it was the last one. -/
def State.tookBlock (s : State) (eix : Nat) (last : Bool) : State × Option Bytes :=
  match s.sealedDie.reasm.find? (fun r => r.eix = eix) with
  | none => (s, none)
  | some r =>
    if 65536 < r.data.length then (s.dropReasm eix 3, none)
    else if last then (s.onSealed fun x => { x with reasm := x.reasm.filter (fun q => decide (q.eix ≠ eix)) }, some r.data)
    else (s, none)

/-- Handle one decrypted block; data when the transfer is complete. A block 1 that comes while block 1 is the last block added fits R30's
'Block 1' and its 'Repeat': it is taken for the repeat (DESIGN CHOICE, log 141). -/
def State.reassemble (s : State) (eix port : Nat) (last : Bool) (number : Nat) (raw : Bytes) : State × Option Bytes :=
  match s.sealedDie.reasm.find? (fun r => r.eix = eix) with
  | none => if number = 1 then (s.startReasm eix port raw).tookBlock eix last else (s.refuseApdu eix 52 (le 1 1), none)
  | some r =>
    if number = 1 ∧ r.last = 1 then (s, none)
    else if number = 1 then ((s.dropReasm eix 1).startReasm eix port raw).tookBlock eix last
    else if number = r.last + 1 then
      (s.onSealed fun x => { x with reasm := x.reasm.map fun q =>
        if q.eix = eix then { q with last := number, data := q.data ++ raw, at_ := x.elapsed } else q }).tookBlock eix last
    else if number = r.last then (s, none)
    else (s.dropReasm eix 1, none)

/-- 60 s pass without the next block (R30). -/
def State.reasmTimeout (s : State) (eix : Nat) : State :=
  match s.sealedDie.reasm.find? (fun r => r.eix = eix) with
  | some r => if r.at_ + 60000000000 ≤ s.sealedDie.elapsed then s.dropReasm eix 2 else s
  | none => s

def execReassemblyTimeout (eix : Nat) (s : State) : Host.Outcome State Fault Refusal := .next (s.reasmTimeout eix)

/-! ### Judging (R36 to R40, R161) -/

/-- What all entries of one APDU share: descriptor, its index, the meter's skew in ms when the APDU carries meter time. -/
structure Judge where
  eix : Nat
  index : Nat
  desc : Descriptor
  skew : Option Int
  deriving DecidableEq, Repr

/-- Ceiling of a target's column; 0 for none. -/
def Descriptor.ceiling (d : Descriptor) (t : Nat) : Nat := ((d.col t).map (·.limit)).getD 0

/-- The reactive ceiling (R36): none when a present quadrant column has no ceiling, or no quadrant column is present. -/
def Descriptor.reactiveCeiling (d : Descriptor) : Nat :=
  let qs := [d.col 4, d.col 5].filterMap id
  if qs.any (fun c => c.limit = 0) then 0 else (qs.map (·.limit)).sum

/-- Whether a share exceeds a ceiling, as an exact quotient. -/
def overCeiling (increase k ceiling : Nat) : Bool := decide (0 < ceiling) && decide (ceiling * k < increase)

/-- Whether the meter's clock is warned but within the limit (R43). -/
def State.skewWarned (s : State) (j : Judge) : Bool :=
  match j.skew with
  | some k => decide (s.sv 0x1100 0 * 1000 < (k.natAbs : Int)) && decide ((k.natAbs : Int) ≤ s.sv 0x1100 1 * 1000)
  | none => false

/-- The checks of R36 after alignment, for an entry `k` intervals after the last; `fills` are this APDU's fills so far. The first entry of
an EIX has no last accepted interval to compare with: alignment, monotonicity and energy ceiling are not applied to it either (DESIGN CHOICE,
log 142). -/
def State.entryFailure (s : State) (j : Judge) (e : Ep) (k fills : Nat) (x : Entry) : Option Nat :=
  let first := !e.has
  let gap := s.svN 0x1100 3
  orderedFailure [
    (decide ((s.sealedSec : Int) + s.sv 0x1100 2 < x.fin), 0x15),
    ((match j.skew with
      | some d => decide (s.sv 0x1100 1 * 1000 < (d.natAbs : Int))
      | none => false), 0x14),
    (!first && (decide (gap < k - 1) || decide (gap < fills + (k - 1))), 0x17),
    (!first && (decide (x.imp < e.imp) || decide (x.exp < e.exp) || decide (x.react < e.react)), 0x10),
    (!first && (overCeiling (x.imp - e.imp) k (j.desc.ceiling 2) || overCeiling (x.exp - e.exp) k (j.desc.ceiling 3) ||
      overCeiling (x.react - e.react) k j.desc.reactiveCeiling), 0x11),
    (decide (0 < j.desc.ceiling 6) && decide (j.desc.ceiling 6 < x.dem), 0x12),
    (x.hasVolt && (decide ((x.volt : Int) < s.sv 0x1100 4) || decide (s.sv 0x1100 5 < (x.volt : Int))), 0x13)]

/-- A REJECTED cell (R40); its flags are those of R45 that hold for its interval, as for any other cell. -/
def State.rejectEntry (s : State) (j : Judge) (reason : Nat) (x : Entry) : State :=
  let e := s.ep j.eix
  let sq := if e.has then e.seq else (e.initSeq + 2 ^ 32 - 1) % 2 ^ 32
  let owed := e.piOwed.any (fun b => decide (x.fin < (b : Int) + j.desc.len) && decide ((b : Int) ≤ x.fin))
  let jumped := decide (0 < jumpedMs s.sealedDie.stepLog ((x.fin - j.desc.len) * 1000) (x.fin * 1000))
  let flags := (if x.status || owed then [23] else []) ++ (if s.skewWarned j then [24] else []) ++ (if jumped then [25] else []) ++
    (if s.sealedDie.session.isSome then [31] else [])
  let cell := cellBytes (identityWord j.eix 2 flags 0) sq x.fin.toNat x.imp x.exp x.react x.dem x.volt 0 0 (2 + reason * 256 + j.index * 65536)
  s.emitAfter [{ kind := 0x81, eix := j.eix, payload := cell }]

/-- Fill cells 1 to k − 1 before an entry (R37). -/
def fillReqs (e : Ep) (k len mark : Nat) (x : Entry) : List CellReq :=
  (List.range (k - 1)).map fun i =>
    let n := i + 1
    let fin := e.lastEnd + n * len
    { cls := 1, seq := (e.seq + n) % 2 ^ 32, fin := fin, imp := e.imp + (x.imp - e.imp) * n / k, exp := e.exp + (x.exp - e.exp) * n / k,
      react := e.react + (x.react - e.react) * n / k, dem := 0, volt := 0, len := len, estimated := true,
      mark := if e.reOpen ∧ fin ≤ e.e0 then mark else 0 }

/-- Form the cells of an accepted entry and journal them as one transaction (R37, R152, R184, R185). -/
def State.acceptCells (s : State) (j : Judge) (reqs : List CellReq) : State :=
  let before := (s.ep j.eix).ledger
  let (s1, cells) := reqs.foldl (fun (acc : State × List Bytes) c =>
    let (t, b) := acc.1.formCell j.eix j.index c
    (t, acc.2 ++ [b])) (s, [])
  let (s2, now) := s1.settle j.eix before false
  let outs := cells.map (fun b => ({ kind := 0x81, payload := b, eix := j.eix, first := true } : OutItem))
  s2.transact 1 0 (cells.map (jItem 1) ++ s2.afterImages j.eix) (if now then outs ++ [s2.currentItem j.eix] else outs) [j.eix]

/-- The arriving entry's cell. -/
def entryReq (e : Ep) (k len mark : Nat) (warned : Bool) (x : Entry) : CellReq :=
  { cls := 0, seq := if e.has then (e.seq + k) % 2 ^ 32 else e.initSeq, fin := x.fin.toNat, imp := x.imp, exp := x.exp, react := x.react,
    dem := x.dem, volt := x.volt, len := len, estimated := decide (1 < k), status := x.status, skewWarned := warned, mark := mark, first := !e.has }

/-- An entry later than the last accepted end, or the first of an EIX (R36 to R38). -/
def State.judgeLater (s : State) (j : Judge) (fills : Nat) (x : Entry) : State × Nat :=
  let e := s.ep j.eix
  let len := j.desc.len
  let diff := x.fin - (e.lastEnd : Int)
  if e.has ∧ diff % (len : Int) ≠ 0 then (s.rejectEntry j 0x16 x, fills)
  else
    let k := if e.has then (diff / (len : Int)).toNat else 1
    match s.entryFailure j e k fills x with
    | some r => (s.rejectEntry j r x, fills)
    | none =>
      let ends := e.reOpen && decide ((e.e0 : Int) < x.fin)
      let mark := if e.reOpen ∧ !ends then e.gen else 0
      let reqs := fillReqs e k len e.gen x ++ [entryReq e k len mark (s.skewWarned j) x]
      let s1 := if ends then s.onEp j.eix fun q => { q with reOpen := false, reFirst := false } else s
      (s1.acceptCells j reqs, fills + (k - 1))

/-- The first re-entered entry of a span (R161). -/
def State.judgeReentered (s : State) (j : Judge) (fills : Nat) (x : Entry) : State × Nat :=
  let e := s.ep j.eix
  match s.entryFailure j e 1 fills x with
  | some r => (s.rejectEntry j r x, fills)
  | none =>
    let s1 := s.onEp j.eix fun q => { q with reFirst := false, lastEnd := (x.fin - (j.desc.len : Int)).toNat }
    let s2 := s1.raiseSealed 71 (eix3 j.eix ++ le 1 e.gen)
    (s2.acceptCells j [{ entryReq e 1 j.desc.len e.gen (s.skewWarned j) x with after := some e.reAfterMs }], fills)

/-- The candidate of R39. -/
def candidate (held : Bytes) (x : Entry) : Bytes :=
  withEdge (held.take 8 ++ le 8 x.fin.toNat ++ le 8 x.imp ++ le 8 x.exp ++ le 8 x.react ++ le 4 x.dem ++ le 4 x.volt ++ slice 48 12 held)

/-- An entry at or before the last accepted end (R39). -/
def State.judgeBackward (s : State) (j : Judge) (x : Entry) : State :=
  let e := s.ep j.eix
  if ((e.lastEnd : Int) - x.fin) % (j.desc.len : Int) ≠ 0 then s.rejectEntry j 0x16 x
  else
    let held := e.hist.filter (fun h => getLE 8 8 h.bytes = x.fin.toNat)
    match held with
    | [] => s.onEp j.eix fun q => { q with stales := q.stales + 1 }
    | newest :: _ =>
      match held.find? (fun h => getLE 60 4 (candidate h.bytes x) = getLE 60 4 h.bytes) with
      | some h =>
        let s1 := s.onEp j.eix fun q => { q with dups := q.dups + 1 }
        if h.signed then s1 else s1.emitAfter [{ kind := 0x81, payload := h.bytes, eix := j.eix }]
      | none =>
        let s1 := s.onEp j.eix fun q => { q with conflicts := q.conflicts + 1 }
        if getLE 0 4 newest.bytes / 2 ^ 18 % 16 = 1 then s1 else s1.raiseSealed 54 (eix3 j.eix ++ le 1 0 ++ le 4 (getLE 4 4 newest.bytes))

/-- Judge one entry (R36, R39, R161); the number is this APDU's fills so far. -/
def State.judge (j : Judge) (acc : State × Nat) (x : Entry) : State × Nat :=
  let e := acc.1.ep j.eix
  if !e.has ∨ (e.lastEnd : Int) < x.fin then acc.1.judgeLater j acc.2 x
  else if e.reOpen ∧ e.reFirst ∧ e.imp < x.imp then acc.1.judgeReentered j acc.2 x
  else (acc.1.judgeBackward j x, acc.2)

/-! ### One APDU (R29) -/

/-- Parse reassembled data and judge its entries. -/
def State.judgeData (s : State) (eix : Nat) (descr : Bytes) (meter : Option Bytes) (data : Bytes) : State :=
  let e := s.ep eix
  let d := descriptorOf descr
  let off := s.sealedDie.utcOffset
  let skew : Option (Option Int) := match meter with
    | none => some none
    | some b => (cosemTime s.sealedDie.active off b).map (fun t => some (t * 1000 - s.sealedMs))
  match skew, entriesOf d s.sealedDie.active off data with
  | some k, some es => (es.foldl (State.judge { eix := eix, index := e.desc, desc := d, skew := k }) (s, 0)).1
  | _, _ => s.refuseApdu eix 53 (le 1 e.desc)

/-- Process an admitted APDU of an EIX (R29). -/
def State.processApdu (s : State) (eix port : Nat) (apdu : Bytes) : State :=
  match s.ep? eix with
  | none => s.refuseApdu eix 48 (le 1 port)
  | some e =>
    match s.sealedDie.objects.get? (0x1400 + e.desc) with
    | none => s.refuseApdu eix 48 (le 1 port)
    | some descr =>
      match clearHeader apdu with
      | none => s.refuseApdu eix 53 (le 1 e.desc)
      | some h =>
        let title := h.title.getD e.title
        if !e.icOk h.ic then s.refuseApdu eix 49 (le 1 port ++ le 4 h.ic)
        else if title ≠ e.title then s.refuseApdu eix 50 (le 1 port)
        else
          match Config.gcmOpen 12 e.guek (title ++ be 4 h.ic) (le 1 h.sc ++ e.ak) h.rest with
          | none => s.refuseApdu eix 51 (le 1 port ++ le 4 h.ic)
          | some plain =>
            let s1 := s.onEp eix fun q => q.icMark h.ic
            let s2 := if h.ic = 0xFFFFFFFF then s1.raiseSealed 55 (eix3 eix ++ le 1 0) else s1
            match payloadOf plain with
            | .bad => s2.refuseApdu eix 53 (le 1 e.desc)
            | .whole data meter => s2.judgeData eix descr meter data
            | .block last n raw =>
              match s2.reassemble eix port last n raw with
              | (s3, some data) => s3.judgeData eix descr none data
              | (s3, none) => s3

/-- SEALED_APDU_PROCESS: the oldest admitted METER_APDU is judged under R541 and processed under R29; not while the core is paused
(R69). -/
def State.sealedApdu (s : State) : State :=
  match s.admittedOf 1 with
  | none => s
  | some m =>
    if s.corePaused then s else
    match s.apduRefusal m.payload m.bytes.length with
    | some st => s.respond m st
    | none =>
      let p := m.payload
      (s.respond m stDone).processApdu (getLE 0 4 p) (getLE 4 1 p) (p.drop 20)

def execSealedApduProcess (s : State) : Host.Outcome State Fault Refusal := .next s.sealedApdu

end Sys2Proof.Machine
end

