-- ==== Sys2Proof/Machine/SealedDocs.lean ====
section
/-! DEFINITION. What the sealed core does with time offers, signed documents, firmware segments, seal sessions and the tamper
inputs (R62 to R77, R141, R172, R173). -/

namespace Sys2Proof.Machine
open Sys2Proof

/-! ### Identification (R74) -/

/-- The objects as sealed NOR holds them: with the writes that wait for a safe point. -/
def Sealed.storedObjects (x : Sealed) : Tab Bytes := x.staged.foldl (fun o p => if p.1 / 256 = 0x12 then o.set p.1 p.2 else o) x.objects

/-- The content of a firmware slot: what was written into it, or the factory image (log 8). -/
def Sealed.slot (x : Sealed) (i : Nat) : Bytes := (x.slotImages.getD i none).getD (Config.factoryImage i)

/-- The active firmware image: a slot that was written holds as many bytes as its header says (R387). -/
def Sealed.activeImage (x : Sealed) : Bytes :=
  match x.slotImages.getD x.activeSlot none with
  | some b => b.take (5392 + getLE 16 4 b)
  | none => Config.factoryImage x.activeSlot

/-- The body of a firmware document is written over the start of the inactive slot (R68). -/
def Sealed.writeSlot (x : Sealed) (body : Bytes) : Sealed :=
  let i := 1 - x.activeSlot
  { x with slotImages := x.slotImages.set i (some (body ++ (x.slot i).drop body.length)), newImage := false }

/-- Seal state (R74). -/
def Sealed.sealState (x : Sealed) : Nat := if x.storeFault then 2 else if x.session.isSome then 1 else 0

/-- The IDENTIFICATION payload (R74). -/
def State.identification (s : State) : Bytes :=
  let x := s.sealedDie
  ascii "SL-1.0" ++ zeros 2 ++ shake 64 x.activeImage ++ padTo 16 Config.sealedIdentity ++ le 4 (keyIdentifier (Config.factoryKey 3)) ++
    le 4 x.sessionCount ++ calDigest x.storedObjects ++ le 1 x.activeSlot ++ le 1 x.sealState ++ le 1 x.timeState.code ++
    le 1 (b2n (x.stampLatch.getD 0 false) + 2 * b2n (x.stampLatch.getD 1 false)) ++ le 4 ((x.active.map (·.version)).getD 0 % 2 ^ 24) ++
    le 8 s.sealedSec ++ le 8 (x.batchNumber + 1) ++ zeros 8

/-- Emit the identification record. -/
def State.identify (s : State) : State := s.emit [{ kind := 0x88, payload := s.identification }]

/-! ### Time offers (R70, R71, R73) -/

/-- Event 37. d goes toward zero to whole milliseconds and is held within 32 bits, as the step of event 38 is within 64 (DESIGN CHOICE,
log 144). -/
def State.offerRefused (s : State) (dMs : Int) (status : Nat) : State :=
  s.raiseSealed 37 (leI 4 (clampI (-(2 ^ 31)) (2 ^ 31 - 1) dMs) ++ le 2 status)

/-- Corrections accepted within the preceding 86,400 s (R71). -/
def State.budgetUsed (s : State) : Nat := ((s.sealedDie.budgetLog.filter (fun p => decide (s.sealedSec < p.1 + 86400))).map (·.2)).sum

/-- Judge and apply an offered time under R71, or under R73 while the time state is INVALID: the state and the status. An offer accepted
under R73 also sets the UTC offset, as under R71 (DESIGN CHOICE, log 145). -/
def State.offerTime (s : State) (ns : Int) (utc : Int) (quality : Nat) : State × Nat :=
  let x := s.sealedDie
  if x.timeState = .invalid then
    let sec := ns.fdiv 1000000000
    if s.svN 0x1101 1 ≤ quality ∧ (x.lastRecorded : Int) ≤ sec ∧ sec ≤ (x.lastRecorded : Int) + 400 * 86400 then
      let s1 := (s.setClock ns .provisional).onSealed fun y => { y with utcOffset := utc, lastOffer := some y.elapsed }
      (s1.sealedAnchor 0x0112, stDone)
    else (s.offerRefused 0 stTimeInvalid, stTimeInvalid)
  else
    let d := ns - s.sealedNs
    let early : Bool := match x.lastOffer with
      | some t => decide (x.elapsed < t + s.svN 0x1101 2 * 1000000000)
      | none => false
    if quality < s.svN 0x1101 1 ∨ early ∨ s.svN 0x1101 0 < s.budgetUsed + msUp d then (s.offerRefused (msOf d) stTimeInvalid, stTimeInvalid)
    else
      let s1 := s.adjustClock d
      (s1.onSealed fun y => { y with
        utcOffset := utc, lastOffer := some y.elapsed
        budgetLog := (y.budgetLog.filter (fun p => decide (s.sealedSec < p.1 + 86400))) ++ [(s.sealedSec, msUp d)] }, stDone)

/-- The steps of R70 on an offer's payload: the state and the status of the response word. A payload that is not 32 bytes long is refused
like a bad field of step 1 (DESIGN CHOICE, log 146). -/
def State.timeOffer (s : State) (p : Bytes) : State × Nat :=
  let q := getLE 14 1 p
  let fl := getLE 15 1 p
  if p.length ≠ 32 ∨ 7 < q ∨ 999999999 < getLE 8 4 p ∨ 8 ≤ fl ∨ !zeroAt 16 16 p then (s.offerRefused 0 stBadField, stBadField)
  else
    let close := bit fl 1
    let empty := decide (s.sealedDie.batch.count = 0)
    let s1 := if close then s.closeBatch 4 else s
    let (s2, st) := if bit fl 0 then s1.offerTime (((getLE 0 8 p * 1000000000 + getLE 8 4 p : Nat)) : Int) (getI 12 2 p) q
      else (s1, if close && empty then stDeniedSeal else stDone)
    let s3 := if bit fl 2 then
        let s4 := s2.identify
        s4.emit ((s4.sealedDie.calLog.drop (s4.sealedDie.calLog.length - 16)).map (fun e => ({ kind := 0x89, payload := e } : OutItem)))
      else s2
    (s3, st)

/-- The oldest admitted message of a kind is answered with what `f` makes of its payload; after a power-fail warning with
BUSY (R421); not while the core is paused (R69). -/
def State.answer (s : State) (kind : Nat) (f : State → Bytes → State × Nat) : State :=
  match s.admittedOf kind with
  | some m =>
    if s.corePaused then s
    else if s.sealedDie.pfw then s.respond m stBusy
    else
      let (s1, st) := f s m.payload
      s1.respond m st
  | none => s

/-- TIME_OFFER: the oldest admitted offer. -/
def execTimeOffer (s : State) : Host.Outcome State Fault Refusal := .next (s.answer 4 State.timeOffer)

/-! ### Seal sessions (R75 to R77) -/

/-- SEAL_N has been held low for the last 100 ms. -/
def State.sealOpenable (s : State) : Bool := !s.sealedDie.sealN && decide (s.sealedDie.sealLowSince + 100000000 ≤ s.sealedDie.elapsed)

/-- Whether an image's payload digest verifies (R76, R387). -/
def imageDigestOk (b : Bytes) : Bool := shake 64 ((b.drop 5392).take (getLE 16 4 b)) = slice 2016 64 b

/-- A session closes (R75 to R77): log entry, latches, the new image when its digest verifies, event 40. -/
def State.closeSession (s : State) (reason : Nat) : State :=
  match s.sealedDie.session with
  | none => s
  | some q =>
    let x := s.sealedDie
    let latches := b2n (x.stampLatch.getD 0 false) + 2 * b2n (x.stampLatch.getD 1 false)
    let im := x.slot (1 - x.activeSlot)
    let s1 := if x.newImage then s.onSealed fun y =>
        { y with
          newImage := false
          activeSlot := if imageDigestOk im then 1 - y.activeSlot else y.activeSlot
          fwRollback := if imageDigestOk im then max y.fwRollback (getLE 12 4 im) else y.fwRollback }
      else s
    let entry := withEdge (le 4 q.number ++ le 4 reason ++ le 8 q.opened ++ le 8 s.sealedSec ++ padTo 16 q.operator ++ le 4 q.used ++ le 1 latches ++
      zeros 3 ++ padTo 32 q.digestBefore ++ (calDigest x.storedObjects).take 32 ++ (shake 64 s1.sealedDie.activeImage).take 12)
    let s2 := s1.onSealed fun y => { y with
      session := none, sessionCount := y.sessionCount + 1, calLog := y.calLog ++ [entry], stampLatch := [false, false], fwPartial := none }
    (s2.emit [{ kind := 0x89, payload := entry }]).raiseSealed 40 (le 4 q.number ++ le 1 reason)

/-- SEAL_N changes level. -/
def State.sealNChange (s : State) (level : Bool) : State :=
  let s1 := s.onSealed fun x => { x with sealN := level, sealLowSince := if x.sealN then x.elapsed else x.sealLowSince }
  if level ∧ s.sealedDie.running then s1.closeSession 2 else s1

def execSealNChange (level : Bool) (s : State) : Host.Outcome State Fault Refusal := .next (s.sealNChange level)

/-- The maximum duration of a session has passed. -/
def State.sessionExpiry (s : State) : State :=
  match s.sealedDie.session with
  | some q => if q.openedElapsed + q.maxS * 1000000000 ≤ s.sealedDie.elapsed then s.closeSession 3 else s
  | none => s

def execSealSessionExpiry (s : State) : Host.Outcome State Fault Refusal := .next s.sessionExpiry

/-- A counted change of a stamp input: its bit is latched and its counter goes up (R77). -/
def Sealed.countStamp (x : Sealed) (input : Nat) : Sealed :=
  { x with stampLatch := x.stampLatch.set input true, stampCount := x.stampCount.set input (x.stampCount.getD input 0 + 1) }

/-- A counted change is reported: event 41 and a record of the tamper log (R77, R79; log 77). -/
def State.reportStamp (s : State) (input : Nat) (level : Bool) (n : Nat) : State :=
  (s.raiseSealed 41 (le 1 input ++ le 1 (b2n level) ++ le 4 n)).writeSealed 4 (le 1 input ++ le 1 (b2n level) ++ zeros 2 ++ le 4 n ++ le 8 s.sealedSec)

/-- A debounced change of STAMP0 or STAMP1 (R77). It is reported at once, or at the next start when the sealed core does not run: in
HOLD each change counts (R425), in OFF the latch alone holds it until the start (R427). -/
def State.stampChange (s : State) (input : Nat) (level : Bool) : State :=
  if 1 < input ∨ s.sealedDie.stamps.getD input true = level then s
  else
    let s1 := s.onSealed fun x => { x with stamps := x.stamps.set input level }
    let s2 := s1.onSealed fun x => x.countStamp input
    let n := s2.sealedDie.stampCount.getD input 0
    if s.sealedDie.running ∧ s.sealedDie.started then s2.reportStamp input level n
    else if s.sealedDie.running ∨ s.power.state = .hold then s2.onSealed fun x => { x with stampOwed := x.stampOwed ++ [(input, level, n)] }
    else if s.power.state = .unpowered then s1
    else s1.onSealed fun x => { x with stampOff := x.stampOff.set input true }

def execStampChange (input : Nat) (level : Bool) (s : State) : Host.Outcome State Fault Refusal := .next (s.stampChange input level)

/-! ### Object writes (R64) -/

/-- Entries of an object-write body: object and data; none where the lengths do not fit. `n` bounds them. -/
def objectEntries : Nat → Bytes → Option (List (Nat × Bytes))
  | 0, _ => some []
  | n + 1, b =>
    if b.isEmpty then some []
    else
      let len := getLE 2 2 b
      if b.length < 4 + len then none
      else (objectEntries n (b.drop (4 + len))).map fun l => (getLE 0 2 b, (b.drop 4).take len) :: l

/-- The field values that an object's data holds: the fields in table order, each in its element size (log 9). -/
def fieldsIn (o : Nat) (d : Bytes) : List (Nat × Field × Int) :=
  ((numbered o).foldl (fun (acc : List (Nat × Field × Int) × Nat) q =>
    let raw := getLE acc.2 q.2.size d
    (acc.1 ++ [(q.1, q.2, if q.2.typ = 1 then toSigned q.2.size raw else (raw : Int))], acc.2 + q.2.size)) ([], 0)).1

/-- Bytes of an object's data. -/
def fieldsSize (o : Nat) : Nat := ((numbered o).map (·.2.size)).sum

/-- Rules between the fields of one object, and fields with listed values (R42, R104, R188, R189). -/
def crossBad (o : Nat) (v : Nat → Int) : Bool :=
  if o = 0x1100 then decide (v 1 < v 0) || decide (v 5 < v 4)
  else if o = 0x1110 then !([60, 300, 600, 900].contains (v 0)) || !([50, 60].contains (v 1))
  else if o = 0x3001 then decide (v 6 ≤ v 7)
  else if 0x3010 ≤ o ∧ o ≤ 0x301F then decide (v 0 < v 1)
  else false

/-- Whether a calibration object is valid (R84, R103). -/
def calValid (ch : Nat) (d : Bytes) : Bool :=
  let t := getLE 0 1 d
  let g := getLE 1 1 d
  d.length = 32 && (t = 0xFF || (t = 0 && decide (ch ≤ 3) && g = 0) || (t = 1 && decide (4 ≤ ch) && decide (g ≤ 4)) ||
    (t = 2 && decide (4 ≤ ch) && decide (g ≤ 5))) && decide (getLE 2 1 d ≤ 1) && zeroAt 3 1 d && decide (1 ≤ getLE 4 4 d) &&
    decide (0x20000000 ≤ getLE 8 4 d) && decide (getLE 8 4 d ≤ 0x60000000) && decide ((getI 16 4 d).natAbs ≤ 500000) &&
    (decide (4 ≤ ch) || getI 16 4 d = 0) && zeroAt 24 8 d

/-- Whether one entry is valid under its chapter's rules. -/
def objectValid (o : Nat) (d : Bytes) : Bool :=
  if sealedObjects.contains o then
    let fs := fieldsIn o d
    let v := fun f => ((fs.find? (fun q => q.1 = f)).map (·.2.2)).getD 0
    d.length = fieldsSize o && fs.all (fun q => q.2.1.typ = 2 || (decide (q.2.1.lo ≤ q.2.2) && decide (q.2.2 ≤ q.2.1.hi))) && !crossBad o v
  else if o = 0x1180 then d.length = 8
  else if 0x1200 ≤ o ∧ o < 0x1214 then calValid (o - 0x1200) d
  else if 0x1400 ≤ o ∧ o ≤ 0x143F then descriptorValid (o - 0x1400) d
  else false

/-- What of an endpoint sealed NOR holds (R78, R181), with the marks that the rules need over a start: the cells of closed batches (R39),
the period of the last event 73 (R156), boundaries whose mark is owed (R157), events already raised (R181); log 137. -/
def Ep.nor (e : Ep) (period : Nat) : Ep :=
  { title := e.title, guek := e.guek, ak := e.ak, desc := e.desc, icHigh := e.icHigh, icSeen := e.icSeen, exhausted := e.exhausted, initSeq := e.initSeq,
    client := e.client, clientDone := e.clientDone, latePeriod := e.latePeriod, piOwed := e.piOwed, once := e.once, ledger := { period := period }
    signedHist := ((e.hist.filter (·.signed)).map (·.bytes) ++ e.signedHist).take 32 }

/-- Ask for the records of a stream from an epoch and record number on (R67). -/
def State.requestRead (s : State) (stream epoch rec_ : Nat) : State :=
  s.onGate fun g => { g with
    units := g.units ++ [.readRequest stream epoch rec_ 65535]
    readOpen := some { stream := stream, epoch := epoch, recNo := rec_, left := 65535 } }

/-- Store recovery (R80, log 138): the checkpoint of the epoch that object 0x1180 names is read back, and the journal after it. -/
def State.adoptCheckpoint (s : State) (epoch : Nat) : State :=
  if !s.sealedDie.storeFault then s
  else
    (s.onSealed fun x => { x with
      started := false, eps := x.eps.mapVals fun _ e => e.nor x.period
      replay := some { streams := [2, 1, 3, 4], adopt := some epoch } }).requestRead 2 0 0

/-- Apply one valid entry, or stage it for its safe point (R43, R99, R164). -/
def State.writeObject (s : State) (o : Nat) (d : Bytes) : State :=
  if o = 0x1110 then s.onSealed fun x => { x with staged := x.staged ++ (fieldsIn o d).map (fun q => (cfgKey o q.1 0, leI 8 q.2.2)) }
  else if sealedObjects.contains o then
    s.onSealed fun x => { x with values := (fieldsIn o d).foldl (fun v q => cfgSet v o q.1 0 q.2.2) x.values }
  else if 0x1200 ≤ o ∧ o < 0x1214 then
    s.onSealed fun x => { x with staged := x.staged ++ [(o, d)], session := x.session.map (fun q => { q with used := setBit q.used 0 true }) }
  else if o = 0x1180 then s.adoptCheckpoint (getLE 0 8 d)
  else s.onSealed fun x => { x with objects := x.objects.set o d }

/-! ### Signed documents (R62, R63) -/

/-- The key slot that signs a type (R63): number of the slot K0 to K3. -/
def signerSlot (typ : Nat) : Nat := if typ = 1 then 2 else if typ = 2 then 3 else if typ = 0x15 then 0 else 1

/-- The public key of a sealed key slot K0 to K3 (log 8). -/
def sealedKey (i : Nat) : Bytes := Config.factoryKey (10 + i)

/-- Types allowed for a message kind (R59). -/
def typeAllowed (kind typ : Nat) : Bool :=
  (kind = 2 && typ = 1) || (kind = 3 && typ = 2) || (kind = 5 && decide (0x10 ≤ typ) && decide (typ ≤ 0x14))

/-- Check 1 on the envelope header. -/
def envelopeBad (d : Bytes) (total : Nat) (allowed : Bool) : Bool :=
  slice 0 4 d ≠ ascii "SLDC" || !allowed || !zeroAt 6 2 d || total ≠ 56 + getLE 8 4 d + 3312 || (getLE 4 2 d = 1 && !zeroAt 15 1 d) || !zeroAt 52 4 d

/-- Check 7 by type. -/
def State.sessionBad (s : State) (typ : Nat) (body : Bytes) : Bool :=
  let x := s.sealedDie
  let may := fun (b : Nat) => match x.session with
    | some q => bit q.permitted b
    | none => false
  if typ = 0x10 then ((objectEntries body.length body).getD []).any (fun e => e.1 / 256 = 0x12) && !may 0
  else if typ = 0x13 then x.session.isSome || !s.sealOpenable || decide (32768 ≤ x.calLog.length)
  else if typ = 0x14 then x.session.isNone
  else if typ = 0x15 then !may 1
  else false

/-- The wrapped keys of a provisioning body (R64). -/
def unwrapKeys (body : Bytes) : Option Bytes :=
  Config.gcmOpen 16 (Config.factoryKey 5) (slice 24 12 body) (padTo 16 Config.sealedIdentity ++ body.take 24) (slice 36 48 body)

/-- Whether a sealed firmware image is valid (R387). -/
def State.sealedImageBad (s : State) (b : Bytes) : Bool :=
  let n := getLE 16 4 b
  let pk := slice 64 1952 b
  slice 0 4 b ≠ ascii "SLIM" || getLE 4 2 b ≠ 1 || getLE 6 2 b ≠ 2 || decide (128 < getLE 12 4 b) || n = 0 || decide (8383216 < n) ||
    b.length ≠ 5392 + n || decide (n ≤ getLE 20 4 b) || decide (2 ≤ getLE 28 4 b) || !zeroAt 48 16 b || !zeroAt 5389 3 b ||
    slice 32 6 b ≠ ascii "SL-1.0" || keyIdentifier pk ≠ getLE 24 4 b || getLE 24 4 b ≠ keyIdentifier (sealedKey 0) ||
    !verifyOver pk "STOLRID-IMAGE-1" (b.take 2080) (slice 2080 3309 b) || !imageDigestOk b || decide (getLE 12 4 b < s.sealedDie.fwRollback)

/-- Check 8 by type. -/
def State.bodyBad (s : State) (typ version : Nat) (body : Bytes) (notBefore expiry : Nat) : Bool :=
  let x := s.sealedDie
  if typ = 1 then !tariffBodyValid body x.utcOffset version
  else if typ = 2 then s.creditBad body notBefore expiry
  else if typ = 0x10 then
    match objectEntries body.length body with
    | some (e :: es) => !(e :: es).all (fun q => objectValid q.1 q.2)
    | _ => true
  else if typ = 0x11 then
    body.length ≠ 84 || decide (2 ^ 18 ≤ getLE 0 4 body) || decide (63 < getLE 12 1 body) || !zeroAt 13 3 body ||
      (match unwrapKeys body with
        | some k => decide (k.length ≠ 32)
        | none => true)
  else if typ = 0x12 then body.length ≠ 16 || decide (999999999 < getLE 8 4 body) || !zeroAt 14 2 body
  else if typ = 0x13 then body.length ≠ 28 || getLE 0 4 body ≠ x.sessionCount + 1 || decide (7 < getLE 4 4 body) || decide (getLE 24 4 body < 60) ||
      decide (28800 < getLE 24 4 body)
  else if typ = 0x14 then !body.isEmpty
  else s.sealedImageBad body

/-- The checks of R63 in order. -/
def State.docFailure (s : State) (allowed : Bool) (d : Bytes) : Option Nat :=
  let typ := getLE 4 2 d
  let n := getLE 8 4 d
  let version := getLE 12 4 d
  let body := slice 56 n d
  let nb := getLE 32 8 d
  let ex := getLE 40 8 d
  let x := s.sealedDie
  let pk := sealedKey (signerSlot typ)
  let zeroOk := typ = 1 ∨ typ = 0x10
  orderedFailure [
    (envelopeBad d d.length allowed || !zeroAt (3365 + n) 3 d, stBadField),
    (getLE 48 4 d ≠ keyIdentifier pk, stDeniedAuth),
    (!verifyOver pk "STOLRID-DOC-1" (d.take (56 + n)) (slice (56 + n) 3309 d), stSignatureBad),
    (!(slice 16 16 d = padTo 16 Config.sealedIdentity || (decide zeroOk && zeroAt 16 16 d)), stDeniedSeal),
    (if x.timeState = .invalid then !(nb = 0 && ex = 0) else decide (s.sealedSec < nb) || (ex ≠ 0 && decide (ex ≤ s.sealedSec)), stTimeInvalid),
    (if typ = 2 then !txnNumberOk (s.ep (getLE 0 4 body)).ledger version else decide (version ≤ x.docVersions.getD typ 0), stDeniedSeal),
    (s.sessionBad typ body, stDeniedSeal),
    (s.bodyBad typ version body nb ex, stBadField)]

/-! ### Effects of accepted documents -/

/-- The DOCUMENT item (R184). -/
def documentItem (typ version activation : Nat) : Bytes := jItem 6 (le 2 typ ++ zeros 2 ++ le 4 version ++ le 8 activation)

/-- A tariff document takes its place (R141, R155). -/
def State.acceptTariff (s : State) (version : Nat) (body : Bytes) : State :=
  let x := s.sealedDie
  let given := getLE 16 8 body
  let now := s.sealedSec
  let act := if given = 0 then now else given
  let d : TDoc := { version := version, activation := act, order := x.docOrder + 1, body := body }
  let s1 := s.onSealed fun y => { y with docOrder := y.docOrder + 1, firstActivation := y.firstActivation.or (some act) }
  let s2 := if act ≤ now then
      (s1.onSealed fun y => { y with active := some d, previous := y.active, pendingDoc := none }).raiseSealed 65
        (le 4 version ++ le 4 ((x.active.map (·.version)).getD 0))
    else
      let s3 := (s1.onSealed fun y => { y with pendingDoc := some d }).raiseSealed 64 (le 3 version ++ le 1 0 ++ le 4 act)
      match x.pendingDoc with
      | some p => s3.raiseSealed 66 (le 4 p.version ++ le 4 version)
      | none => s3
  s2.transact 2 0 [documentItem 1 version act] [] []

/-- Provisioning or rekeying of an EIX (R31, R64, R167). -/
def State.provision (s : State) (version : Nat) (body : Bytes) : State :=
  let eix := getLE 0 4 body
  let keys := (unwrapKeys body).getD []
  let fresh : Ep := { initSeq := getLE 16 4 body, lastEmit := s.sealedDie.elapsed, ledger := { period := s.sealedDie.period } }
  let e := (s.ep? eix).getD fresh
  let e1 := { e with
    title := slice 4 8 body, desc := getLE 12 1 body, icHigh := getLE 20 4 body, icSeen := 2 ^ 32 - 1, exhausted := false
    guek := keys.take 16, ak := (keys.drop 16).take 16 }
  let s1 := s.onSealed fun x => { x with eps := x.eps.set eix e1 }
  s1.transact 2 0 (documentItem 0x11 version 0 :: s1.afterImages eix) [] [eix]

/-- A time step (R72). -/
def State.timeStep (s : State) (body : Bytes) : State :=
  let target : Int := ((getLE 0 8 body * 1000000000 + getLE 8 4 body : Nat) : Int)
  let utc := getI 12 2 body
  if s.sealedDie.timeState = .invalid then
    let s1 := (s.setClock target .valid).onSealed fun x => { x with utcOffset := utc }
    (s1.raiseSealed 38 (leI 8 0)).sealedAnchor 0x0111
  else
    let d := target - s.sealedNs
    let s1 := (s.adjustClock d).onSealed fun x => { x with utcOffset := utc, timeState := .valid }
    (s1.raiseSealed 38 (leI 8 (msOf d))).sealedAnchor 0x0111

/-- A seal-break session opens (R75). -/
def State.openSession (s : State) (body : Bytes) : State :=
  let q : SealSession := { number := getLE 0 4 body, permitted := getLE 4 4 body, operator := slice 8 16 body, opened := s.sealedSec,
                           openedElapsed := s.sealedDie.elapsed, maxS := getLE 24 4 body, digestBefore := (calDigest s.sealedDie.storedObjects).take 32 }
  ((s.onSealed fun x => { x with session := some q }).onMetro fun m => { m with testSeen := true }).raiseSealed 39 (le 4 q.number)

/-- What an accepted document does. -/
def State.docEffect (s : State) (typ version : Nat) (body : Bytes) : State :=
  if typ = 1 then s.acceptTariff version body
  else if typ = 2 then s.applyCredit version body
  else if typ = 0x10 then ((objectEntries body.length body).getD []).foldl (fun t e => t.writeObject e.1 e.2) s
  else if typ = 0x11 then s.provision version body
  else if typ = 0x12 then s.timeStep body
  else if typ = 0x13 then s.openSession body
  else if typ = 0x14 then s.closeSession 1
  else s.onSealed fun x => { x with newImage := true, session := x.session.map (fun q => { q with used := setBit q.used 1 true }) }

/-- A document is refused: event 36 (R63). -/
def State.docRefused (s : State) (d : Bytes) (status : Nat) : State := s.raiseSealed 36 (le 2 (getLE 4 2 d) ++ le 4 (getLE 12 4 d) ++ le 2 status)

/-- Judge a whole document; the state and its status (R63, R74). -/
def State.judgeDoc (s : State) (allowed : Bool) (d : Bytes) : State × Nat :=
  match s.docFailure allowed d with
  | some st => (s.docRefused d st, st)
  | none =>
    let typ := getLE 4 2 d
    let version := getLE 12 4 d
    let s1 := if typ = 2 then s else s.onSealed fun x => { x with docVersions := x.docVersions.set typ version }
    let s2 := (s1.raiseSealed 35 (le 2 typ ++ le 4 version)).docEffect typ version (slice 56 (getLE 8 4 d) d)
    (s2.identify, stDone)

/-- TARIFF_DOC: refused with DENIED_SEAL in STORE_FAULT (R80). -/
def execTariffDoc (s : State) : Host.Outcome State Fault Refusal :=
  .next (s.answer 2 fun t p => if t.sealedDie.storeFault then (t, stDeniedSeal) else t.judgeDoc (typeAllowed 2 (getLE 4 2 p)) p)

/-- CREDIT_TXN: refused with DENIED_SEAL in STORE_FAULT (R80) and with BUSY while a refused journal transaction is held (R185). -/
def execCreditTxn (s : State) : Host.Outcome State Fault Refusal :=
  .next (s.answer 3 fun t p =>
    if t.sealedDie.storeFault then (t, stDeniedSeal) else if t.journalHeld then (t, stBusy) else t.judgeDoc (typeAllowed 3 (getLE 4 2 p)) p)

/-! ### Firmware segments (R68) -/

/-- Whether a message begins as a segment. -/
def isSegment (p : Bytes) : Bool := slice 0 4 p = ascii "SLSG"

/-- Whether a message of kind 0x05 is judged as a segment: one with the segment's magic, and, while a partial document is open, anything
that is no document either (R68: a segment whose magic is inconsistent). -/
def State.segmentLike (s : State) (p : Bytes) : Bool :=
  isSegment p || (s.sealedDie.fwPartial.isSome && slice 0 4 p ≠ ascii "SLDC")

/-- The first segment's checks 1, 2 and 7 of R63 on the envelope header. -/
def State.headerFailure (s : State) (d : Bytes) (total : Nat) : Option Nat :=
  orderedFailure [
    (envelopeBad d total (getLE 4 2 d = 0x15), stBadField),
    (getLE 48 4 d ≠ keyIdentifier (sealedKey 0), stDeniedAuth),
    (s.sessionBad 0x15 [], stDeniedSeal)]

/-- One segment: the state and the status of its response word. The body that has arrived stands in the inactive slot (R68). -/
def State.segment (s : State) (p : Bytes) : State × Nat :=
  let total := getLE 4 4 p
  let off := getLE 8 4 p
  let m := getLE 12 4 p
  let data := p.drop 16
  let drop := fun (t : State) => t.onSealed fun x => { x with fwPartial := none }
  let lens := !isSegment p || decide (m < 1) || decide (262112 < m) || decide (data.length ≠ m) || decide (total < off + m)
  let finishIf := fun (t0 : State) (whole : Bytes) =>
    let t := t0.onSealed fun x => x.writeSlot (slice 56 (getLE 8 4 whole) whole)
    if whole.length = total then
      let (t1, st) := t.judgeDoc (getLE 4 2 whole = 0x15) whole
      (drop t1, st)
    else (t.onSealed fun x => { x with fwPartial := some { length := total, data := whole, at_ := x.elapsed } }, stDone)
  match s.sealedDie.fwPartial with
  | none =>
    if lens ∨ off ≠ 0 ∨ data.length < 56 then (s, stBadField)
    else match s.headerFailure data total with
      | some st => (s.docRefused data st, st)
      | none => finishIf s data
  | some f => if lens ∨ total ≠ f.length ∨ off ≠ f.data.length then (drop s, stBadField) else finishIf s (f.data ++ data)

/-- SEALED_CONFIG: the oldest admitted message of kind 0x05 when it is a whole document. -/
def execSealedConfig (s : State) : Host.Outcome State Fault Refusal :=
  .next (match s.admittedOf 5 with
    | some m => if s.segmentLike m.payload then s else s.answer 5 fun t p => t.judgeDoc (typeAllowed 5 (getLE 4 2 p)) p
    | none => s)

/-- SEALED_FIRMWARE_SEGMENT: the oldest admitted message of kind 0x05 when it is a segment. -/
def execSealedFirmwareSegment (s : State) : Host.Outcome State Fault Refusal :=
  .next (match s.admittedOf 5 with
    | some m => if s.segmentLike m.payload then s.answer 5 State.segment else s
    | none => s)

/-- SEGMENT_TIMEOUT: 600 s without a segment. -/
def State.segmentTimeout (s : State) : State :=
  match s.sealedDie.fwPartial with
  | some f => if f.at_ + 600000000000 ≤ s.sealedDie.elapsed then s.onSealed fun x => { x with fwPartial := none } else s
  | none => s

def execSegmentTimeout (s : State) : Host.Outcome State Fault Refusal := .next s.segmentTimeout

end Sys2Proof.Machine
end

