-- ==== Sys2Proof/Machine/SealedStart.lean ====
section
/-! DEFINITION. The sealed die's start, replay, checkpoints, and the units it receives (R66, R67, R79, R80, R157, R186). -/

namespace Sys2Proof.Machine
open Sys2Proof

/-! ### Reading ledger records and journal items back (R168, R184) -/

/-- `n` numbers of `w` bytes from an offset. -/
def readList (b : Bytes) (off w n : Nat) : List Nat := (List.range n).map fun i => getLE (off + w * i) w b

/-- A ledger record from its 256 bytes. -/
def ledgerOf (b : Bytes) : Ledger :=
  { mode := getLE 5 1 b, supply := getLE 6 1 b, warn := getLE 7 1 b, flags := getLE 8 1 b, profile := getLE 9 1 b, revision := getLE 12 4 b,
    balance := getI 16 8 b, emergency := getI 24 8 b, credited := getI 32 8 b, debited := getI 40 8 b, txnHigh := getLE 48 4 b,
    txnWindow := getLE 52 4 b, period := getLE 56 4 b, lastSeq := getLE 60 4 b, pImport := getLE 64 8 b, pExport := getLE 72 8 b,
    pDebit := getI 80 8 b, regI := readList b 88 8 8, regE := readList b 152 8 4, maxTime := getLE 184 8 b, maxDemand := getLE 192 4 b,
    carryS := getLE 196 4 b, carryE := getI 200 8 b, orderNo := getLE 208 4 b, orderKind := getLE 212 1 b, orderCause := getLE 213 1 b,
    apdu := slice 216 (getLE 214 1 b) b }

/-- An endpoint with its EIX_STATE item applied. -/
def Ep.withState (e : Ep) (b : Bytes) : Ep :=
  { e with
    seq := getLE 0 4 b, lastEnd := getLE 4 8 b, imp := getLE 12 8 b, exp := getLE 20 8 b, react := getLE 28 8 b, gen := getLE 36 1 b
    reOpen := decide (getLE 37 1 b = 1), reFirst := decide (getLE 38 1 b = 1), has := decide (getLE 39 1 b = 1)
    opening := { imp := getLE 40 8 b, exp := getLE 48 8 b, debit := getI 56 8 b, regI := readList b 64 8 8, regE := readList b 128 8 4,
                 maxDemand := getLE 160 4 b, maxTime := getLE 164 8 b } }

/-- Journal items: type and data; `n` bounds them. -/
def itemsOf : Nat → Bytes → List (Nat × Bytes)
  | 0, _ => []
  | n + 1, b => if b.length < 4 then [] else (getLE 0 1 b, (b.drop 4).take (getLE 2 2 b)) :: itemsOf n (b.drop (4 + getLE 2 2 b))

/-- Push a cell read back into its EIX's history (R39) and into what its demand intervals need (R150, R151); whether its batch was closed
is what sealed NOR holds (log 137). -/
def State.replayCell (s : State) (c : Bytes) : State :=
  let id := getLE 0 4 c
  if 2 ≤ id / 2 ^ 18 % 16 then s
  else s.onEp (id % 2 ^ 18) fun e =>
    let imp := getLE 16 8 c
    let last := (e.hist.head?.map (fun h => getLE 16 8 h.bytes)).getD (if e.has then e.imp else imp)
    { e with
      hist := (({ bytes := c, signed := e.signedHist.contains c } : HeldCell) :: e.hist.filter (fun h => decide (h.bytes ≠ c))).take 32
      recents := pushRecent e.recents (getLE 8 8 c) (imp - last) (bit id 22 || bit id 23 || bit id 25 || bit id 26 || bit id 27) }

/-- The cells of a demand interval in a checkpoint (R150, R186; log 21). -/
def recentBytes (l : List (Nat × Nat × Bool)) : Bytes := le 2 l.length ++ (l.map fun r => le 8 r.1 ++ le 8 r.2.1 ++ le 1 (b2n r.2.2)).flatten

/-- The same, read back. -/
def recentsOf (b : Bytes) : List (Nat × Nat × Bool) :=
  (List.range (getLE 0 2 b)).map fun i => (getLE (2 + 17 * i) 8 b, getLE (10 + 17 * i) 8 b, getLE (18 + 17 * i) 1 b ≠ 0)

/-- Items 0x10 and 0x11 stand in a checkpoint only: an EIX's record and state with its re-entry reference, the cells of its demand interval
and its history, and the checkpoint's header (the layout of a checkpoint is the model's own, log 21). -/
def ckptItem (eix : Nat) (e : Ep) : Bytes :=
  jItem 0x10 (ledgerBytes eix 0 e.ledger ++ eixState e ++ le 8 e.e0 ++ leI 8 e.reAfterMs ++ recentBytes e.recents ++ (e.hist.map (·.bytes)).flatten)

/-- Apply one item of a complete transaction or checkpoint (R186). A CALENDAR execution is repeated: its images leave again. -/
def State.applyItem (s : State) (typ : Nat) (d : Bytes) : State :=
  let setEix := fun (t : State) (x : Nat) => t.onSealed fun q => { q with replay := q.replay.map fun r => { r with lastEix := x } }
  match typ with
  | 1 => s.replayCell d
  | 2 => setEix (s.onEp (getLE 0 4 d) fun e => { e with ledger := ledgerOf d }) (getLE 0 4 d)
  | 3 => s.onEp ((s.sealedDie.replay.map (·.lastEix)).getD 0) fun e => e.withState d
  | 5 =>
    let b := getLE 8 8 d
    let lag := fun (m : Option Nat) => match m with
      | some x => some (max x b)
      | none => some b
    let images := if getLE 1 1 d = 1 then s.imageItems 1 else if getLE 1 1 d = 2 then s.imageItems 2 else []
    (s.emit images).onSealed fun x => { x with
      period := if getLE 1 1 d = 1 then getLE 4 4 d else x.period
      norMarks := x.norMarks.set (getLE 1 1 d - 1) (lag (x.norMarks.getD (getLE 1 1 d - 1) none)) }
  | 7 =>
    let dm := getI 8 8 d
    if dm < 0 then s.onSealed fun x => { x with eps := x.eps.mapVals fun _ e =>
      { e with e0 := e.lastEnd, reAfterMs := getI 0 8 d + dm } }
    else s
  | 0x10 =>
    let eix := getLE 0 4 d
    s.onEp eix fun e =>
      { ({ e with ledger := ledgerOf d }).withState (slice 256 176 d) with
        e0 := getLE 432 8 d, reAfterMs := getI 440 8 d, recents := recentsOf (d.drop 448)
        hist := (chunks 64 (d.drop (450 + 17 * getLE 448 2 d))).map fun c => { bytes := c, signed := e.signedHist.contains c } }
  | 0x11 => s.onSealed fun x => { x with period := getLE 0 4 d }
  | _ => s

/-- A transaction or checkpoint is complete: its body is applied when it is later than the checkpoint (R184, R186). -/
def State.applyBody (s : State) (stream n : Nat) (body : Bytes) : State :=
  let setR := fun (t : State) (f : Replay → Replay) => t.onSealed fun q => { q with replay := q.replay.map f }
  let run := fun (t : State) (b : Bytes) => (itemsOf b.length b).foldl (fun u i => u.applyItem i.1 i.2) t
  if stream = 2 then setR (run s body) fun r => { r with ckptTxn := n }
  else if n ≤ (s.sealedDie.replay.map (·.ckptTxn)).getD 0 then s
  else (run s (body.drop 24)).onSealed fun x => { x with txnNext := max x.txnNext n }

/-- One part read back (R184). A stream read from a place inside a transaction that the checkpoint holds already begins with that
transaction's later parts: they are passed over. -/
def State.replayPart (s : State) (stream : Nat) (plain : Bytes) : State :=
  match s.sealedDie.replay with
  | none => s
  | some r =>
    let idx := getLE 8 2 plain
    let cnt := getLE 10 2 plain
    if r.parts.isEmpty ∧ idx ≠ 0 ∧ (r.adopt.isSome ∨ getLE 0 8 plain ≤ r.ckptTxn) then s
    else if idx ≠ r.parts.length then s.onSealed fun x => { x with replay := some { r with broken := true } }
    else
      let parts := r.parts ++ [plain.drop 16]
      if parts.length < cnt then s.onSealed fun x => { x with replay := some { r with parts := parts } }
      else (s.onSealed fun x => { x with replay := some { r with parts := [] } }).applyBody stream (getLE 0 8 plain) parts.flatten

/-! ### Replay -/

/-- Begin to read the first of the streams left, from the place that sealed NOR holds for it (R80, log 24), or from the stream's beginning
when a checkpoint is adopted (log 138). -/
def State.beginRead (s : State) (streams : List Nat) (ckptTxn : Nat) (adopt : Option Nat := none) : State :=
  let n := streams.headD 1
  let st := s.sealedDie.streams.getD (n - 1) {}
  let at_ : SealPos := if adopt.isSome then {} else st.base
  let r : Replay := {
    streams := streams, ckptTxn := ckptTxn, tag := at_.tag, epoch := at_.epoch, next := at_.next
    reached := adopt.isNone && decide (st.aTag = st.base.tag), adopt := adopt }
  (s.onSealed fun y => { y with replay := some r }).requestRead n at_.epoch at_.next

/-- Whether the sealed die has the supply to run: not in HOLD, OFF or without supplies (R425, R429). -/
def State.sealedFed (s : State) : Bool :=
  match s.power.state with
  | .run | .idle | .starting => true
  | _ => false

/-- The stamp latches that changed in OFF are counted at the start, with the level that stands then (R77, R427). -/
def State.latchOffStamps (s : State) : State :=
  ([0, 1].filter (fun i => s.sealedDie.stampOff.getD i false)).foldl (fun t i =>
    t.onSealed fun x => let y := x.countStamp i
      { y with stampOff := y.stampOff.set i false, stampOwed := y.stampOwed ++ [(i, y.stamps.getD i true, y.stampCount.getD i 0)] }) s

/-- SEALED_DIE_START: the sealed die starts after its crystal counted `offNs` ns since it last ran; it reads its streams back,
checkpoints first. -/
def State.sealedStart (s : State) (offNs : Nat) : State :=
  if s.sealedDie.running ∨ !s.sealedFed then s
  else
    let x := s.sealedDie
    let s1 := s.onSealed fun y => { y with
      running := true, started := false, elapsed := y.elapsed + offNs, tempReads := 0, pcc := y.pcc + 1, pfw := false, storeFault := false, temps := []
      outSeq := 0, outBuf := [], readingQ := [], recordQ := [], imageQ := [], batch := {}, signing := [], txns := [], reasm := [], fwPartial := none
      refusedRecs := [], ckptLeft := 0, bucketSpent := [], bucketSuppressed := [], graceSince := some (y.elapsed + offNs), discNext := none, lastOffer := none
      calFrozen := false, lastCkptElapsed := y.elapsed + offNs, noEndpoint := []
      markClose := y.norMarks.getD 0 none, markSnapshot := y.norMarks.getD 1 none, markActivation := y.norMarks.getD 2 none
      eps := y.eps.mapVals fun _ e => e.nor y.period }
    let s1b := (s1.applyMetroStaged).latchOffStamps
    let s2 := s1b.onGate fun g => { g with
      up := s.openRuns && s.host.phase ≠ 3, inExpected := 0, inNext := 0, unanswered := [], admitted := [], units := [], storeResults := [], acks := [], readReturns := []
      ackRegister := none, outPlaced := none }
    let s3 := s2.onMetro fun m => { m with
      startElapsed := x.elapsed + offNs, firstAfterStart := true, powerInterrupted := m.powerInterrupted || decide (0 < x.pcc), samples := 0
      phases := [{}, {}, {}], feeders := List.replicate 12 {}, zxMsg := [], nextEnd := none, nominalHz := s1b.ms 1, filters := List.replicate 20 {}, owed := []
      testSeen := false, residualSum := [0, 0, 0, 0], vneSum := 0, neutralCycles := 0, peaks := List.replicate 20 0 }
    let d := le 1 2 ++ zeros 3 ++ le 4 0
    let s4 := ((s3.raise 34 d).raiseSealed 34 d).beginRead [2, 1, 3, 4] 0
    let s5 := (s4.closeSession 4).onCp fun c => { c with
      replaceNext := Tab.keys c.current
      preStart := ((s.queue 48).pkts ++ (s.queue 58).pkts).map Packet.body }
    if x.timeState = .invalid then s5.raiseSealed 44 (le 8 x.lastRecorded) else s5.metroTimeSet

def execSealedDieStart (offNs : Nat) (s : State) : Host.Outcome State Fault Refusal := .next (s.sealedStart offNs)

/-- Replay is over (R157, R170, R186): the stamp changes owed, the RESTART transaction with the CURRENT records, missed boundaries, the
start anchor, the identification; in STORE_FAULT the anchored state is kept. The anchor of a start with valid time (R82) is written in
PROVISIONAL too: DESIGN CHOICE (log 147). -/
def State.replayDone (s : State) : State :=
  let fault := s.sealedDie.storeFault
  let x := s.sealedDie
  let s1 := s.onSealed fun y => { y with
    replay := none, started := true, stampOwed := []
    markClose := y.norMarks.getD 0 none, markSnapshot := y.norMarks.getD 1 none, markActivation := y.norMarks.getD 2 none
    lastMinute := s.sealedSec / 60 }
  let s1b := x.stampOwed.foldl (fun t o => t.reportStamp o.1 o.2.1 o.2.2) s1
  let s2 := if x.timeState = .invalid then s1b else s1b.sealedAnchor 0x0110
  if fault then s2.identify
  else
    let eixs := Tab.keys s2.sealedDie.eps
    let s3 := eixs.foldl (fun t e => t.markEmitted e) s2
    let s4 := s3.transact 6 0 [] (eixs.map s3.currentItem) eixs
    let s5 := if s4.calendarRuns then (s4.catchUp true).1 else s4
    s5.identify

/-- One record read back: its place in the chain, its tag, its content (R79, R80, R186). While a checkpoint is adopted, the records before
its epoch only carry their clear tags on, and of stream 2 only the records of that epoch are applied (log 138). -/
def State.replayRecord (s : State) (stream : Nat) (b : Bytes) : State :=
  match s.sealedDie.replay with
  | none => s
  | some r =>
    let st := s.sealedDie.streams.getD (stream - 1) {}
    let ep := getLE 8 8 b
    let no := getLE 16 8 b
    let n := getLE 24 4 b
    let tag := slice (28 + n) 16 b
    let before := r.adopt.any (fun e => decide (ep < e))
    let first := r.adopt.isSome && !r.reached
    let follows := first || decide (ep = r.epoch ∧ no = r.next) || (decide (r.epoch < ep) && decide (no = 0))
    let key := shake 32 (Config.factoryKey 4 ++ le 2 stream ++ le 8 ep)
    let plain := Config.gcmOpen 16 key (le 8 no ++ zeros 4) (b.take 28 ++ r.tag) (slice 28 (n + 16) b)
    let here := if r.adopt.isSome then !before else decide (ep = st.aEpoch) && decide (no + 1 = st.aNext) && decide (tag = st.aTag)
    let beyond := r.reached && r.adopt.isNone
    let set := fun (t : State) (f : Replay → Replay) => t.onSealed fun x => { x with replay := x.replay.map f }
    let next := fun (q : Replay) => { q with
      epoch := ep, next := no + 1, tag := tag, reached := r.reached || here, tail := if beyond then q.tail + 1 else q.tail, got := q.got + 1 }
    if r.broken && r.adopt.isSome then s
    else if before then set s next
    else if !follows ∨ !edgeOk b then set s fun q => { q with broken := true }
    else
      match plain with
      | none => set s fun q => { q with broken := true }
      | some p =>
        let s0 := if first then s.onSealed fun x => { x with streams := x.streams.set (stream - 1) { st with base := { epoch := ep, next := no, tag := r.tag } } } else s
        let s1 := if stream = 3 then s0.onMetro fun m => m.restore p
          else if stream = 1 ∨ (stream = 2 ∧ r.adopt.all (fun e => decide (ep = e))) then s0.replayPart stream p else s0
        set s1 next

/-- Records of the critical mirror ring that are newer than the chain just read (R356). -/
def State.replayRing (s : State) (stream : Nat) : State :=
  (s.sealedDie.mirrorRing.filter (fun b => getLE 4 2 b = stream)).foldl (fun t b =>
    match t.sealedDie.replay with
    | some r => if r.epoch < getLE 8 8 b ∨ (r.epoch = getLE 8 8 b ∧ r.next ≤ getLE 16 8 b) then t.replayRecord stream b else t
    | none => t) s

/-- A stream has been read to its end (R80): events 42 and 43, then the next stream or the end of the replay. -/
def State.streamEnd (s0 : State) (stream : Nat) : State :=
  let s := s0.replayRing stream
  match s.sealedDie.replay with
  | none => s
  | some r =>
    let st := s.sealedDie.streams.getD (stream - 1) {}
    let bad := if r.adopt.isSome then stream = 2 && !r.reached else r.broken || !r.reached
    let s1 := if bad then (s.onSealed fun x => { x with storeFault := true }).raiseSealed 42 (le 1 stream ++ leI 7 st.aEpoch)
      else if 0 < r.tail then s.raiseSealed 43 (le 1 stream ++ le 4 r.tail) else s
    let st0 : SealStream := { st with
      tag := r.tag, epoch := max st.epoch r.epoch, next := if st.epoch ≤ r.epoch then r.next else 0
      cEpoch := r.epoch, cNext := r.next, cTag := r.tag }
    let st' : SealStream := if r.adopt.isSome then
        { st0 with epoch := max st.epoch r.epoch + 1, next := 0, aEpoch := r.epoch, aNext := r.next, aTag := r.tag } else st0
    let s2 := if bad then s1 else s1.onSealed fun x => { x with streams := x.streams.set (stream - 1) st' }
    let done := fun (t : State) => (t.onGate fun g => { g with readOpen := none }).replayDone
    if bad ∧ r.adopt.isSome then done s2
    else match r.streams.drop 1 with
      | [] => done (if r.adopt.isSome then s2.onSealed fun x => { x with storeFault := false } else s2)
      | rest => s2.beginRead rest r.ckptTxn r.adopt

/-- READ_RETURN_UNIT: the filter and the sealed core take one return (R67). -/
def State.readReturn (s : State) : State :=
  match s.gate.readReturns with
  | [] => s
  | b :: rest =>
    let s1 := s.onGate fun g => { g with readReturns := rest }
    match s1.gate.readOpen with
    | none => s1
    | some q =>
      if b.isEmpty then
        if q.left = 0 then
          match s1.sealedDie.replay with
          | some r => s1.requestRead q.stream r.epoch r.next
          | none => s1
        else s1.streamEnd q.stream
      else if b.take 4 = ascii "SLSR" ∧ getLE 4 2 b = q.stream ∧ getLE 24 4 b + 48 = b.length ∧ 0 < q.left then
        (s1.onGate fun g => { g with readOpen := some { q with left := q.left - 1 } }).replayRecord q.stream b
      else
        (s1.onSealed fun x => { x with replay := x.replay.map fun r => { r with broken := true } }).streamEnd q.stream

def execReadReturnUnit (s : State) : Host.Outcome State Fault Refusal := .next s.readReturn

/-! ### Checkpoints (R67, R80, R186) -/

/-- Write the anchors at what the store has committed, and record the sealed time (R73, R80). -/
def State.writeAnchors_ (s : State) : State :=
  s.onSealed fun x => { x with
    streams := x.streams.zipIdx.map fun p => { p.1 with
      aEpoch := p.1.cEpoch, aNext := p.1.cNext, aTag := p.1.cTag, base := if p.2 < 2 then p.1.base else p.1.before }
    lastRecorded := if x.timeState = .invalid then x.lastRecorded else s.sealedSec }

/-- A checkpoint: every stream's epoch advances, the anchors are written, the records of stream 2 leave. -/
def State.checkpoint (s : State) : State :=
  let x := s.sealedDie
  let s1 := s.writeAnchors_.onSealed fun y => { y with
    streams := y.streams.map fun st => { st with epoch := st.epoch + 1, next := 0, writing := { epoch := st.aEpoch, next := st.aNext, tag := st.aTag } }
    lastCkptElapsed := y.elapsed, txnSinceCkpt := 0 }
  let items := jItem 0x11 (le 4 x.period) :: x.eps.map (fun p => ckptItem p.1 p.2)
  let bodies := packParts (65472 - 16) items
  let parts := bodies.zipIdx.map (fun p => le 8 x.txnNext ++ le 2 p.2 ++ le 2 bodies.length ++ zeros 4 ++ p.1)
  parts.foldl (fun t p => t.writeSealed 2 p) (s1.onSealed fun y => { y with ckptLeft := y.ckptLeft + parts.length })

/-- SEALED_CHECKPOINT: checkpoint_s has passed, or 131,072 transactions since the last one. -/
def State.checkpointDue (s : State) : Bool :=
  s.sealedDie.running && s.sealedDie.started && !s.sealedDie.storeFault && !s.corePaused &&
    (decide (s.sealedDie.lastCkptElapsed + s.svN 0x3001 4 * 1000000000 ≤ s.sealedDie.elapsed) || decide (131072 ≤ s.sealedDie.txnSinceCkpt))

def execSealedCheckpoint (s : State) : Host.Outcome State Fault Refusal := .next (if s.checkpointDue then s.checkpoint else s)

/-- The last record of a checkpoint has been committed: RELEASE for streams 1 and 2 with the epoch in force when the previous
checkpoint began (R67). That epoch is taken as the one after the previous checkpoint's own advance, under which its records stand, and is noted
when its last record is committed: DESIGN CHOICE (log 148). -/
def State.checkpointCommitted (s : State) : State :=
  let prev := s.sealedDie.prevCkptEpochs
  let s1 := s.onGate fun g => { g with units := g.units ++ [.release 1 (prev.getD 0 0), .release 2 (prev.getD 1 0)] }
  s1.onSealed fun x => { x with
    prevCkptEpochs := [(x.streams.getD 0 {}).epoch, (x.streams.getD 1 {}).epoch]
    streams := x.streams.zipIdx.map fun p => if p.2 < 2 then { p.1 with base := p.1.writing } else p.1 }

/-! ### Units received (R66, R67) -/

/-- The message under a sequence leaves the output buffer. -/
def State.freeOut (s : State) (sq : Nat) : State := s.onSealed fun x => { x with outBuf := x.outBuf.filter (fun m => decide (m.seq ≠ sq)) }

/-- One ACK (R66): the message is freed; a SEALED_RECORD stays until its STORE_RESULT. -/
def State.ackOut (s : State) (sq : Nat) : State :=
  match s.sealedDie.outBuf.find? (fun m => m.seq = sq) with
  | some m =>
    if m.kind = 0x8A then s.onSealed fun x => { x with outBuf := x.outBuf.map fun q => if q.seq = sq then { q with acked := true } else q }
    else (s.freeOut sq).drainOut
  | none => s

/-- ACK_UNIT. -/
def execAckUnit (s : State) : Host.Outcome State Fault Refusal :=
  .next (match s.gate.acks with
    | a :: rest => (s.onGate fun g => { g with acks := rest }).ackOut a
    | [] => s)

/-- The critical mirror ring holds 16 MiB; its oldest records go first (R78, log 149). -/
def trimRing : List Bytes → List Bytes
  | [] => []
  | b :: t => if ((b :: t).map (·.length)).sum ≤ 2 ^ 24 then b :: t else trimRing t

/-- The outcome of a sealed record (R67, R185, R356): while the store is FROZEN the record goes to the critical mirror ring. -/
def State.takeResult (s : State) (r : StoreResult) : State :=
  match s.sealedDie.outBuf.find? (fun m => m.seq = r.seq && m.kind = 0x8A) with
  | none => s
  | some m =>
    let b := m.payload
    let stream := getLE 4 2 b
    let s1 := (s.freeOut r.seq).onSealed fun x => { x with
      mirrorRing := if r.storeState = 2 then trimRing (x.mirrorRing ++ [b]) else x.mirrorRing
      streams := if r.refused then x.streams else x.streams.set (stream - 1) (let st := x.streams.getD (stream - 1) {}
        { st with before := { epoch := st.cEpoch, next := st.cNext, tag := st.cTag }, cEpoch := getLE 8 8 b, cNext := getLE 16 8 b + 1, cTag := slice (28 + getLE 24 4 b) 16 b }) }
    let s2 := if m.txn.isSome then s1.partResult r.refused
      else if r.refused then s1.onSealed fun x => { x with refusedRecs := x.refusedRecs ++ [b] }
      else if stream = 2 ∧ 0 < s1.sealedDie.ckptLeft then
        let s3 := s1.onSealed fun x => { x with ckptLeft := x.ckptLeft - 1 }
        if s3.sealedDie.ckptLeft = 0 then s3.checkpointCommitted else s3
      else s1
    s2.drainOut

/-- STORE_RESULT_UNIT. -/
def execStoreResultUnit (s : State) : Host.Outcome State Fault Refusal :=
  .next (match s.gate.storeResults with
    | r :: rest => (s.onGate fun g => { g with storeResults := rest }).takeResult r
    | [] => s)

/-- SEALED_TEMPERATURE: the sealed die's sensor reads once per second (R87); the crystal has run at least as long (log 22). -/
def State.sealedTemperature (s : State) (centiC : Int) : State :=
  if !s.sealedDie.running then s
  else
    let k := s.sealedDie.tempReads + 1
    (s.sealedAdvance (s.metro.startElapsed + k * 1000000000)).onSealed fun x => { x with
      tempReads := k, tempCentiC := centiC, temps := (centiC :: x.temps).take 600 }

def execSealedTemperature (centiC : Int) (s : State) : Host.Outcome State Fault Refusal := .next (s.sealedTemperature centiC)

end Sys2Proof.Machine
end

