-- ==== Sys2Proof/Machine/GateRows.lean ====
section
/-! DEFINITION. The safelight gate: inbound messages and their responses, outbound messages and their acknowledgement, read
back of sealed records, link resets (R57 to R61, R66, R67), and what the open die does with a response (R81, R110, R272). -/

namespace Sys2Proof.Machine
open Sys2Proof

/-- Length limit of an inbound kind (R59). -/
def inboundLimit (kind : Nat) : Nat :=
  if kind = 1 then 2084 else if kind = 3 then 8192 else if kind = 4 then 48 else 262144

/-- Packet sequence that the next packet pushed on `q` gets, those that wait for credit counted. -/
def State.nextSeqOn (s : State) (q : Nat) : Nat :=
  ((s.queue q).nextSeq + (s.fabric.waiters.filter (·.queue = q)).length) % 2 ^ 32

/-- Work kinds of the commands that end with a response word (R81, R278): messages of GATE_TIME and of GATE_DOC, by the
packet sequence of the message. -/
abbrev workOffer : Nat := 6
abbrev workDoc : Nat := 7

/-! ### Inbound -/

/-- The head packet that the transmitter takes next: time offers, documents, meter APDUs (log 40). -/
def State.gateHead (s : State) : Option (Nat × Packet) :=
  ([18, 17, 16] : List Nat).findSome? fun q => (s.peekHead q).map fun p => (q, p)

/-- The inbound gate stamp (R259): NT plus link_delay. -/
def State.linkStamp (s : State) : Stamp :=
  let n := s.time.nt.addNs (Config.linkDelay % 65536 : Nat)
  { s.stampNow with sec := n.sec, ns := n.ns, frac := n.frac }

/-- The message as it is sent: its sequence, and in an offer the NT of its first header byte (R58, R70, R259). -/
def State.inboundBytes (s : State) (body : Bytes) : Bytes :=
  let b1 := putAt 8 (le 4 s.gate.inNext) body
  let offer := decide (getLE 0 1 body = 4) && bit (getLE 27 1 body) 0
  withEdge (if offer then putAt 12 (le 8 s.linkStamp.sec ++ le 4 s.linkStamp.ns) b1 else b1)

/-- A document on its way to the sealed die is kept until the sealed die's event says what became of it (R110, R165). -/
def State.noteSubmitted (s : State) (kind : Nat) (d : Bytes) : State :=
  if (kind = 2 ∨ kind = 5) ∧ !isSegment d ∧ !s.cp.submitted.contains d then s.onCp fun c => { c with submitted := c.submitted ++ [d] } else s

/-- GATE_TRANSMIT: one message at a time crosses the link (log 40). -/
def State.gateTransmit (s : State) : State :=
  if !s.gate.up ∨ !s.openRuns ∨ !s.gate.unanswered.isEmpty then s
  else
    match s.gateHead with
    | none => s
    | some (q, p) =>
      let b := s.inboundBytes p.body
      let s1 := if getLE 0 1 b = 4 then s.onTime fun t => { t with offerStamp := some s.linkStamp } else s
      (s1.noteSubmitted (getLE 0 1 b) ((b.drop 12).take (b.length - 16))).onGate fun g => { g with
        unanswered := [{ seq := g.inNext, kind := getLE 0 1 b, bytes := b, origin := q, key := p.seq }]
        wire := some b }

def execGateTransmit (s : State) : Host.Outcome State Fault Refusal := .next s.gateTransmit

/-- The gate hardware's checks on an inbound message, in order (R61): the failing check and its status. -/
def State.inboundRefusal (s : State) (b : Bytes) : Option (Nat × Nat) :=
  let kind := getLE 0 1 b
  let len := getLE 4 4 b
  let known := decide (1 ≤ kind) && decide (kind ≤ 5)
  let checks : List (Bool × Nat × Nat) := [
    (decide (len ≠ b.length) || (known && decide (inboundLimit kind < len)), 1, stBadLength),
    (!known || decide (getLE 1 1 b ≠ 1) || !zeroAt 2 2 b, 2, stBadField),
    (decide (getLE 8 4 b ≠ s.gate.inExpected), 3, stBadField),
    (!edgeOk b, 4, stBadField),
    (decide (kind = 1) && decide (2048 < s.outUsed true), 5, stNoCredit)]
  (checks.find? (·.1)).map (·.2)

/-- GATE_INBOUND_MESSAGE: the gate admits the message on the link or refuses it with one response word (R61). `received` is
what arrives when it differs from what was sent; a message whose edge code fails is quarantined on the open side, as it was sent (R16, log 155). -/
def State.gateInbound (s : State) (received : Option Bytes) : State :=
  match s.gate.wire with
  | none => s
  | some w =>
    if !s.sealedDie.running then s
    else
      let b := received.getD w
      let kind := getLE 0 1 b
      let sq := getLE 8 4 b
      let s1 := s.onGate fun g => { g with wire := none }
      match s1.inboundRefusal b with
      | none => s1.onGate fun g => { g with
          inExpected := (g.inExpected + 1) % 2 ^ 32
          admitted := g.admitted ++ [{ seq := sq, kind := kind, bytes := b, origin := 0, key := 0 }] }
      | some (k, st) =>
        let s2 := s1.onGate fun g => { g with
          units := g.units ++ [.response sq st]
          refusals := g.refusals.upd st 0 (· + 1)
          noCreditRefused := if k = 5 then g.noCreditRefused + 1 else g.noCreditRefused }
        if k ≤ 3 then s2.raiseSealed 32 (le 1 kind ++ le 2 st ++ le 4 sq)
        else if k = 4 then (s2.raiseSealed 33 (le 1 0 ++ le 1 kind ++ le 4 sq)).quarantineRecord w
        else s2

def execGateInboundMessage (received : Option Bytes) (s : State) : Host.Outcome State Fault Refusal := .next (s.gateInbound received)

/-! ### Responses -/

/-- What the open die's time unit makes of the answer to an offer (R272, R273). -/
def State.offerAnswered (s : State) (status : Nat) : State :=
  let ms := s.time.outstanding.getD s.deltaMs
  if status = stDone then
    s.onTime fun t => { t with
      offers := (t.offers.filter (fun p => decide ((s.power.ot : Int) < p.1 + 86400))) ++ [((s.power.ot : Int), ms)]
      lastAccepted := some s.power.ot, outstanding := none, largeRaised := false, firstOffer := false }
  else
    (s.onTime fun t => { t with outstanding := none }).raise 152 (le 2 status ++ le 2 0 ++ leI 4 (msOf s.deltaHat))

/-- RESPONSE_UNIT: the answer to the message that is unanswered (R61). After NO_CREDIT the packet stays queued (R49); after any
other answer it is released and the command that waits for it ends (R81). -/
def State.responseUnit (s : State) : State :=
  match s.gate.units.findSome? (fun u => match u with
      | .response sq st => some (sq, st)
      | _ => none) with
  | none => s
  | some (sq, st) =>
    let s1 := s.onGate fun g => { g with units := g.units.erase (.response sq st) }
    match s1.gate.unanswered with
    | [] => s1
    | m :: _ =>
      let s2 := s1.onGate fun g => { g with unanswered := [], inNext := g.inExpected }
      if st = stNoCredit then s2
      else
        let s3 := (s2.takeHead m.origin).2
        let p := m.payload
        let s4 :=
          if m.kind = 4 ∧ bit (getLE 15 1 p) 0 then s3.offerAnswered st else s3
        if m.origin = 18 then s4.finish workOffer m.key st []
        else if m.origin = 17 then s4.finish workDoc m.key st []
        else s4

def execResponseUnit (s : State) : Host.Outcome State Fault Refusal := .next s.responseUnit

/-! ### Outbound -/

/-- Acknowledge an outbound message (R66). -/
def State.ackOutbound (s : State) (sq : Nat) : State :=
  s.onGate fun g => { g with acks := g.acks ++ [sq], ackRegister := some sq, outPlaced := none }

/-- The gate receiver's placed message has been granted its cells: it is acknowledged (R66). -/
def State.settlePlaced (s : State) : State :=
  match s.gate.outPlaced with
  | some sq => if s.fabric.waiters.any (·.producer = 12) then s else s.ackOutbound sq
  | none => s

/-- The queue of an outbound kind (R321). -/
def outboundQueue (kind : Nat) : Nat := if kind = 0x8A then 65 else 48

/-- The next outbound message is sent, checked, queued and acknowledged (R66); `damaged` says that its edge code fails at the
receiver: event 33, quarantine (R16, log 155), and no acknowledgement. -/
def State.gateOutbound (s0 : State) (damaged : Bool) : State :=
  let s := s0.settlePlaced
  if !s.gate.up ∨ !s.openRuns ∨ !s.sealedDie.running ∨ s.gate.outPlaced.isSome then s
  else
    match s.sealedDie.outBuf.find? (fun m => !m.sent) with
    | none => s
    | some m =>
      let s1 := s.onSealed fun x => { x with outBuf := x.outBuf.map fun q => if q.seq = m.seq then { q with sent := true } else q }
      let seen : Bool := match s.gate.ackRegister with
        | some a => decide (m.seq ≤ a)
        | none => false
      if damaged then (s1.raise 33 (le 1 1 ++ le 1 m.kind ++ le 4 m.seq)).quarantineRecord (gateMsg m.kind m.seq m.payload)
      else if seen then s1
      else
        let s2 := s1.send 12 (outboundQueue m.kind) (gateMsg m.kind m.seq m.payload)
        (s2.onGate fun g => { g with outPlaced := some m.seq }).settlePlaced

def execGateOutboundReceive (damaged : Bool) (s : State) : Host.Outcome State Fault Refusal := .next (s.gateOutbound damaged)

/-! ### Reading back and releasing -/

/-- Whether a sealed record lies at or after an epoch and record number. -/
def sealedFrom (epoch recNo : Nat) (d : Bytes) : Bool :=
  decide (epoch < getLE 8 8 d) || (getLE 8 8 d = epoch && decide (recNo ≤ getLE 16 8 d))

/-- READ_REQUEST_UNIT: the storage manager answers from the matching stream, then an end mark (R67). -/
def State.readRequest (s : State) : State :=
  match s.gate.units.findSome? (fun u => match u with
      | .readRequest st e r c => some (st, e, r, c)
      | _ => none) with
  | none => s
  | some (st, e, r, c) =>
    if !s.store.mapReady ∨ !s.openRuns then s
    else
      let recs := ((s.streamRecs (st + 1)).map (·.data)).dropWhile (fun d => !sealedFrom e r d)
      s.onGate fun g => { g with units := g.units.erase (.readRequest st e r c), readReturns := g.readReturns ++ recs.take c ++ [[]] }

def execReadRequestUnit (s : State) : Host.Outcome State Fault Refusal := .next s.readRequest

/-- RELEASE_UNIT (R67, R336). -/
def State.releaseUnit (s : State) : State :=
  match s.gate.units.findSome? (fun u => match u with
      | .release st e => some (st, e)
      | _ => none) with
  | none => s
  | some (st, e) =>
    if !s.openRuns then s else (s.onGate fun g => { g with units := g.units.erase (.release st e) }).releaseEpoch st e

def execReleaseUnit (s : State) : Host.Outcome State Fault Refusal := .next s.releaseUnit

/-! ### Link resets -/

/-- What the sealed die still holds after the open die has reported its register (R66): the messages to send again under
their own sequences, and the sealed records that go again under new ones. -/
def Sealed.afterReport (x : Sealed) (reg : Option Nat) : Sealed × Nat :=
  let acked := fun (m : OutMsg) => m.acked || (match reg with
    | some a => decide (m.seq ≤ a)
    | none => false)
  let anew := x.outBuf.filter (fun m => m.kind = 0x8A && acked m)
  let held := x.outBuf.filter (fun m => !acked m)
  let again := (held.filter (·.sent)).length + anew.length
  let renum := anew.zipIdx.map fun p => { p.1 with seq := (x.outSeq + p.2) % 2 ^ 32, sent := false, acked := false }
  ({ x with outBuf := held.map (fun m => { m with sent := false }) ++ renum, outSeq := (x.outSeq + anew.length) % 2 ^ 32 }, again)

/-- A read request that is outstanding is made again from the next record wanted (log 41). -/
def State.requestAgain (s : State) : State :=
  match s.gate.readOpen, s.sealedDie.replay with
  | some q, some r => s.requestRead q.stream r.epoch r.next
  | _, _ => s

/-- The gate link resets and retrains (R66): event 34 on both sides (R366, log 51), criterion GATE of a proving generation (R473). -/
def State.linkReset (s : State) (cause : Nat) : State :=
  if !s.sealedDie.running then s.onGate fun g => { g with up := false }
  else
    let (x, again) := s.sealedDie.afterReport s.gate.ackRegister
    let s1 := { s with sealedDie := x }
    let s2 := (s1.onGate fun g => { g with
      up := s.openRuns && s.host.phase ≠ 3, inExpected := 0, inNext := 0, unanswered := [], admitted := [], wire := none
      units := g.units.filter (fun u => match u with
        | .release _ _ => true
        | _ => false)
      storeResults := [], acks := [], readReturns := [], outPlaced := none, resetsSeen := g.resetsSeen + 1 }).onFabric
        fun f => { f with waiters := f.waiters.filter (fun w => w.producer ≠ 12) }
    let d := le 1 cause ++ zeros 3 ++ le 4 again
    let s3 := ((s2.requestAgain.raiseSealed 34 d).drainOut).raise 34 d
    if s3.cfg.genState = .proving ∧ !s3.cfg.paused then
      let s4 := s3.onCfg fun c => { c with gateResets := c.gateResets + 1 }
      if s4.proveCfg 3 < s4.cfg.gateResets then s4.criterionFails 3 else s4
    else s3

/-- GATE_LINK_RESET, by a lane that failed training or a link control unit that failed its check (causes 3 and 4). -/
def execGateLinkReset (cause : Nat) (s : State) : Host.Outcome State Fault Refusal := .next (s.linkReset cause)

end Sys2Proof.Machine
end

