-- ==== Sys2Proof/Machine/TableRows.lean ====
section
/-! DEFINITION. The rows of the endpoint tables: lookups, aging, proofing, rehash, the command-register operations and the
table commands (R291 to R311). -/

namespace Sys2Proof.Machine
open Sys2Proof

/-- Work kind of a rehash (R300). -/
abbrev workRehash : Nat := 5

/-- An ECC correction is counted; event 165 at most once per 60 s (R293). -/
def State.tblCorrected (s : State) : State :=
  let s1 := s.onTbl fun t => { t with eccCorrected := t.eccCorrected + 1, eccSince := t.eccSince + 1 }
  if s1.eventDue 60 165 0 then (s1.raiseEvery 60 165 0 (le 4 s1.tbl.eccSince)).onTbl fun t => { t with eccSince := 0 } else s1

/-- A double-bit error (R293): event 164; the entry is rewritten from the shadow, or stays damaged. -/
def State.wordFault (s : State) (region pos : Nat) : State :=
  let rep := s.cfgN 0x7000 7
  let s1 := s.onTbl fun t => { t with
    eccFaults := t.eccFaults + 1
    damaged := if rep = 1 then t.damaged.erase (region, pos) else (t.damaged ++ [(region, pos)]).eraseDups }
  s1.raise 164 (le 1 region ++ le 1 rep ++ zeros 2 ++ le 4 pos)

/-- A lookup that met a double-bit error answers FAULT; its frame is discarded (R293). -/
def State.tblFault (s : State) (region pos : Nat) : State :=
  (s.onTbl fun t => { t with frameDiscards := t.frameDiscards + 1, last := .fault }).wordFault region pos

/-- The entry that a lookup reads: region and position. -/
def State.lookupTarget (s : State) (kind : Nat) (key : Bytes) : Nat × Nat :=
  if kind = 0 then (0, (s.tbl.findEui key).getD 0)
  else if kind = 1 then (2, getLE 0 1 key * 65536 + getLE 2 2 key)
  else (4, (s.lpm key).getD 0)

/-- A lookup's answer once the pipelines agree. -/
def State.lookupAnswer (s : State) (kind : Nat) (key : Bytes) (port cost stamp ecc : Nat) : State :=
  let (region, pos) := s.lookupTarget kind key
  let s1 := if ecc = 1 then s.tblCorrected else s
  if 2 ≤ ecc ∨ s.tbl.damaged.contains (region, pos) then s1.tblFault region pos
  else if kind ≤ 1 then (s1.resolve kind key port cost stamp).1
  else (s1.lookupPrefix key port).1

/-- One lookup (R291, R292, R518): `kind` 0 exact, 1 direct, 2 prefix; `mismatches` is how many of its attempts differ between
the two units of a pair, `ecc` the worst error of the words it reads. With no pipeline in service, of which the rule says nothing, every lookup is
dropped (log 173). -/
def State.lookup (s : State) (kind : Nat) (key : Bytes) (port cost stamp mismatches ecc : Nat) : State :=
  let n := s.fog.lookups + 1
  let ppm := s.fogN 4
  let perturbed := decide (n * ppm % 1000000 < ppm)
  let both := s.tbl.pipes.all id
  let pipe := if both then s.tbl.turn else (s.tbl.pipes.idxOf true)
  let s0 := (s.onFog fun f => { f with lookups := n }).onTbl fun t => { t with turn := if both then 1 - t.turn else t.turn }
  let drop := fun (t : State) =>
    let t1 := t.onTbl fun x => { x with lookupsDropped := x.lookupsDropped + 1, frameDiscards := x.frameDiscards + 1, last := .dropped }
    t1.raise 172 (le 1 pipe ++ zeros 3 ++ le 4 t1.tbl.lookupsDropped)
  let s1 := if perturbed ∨ 1 ≤ mismatches then s0.raise 160 (le 1 pipe ++ le 1 kind ++ le 1 1) else s0
  if !s.tbl.pipes.any id then drop s0
  else if mismatches < 2 then s1.lookupAnswer kind key port cost stamp ecc
  else
    let s2 := s1.raise 160 (le 1 pipe ++ le 1 kind ++ le 1 2)
    if both then
      ((s2.onTbl fun t => { t with pipes := t.pipes.set pipe false }).raise 163 (le 1 pipe ++ le 1 1)).lookupAnswer kind key port cost stamp ecc
    else drop s2

/-- What a lookup found: the EIX of its hit, if any, BLOCKED or not. -/
def LookupResult.eix? (l : LookupResult) : Option Nat :=
  match l with
  | .hit e => Option.some e
  | .blocked e => Option.some e
  | _ => Option.none

/-- The source of a frame, looked up (R27, R294). -/
def State.lookupSource (s : State) (kind : Nat) (key : Bytes) (port cost stamp : Nat) : State × Option Nat :=
  let s1 := s.lookup kind key port cost stamp 0 0
  (s1, s1.tbl.last.eix?)

def execLookup (kind : Nat) (key : Bytes) (port cost stamp mismatches ecc : Nat) (s : State) : Host.Outcome State Fault Refusal :=
  .next (s.lookup kind key port cost stamp mismatches ecc)

/-- notice_ttl_s passes over a notice that waits for the host: it is released (R296). -/
def State.noticeTtl (s : State) (number : Nat) : State :=
  match s.tbl.notices.find? (fun p => p.2.number = number) with
  | some (slot, n) =>
    if n.eix = noEix ∧ n.otSince + s.cfgN 0x7000 4 ≤ s.power.ot then s.onTbl fun t => t.release slot else s
  | none => s

def execNoticeTtlExpiry (number : Nat) (s : State) : Host.Outcome State Fault Refusal := .next (s.noticeTtl number)

/-- An aging pass over the directory (R297, R298): marks and removals. -/
def Tbl.agePass (t : Tbl) : Tbl × Nat × Nat :=
  let visited := t.dir.filter (fun p => p.2.port ≠ 0xF && !bit p.2.flags 2)
  let gone := (visited.filter (fun p => bit p.2.flags 1)).map (·.1)
  let fresh := (visited.filter (fun p => !bit p.2.flags 1)).map (·.1)
  let t1 := fresh.foldl (fun x e => { x with dir := x.dir.adj e fun d => { d with flags := setBit d.flags 1 true } }) t
  let t2 := gone.foldl Tbl.unbind t1
  let aged := t2.pfx.filter (fun p => bit p.2.flags 2)
  let pGone := (aged.filter (fun p => bit p.2.flags 1)).map (·.1)
  let pFresh := (aged.filter (fun p => !bit p.2.flags 1)).map (·.1)
  let t3 := pFresh.foldl (fun x k => { x with pfx := x.pfx.adj k fun d => { d with flags := setBit d.flags 1 true } }) t2
  (pGone.foldl Tbl.dropPfx t3, fresh.length + pFresh.length, gone.length + pGone.length)

/-- age_pass_s of OT has passed: an aging pass, event 169 (R297). -/
def State.agingPass (s : State) : State :=
  if s.cfgN 0x7000 0 = 1 ∧ s.tbl.lastPassOt + s.cfgN 0x7000 1 ≤ s.power.ot then
    let (t, m, r) := s.tbl.agePass
    (s.onTbl fun _ => { t with lastPassOt := s.power.ot, lastPass := (m, r) }).raise 169 (le 4 m ++ le 4 r)
  else s

def execAgingPass (s : State) : Host.Outcome State Fault Refusal := .next s.agingPass

/-- A position at which the memory differs from the shadow (R303): event 168, rewritten or left damaged under the proof_repair of the round (R310). -/
def State.proofMismatch (s : State) (region pos : Nat) : State :=
  let rep := if region = 5 then 1 else s.tbl.roundRepair.getD (s.cfgN 0x7000 7)
  let s1 := s.onTbl fun t => { t with
    proofErrors := t.proofErrors + 1
    damaged := if rep = 1 then t.damaged.erase (region, pos) else (t.damaged ++ [(region, pos)]).eraseDups }
  s1.raise 168 (le 1 region ++ le 1 rep ++ zeros 2 ++ le 4 pos)

/-- The proofing scan reads a group (R302): `upset` lists positions whose memory an upset has changed. The scan of the length
filter (region 5) clears the bits that no prefix requires and ends the round. -/
def State.proofingScan (s : State) (region group : Nat) (upset : List Nat) : State :=
  let known := (s.tbl.damaged.filter (fun d => d.1 = region ∧ s.tbl.groupOf region d.2 = group)).map (·.2)
  let s0 := s.onTbl fun t => { t with roundRepair := some (t.roundRepair.getD (s.cfgN 0x7000 7)) }
  let s1 := ((upset ++ known).eraseDups).foldl (fun t p => t.proofMismatch region p) s0
  if region = 5 then
    s1.onTbl fun t => { t with
      filter := (t.pfx.vals.filterMap (fun e => (s1.pfxSlotOf e.len).map (fun i => filterRange i e.len e.pfx))).eraseDups
      lastRound := (s1.power.ot, t.proofErrors), proofErrors := 0, roundRepair := none }
  else s1

def execProofingScan (region group : Nat) (upset : List Nat) (s : State) : Host.Outcome State Fault Refusal :=
  .next (s.proofingScan region group upset)

/-- The bytes that stand at a position of a region of the table state stream: a table's, the mirror's, a campaign's or a member's (R110,
R301, R401). -/
def State.shadowImage (s : State) (region pos : Nat) : Option Bytes :=
  if region = regMirror then s.cp.mirror.get? pos
  else if region = regProvisioned then s.cp.provisioned.get? pos
  else if region = regCampaign then (s.camps.get? pos).map (·.image)
  else if region = regMember then ((s.camps.get? (pos / 2 ^ 18)).bind fun x => x.members.get? (pos % 2 ^ 18)).map (·.image)
  else s.tbl.image region pos

/-- Changed shadow entries go to the table state stream (R301). -/
def State.shadowCommit (s : State) : State :=
  (s.tbl.dirty.foldl (fun t d => t.send 11 68 (tablePacket d.1 d.2 (t.shadowImage d.1 d.2))) s).onTbl fun t => { t with dirty := [] }

def execShadowCommit (s : State) : Host.Outcome State Fault Refusal := .next s.shadowCommit

/-- The rebuild of R300 places every entry, or fails. -/
def State.rebuilt (s : State) (r : Rebuild) : Option Tbl :=
  let t := s.tbl
  if r.table = 0 then
    (t.dir.keys.foldl (fun o e => o.bind (fun idx => placeDir r.seed0 r.seed1 t.euiOf idx e)) (some [])).map
      (fun idx => { t with index := idx, dirSeed0 := r.seed0, dirSeed1 := r.seed1 })
  else
    (t.pfx.vals.foldl (fun o e => o.bind (fun (p : Tab PfxEntry) =>
      (s.pfxSlotOf e.len).bind fun i => (placePfx r.seed0 (s.pfxSlotMask i) e.len p e.pfx).map (fun k => p.set k e))) (some [])).map
      (fun p => ({ t with pfx := p, pfxSeed := r.seed0 }).touch ((Tab.keys t.pfx ++ Tab.keys p).map (fun k => (4, k))))

/-- The rebuild ends: the new structure becomes active, or the old one stays (R300), event 167. -/
def State.rehashComplete (s : State) (us : Nat) : State :=
  match s.tbl.rebuild with
  | none => s
  | some r =>
    let res := s.rebuilt r
    let st := if res.isSome then stDone else stRehashNeeded
    let s1 := s.onTbl fun t => { (res.getD t) with rebuild := none }
    (s1.raise 167 (le 1 r.table ++ le 1 0 ++ le 2 st ++ le 4 us)).finish workRehash r.table st []

def execRehashComplete (us : Nat) (s : State) : Host.Outcome State Fault Refusal := .next (s.rehashComplete us)

/-! ### The command-register operations (R304 to R308) -/

/-- Whether a kind allows an operation (R306). -/
def kindAllows (kind op : Nat) : Bool :=
  match kind with
  | 0 => decide (1 ≤ op) && decide (op ≤ 6)
  | 1 => op = 1 || op = 3
  | 2 => op = 1 || op = 4 || op = 5
  | 3 => decide (1 ≤ op) && decide (op ≤ 5)
  | 4 => op = 1
  | 5 => op = 1 || op = 3 || op = 4 || op = 5
  | _ => false

/-- What is stored at a position of a kind: its key, its port for the filter, its image. -/
def Tbl.entryAt (t : Tbl) (kind pos : Nat) : Option (Nat × Nat × Bytes) :=
  match kind with
  | 0 => (t.dir.get? pos).map (fun e => (pos, e.port, e.bytes))
  | 2 => (t.direct.get? pos).map (fun e => (pos, pos / 65536, directBytes e))
  | 3 => (t.pfx.get? pos).map (fun e => (pos, e.result / 2 ^ 18 % 16, e.bytes))
  | 5 => (t.notices.get? pos).map (fun n => (n.number, ((n.sightings.head?).map (·.port)).getD 0xF, n.bytes))
  | _ => none

/-- The position that a READ or DELETE names (R306). -/
def State.tblPosition (s : State) (r : TblRegs) (kind : Nat) : Option Nat :=
  match kind with
  | 0 => some (r.key % 2 ^ 18)
  | 1 => s.tbl.findEui (r.data.take 8)
  | 2 => some (r.key % 2 ^ 19)
  | 3 => (s.pfxSlotOf (getLE 16 1 r.data)).bind (fun i => s.tbl.findPfx (s.pfxSlotMask i) (getLE 16 1 r.data) (r.data.take 16))
  | 5 => (s.tbl.notices.find? (fun p => p.2.number = r.key % 65536)).map (·.1)
  | _ => none

/-- READ (R306). -/
def State.opRead (s : State) (r : TblRegs) (kind : Nat) : State × TblRegs :=
  if kind = 4 then
    let eix := (s.member.getD 0) * 16384 + r.key % 16384
    match s.tbl.dir.get? eix with
    | some _ => (s, { r with status := stDone, data := padTo 32 (((s.tbl.windows.getD eix []).map (le 4)).flatten) })
    | none => (s, { r with status := stNotFound })
  else
    match (s.tblPosition r kind).bind (fun p => (s.tbl.entryAt (if kind = 1 then 0 else kind) p).map (fun e => (p, e))) with
    | some (p, _, _, img) =>
      (s, { r with status := stDone, data := padTo 32 img, cursor := if kind = 1 ∨ kind = 3 then p % 2 ^ 20 else r.cursor })
    | none => (s, { r with status := stNotFound })

/-- WRITE (R307). -/
def State.opWrite (s : State) (r : TblRegs) (kind : Nat) (replace : Bool) : State × TblRegs :=
  let (s1, st) := if kind = 0 then s.writeDir replace (r.key % 2 ^ 18) (r.data.take 24) else s.writePfx replace (r.data.take 24)
  (s1, { r with status := st })

/-- DELETE (R306). -/
def State.opDelete (s : State) (r : TblRegs) (kind : Nat) : State × TblRegs :=
  if kind ≠ 5 ∧ s.tbl.rebuild.isSome then (s, { r with status := stBusy })
  else
    match (s.tblPosition r kind).bind (fun p => (s.tbl.entryAt (if kind = 1 then 0 else kind) p).map (fun _ => p)) with
    | some p =>
      (s.onTbl (fun t => if kind = 5 then t.release p else if kind = 3 then t.dropPfx p else t.dropDir p), { r with status := stDone })
    | none => (s, { r with status := stNotFound })

/-- Positions of a kind in its own numbering. -/
def Tbl.kindPositions (t : Tbl) (kind : Nat) : List Nat :=
  match kind with
  | 0 => t.dir.keys
  | 2 => t.direct.keys
  | 3 => t.pfx.keys
  | 5 => t.notices.keys
  | _ => []

/-- SEARCH and NEXT (R306): the first valid entry from a position on that the port filter lets through. -/
def State.opSearch (s : State) (r : TblRegs) (kind from0 : Nat) : State × TblRegs :=
  let want := fun p => !bit r.key 4 || ((s.tbl.entryAt kind p).map (·.2.1)).getD 0xF = r.key % 16
  let ps := (s.tbl.kindPositions kind).filter (fun p => decide (from0 ≤ p))
  let skipped := (ps.takeWhile (fun p => !want p)).length
  match ps.find? want with
  | some p =>
    match s.tbl.entryAt kind p with
    | some (k, _, img) => (s, { r with
        status := stDone, count := skipped, cursor := p % 2 ^ 20, data := padTo 32 img, key := if kind = 3 then r.key else k })
    | none => (s, { r with status := stNotFound, count := skipped })
  | none => (s, { r with status := stNotFound, count := skipped })

/-- FLUSH_PORT (R306): event 170 with the entries unbound. -/
def State.opFlush (s : State) (r : TblRegs) (all : Bool) : State × TblRegs :=
  if s.tbl.rebuild.isSome then (s, { r with status := stBusy })
  else if 7 < r.key % 16 then (s, { r with status := stBadField })
  else
    let port := r.key % 16
    let es := (s.tbl.dir.filter (fun p => p.2.port = port && decide (port ≠ 0xF) && (all || !bit p.2.flags 2))).map (·.1)
    let s1 := s.onTbl fun t => es.foldl Tbl.unbind t
    (s1.raise 170 (le 1 port ++ zeros 3 ++ le 4 es.length), { r with status := stDone, count := es.length })

/-- One operation with the registers of an instance (R306): the registers as it leaves them. -/
def State.tblOperate (s : State) (r : TblRegs) : State × TblRegs :=
  let op := bits r.cmd 3 0
  let kind := bits r.cmd 7 4
  let mode := bit r.cmd 8
  if op = 0 ∨ 6 < op then (s, { r with status := stBadOpcode })
  else if !kindAllows kind op then (s, { r with status := stBadField })
  else
    match op with
    | 1 => s.opRead r kind
    | 2 => s.opWrite r kind mode
    | 3 => s.opDelete r kind
    | 4 => s.opSearch r kind r.cursor
    | 5 => s.opSearch r kind (r.cursor + 1)
    | _ => s.opFlush r mode

/-- The entry that READ, SEARCH or NEXT loaded: region and position (R305, R306). -/
def TblRegs.loaded (r : TblRegs) : Option (Nat × Nat) :=
  let kind := bits r.cmd 7 4
  if r.status ≠ stDone ∨ !(bits r.cmd 3 0 = 1 || bits r.cmd 3 0 = 4 || bits r.cmd 3 0 = 5) then none
  else match kind with
    | 0 => some (0, r.key % 2 ^ 18)
    | 1 => some (0, r.cursor)
    | 2 => some (2, r.key % 2 ^ 19)
    | 3 => some (4, r.cursor)
    | 4 => some (3, r.key % 16384)
    | _ => none

/-- One operation with the worst ECC error of the words it reads (R293): a corrected one is counted; an uncorrectable one raises event 164 and
answers from the shadow where that repairs the entry, otherwise INTERNAL_FAULT (log 173). -/
def State.tblOperateEcc (s : State) (r : TblRegs) (ecc : Nat) : State × TblRegs :=
  let (s1, r1) := s.tblOperate r
  let s2 := if ecc = 1 then s1.tblCorrected else s1
  match r1.loaded with
  | none => (s2, r1)
  | some (region, pos) =>
    if 2 ≤ ecc ∨ s2.tbl.damaged.contains (region, pos) then
      let s3 := s2.wordFault region pos
      (s3, if s3.tbl.damaged.contains (region, pos) then { r with status := stInternalFault } else r1)
    else (s2, r1)

/-- A GO on an instance (0 the host's, 1 the command processor's). -/
def State.tblGo (s : State) (inst cmd ecc : Nat) : State :=
  let r := { (if inst = 0 then s.tbl.hostRegs else s.tbl.cpRegs) with cmd := cmd % 512 }
  let (s1, r1) := s.tblOperateEcc r ecc
  s1.onTbl fun t => if inst = 0 then { t with hostRegs := r1 } else { t with cpRegs := r1 }

/-- The TBL_CMD word of an operation. -/
def tblCmd (op kind mode : Nat) : Nat := op + 16 * (kind % 16) + 256 * (mode % 2)

def execTblRead (inst : Nat) (get : TblGet) (s : State) : Host.Outcome State Fault Refusal := .next (s.tblGo inst (tblCmd 1 get.kind 0) get.ecc)
def execTblWrite (inst kind mode : Nat) (s : State) : Host.Outcome State Fault Refusal := .next (s.tblGo inst (tblCmd 2 kind mode) 0)
def execTblDelete (inst kind : Nat) (s : State) : Host.Outcome State Fault Refusal := .next (s.tblGo inst (tblCmd 3 kind 0) 0)
def execTblSearch (inst : Nat) (get : TblGet) (s : State) : Host.Outcome State Fault Refusal := .next (s.tblGo inst (tblCmd 4 get.kind 0) get.ecc)
def execTblNext (inst : Nat) (get : TblGet) (s : State) : Host.Outcome State Fault Refusal := .next (s.tblGo inst (tblCmd 5 get.kind 0) get.ecc)
def execTblFlushPort (inst mode : Nat) (s : State) : Host.Outcome State Fault Refusal := .next (s.tblGo inst (tblCmd 6 0 mode) 0)

/-! ### Commands (R311) -/

def State.tblStatusData (s : State) : Bytes :=
  let t := s.tbl
  le 4 t.dir.length ++ le 4 t.direct.length ++ le 4 t.pfx.length ++ le 4 t.notices.length ++
  ((List.range 32).map (fun i => le 1 (s.pfxSlotLen i))).flatten ++ le 4 t.dirSeed0 ++ le 4 t.dirSeed1 ++ le 4 t.pfxSeed ++
  le 1 (b2n (t.pipes.getD 0 false) + 2 * b2n (t.pipes.getD 1 false)) ++ zeros 3 ++ le 4 t.notices.length ++ le 4 t.dropped ++
  le 4 t.lastPass.1 ++ le 4 t.lastPass.2 ++ le 8 t.lastRound.1 ++ le 4 t.lastRound.2 ++ le 4 t.eccCorrected ++ le 4 t.eccFaults ++
  ((List.range 16).map (fun i => le 4 (t.misses.getD i 0))).flatten

def execTblStatus (c : HostCmd) (s : State) : Host.Outcome State Fault Refusal :=
  .next (s.serveQuery 0x0301 c 0 (fun _ => false) State.tblStatusData)

/-- Bits of TBL_KEY that an operation reads (R305). -/
def keyBits (op kind : Nat) : Nat :=
  if op = 6 then 4 else if op = 4 ∨ op = 5 then 5
  else if kind = 0 then 18 else if kind = 2 then 19 else if kind = 4 then 14 else if kind = 5 then 16 else 32

/-- Whether a TBL_OP carries a reserved bit that is not zero (R7, R305). -/
def tblReserved (cmd key cursor : Nat) : Bool :=
  decide (cmd % 2 ^ 31 / 512 ≠ 0) || decide (cursor / 2 ^ 20 ≠ 0) || decide (key / 2 ^ keyBits (bits cmd 3 0) (bits cmd 7 4) ≠ 0)

/-- TBL_OP (R311): the operation through the command processor's instance. -/
def State.tblOpReply (s : State) (c : HostCmd) : State × Reply :=
  let r : TblRegs := { s.tbl.cpRegs with
    cmd := getLE 0 4 c.req % 512, key := getLE 4 4 c.req, cursor := getLE 8 4 c.req % 2 ^ 20, data := padTo 32 (c.req.drop 12), count := 0 }
  let op := bits r.cmd 3 0
  let (s1, r1) :=
    if 1 ≤ op ∧ op ≤ 6 ∧ tblReserved (getLE 0 4 c.req) (getLE 4 4 c.req) (getLE 8 4 c.req) then (s, { r with status := stBadField })
    else s.tblOperateEcc r 0
  (s1.onTbl fun t => { t with cpRegs := r1 }, .status r1.status (le 4 r1.key ++ le 4 r1.cursor ++ le 4 r1.count ++ padTo 32 r1.data))

def execTblOp (c : HostCmd) (s : State) : Host.Outcome State Fault Refusal :=
  .next (s.serve 0x0302 c (fun _ => [lenIs c 44]) (fun t => t.tblOpReply c))

/-- TBL_REHASH (R300, R311). -/
def execTblRehash (c : HostCmd) (s : State) : Host.Outcome State Fault Refusal :=
  .next (s.serve 0x0303 c
    (fun t => [lenIs c 12, (t.tbl.rebuild.isSome, stBusy),
      badField (decide (1 < getLE 0 1 c.req) || !zeroAt 1 3 c.req || (getLE 0 1 c.req = 1 && getLE 8 4 c.req ≠ 0))])
    (fun t => ((t.onTbl fun x => { x with rebuild := some { table := getLE 0 1 c.req, seed0 := getLE 4 4 c.req, seed1 := getLE 8 4 c.req } }).defer
      workRehash (getLE 0 1 c.req) 0x0303 c, .accepted)))

/-- Pending notices for the host from a slot on (R311). -/
def State.hostNotices (s : State) (start n : Nat) : Bytes :=
  (((s.tbl.notices.filter (fun p => decide (start ≤ p.1) && p.2.eix = noEix)).take n).map (fun p => p.2.bytes)).flatten

def execTblNotices (c : HostCmd) (s : State) : Host.Outcome State Fault Refusal :=
  .next (s.serveQuery 0x0304 c 8 (fun _ => decide (4096 ≤ getLE 0 4 c.req) || getLE 4 4 c.req = 0 || decide (64 < getLE 4 4 c.req))
    (fun t => t.hostNotices (getLE 0 4 c.req) (getLE 4 4 c.req)))

/-- TBL_PROOF (R303, R311): shadow proofs, or the groups that differ from the host's. -/
def State.proofData (s : State) (req : Bytes) : Bytes :=
  let region := getLE 0 1 req
  let gs := (List.range (getLE 8 4 req)).map (· + getLE 4 4 req)
  if req.length = 12 then (gs.map (fun g => le 4 (s.tbl.proof region g))).flatten
  else ((gs.zipIdx.filter (fun p => s.tbl.proof region p.1 ≠ getLE (12 + 4 * p.2) 4 req)).map (fun p => le 4 p.1)).flatten

def execTblProof (c : HostCmd) (s : State) : Host.Outcome State Fault Refusal :=
  .next (s.serve 0x0305 c
    (fun _ =>
      let n := getLE 8 4 c.req
      let groups := proofGroups (getLE 0 1 c.req)
      [(decide (c.req.length ≠ 12 ∧ c.req.length ≠ 12 + 4 * n), stBadLength),
       badField (groups = 0 || !zeroAt 1 3 c.req || n = 0 || decide (256 < n) || decide (groups < getLE 4 4 c.req + n))])
    (fun t => (t, .done (t.proofData c.req))))

end Sys2Proof.Machine
end

