-- ==== Sys2Proof/Machine/CpRows.lean ====
section
/-! DEFINITION. The command processor's own rows: received frames (R24 to R28), profile reads (R26), records of the sealed die
(R110, R171), delivery of orders (R182). -/

namespace Sys2Proof.Machine
open Sys2Proof

/-! ### Frames to and from endpoints -/

/-- A received frame on a receive queue (log 42): kind of source key (0 EUI-64, 1 short address), port, link cost, source key, its
receive stamp (R259), UDP port it was delivered to, payload. -/
def rxPacket (kind port cost : Nat) (key : Bytes) (st : Stamp) (udp : Nat) (payload : Bytes) : Bytes :=
  withEdge (le 1 kind ++ le 1 port ++ le 1 cost ++ zeros 1 ++ padTo 8 key ++ le 8 st.sec ++ le 4 st.ns ++ le 2 udp ++ le 1 st.frac ++ le 1 st.count ++
    payload)

/-- A packet for an egress port (log 42): EIX, kind of destination (0 short address, 1 EUI-64, 2 broadcast), UDP port, address,
payload. -/
def txPacketTo (udp eix kind : Nat) (addr payload : Bytes) : Bytes :=
  withEdge (le 4 eix ++ le 1 kind ++ zeros 1 ++ le 2 udp ++ padTo 8 addr ++ payload)

/-- A packet to the DLMS wrapper port. -/
def txPacket (eix kind : Nat) (addr payload : Bytes) : Bytes := txPacketTo 4059 eix kind addr payload

/-- The DLMS wrapper (IEC 62056-47, R24). -/
def wrapper (src dst : Nat) (apdu : Bytes) : Bytes := be 2 1 ++ be 2 src ++ be 2 dst ++ be 2 apdu.length ++ apdu

/-- The client wPort (R24). -/
def clientPort : Nat := Config.clientWPort % 65536

/-- Send an APDU to an endpoint on the port it is bound to, under its short address or its EUI-64; an endpoint that is not
bound to a local port gets nothing. -/
def State.sendEndpoint (s : State) (eix : Nat) (apdu : Bytes) : State :=
  match s.tbl.dir.get? eix with
  | none => s
  | some e =>
    if 7 < e.port then s
    else s.send 11 (24 + e.port)
      (if e.short = 0xFFFF then txPacket eix 1 e.eui (wrapper clientPort 1 apdu) else txPacket eix 0 (le 2 e.short) (wrapper clientPort 1 apdu))

/-- The invocation counters in use in an entry's duplicate window (R285). -/
def State.windowOf (s : State) (eix : Nat) (e : DirEntry) : List Nat :=
  let w := s.tbl.windows.getD eix []
  (List.range e.wfill).map fun k => w.getD ((e.wpos + 32 - 1 - k) % 32) 0

/-- A counter passed to the gate enters the window (R285). -/
def State.windowPut (s : State) (eix ic : Nat) : State :=
  s.onTbl fun t => { t with
    windows := t.windows.upd eix (List.replicate 32 0) fun w => w.set (((t.dir.get? eix).map (·.wpos)).getD 0) ic
    dir := t.dir.adj eix fun e => { e with wpos := (e.wpos + 1) % 32, wfill := min 32 (e.wfill + 1) } }

/-- The METER_APDU message (R60). -/
def meterApdu (eix port sec ns : Nat) (apdu : Bytes) : Bytes :=
  gateMsg 1 0 (le 4 eix ++ le 1 port ++ le 1 0 ++ le 2 apdu.length ++ le 8 sec ++ le 4 ns ++ apdu)

/-! ### Profile reads (R26) -/

/-- Interval end of the last cell held for an EIX that is not UNSIGNED (R26, R53): 0 when none is. -/
def State.lastCellEnd (s : State) (eix : Nat) : Nat :=
  (s.streamRecs 1).foldl (fun m r =>
    let w := getLE 0 4 r.data
    if r.kind = 0x81 ∧ w % 2 ^ 18 = eix ∧ w / 2 ^ 18 % 16 ≤ 1 ∧ !bit r.flags 2 then max m (getLE 8 8 r.data) else m) 0

/-- A COSEM date-time in UTC for an NT second (IEC 62056-6-2). -/
def cosemDate (utcOff nt : Int) : Bytes :=
  let u := nt + utcOff
  let (y, m, d) := dateOf (u.fdiv 86400)
  let sec := (u % 86400).toNat
  be 2 y ++ le 1 m ++ le 1 d ++ le 1 0xFF ++ le 1 (sec / 3600) ++ le 1 (sec / 60 % 60) ++ le 1 (sec % 60) ++ le 1 0 ++ be 2 0 ++ le 1 0

/-- GET of attribute 2 of the profile object with range access from one interval end to another (R26). -/
def profileGet (obis from_ to_ : Bytes) : Bytes :=
  [0xC0#8, 0x01#8, 0xC1#8] ++ be 2 7 ++ padTo 6 obis ++ [0x02#8, 0x01#8, 0x01#8, 0x02#8, 0x04#8, 0x02#8, 0x04#8, 0x12#8] ++ be 2 8 ++
  [0x09#8, 0x06#8] ++ clockObis ++ [0x0F#8, 0x02#8, 0x12#8] ++ be 2 0 ++ [0x09#8, 0x0C#8] ++ from_ ++ [0x09#8, 0x0C#8] ++ to_ ++ [0x01#8, 0x00#8]

/-- PROFILE_READ: at most 4 reads in flight per PAN (R26); a further one waits until one of its PAN has ended. -/
def State.profileRead (s : State) (eix : Nat) : State :=
  match s.tbl.dir.get? eix with
  | none => s
  | some e =>
    let mine := s.cp.profileReads.filter (fun r => decide (r.1 = e.port) && decide (r.2 ≠ eix))
    if 7 < e.port ∨ !s.openRuns then s
    else if 4 ≤ mine.length then s.onCp fun c => { c with profileWait := c.profileWait.filter (· ≠ eix) ++ [eix] }
    else
      let off := s.time.utcOffset
      let get := profileGet Config.profileObis (cosemDate off (s.lastCellEnd eix : Int)) (cosemDate off (s.time.nt.sec : Int))
      (s.onCp fun c => { c with
        profileReads := c.profileReads.filter (fun r => r.2 ≠ eix) ++ [(e.port, eix)], profileWait := c.profileWait.filter (· ≠ eix) }).sendEndpoint eix get

/-- The read of an EIX has ended: the first one that waits on its port starts. -/
def State.profileEnd (s : State) (port eix : Nat) : State :=
  let s1 := s.onCp fun c => { c with profileReads := c.profileReads.filter (fun r => r.2 ≠ eix) }
  match s1.cp.profileWait.find? (fun x => (s1.tbl.dir.get? x).any (·.port = port)) with
  | some x => (s1.onCp fun c => { c with profileWait := c.profileWait.filter (· ≠ x) }).profileRead x
  | none => s1

def execProfileRead (eix : Nat) (s : State) : Host.Outcome State Fault Refusal := .next (s.profileRead eix)

/-- The acknowledgement that the carrying transport expects goes out again for a repeat (R28); its form is the transport's, below the model
(log 152). -/
def State.ackAgain (s : State) (eix : Nat) : State := s.onCp fun c => { c with acksAgain := c.acksAgain.upd eix 0 (· + 1) }

/-- A candidate reading of a resolved endpoint (R25, R28). -/
def State.candidateReading (s : State) (eix port sec ns : Nat) (apdu : Bytes) : State :=
  let plain := fun (t : State) => t.onTbl fun x => { x with dir := x.dir.adj eix fun e => { e with plain := min (2 ^ 32 - 1) (e.plain + 1) } }
  match clearHeader apdu with
  | none => plain s
  | some h =>
    let e := s.tbl.dir.getD eix { eui := [] }
    if !(bit h.sc 4 && bit h.sc 5) then plain s
    else if !bit e.flags 3 && (s.windowOf eix e).contains h.ic then
      (s.ackAgain eix).onTbl fun x => { x with dir := x.dir.adj eix fun y => { y with rep := min (2 ^ 32 - 1) (y.rep + 1) } }
    else
      let s1 := s.send 11 16 (meterApdu eix port sec ns apdu)
      if bit e.flags 3 then s1 else s1.windowPut eix h.ic

/-- The source of a received frame: its EUI-64, or its PAN and short address (R24, R27). -/
def frameKey (b : Bytes) : Bytes := if getLE 0 1 b = 0 then slice 4 8 b else shortKey (getLE 1 1 b) (getLE 4 2 b)

/-- The source of a received frame is resolved, with its port, its link cost and its stamp (R27). -/
def State.resolveFrame (s : State) (b : Bytes) : State × Option Nat :=
  s.lookupSource (getLE 0 1 b) (frameKey b) (getLE 1 1 b) (getLE 2 1 b) (getLE 12 8 b * 1000000000 + getLE 20 4 b)

/-- The command processor takes the frame at the head of receive queue `q` (R24 to R28). -/
def State.receivedFrame (s : State) (q : Nat) : State :=
  if 7 < q ∨ !s.openRuns then s
  else
    match s.takeHead q with
    | (none, s1) => s1
    | (some p, s1) =>
      let b := p.body
      let pl := b.drop 28
      let (s2, eix) := s1.resolveFrame b
      let blocked := s2.tbl.last.isBlocked
      match eix with
      | none => s2
      | some e =>
        if blocked ∨ s2.tbl.pendingNotice (getLE 0 1 b) (frameKey b) then (if blocked then s2 else s2.onTbl fun t => { t with frameDiscards := t.frameDiscards + 1 })
        else if getLE 24 2 b ≠ 4059 ∨ getBE 0 2 pl ≠ 1 ∨ getBE 4 2 pl ≠ clientPort ∨ pl.length < 9 then s2
        else
          let apdu := pl.drop 8
          let tag := getLE 0 1 apdu
          let s3 := if (tag = 0xCC ∨ tag = 0xC4) ∧ s2.cp.profileReads.any (·.2 = e) then s2.profileEnd (getLE 1 1 b) e else s2
          if tag = 0xC4 ∨ tag = 0x0F then
            s3.onTbl fun x => { x with dir := x.dir.adj e fun y => { y with plain := min (2 ^ 32 - 1) (y.plain + 1) } }
          else if tag = 0xCC ∨ tag = 0xDB then s3.candidateReading e (getLE 1 1 b) (getLE 12 8 b) (getLE 20 4 b) apdu
          else s3

def execReceivedFrameHandle (q : Nat) (s : State) : Host.Outcome State Fault Refusal := .next (s.receivedFrame q)

/-! ### The mirror (R110) -/

/-- A mirrored sealed object: what accepted documents wrote, else its default; none where it is not mirrored. -/
def State.mirrored (s : State) (o : Nat) : Option Bytes :=
  match s.cp.mirror.get? o with
  | some d => some d
  | none =>
    if sealedObjects.contains o then some (((numbered o).map (fun p => fieldBytes [] o p.1 p.2)).flatten)
    else if 0x1200 ≤ o ∧ o < 0x1214 then some factoryCal
    else none

/-- A numeric field of a mirrored object. -/
def State.mirrorN (s : State) (o f : Nat) : Nat :=
  match (fieldsIn o ((s.mirrored o).getD [])).find? (fun q => q.1 = f) with
  | some (_, _, v) => v.toNat
  | none => 0

/-! ### Orders (R182) -/

/-- Event 62. -/
def State.orderOutcome (s : State) (eix outcome number : Nat) : State := s.raise 62 (eix3 eix ++ le 1 outcome ++ le 4 number)

/-- The order of an EIX ends with an outcome. -/
def State.finishOrder (s : State) (eix outcome : Nat) : State :=
  match s.cp.orders.get? eix with
  | none => s
  | some o =>
    (s.onCp fun c => { c with orders := c.orders.set eix { o with
      finished := true, outcome := outcome, awaiting := false, getSent := false, lastDone := o.number } }).orderOutcome
      eix outcome o.number

/-- The order of the latest CURRENT record is carried when its number is above that of the last order finished (R182); an unfinished one
with a lower number, or before a record without an order, is superseded. -/
def State.orderCarry (s : State) (eix : Nat) (r : Bytes) : State :=
  let number := getLE 208 4 r
  let kind := getLE 212 1 r
  let apdu := slice 216 (getLE 214 1 r) r
  let held := s.cp.orders.get? eix
  let done := (held.map (·.lastDone)).getD 0
  let running := held.filter (fun o => !o.finished)
  if kind = 0 then (if running.isSome then s.finishOrder eix 4 else s)
  else if number ≤ done ∨ running.any (fun o => o.number = number && o.apdu == apdu) then s
  else
    let s1 := if running.any (fun o => decide (o.number < number)) then s.finishOrder eix 4 else s
    s1.onCp fun c => { c with
      orders := c.orders.set eix { number := number, kind := kind, startOt := s.power.ot, nextOt := s.power.ot, apdu := apdu
                                   lastDone := ((s1.cp.orders.get? eix).map (·.lastDone)).getD 0 } }

/-- OT of attempt `n` of a schedule that began at `start` (R182). -/
def attemptOt (start n : Nat) : Nat :=
  start + (match n with
    | 0 => 0
    | 1 => 30
    | 2 => 120
    | k + 3 => 600 + 3600 * k)

/-- A scheduled attempt sends the order (R182). -/
def State.orderAttempt (s : State) (eix : Nat) : State :=
  match s.cp.orders.get? eix with
  | none => s
  | some o =>
    if o.finished ∨ o.getSent ∨ s.power.ot < o.nextOt ∨ !s.openRuns ∨ s.power.pfw then s
    else
      (s.onCp fun c => { c with
        orders := c.orders.set eix { o with attempts := o.attempts + 1, lastOt := s.power.ot, nextOt := attemptOt o.startOt (o.attempts + 1), awaiting := true } }).sendEndpoint
          eix o.apdu

def execOrderAttempt (eix : Nat) (s : State) : Host.Outcome State Fault Refusal := .next (s.orderAttempt eix)

/-- The unciphered GET of control_state, attribute 3 of the disconnect control object (class 70) that an order names (R180, R182). -/
def controlStateGet (obis : Nat) : Bytes := [0xC0#8, 0x01#8, 0xC1#8] ++ be 2 70 ++ le 6 obis ++ [0x03#8, 0x00#8]

/-- dc_obis of an EIX's account profile, as its CURRENT record and the mirror give it (R110, R182). -/
def State.dcObis (s : State) (eix : Nat) : Nat := s.mirrorN (0x3010 + getLE 9 1 (s.cp.current.getD eix [])) 11

/-- A response within 10 s of an attempt (R182). -/
def State.orderResponse (s : State) (eix : Nat) : State :=
  match s.cp.orders.get? eix with
  | none => s
  | some o =>
    if o.finished ∨ !o.awaiting ∨ o.lastOt + 10 < s.power.ot then s
    else (s.onCp fun c => { c with orders := c.orders.set eix { o with awaiting := false, getSent := true } }).sendEndpoint eix (controlStateGet (s.dcObis eix))

def execOrderResponse (eix : Nat) (s : State) : Host.Outcome State Fault Refusal := .next (s.orderResponse eix)

/-- The outcome that a control_state answer gives (R182); none is a refused GET. -/
def controlOutcome (kind : Nat) (result : Option Nat) : Nat :=
  match result with
  | none => 1
  | some v => if (kind = 1 ∧ v = 0) ∨ (kind = 2 ∧ (v = 1 ∨ v = 2)) then 0 else 2

/-- The control_state GET is answered or refused (R182). -/
def State.controlStateRead (s : State) (eix : Nat) (result : Option Nat) : State :=
  match s.cp.orders.get? eix with
  | none => s
  | some o => if o.finished ∨ !o.getSent then s else s.finishOrder eix (controlOutcome o.kind result)

def execControlStateRead (eix : Nat) (result : Option Nat) (s : State) : Host.Outcome State Fault Refusal := .next (s.controlStateRead eix result)

/-- The control_state GET stays unanswered (R182). -/
def execOrderGetTimeout (eix : Nat) (s : State) : Host.Outcome State Fault Refusal :=
  .next (match s.cp.orders.get? eix with
    | some o => if o.finished ∨ !o.getSent then s else s.finishOrder eix 1
    | none => s)

/-- 10 s after an attempt without a response; after the 600 s attempt UNDELIVERED is reported once (R182). -/
def State.orderWindow (s : State) (eix : Nat) : State :=
  match s.cp.orders.get? eix with
  | none => s
  | some o =>
    if o.finished ∨ !o.awaiting ∨ s.power.ot < o.lastOt + 10 then s
    else
      let report := decide (4 ≤ o.attempts) && !o.undelivered
      let s1 := s.onCp fun c => { c with orders := c.orders.set eix { o with
        awaiting := false, undelivered := o.undelivered || report, outcome := if report then 3 else o.outcome } }
      if report then s1.orderOutcome eix 3 o.number else s1

def execOrderResponseWindow (eix : Nat) (s : State) : Host.Outcome State Fault Refusal := .next (s.orderWindow eix)

/-! ### Records of the sealed die (R110, R171) -/

/-- A CURRENT record arrives: the copy with the highest revision is kept, but the first one emitted after a sealed start replaces it;
`post` says that the record was emitted after the last start. -/
def State.currentRecord (s : State) (r : Bytes) (post : Bool) : State :=
  let eix := getLE 0 4 r
  let always := post && s.cp.replaceNext.contains eix
  let newer : Bool := match s.cp.current.get? eix with
    | some h => decide (getLE 12 4 h < getLE 12 4 r)
    | none => true
  if always ∨ newer then
    (s.onCp fun c => { c with
      current := c.current.set eix r, replaceNext := if post then c.replaceNext.erase eix else c.replaceNext
      tariff := { c.tariff with period := getLE 56 4 r } }).orderCarry eix r
  else s

/-- One record of kind 0x82, 0x88 or 0x89. -/
def State.sealedCopy (s : State) (kind : Nat) (d : Bytes) (post : Bool) : State :=
  let s1 := s.onCp fun c => { c with lastSealed := some (kind, d) }
  if kind = 0x82 then (if getLE 4 1 d = 0 then s1.currentRecord d post else s1)
  else if kind = 0x88 then s1.onCp fun c => { c with ident := d }
  else if kind = 0x89 then s1.onCp fun c => { c with calLog := if c.calLog.contains d then c.calLog else c.calLog ++ [d] }
  else s1

/-- The records of the LEDGER stream after the last one taken and before the one at hand (R321); all before it when the last one is gone. -/
def State.skippedSealed (s : State) (m : Nat × Bytes) : List (Nat × Bytes) :=
  let all := (s.streamRecs 6).map fun r => (r.kind, r.data)
  let rest := match s.cp.lastSealed with
    | some l => if all.contains l then (all.dropWhile (· ≠ l)).drop 1 else all
    | none => all
  rest.takeWhile (· ≠ m)

/-- Records that were skipped on the lossy queue are read again from the LEDGER stream, from after the last one held (R321). -/
def State.rereadLedger (s : State) (m : Nat × Bytes) (post : Bool) : State :=
  if ((s.fabric.lastNotice.get? 58).map (·.skipped)).getD 0 = 0 then s
  else
    let s1 := s.onFabric fun f => { f with lastNotice := f.lastNotice.adj 58 fun n => { n with skipped := 0 } }
    (s1.skippedSealed m).foldl (fun t r => t.sealedCopy r.1 r.2 post) s1

/-- CP_SEALED_PACKET: the head of queue CP_SEALED. A message that was on its way when the sealed die started was emitted before it (R171). -/
def State.cpSealed (s : State) : State :=
  if !s.openRuns then s
  else
    match s.takeHead 58 with
    | (none, s1) => s1
    | (some p, s1) =>
      let b := p.body
      let m := (getLE 0 1 b, b.drop 12)
      let post := !s1.cp.preStart.contains b
      let s2 := s1.onCp fun c => { c with preStart := c.preStart.erase b }
      (s2.rereadLedger m post).sealedCopy m.1 m.2 post

def execCpSealedPacket (s : State) : Host.Outcome State Fault Refusal := .next s.cpSealed

/-! ### The mirror's verification (R110) -/

/-- Whether the calibration mirror is verified (R110). -/
def State.mirrorVerified (s : State) : Bool := !s.cp.ident.isEmpty && calDigest s.cp.mirror == slice 96 64 s.cp.ident

/-! ### Sealed events on the open die (R110, R165, R273, R369) -/

/-- The tariff documents and marks that the open die knows, seen as the sealed die's (R165). -/
def State.tariffView (s : State) : Sealed :=
  let t := s.cp.tariff
  { active := t.active, previous := t.previous, pendingDoc := t.pendingDoc, utcOffset := s.time.utcOffset, firstActivation := t.firstActivation
    markClose := t.markClose, markSnapshot := t.markSnapshot, markActivation := t.markActivation, period := t.period, stepLog := t.stepLog }

/-- Sealed time as the open die knows it, in ms (R272). -/
def State.sealedEstimate (s : State) : Int := ((s.time.nt.sec : Int) * 1000000000 + s.time.nt.ns - s.deltaHat).fdiv 1000000

/-- The documents that the sealed die accepted: tariffs are kept, object writes and provisioning reach the mirror, which is committed with the
table shadow (R110, R165, R301). -/
def State.docAccepted (s : State) (d : Bytes) : State :=
  let typ := getLE 4 2 d
  let body := slice 56 (getLE 8 4 d) d
  if typ = 1 then s.onCp fun c => { c with acceptedDocs := c.acceptedDocs ++ [(1, d)] }
  else if typ = 0x10 then
    let es := (objectEntries body.length body).getD []
    (s.onCp fun c => { c with mirror := es.foldl (fun m e => m.set e.1 e.2) c.mirror }).onTbl fun t => t.touch (es.map fun e => (regMirror, e.1))
  else if typ = 0x11 then
    (s.onCp fun c => { c with provisioned := c.provisioned.set (getLE 0 4 body) body }).onTbl fun t => t.touch [(regProvisioned, getLE 0 4 body)]
  else s

/-- The accepted tariff document of a version as the open die holds it; an activation of 0 is the sealed time at which it is seen. -/
def State.acceptedTariff (s : State) (version : Nat) : Option TDoc :=
  ((s.cp.acceptedDocs.filter (fun a => getLE 12 4 a.2 = version)).getLast?).map fun a =>
    let body := slice 56 (getLE 8 4 a.2) a.2
    { version := version, activation := if getLE 16 8 body = 0 then (s.sealedEstimate / 1000).toNat else getLE 16 8 body
      order := s.cp.tariff.docOrder + 1, body := body }

/-- What a sealed event says of the sealed die's tariffs: a pending document, an activation, an execution, a step (R153, R159, R165, log 151). -/
def State.tariffEvent (s : State) (code : Nat) (d : Bytes) : State :=
  let onT := fun (f : TariffCopy → TariffCopy) => s.onCp fun c => { c with tariff := f c.tariff }
  let x := s.tariffView
  let item := fun (typ : Nat) (mark : Option Nat) (keep : Nat → Bool) =>
    ((((x.markFrom mark).map (x.itemBoundaries typ)).getD []).filter (fun b => keep b.2.2))
  match code with
  | 64 => match s.acceptedTariff (getLE 0 3 d) with
    | some t => onT fun c => { c with pendingDoc := some t, docOrder := t.order, firstActivation := c.firstActivation.or (some t.activation) }
    | none => s
  | 65 =>
    let v := getLE 0 4 d
    match x.pendingDoc.filter (·.version = v) with
    | some t => onT fun c => { c with active := some t, previous := c.active, pendingDoc := none, markActivation := some t.activation }
    | none => match s.acceptedTariff v with
      | some t => onT fun c => { c with active := some t, previous := c.active, pendingDoc := none, docOrder := t.order
                                        firstActivation := c.firstActivation.or (some t.activation) }
      | none => s
  | 67 => onT fun c => { c with
      period := getLE 0 4 d + 1, markClose := ((earliest (item 1 c.markClose fun _ => true)).map (fun b => b.1.toNat)).or c.markClose }
  | 68 => onT fun c => { c with
      markSnapshot := ((earliest (item 2 c.markSnapshot fun i => i = getLE 0 1 d)).map (fun b => b.1.toNat)).or c.markSnapshot }
  | 70 => onT fun c => { c with stepLog := ((s.sealedEstimate, getI 0 8 d) :: c.stepLog).take 16 }
  | _ => s

/-- The sealed die has judged a document that the open die submitted: event 35 or 36. -/
def State.docJudged (s : State) (accepted : Bool) (typ version : Nat) : State :=
  match s.cp.submitted.find? (fun d => getLE 4 2 d = typ && getLE 12 4 d = version) with
  | none => s
  | some d =>
    let s1 := s.onCp fun c => { c with submitted := c.submitted.erase d }
    if accepted then s1.docAccepted d else s1

/-- What the open die takes from a sealed event beside its record: a sealed start finds every phase detected (R101) and drops what was
submitted before; a document has been judged (R110, R165); an accepted offer ends the mark of event 153 (R273); a phase whose zero crossings are
lost or regained changes the counters of the PLC ports, with event base + 7 (R101, R218); tariffs, executions and steps are noted (R165). -/
def State.sealedSeen (s : State) (r : Bytes) : State :=
  match getLE 16 2 r with
  | 34 =>
    if getLE 20 1 r = 2 then
      ((s.onPlc fun x => { x with zxLost := [false, false, false] }).onCp fun c => { c with submitted := [] }).zxReference
        (if s.time.markerLost then [] else ([1, 2, 3] : List Nat).filter s.phaseLost) 1
    else s
  | 35 => s.docJudged true (getLE 20 2 r) (getLE 22 4 r)
  | 36 => s.docJudged false (getLE 20 2 r) (getLE 22 4 r)
  | 38 => { s with time := { s.time with largeRaised := false } }
  | 46 =>
    let ph := getLE 20 1 r
    let st := getLE 21 1 r
    (s.onPlc fun x => { x with zxLost := x.zxLost.set (ph - 1) (decide (st = 0)) }).zxReference (if s.time.markerLost then [] else [ph]) st
  | c => s.tariffEvent c ((r.drop 20).take 8)

/-- The recorder takes a record of channel 0: stored unchanged, a resend discarded, a gap reported (R368, R369). -/
def State.sealedEventRecord (s : State) : State :=
  match s.recorderNext with
  | (none, s1) => s1
  | (some p, s1) =>
    if p.producer ≠ 13 then s1
    else
      let r := (p.payload.drop 12).take 32
      let sq := getLE 0 8 r
      let s2 := s1.holdRecorder
      match s2.recd.sealedLast with
      | some last =>
        if sq ≤ last then (s2.releaseRead 71).onRec fun x => { x with resends := x.resends + 1 }
        else
          let s3 := (s2.acceptRecord 11 0x85 71 0 0 (some (s.recWeek 0 sq)) r).1
          let s4 := (s3.sealedSeen r).onRec fun x => { x with sealedLast := some sq }
          let s5 := if sq = last + 1 then s4 else s4.raise 228 (le 4 (last + 1) ++ le 4 sq)
          if getLE 16 2 r < 256 then s5.notify (getLE 16 2 r) r else s5
      | none =>
        let s3 := (s2.acceptRecord 11 0x85 71 0 0 (some (s.recWeek 0 sq)) r).1
        let s4 := (s3.sealedSeen r).onRec fun x => { x with sealedLast := some sq }
        let s5 := if sq = 0 then s4 else s4.raise 228 (le 4 0 ++ le 4 sq)
        if getLE 16 2 r < 256 then s5.notify (getLE 16 2 r) r else s5

def execSealedEventRecord (s : State) : Host.Outcome State Fault Refusal := .next s.sealedEventRecord

end Sys2Proof.Machine
end

