-- ==== Sys2Proof/Machine/Mailbox.lean ====
section
/-! DEFINITION. The mailbox rows: doorbells and fetching, ENABLE, completions, notifications, vectors, the PCIe link, the
head-end's frames (R438 to R458). -/

namespace Sys2Proof.Machine
open Sys2Proof

/-- Whether an opcode is assigned (R20, R459). -/
def opcodeAssigned (op : Nat) : Bool :=
  let lo := op % 256
  match op / 256 with
  | 0x01 => (decide (1 ≤ lo) && decide (lo ≤ 3)) || (decide (0x20 ≤ lo) && decide (lo ≤ 0x23))
  | 0x02 => decide (1 ≤ lo) && decide (lo ≤ 0x0B)
  | 0x03 => decide (1 ≤ lo) && decide (lo ≤ 5)
  | 0x04 => decide (1 ≤ lo) && decide (lo ≤ 6)
  | 0x05 => decide (1 ≤ lo) && decide (lo ≤ 4)
  | 0x06 => (decide (1 ≤ lo) && decide (lo ≤ 9)) || (decide (0x10 ≤ lo) && decide (lo ≤ 0x14))
  | 0x07 => decide (1 ≤ lo) && decide (lo ≤ 6)
  | 0x08 => (decide (1 ≤ lo) && decide (lo ≤ 7)) || lo = 9 || (decide (0x10 ≤ lo) && decide (lo ≤ 0x15))
  | 0x09 => decide (1 ≤ lo) && decide (lo ≤ 7)
  | 0x0A => decide (1 ≤ lo) && decide (lo ≤ 5)
  | 0x0B => decide (1 ≤ lo) && decide (lo ≤ 7)
  | 0x0C => decide (1 ≤ lo) && decide (lo ≤ 9)
  | 0x0D => decide (1 ≤ lo) && decide (lo ≤ 8)
  | 0x0E => decide (1 ≤ lo) && decide (lo ≤ 8)
  | 0x0F => decide (1 ≤ lo) && decide (lo ≤ 3)
  | 0x10 => (decide (1 ≤ lo) && decide (lo ≤ 6)) || (decide (0x20 ≤ lo) && decide (lo ≤ 0x24))
  | 0x1F => decide (1 ≤ lo) && decide (lo ≤ 3)
  | _ => false

/-- The next packet of HOST_IN carries the stamp of this pass (R260); stamps of packets that have left go. -/
def State.stampFrame (s : State) : State :=
  s.onHost fun h => { h with
    passStamps := Tab.set (h.passStamps.filter fun e => (s.queue 11).pkts.any (·.seq = e.1)) (s.queue 11).nextSeq h.doorbellStamp }

/-- Whether the frame at the head of HOST_IN has an opcode that is not assigned and its turn has come (R20, R451, R452). -/
def State.headUnassigned (s : State) : Option Packet :=
  (s.peekHead 11).filter fun p =>
    let op := getLE 0 2 p.payload
    let mine := s.host.inflight.filter fun i => !i.headend
    !opcodeAssigned op && !s.firstOwed false op && !mine.any (·.ordered) && decide (mine.length < 256)

/-- A frame whose opcode is not assigned is taken in its turn and completes with BAD_OPCODE, in every phase (R20, R449, log 178). -/
def State.turnAway (s : State) : State :=
  match s.headUnassigned with
  | none => s
  | some p => ((s.takeHead 11).2.onHost fun h => { h with counters := { h.counters with taken := h.counters.taken + 1 } }).sendCompletion false
      (getLE 0 2 p.payload) (getLE 4 4 p.payload) stBadOpcode [] true

/-- The host interface hands one fetched frame to HOST_IN (R449): NO_CREDIT with event 20 when the OPEN is not granted,
BAD_FIELD with event 18 when the edge code fails at CLOSE. -/
def State.takeFrame (s : State) (frame : Bytes) : State :=
  let op := getLE 0 2 frame
  let tag := getLE 4 4 frame
  let c := cellsFor frame.length
  let s0 := s.countOpen 11
  match s0.openAnswer 11 c s0.fabric.bpCount with
  | .granted =>
    if !edgeOk frame then
      let s1 := s0.edgeFailure 0 11 { producer := 10, seq := (s0.queue 11).nextSeq, cells := c, payload := frame }
      let s2 := s1.onHost fun h => { h with counters := { h.counters with edgeFail := h.counters.edgeFail + 1 } }
      (s2.raise 18 (le 1 0 ++ le 1 0 ++ le 2 op ++ le 4 tag)).sendCompletion false op tag stBadField [] true
    else (((s0.stampFrame).closeOn 11 10 frame).poolCheck s.sharedFree).turnAway
  | _ =>
    let s1 := s0.onQueue 11 fun x => { x with refused := x.refused + 1 }
    let s2 := s1.onHost fun h => { h with
      creditRefused := h.creditRefused + 1, counters := { h.counters with noCredit := h.counters.noCredit + 1 } }
    let s3 := if s2.eventDue 60 20 0 then
        (s2.raiseEvery 60 20 0 (le 4 s2.host.creditRefused)).onHost fun h => { h with creditRefused := 0 } else s2
    s3.sendCompletion false op tag stNoCredit [] true

/-- Fetch frames from MBX_CR_HEAD to the tail (R449); `n` bounds them. -/
def State.fetch : Nat → State → State
  | 0, s => s
  | n + 1, s =>
    let slots := s.crSlots
    let head := s.host.crHead.toNat
    let tail := s.host.crTail.toNat
    if !s.mbxEnabled ∨ head = tail ∨ s.host.phase = 0 ∨ 256 ≤ (s.host.inflight.filter (fun i => !i.headend)).length then s
    else
      let at0 := s.crBase + head * 64
      let hdr := Memory.readBytes s.host.ringMem at0 16
      let avail := (tail + slots - head) % slots
      if getLE 0 2 hdr = 0 then
        if tail < head ∧ getLE 8 4 hdr = (slots - head) * 64 then State.fetch n (s.onHost fun h => { h with crHead := 0 })
        else s.ringError 0 (if head < tail then 2 else 1) head
      else
        let len := getLE 8 4 hdr
        let k := cdiv len 64
        if len < 20 ∨ 262192 < len then s.ringError 0 1 head
        else if slots < head + k ∨ avail < k then s.ringError 0 2 head
        else
          let frame := Memory.readBytes s.host.ringMem at0 len
          let s1 := s.onHost fun h => { h with crHead := BitVec.ofNat 32 ((head + k) % slots) }
          State.fetch n (s1.takeFrame frame)

/-- A failed DMA access: MBX_ERR.DMA and event 22 with cause 4 (R444, R461); criterion MAILBOX (R473). -/
def State.dmaError (s : State) (ring slot : Nat) : State :=
  ((s.onHost fun h => { h with mbxErr := h.mbxErr ||| 4, counters := { h.counters with ringErrors := h.counters.ringErrors + 1 } }).raise 22
    (le 1 ring ++ le 1 4 ++ zeros 2 ++ le 4 slot)).criterionFails 1

/-- A write of MBX_CR_TAIL (R449). `written` are the bytes the host wrote from the old tail on, wrapping at the ring's end;
`dmaFail` says that the device's read of host memory failed. -/
def State.doorbell (s : State) (tail : Nat) (written : Bytes) (dmaFail : Bool) : State :=
  let slots := s.crSlots
  if slots ≤ tail then s.doorbellError 0 tail
  else
    let room := (slots - s.host.crTail.toNat) * 64
    let s1 := s.onHost fun h => { h with
      ringMem := Memory.writeBytes (Memory.writeBytes h.ringMem (s.crBase + h.crTail.toNat * 64) (written.take room)) s.crBase (written.drop room)
      crTail := BitVec.ofNat 32 tail
      doorbellStamp := s.ntStamp }
    if dmaFail ∧ !s.qspi ∧ s1.mbxEnabled then s1.dmaError 0 s1.host.crHead.toNat else s1.fetch slots

def execDoorbell (tail : Nat) (written : Bytes) (dmaFail : Bool) (s : State) : Host.Outcome State Fault Refusal :=
  .next (s.doorbell tail written dmaFail)

/-- A write of MBX_CTRL.ENABLE (R444, R454): event 17 is raised when it is cleared (log 50). -/
def State.mailboxEnable (s : State) (v : Nat) : State :=
  if v % 2 = 0 then s.clearEnable 1
  else if s.mbxEnabled then s
  else
    s.onHost fun h => { h with
      mbxCtrl := 1, crTail := 0, crHead := 0, cprHead := 0, cprTail := 0, cprPhase := true }

def execMailboxEnable (v : Nat) (s : State) : Host.Outcome State Fault Refusal := .next (s.mailboxEnable v)

/-- A write of MBX_CPR_HEAD (R450); at or above the ring size it is an out-of-range doorbell. -/
def State.completionHead (s : State) (v : Nat) : State :=
  if s.cprSlots ≤ v then s.doorbellError 1 v else s.onHost fun h => { h with cprHead := BitVec.ofNat 32 v }

def execCompletionHeadWrite (v : Nat) (s : State) : Host.Outcome State Fault Refusal := .next (s.completionHead v)

/-- A write of NTF_HEAD (R445, R455): entries become free, and a LOST entry that is owed is written. -/
def State.notificationHead (s : State) (v : Nat) : State :=
  if s.ntfEntries ≤ v then s.doorbellError 2 v else (s.onHost fun h => { h with ntfHead := BitVec.ofNat 32 v }).payLost

def execNotificationHeadWrite (v : Nat) (s : State) : Host.Outcome State Fault Refusal := .next (s.notificationHead v)

/-- A write of NTF_CTRL.ENABLE (R445): setting it starts the ring at its beginning with PHASE 1 (R450, log 14). -/
def State.notificationEnable (s : State) (v : Nat) : State :=
  if v % 2 = 0 then s.onHost fun h => { h with ntfCtrl := 0 }
  else if s.ntfEnabled then s
  else s.onHost fun h => { h with ntfCtrl := 1, ntfHead := 0, ntfTail := 0, ntfPhase := true }

def execNotificationEnable (v : Nat) (s : State) : Host.Outcome State Fault Refusal := .next (s.notificationEnable v)

/-- A read of NTF_LOST: the value, then cleared (R6, R445). -/
def execNtfLostRead (s : State) : Host.Outcome State Fault Refusal :=
  .next (s.onHost fun h => { h with lastRead := h.ntfLost, ntfLost := 0 })

/-- A read of QUE_REFUSED: the count of the selected queue, then cleared (R6, R446). -/
def execQueRefusedRead (s : State) : Host.Outcome State Fault Refusal :=
  let q := s.host.queSel.toNat % 512
  .next ((s.onHost fun h => { h with lastRead := BitVec.ofNat 32 (s.queue q).refused }).onQueue q fun x => { x with refused := 0 })

/-- The QSPI status byte (R441). -/
def State.qspiStatus (s : State) : Nat :=
  b2n (s.host.cprHead ≠ s.host.cprTail) + 2 * b2n (s.host.ntfHead ≠ s.host.ntfTail) + 4 * b2n s.host.qspiErr + 8 * b2n (s.mbxState = 2)

/-- HIRQ_N is low (R441). -/
def State.hirqLow (s : State) : Bool := s.host.cprHead ≠ s.host.cprTail || s.host.ntfHead ≠ s.host.ntfTail

/-- A STATUS transaction: the byte, then ERR clears (R440, R441). -/
def execQspiStatusRead (s : State) : Host.Outcome State Fault Refusal :=
  .next (s.onHost fun h => { h with lastRead := BitVec.ofNat 32 s.qspiStatus, qspiErr := false })

/-- A frame as the host sees it: PHASE in bit 7 of its flags, the edge code recomputed (R450). -/
def framePhase (phase : Bool) (f : Bytes) : Bytes :=
  let body := f.take (f.length - 4)
  withEdge (putAt 12 (le 1 (getLE 12 1 body % 128 + 128 * b2n phase)) body)

/-- Write one frame into the completion ring, after a PAD frame where it would cross the end (R447, R450). -/
def State.putCompletion (s : State) (frame : Bytes) : State :=
  let slots := s.cprSlots
  let k := cdiv frame.length 64
  let t0 := s.host.cprTail.toNat
  let wraps := decide (slots < t0 + k)
  let pad := le 2 0 ++ le 2 0 ++ le 4 0 ++ le 4 ((slots - t0) * 64) ++ le 1 (128 * b2n s.host.cprPhase)
  let m0 := if wraps then Memory.writeBytes s.host.ringMem (s.cprBase + t0 * 64) pad else s.host.ringMem
  let start := if wraps then 0 else t0
  let ph := if wraps then !s.host.cprPhase else s.host.cprPhase
  let next := (start + k) % slots
  (s.onHost fun h => { h with
    ringMem := Memory.writeBytes m0 (s.cprBase + start * 64) (framePhase ph frame)
    cprTail := BitVec.ofNat 32 next
    cprPhase := if next = 0 then !ph else ph
    complStamp := s.ntStamp }).signal 0

/-- Whether a frame of `n` bytes fits with one slot to spare (R450). -/
def State.cprRoom (s : State) (n : Nat) : Bool :=
  let slots := s.cprSlots
  let t0 := s.host.cprTail.toNat
  let k := cdiv n 64
  let used := (t0 + slots - s.host.cprHead.toNat) % slots
  let total := if slots < t0 + k then slots - t0 + k else k
  decide (used + total + 1 ≤ slots)

/-- A PACKET frame (R450): the notice of R319 and the packet's payload. -/
def packetFrame (p : Packet) : Bytes :=
  withEdge (le 2 0x01FF ++ le 2 stDone ++ le 4 0xFFFFFFFF ++ le 4 (20 + 16 + p.payload.length) ++ le 1 2 ++ le 1 0 ++ le 2 0 ++
    (le 2 40 ++ le 2 p.cells ++ le 4 p.payload.length ++ le 4 p.seq ++ le 1 p.producer ++ le 1 0 ++ le 2 0) ++ p.payload)

/-- The host interface writes the head of HOST_OUT into the completion ring (R450): released unwritten while ENABLE is
clear (R454); replaced by INTERNAL_FAULT with event 18 when its edge code fails; left waiting without room. A FINAL frame
ends its command, and fetching goes on (R452); a frame with an unassigned opcode whose turn has come is turned away. -/
def State.completionWrite (s : State) (dmaFail : Bool) : State :=
  match (s.queue 40).pkts with
  | [] => s
  | p :: rest =>
    let drop1 : State → State := fun t => t.onQueue 40 fun x => { x with pkts := rest }
    let isPkt := s.fabric.hostPackets.contains p.seq
    let good := p.good
    let frame0 := if isPkt then packetFrame p else p.payload
    let op := getLE 0 2 frame0
    let tag := getLE 4 4 frame0
    let frame := if good then frame0 else completionFrame op stInternalFault tag 0 false true []
    let final := bit (getLE 12 1 frame) 1
    let forget : State → State := fun t => t.onFabric fun f => { f with hostPackets := f.hostPackets.erase p.seq }
    let ended : State → State := fun t => if final ∧ !isPkt then t.dropInflight false tag else t
    if !s.mbxEnabled then (ended (forget (drop1 s))).turnAway
    else if !s.cprRoom frame.length then s
    else if dmaFail ∧ !s.qspi then s.dmaError 1 s.host.cprTail.toNat
    else
      let s1 := if good then drop1 s else
        ((drop1 s).edgeFailure 1 40 p).raise 18 (le 1 1 ++ le 1 0 ++ le 2 op ++ le 4 tag)
      let s3 := ended ((forget s1).putCompletion frame)
      (s3.fetch s3.crSlots).turnAway

def execCompletionWrite (dmaFail : Bool) (s : State) : Host.Outcome State Fault Refusal := .next (s.completionWrite dmaFail)

/-- A command has written no first completion within first_ms (R452): INTERNAL_FAULT, event 19, criterion MAILBOX; what it
still writes is discarded. -/
def State.commandTimeout (s : State) (hd : Bool) (tag : Nat) : State :=
  match s.inflightOf hd tag with
  | none => s
  | some i =>
    if i.first then s
    else
      let s1 := s.complete hd i.opcode tag stInternalFault [] true
      let s2 := s1.onHost fun h => { h with
        timedOut := h.timedOut ++ [(hd, i.opcode, tag)], counters := { h.counters with timeouts := h.counters.timeouts + 1 } }
      (s2.raise 19 (le 2 i.opcode ++ le 2 0 ++ le 4 tag)).criterionFails 1

def execCommandTimeout (headend : Bool) (tag : Nat) (s : State) : Host.Outcome State Fault Refusal := .next (s.commandTimeout headend tag)

/-- PCIe hot reset, PERST_N asserted or link lost (R454, R461). `kind` is 0 hot reset, 1 PERST_N, 2 link lost. -/
def State.pcieLinkReset (s : State) (kind : Nat) : State :=
  if s.qspi then s
  else
    let s1 := (s.onHost fun h => { h with linkUp := false, linkRate := 0, linkWidth := 0 }).clearEnable 2
    let s2 := s1.onPower fun p => { p with perstN := if kind = 1 then false else p.perstN }
    if s.host.linkUp then s2.raise 16 (le 1 0 ++ le 1 0 ++ le 1 0 ++ le 1 0) else s2

def execPcieLinkReset (kind : Nat) (s : State) : Host.Outcome State Fault Refusal := .next (s.pcieLinkReset kind)

/-- The host link comes up (R439, R461). -/
def State.hostLinkUp (s : State) (rate width : Nat) : State :=
  let s1 := (s.onHost fun h => { h with linkUp := true, linkRate := rate, linkWidth := width }).onPower fun p => { p with perstN := true }
  s1.raise 16 (le 1 (b2n s.qspi) ++ le 1 1 ++ le 1 rate ++ le 1 width)

def execHostLinkUp (rate width : Nat) (s : State) : Host.Outcome State Fault Refusal := .next (s.hostLinkUp rate width)

def execMsiCoalesce (vector : Nat) (s : State) : Host.Outcome State Fault Refusal := .next (s.coalesceEnd vector)

/-- One record of a head-end command frame arrives on channel HEADEND (R458): reassembled by its length field; a whole
frame is judged as R449 judges a fetched one and waits for its command's row; one whose edge code fails is quarantined (R16). -/
def State.headendCommand (s : State) (part : Bytes) : State :=
  if s.host.phase = 0 then s
  else if s.cfgN 0x0010 2 = 0 then
    s.onHost fun h => { h with counters := { h.counters with headDiscarded := h.counters.headDiscarded + 1 } }
  else
    let b := s.host.headPartial ++ part
    let len := getLE 8 4 b
    if b.length < 12 ∨ (20 ≤ len ∧ len ≤ 262192 ∧ b.length < len) then s.onHost fun h => { h with headPartial := b }
    else
      let frame := b.take len
      let op := getLE 0 2 frame
      let tag := getLE 4 4 frame
      let s1 := s.onHost fun h => { h with headPartial := [] }
      if len < 20 ∨ 262192 < len ∨ b.length ≠ len then s1.sendCompletion true op tag stBadLength [] true
      else if !edgeOk frame then
        let s2 := s1.onHost fun h => { h with counters := { h.counters with edgeFail := h.counters.edgeFail + 1 } }
        ((s2.raise 18 (le 1 2 ++ le 1 0 ++ le 2 op ++ le 4 tag)).quarantineRecord frame).sendCompletion true op tag stBadField [] true
      else if !opcodeAssigned op then s1.sendCompletion true op tag stBadOpcode [] true
      else s1.onHost fun h => { h with headIn := h.headIn ++ [frame] }

def execHeadendCommand (part : Bytes) (s : State) : Host.Outcome State Fault Refusal := .next (s.headendCommand part)

def execSysEcho (c : HostCmd) (s : State) : Host.Outcome State Fault Refusal :=
  .next (s.serve 0x0102 c (fun _ => [(decide (4096 < c.req.length), stBadLength)]) (fun t => (t, .done c.req)))

def State.mbxStatusData (s : State) : Bytes :=
  let h := s.host
  let k := h.counters
  le 1 s.mbxState ++ le 4 s.crSlots ++ le 4 s.cprSlots ++ le 4 s.ntfEntries ++ le 4 h.crHead.toNat ++ le 4 h.crTail.toNat ++
  le 4 h.cprHead.toNat ++ le 4 h.cprTail.toNat ++ le 4 h.ntfHead.toNat ++ le 4 h.ntfTail.toNat ++
  le 2 ((h.inflight.filter (fun i => !i.headend)).length) ++ le 2 ((h.inflight.filter (·.headend)).length) ++
  le 4 k.taken ++ le 4 k.noCredit ++ le 4 k.edgeFail ++ le 4 k.timeouts ++ le 4 k.ringErrors ++ le 4 k.lateDiscarded ++
  le 4 k.ntfWritten ++ le 4 k.ntfLost ++ le 4 k.headDenied ++ le 4 k.headDiscarded

def execMbxStatus (c : HostCmd) (s : State) : Host.Outcome State Fault Refusal :=
  .next (s.serveQuery 0x0103 c 0 (fun _ => false) State.mbxStatusData)

end Sys2Proof.Machine
end

