-- ==== Sys2Proof/Machine/CpCommands.lean ====
section
/-! DEFINITION. Host commands that the command processor serves from what it holds of the sealed die: ledger (R191), tariffs
(R165), gate (R68, R81) and metrology (R110, R111). -/

namespace Sys2Proof.Machine
open Sys2Proof

/-- EIX fields of requests: bits [31:18] must be zero (R7). -/
def badEix (c : HostCmd) (off : Nat) : Bool := decide (2 ^ 18 ≤ getLE off 4 c.req)

/-! ### Ledger commands (R191) -/

/-- Order outcome, attempts made and NT of the next attempt (0 when none). -/
def State.orderBytes (s : State) (eix : Nat) : Bytes :=
  match s.cp.orders.get? eix with
  | none => le 1 0xFF ++ le 4 0 ++ le 8 0
  | some o => le 1 o.outcome ++ le 4 o.attempts ++ le 8 (if o.finished then 0 else s.time.nt.sec + o.nextOt - s.power.ot)

def execLedgerRead (c : HostCmd) (s : State) : Host.Outcome State Fault Refusal :=
  let eix := getLE 0 4 c.req
  .next (s.serve 0x0401 c (fun t => [lenIs c 4, badField (badEix c 0), (!t.cp.current.has eix, stNotFound)])
    (fun t => (t, .done (t.cp.current.getD eix [] ++ t.orderBytes eix))))

/-- The stored images of an EIX, oldest first. -/
def State.images (s : State) (eix image : Nat) : List StoreRec :=
  (s.streamRecs 6).filter (fun r => r.kind = 0x82 && getLE 0 4 r.data = eix && getLE 4 1 r.data = image)

def execLedgerReadClose (c : HostCmd) (s : State) : Host.Outcome State Fault Refusal :=
  let found := fun (t : State) => (t.images (getLE 0 4 c.req) 1).filter (fun r => getLE 56 4 r.data = getLE 4 4 c.req)
  let off := fun (t : State) => t.meetsOffline 6 fun r => r.kind = 0x82 && getLE 0 4 r.data = getLE 0 4 c.req && getLE 4 1 r.data = 1 && getLE 56 4 r.data = getLE 4 4 c.req
  .next (s.serve 0x0402 c (fun t => [lenIs c 8, badField (badEix c 0), ((found t).isEmpty && !off t, stNotFound), (off t, stInternalFault)])
    (fun t => (t, .done (((found t).getLast?.map (·.data)).getD []))))

/-- A SNAPSHOT image carries no time: it stands at the NT at which it was stored (log 43). -/
def execLedgerReadSnapshots (c : HostCmd) (s : State) : Host.Outcome State Fault Refusal :=
  let n := getLE 12 4 c.req
  .next (s.serveRead 0x0403 c 16 (fun _ => badEix c 0 || n = 0 || decide (64 < n))
    (fun t => t.meetsOffline 6 fun r => r.kind = 0x82 && getLE 0 4 r.data = getLE 0 4 c.req && getLE 4 1 r.data = 2 &&
      decide (getLE 4 8 c.req + t.power.ot ≤ t.time.nt.sec + r.ot))
    (fun t => (((t.images (getLE 0 4 c.req) 2).filter (fun r => decide (getLE 4 8 c.req + t.power.ot ≤ t.time.nt.sec + r.ot))).take n).map (·.data) |>.flatten))

/-- Whether a CURRENT record matches the filters of LEDGER_LIST. -/
def ledgerMatches (req r : Bytes) : Bool :=
  decide (getLE 0 1 req ≤ getLE 7 1 r) && (getLE 1 1 req = 0 || getLE 1 1 req = getLE 6 1 r + 1) &&
    Nat.land (getLE 2 1 req) (getLE 8 1 r) = getLE 2 1 req

def execLedgerList (c : HostCmd) (s : State) : Host.Outcome State Fault Refusal :=
  let n := getLE 8 4 c.req
  .next (s.serveQuery 0x0404 c 12 (fun _ => decide (2 < getLE 1 1 c.req) || !zeroAt 3 1 c.req || badEix c 4 || n = 0 || decide (1024 < n))
    (fun t => (((t.cp.current.filter (fun p => decide (getLE 4 4 c.req ≤ p.1) && ledgerMatches c.req p.2)).take n).map (fun p => le 4 p.1)).flatten))

def State.ledgerSummary (s : State) : Bytes :=
  let rs := Tab.vals s.cp.current
  let count := fun (off v : Nat) => le 4 ((rs.filter (fun r => getLE off 1 r = v)).length)
  ((List.range 3).map (count 5)).flatten ++ ((List.range 4).map (count 7)).flatten ++ ((List.range 2).map (count 6)).flatten ++
    le 4 ((rs.filter (fun r => bit (getLE 8 1 r) 2)).length) ++ leI 16 (((rs.filter (fun r => getLE 5 1 r = 1)).map (getI 16 8)).sum)

def execLedgerSummary (c : HostCmd) (s : State) : Host.Outcome State Fault Refusal :=
  .next (s.serveQuery 0x0405 c 0 (fun _ => false) State.ledgerSummary)

/-- Whether an order's schedule may be restarted. -/
def State.orderRetryable (s : State) (eix : Nat) : Bool :=
  match s.cp.orders.get? eix with
  | some o => !o.finished || o.outcome = 1
  | none => false

def execOrderRetry (c : HostCmd) (s : State) : Host.Outcome State Fault Refusal :=
  let eix := getLE 0 4 c.req
  .next (s.serve 0x0406 c (fun t => [lenIs c 4, badField (badEix c 0), (!t.orderRetryable eix, stNotFound)])
    (fun t => (t.onCp fun x => { x with orders := x.orders.adj eix fun o => { o with
      attempts := 0, startOt := t.power.ot, nextOt := t.power.ot, outcome := 0xFF, awaiting := false, getSent := false, undelivered := false, finished := false } },
      .done [])))

/-! ### Tariff commands (R165, log 44) -/

/-- Version and activation of a held document. -/
def tdocBytes (d : Option TDoc) : Bytes := le 4 ((d.map (·.version)).getD 0) ++ le 8 ((d.map (·.activation)).getD 0)

def State.tariffStatus (s : State) : Bytes :=
  let x := s.tariffView
  tdocBytes x.active ++ tdocBytes x.previous ++ tdocBytes x.pendingDoc ++ le 4 x.period ++
    le 8 (x.markClose.getD 0) ++ le 8 (x.markSnapshot.getD 0) ++ le 8 (x.markActivation.getD 0)

def execTariffStatus (c : HostCmd) (s : State) : Host.Outcome State Fault Refusal :=
  .next (s.serveQuery 0x0501 c 0 (fun _ => false) State.tariffStatus)

/-- The accepted document that is active, previous or pending: envelope and body. -/
def State.heldDoc (s : State) (which : Nat) : Option Bytes :=
  let x := s.tariffView
  let d := if which = 0 then x.active else if which = 1 then x.previous else x.pendingDoc
  d.bind fun t => ((s.cp.acceptedDocs.filter (fun a => getLE 12 4 a.2 = t.version)).getLast?).map fun a => a.2.take (56 + getLE 8 4 a.2)

def execTariffReadDoc (c : HostCmd) (s : State) : Host.Outcome State Fault Refusal :=
  let which := getLE 0 1 c.req
  .next (s.serve 0x0502 c (fun t => [lenIs c 4, badField (decide (2 < which) || !zeroAt 1 3 c.req), ((t.heldDoc which).isNone, stNotFound)])
    (fun t => (t, .done ((t.heldDoc which).getD []))))

/-- TARIFF_EVALUATE's answer for the interval that ends at `fin` (log 44). -/
def State.tariffAt (s : State) (d : TDoc) (start : Int) : Bytes :=
  let off := s.tariffView.utcOffset
  let loc := d.localOf off start
  let tb := d.tableAt loc
  leI 8 loc ++ le 1 (b2n (d.dst (start + off))) ++ le 1 (d.seasonAt (loc.fdiv 86400)) ++ le 1 (d.dayProfile (loc.fdiv 86400)) ++ le 1 tb ++
    le 1 (d.impReg tb) ++ le 1 (d.expReg tb) ++ le 2 0 ++ le 4 (d.blockPrice tb 1) ++ le 4 (d.blockPrice tb 2) ++ le 4 (d.blockPrice tb 3)

def execTariffEvaluate (c : HostCmd) (s : State) : Host.Outcome State Fault Refusal :=
  let fin := getLE 0 8 c.req
  let len := getLE 8 4 c.req
  let start : Int := (fin : Int) - len
  .next (s.serve 0x0503 c (fun t => [lenIs c 12, badField (len = 0 || decide (fin < len)), ((t.tariffView.docFor start).isNone, stNotFound)])
    (fun t => (t, .done (match t.tariffView.docFor start with
      | some (d, _) => t.tariffAt d start
      | none => []))))

def execTariffStepLog (c : HostCmd) (s : State) : Host.Outcome State Fault Refusal :=
  .next (s.serveQuery 0x0504 c 0 (fun _ => false)
    (fun t => padTo 256 ((t.tariffView.stepLog.take 16).map (fun e => leI 8 e.1 ++ leI 8 e.2)).flatten))

/-! ### Gate commands (R81) -/

/-- GATE_STATUS: link state, sequences, fill of both parts of the output buffer, refusals by status. -/
def State.gateStatus (s : State) : Bytes :=
  let g := s.gate
  le 1 (b2n g.up) ++ le 4 g.inNext ++ le 4 (g.ackRegister.getD 0xFFFFFFFF) ++ le 4 (s.outUsed true) ++ le 4 (s.outUsed false) ++
    ((([stBusy, stNoCredit, stBadLength, stBadField, stDeniedSeal, stDeniedAuth, stSignatureBad, stTimeInvalid] : List Nat).map
      (fun st => le 2 st ++ le 4 (g.refusals.getD st 0)))).flatten

def execGateStatus (c : HostCmd) (s : State) : Host.Outcome State Fault Refusal :=
  .next (s.serveQuery 0x1001 c 0 (fun _ => false) State.gateStatus)

def execReadIdent (c : HostCmd) (s : State) : Host.Outcome State Fault Refusal :=
  .next (s.serve 0x1002 c (fun t => [lenIs c 0, (t.cp.ident.isEmpty, stNotFound)]) (fun t => (t, .done t.cp.ident)))

/-- A TIME_OFFER message; its time is filled in as it is sent (R70). -/
def offerMsg (utc : Int) (quality flags : Nat) : Bytes := gateMsg 4 0 (zeros 12 ++ leI 2 utc ++ le 1 quality ++ le 1 flags ++ zeros 16)

/-- Queue an offer without time for a command: it ends with the status of the response word (R70, R81). -/
def State.offerFor (s : State) (op flags : Nat) (c : HostCmd) : State × Reply :=
  let key := s.nextSeqOn 18
  ((s.defer workOffer key op c).send 14 18 (offerMsg s.time.utcOffset s.time.level flags), .later)

def execCloseBatch (c : HostCmd) (s : State) : Host.Outcome State Fault Refusal :=
  .next (s.serve 0x1003 c (fun _ => [lenIs c 0]) (fun t => t.offerFor 0x1003 2 c))

def execRequestReport (c : HostCmd) (s : State) : Host.Outcome State Fault Refusal :=
  .next (s.serve 0x1005 c (fun _ => [lenIs c 0]) (fun t => t.offerFor 0x1005 4 c))

/-- Queue a document or segment: ACCEPTED, then the status of its response word (R81). -/
def State.submitTo (s : State) (op kind : Nat) (payload : Bytes) (c : HostCmd) : State × Reply :=
  let key := s.nextSeqOn 17
  ((s.defer workDoc key op c).send 11 17 (gateMsg kind 0 payload), .accepted)

def execSubmitDocument (c : HostCmd) (s : State) : Host.Outcome State Fault Refusal :=
  let kind := getLE 0 1 c.req
  let doc := c.req.drop 1
  .next (s.serve 0x1004 c
    (fun _ => [(decide (c.req.length < 2), stBadLength), badField (!([2, 3, 5].contains kind) || getLE 4 2 doc = 0x15)])
    (fun t => t.submitTo 0x1004 kind doc c))

def execSubmitDocSegment (c : HostCmd) (s : State) : Host.Outcome State Fault Refusal :=
  .next (s.serve 0x1006 c (fun _ => [(decide (c.req.length < 17), stBadLength)]) (fun t => t.submitTo 0x1006 5 c.req c))

/-! ### Metrology commands (R111) -/

/-- The stored records of a feeder phase, oldest first. -/
def State.feederRecs (s : State) (f p : Nat) : List Bytes :=
  ((s.streamRecs 7).map (·.data)).filter (fun d => getLE 0 1 d = f && getLE 1 1 d = p)

/-- A selected feeder phase without a stored record has no bytes in the answer: DESIGN CHOICE (log 153). -/
def execMetroLatest (c : HostCmd) (s : State) : Host.Outcome State Fault Refusal :=
  let m := getLE 0 1 c.req
  .next (s.serveRead 0x1020 c 4 (fun _ => decide (15 < m) || !zeroAt 1 3 c.req)
    (fun t => (List.range 12).any fun i => bit m (i / 3) &&
      (((t.validRecs 7).filter (fun r => getLE 0 1 r.data = i / 3 && getLE 1 1 r.data = i % 3 + 1)).getLast?.map (fun r => !t.readable r)).getD false)
    (fun t => ((((List.range 4).filter (bit m)).map (fun f =>
      ((List.range 3).map (fun p => ((t.feederRecs f (p + 1)).getLast?).getD [])).flatten))).flatten))

/-- METRO_ZX_STATUS for one voltage channel (log 45): state (0 detected, 1 LOST), last translated stamp, mean frequency in mHz of the
stamps of the last 10 s; the state is the open die's own copy, from event 46 (R111). -/
def State.zxStatus (s : State) (ch : Nat) : Bytes :=
  let zs := s.time.zxDone.filter (·.channel = ch)
  let lost := s.plc.zxLost.getD (ch - 1) false
  match zs.head?, zs.getLast? with
  | some a, some b =>
    let halves := (b.half + 65536 - a.half) % 65536
    let span := b.nt - a.nt
    le 1 (b2n lost) ++ le 8 (b.nt / 256 / 1000000000) ++ le 4 (b.nt / 256 % 1000000000) ++ le 1 b.flags ++ le 2 b.half ++
      le 4 (if span = 0 then 0 else halves * 500 * 256000000000 / span)
  | _, _ => le 1 (b2n lost) ++ zeros 19

def execMetroZxStatus (c : HostCmd) (s : State) : Host.Outcome State Fault Refusal :=
  .next (s.serveQuery 0x1021 c 0 (fun _ => false) (fun t => ((List.range 3).map (fun p => t.zxStatus (p + 1))).flatten))

def execMetroReadObject (c : HostCmd) (s : State) : Host.Outcome State Fault Refusal :=
  let o := getLE 0 2 c.req
  .next (s.serve 0x1022 c (fun t => [lenIs c 4, badField (o / 4096 ≠ 1 || !zeroAt 2 2 c.req), ((t.mirrored o).isNone, stNotFound)])
    (fun t =>
      let d := (t.mirrored o).getD []
      (t, .done (le 1 (b2n (o / 256 = 0x12 && t.mirrorVerified)) ++ le 2 d.length ++ d))))

def execMetroVerifyMirror (c : HostCmd) (s : State) : Host.Outcome State Fault Refusal :=
  .next (s.serve 0x1023 c (fun t => [lenIs c 0, (!t.mirrorVerified, stDeniedSeal)]) (fun t => (t, .done [])))

def execMetroReadHistory (c : HostCmd) (s : State) : Host.Outcome State Fault Refusal :=
  let f := getLE 0 1 c.req
  let p := getLE 1 1 c.req
  let n := getLE 12 4 c.req
  .next (s.serveRead 0x1024 c 16 (fun _ => decide (3 < f) || p = 0 || decide (3 < p) || !zeroAt 2 2 c.req || n = 0 || decide (256 < n))
    (fun t => t.meetsOffline 7 fun r => getLE 0 1 r.data = f && getLE 1 1 r.data = p && decide (getLE 4 8 c.req ≤ getLE 8 8 r.data))
    (fun t => (((t.feederRecs f p).filter (fun d => decide (getLE 4 8 c.req ≤ getLE 8 8 d))).take n).flatten))

end Sys2Proof.Machine
end

