-- ==== Sys2Proof/Machine/TimeRows.lean ====
section
/-! DEFINITION. Rows and commands of the time unit beside PTP: second markers, zero-crossing stamps, time offers, TIME_SET (R260,
R266, R270 to R273, R278). -/

namespace Sys2Proof.Machine
open Sys2Proof

/-- SECOND_MARKER: a marker unit arrives, captured at NT `capture` in ns (R270). -/
def State.secondMarker (s : State) (capture : Int) : State :=
  match s.gate.units.findSome? (fun u => match u with
      | .marker c sec => some (c, sec)
      | _ => none) with
  | none => s
  | some (c, sec) => (s.onGate fun g => { g with units := g.units.erase (.marker c sec) }).markerArrives sec c capture

def execSecondMarker (capture : Int) (s : State) : Host.Outcome State Fault Refusal := .next (s.secondMarker capture)

/-- MARKER_LOST: 3 s without a marker, counted from the start while none has come; translation stops, and the ports act on every phase as on one that is LOST (R271). -/
def State.markerLost (s : State) : State :=
  let t := s.time.markerOt.getD s.sec.runStartOt
  if s.openRuns ∧ !s.time.markerLost ∧ t + 3 ≤ s.power.ot then
    ((s.onTime fun x => { x with markerLost := true, zxHeld := [] }).raise 154 (le 4 (s.power.ot - t))).zxReference s.phasesHeld 0
  else s

def execMarkerLost (s : State) : Host.Outcome State Fault Refusal := .next s.markerLost

def execZxInPacket (s : State) : Host.Outcome State Fault Refusal := .next (if s.openRuns then s.zxInPacket else s)

/-! ### Time offers (R272, R273) -/

/-- What is left of the budget by the open die's own record (R272), in ms. -/
def State.offerBudget (s : State) : Nat :=
  s.mirrorN 0x1101 0 - ((s.time.offers.filter (fun p => decide ((s.power.ot : Int) < p.1 + 86400))).map (·.2)).sum

/-- Whether the sealed time state is INVALID by the latest identification record. -/
def State.sealedInvalid (s : State) : Bool := !s.cp.ident.isEmpty && getLE 162 1 s.cp.ident = 2

/-- The conditions of R272 but for the budget and for the period or threshold. -/
def State.offerAllowed (s : State) : Bool :=
  !s.time.frozen && s.openRuns && !s.time.markers.isEmpty && decide (2 ≤ s.time.level) && decide (s.mirrorN 0x1101 1 ≤ s.time.level) &&
    (match s.time.lastSent with
     | some t => decide (t + s.mirrorN 0x1101 2 ≤ s.power.ot)
     | none => true)

/-- offer_period_s since the last accepted offer, or Δ̂ at the threshold (R272). -/
def State.offerWanted (s : State) : Bool :=
  (match s.time.lastAccepted with
   | some t => decide (t + s.cfgN 0x6000 9 ≤ s.power.ot)
   | none => true) || decide (s.cfgN 0x6000 10 * 1000000 ≤ s.deltaHat.natAbs)

/-- Whether Δ̂ fits the budget; the test is skipped for the first offer to a sealed die whose time is INVALID (R273). -/
def State.offerFits (s : State) : Bool := (s.time.firstOffer && s.sealedInvalid) || decide (s.deltaMs ≤ s.offerBudget)

/-- Send an offer of NT. -/
def State.sendOffer (s : State) : State :=
  (s.onTime fun t => { t with lastSent := some s.power.ot, outstanding := some s.deltaMs, firstOffer := false }).send 14 18
    (offerMsg s.time.utcOffset s.time.level 1)

/-- Event 153, once until an offer is accepted or a time-step document applied (R272). -/
def State.offsetLarge (s : State) : State :=
  if s.time.largeRaised then s
  else (s.onTime fun t => { t with largeRaised := true }).raise 153 (le 4 s.offerBudget ++ leI 4 (msOf s.deltaHat))

/-- TIME_OFFER_DECISION. -/
def State.offerDecision (s : State) : State :=
  if !s.offerAllowed then s
  else if !s.offerFits then s.offsetLarge
  else if s.offerWanted then s.sendOffer else s

def execTimeOfferDecision (s : State) : Host.Outcome State Fault Refusal := .next s.offerDecision

/-! ### Commands (R278) -/

def State.timeStatus (s : State) : Bytes :=
  let t := s.time
  le 8 t.nt.sec ++ le 4 t.nt.ns ++ leI 2 t.utcOffset ++ le 1 t.level ++ le 1 (sourceCode t.source) ++ le 4 t.stepCount ++ leI 8 t.filtered ++
    leI 4 (t.freqPpb + t.phasePpb) ++ le 4 (s.power.ot - t.holdoverSince.getD s.power.ot) ++ leI 8 s.deltaHat ++ le 4 s.offerBudget ++ s.stampBytes

def execTimeStatus (c : HostCmd) (s : State) : Host.Outcome State Fault Refusal :=
  .next (s.serveQuery 0x0A01 c 0 (fun _ => false) State.timeStatus)

/-- Whether a source of level 4 or above is selected. -/
def State.strongSource (s : State) : Bool :=
  match s.time.source with
  | some i => decide (4 ≤ s.candLevel i)
  | none => false

/-- The host source is set (R260, R266, R278), NT also while a PTP source without lock stays selected (log 164): event 155 with the offset in µs. -/
def State.timeSet (s : State) (sec ns unc : Nat) : State :=
  let stamp := s.host.cmdStamp
  let want : Int := ((sec * 1000000000 + ns + s.cfgN 0x6000 7 * 1000 : Nat) : Int)
  let d := want - ((stamp.1 * 1000000000 + stamp.2 : Nat) : Int)
  let s1 := (s.onTime fun t => { t with hostSetOt := some s.power.ot, hostUncertainty := unc }).onCand 2 fun c => { c with up := true }
  let s2 := s1.raise 155 (leI 4 (clampI (-(2 ^ 31)) (2 ^ 31 - 1) (d.tdiv 1000)) ++ le 4 unc)
  let s3 := s2.selectBest
  (if s3.time.source = some 2 then s3.onTime fun t => { t with utcOffset := s.cfgI 0x6000 8 } else s3).ntUpdate s.time.level 2 d

def execTimeSet (c : HostCmd) (s : State) : Host.Outcome State Fault Refusal :=
  .next (s.serve 0x0A02 c
    (fun t => [lenIs c 16, badField (decide (2000 < getLE 12 4 c.req) || decide (999999999 < getLE 8 4 c.req)), (t.strongSource, stTimeInvalid)])
    (fun t => (t.timeSet (getLE 0 8 c.req) (getLE 8 4 c.req) (getLE 12 4 c.req), .done [])))

/-- NT of the interrupt whose pass fetched the command, NT of this completion, level (R260). -/
def execTimeGet (c : HostCmd) (s : State) : Host.Outcome State Fault Refusal :=
  .next (s.serveQuery 0x0A03 c 0 (fun _ => false) (fun t =>
    le 8 t.host.cmdStamp.1 ++ le 4 t.host.cmdStamp.2 ++ le 8 t.time.nt.sec ++ le 4 t.time.nt.ns ++ le 1 t.time.level))

/-- One candidate in TIME_SOURCES: state 0 down, 1 up, 2 locked. -/
def State.candBytes (s : State) (i : Nat) : Bytes :=
  let c := s.cand i
  le 1 (if !c.up then 0 else if c.locked ∨ i = 2 then 2 else 1) ++ le 1 (s.candLevel i) ++ le 2 0 ++ le 4 (if c.locked then s.power.ot - c.lockedOt else 0) ++
    padTo 8 c.gm ++ le 1 c.clockClass ++ zeros 3 ++ leI 8 (c.offsets.getLast?.getD 0) ++ leI 8 c.delay

def execTimeSources (c : HostCmd) (s : State) : Host.Outcome State Fault Refusal :=
  .next (s.serveQuery 0x0A04 c 0 (fun _ => false) (fun t => ((List.range 3).map t.candBytes).flatten))

/-- TIME_OFFER_NOW: an offer at once where R272 permits it, whatever the period and threshold; the completion carries the
sealed status (R278). -/
def execTimeOfferNow (c : HostCmd) (s : State) : Host.Outcome State Fault Refusal :=
  .next (s.serve 0x0A05 c (fun t => [lenIs c 0, (!(t.offerAllowed && t.offerFits), stTimeInvalid)])
    (fun t => ((t.defer workOffer (t.nextSeqOn 18) 0x0A05 c).sendOffer, .later)))

end Sys2Proof.Machine
end

