-- ==== Sys2Proof/Machine/Plc.lean ====
section
/-! DEFINITION. The power-line ports: reception on three phases, link cost, the MAC queue and transmission, routing, repeater election,
clock SETs, resets (R193 to R228). -/

namespace Sys2Proof.Machine
open Sys2Proof

def State.port (s : State) (p : Nat) : PlcPort := s.plc.ports.getD p {}
def State.onPort (s : State) (p : Nat) (f : PlcPort → PlcPort) : State :=
  s.onPlc fun x => { x with ports := x.ports.set p (f (x.ports.getD p {})) }

/-- The EIX of a source key, without the effects of a lookup. -/
def State.eixOf (s : State) (port kind : Nat) (key : Bytes) : Option Nat :=
  if kind = 0 then s.tbl.findEui (padTo 8 key) else s.tbl.direct.get? (port * 65536 + getLE 0 2 key)

/-- Short address of an EIX. -/
def State.shortOf (s : State) (eix : Nat) : Nat := ((s.tbl.dir.get? eix).map (·.short)).getD 0xFFFF

/-! ### Phases, tones and shares (R194, R199, R202 to R204) -/

/-- Mains phase of channel `k` (0 to 2) of a port, 0 to 2 (R194). -/
def State.phaseOf (s : State) (p k : Nat) : Nat := (s.plcN p 4 / 4 ^ k % 4) - 1

/-- Channel of a mains phase. -/
def State.channelOf (s : State) (p ph : Nat) : Nat := ((List.range 3).find? (fun k => s.phaseOf p k = ph)).getD 0

/-- The mains phases of the channels that transmit, 3 bits (R208, R224). -/
def State.allPhases (s : State) (p : Nat) : Nat :=
  (((List.range 3).filter (fun k => s.cfgE (0x4000 + p) 6 k ≠ 0xFF)).map (fun k => 2 ^ s.phaseOf p k)).sum

/-- Tones of the band of a port, tone-map groups, tones of a group (R198). -/
def State.bandTones (s : State) (p : Nat) : Nat := if s.plcN p 1 = 0 then 36 else 72
def State.groups (s : State) (p : Nat) : Nat := if s.plcN p 1 = 0 then 6 else 24
def State.groupSize (s : State) (p : Nat) : Nat := if s.plcN p 1 = 0 then 6 else 3

/-- Whether the tone mask enables tone `i` of the band (R199). -/
def State.toneOn (s : State) (p i : Nat) : Bool := bit (s.plcN p 7) i

/-- The tone-map groups with a tone that the mask enables (R198, R199). -/
def State.liveGroups (s : State) (p : Nat) : Nat :=
  (((List.range (s.groups p)).filter (fun g => (List.range (s.groupSize p)).any (fun j => s.toneOn p (g * s.groupSize p + j)))).map (2 ^ ·)).sum

/-- The tones in use under a tone map (R199, R202). -/
def State.tonesInUse (s : State) (p map : Nat) : List Nat :=
  (List.range (s.bandTones p)).filter fun i => s.toneOn p i && bit map (i / s.groupSize p)

/-- The groups that are off under a tone map; one whose tones are all masked counts as off (R199, R210). -/
def State.offGroups (s : State) (p map : Nat) : Nat := s.groups p - popcount (s.groups p) (Nat.land map (s.liveGroups p))

/-- max_mod and coherent applied to a modulation coded as in R213 (R200). -/
def State.limitMod (s : State) (p m : Nat) : Nat :=
  min (m % 4) (s.plcN p 8) + (if s.plcN p 9 = 0 then 0 else 4 * (m / 4 % 2))

/-- |Ĥ|² / σ̂² of a tone on a path (R202). -/
def toneEnergy (t : Nat × Nat × Nat) : F32 := F32.div (F32.add (F32.mul t.1 t.1) (F32.mul t.2.1 t.2.1)) t.2.2

/-- The combining weight conj(Ĥ) / σ̂² of a tone on a path (R201). -/
def toneWeight (t : Nat × Nat × Nat) : F32 × F32 := (F32.div t.1 t.2.2, F32.div (F32.neg t.2.1) t.2.2)

/-- What channel `k` (0 to 2) measured of a frame, and its estimates of the tones in use: none on a disabled path (R201). -/
def rxPath (f : PlcRx) (k : Nat) : PlcPath := f.paths.getD k {}
def State.estimates (s : State) (p : Nat) (f : PlcRx) (k : Nat) : List (Nat × Nat × Nat) :=
  if bit (s.plcN p 5) k then (s.tonesInUse p f.map).map fun i => (rxPath f k).tones.getD i (0, 0, F32.ofInt 1) else []

/-- The path energies by mains phase (R202). -/
def State.energies (s : State) (p : Nat) (f : PlcRx) : F32 × F32 × F32 :=
  let g := fun ph => F32.sum ((s.estimates p f (s.channelOf p ph)).map toneEnergy)
  (g 0, g 1, g 2)

/-- Receive shares of a frame (R202). -/
def sharesOfFrame (g : F32 × F32 × F32) : F32 × F32 × F32 :=
  let t := F32.add (F32.add g.1 g.2.1) g.2.2
  (F32.div g.1 t, F32.div g.2.1 t, F32.div g.2.2 t)

/-- The largest n with 10^n ≤ x^10: the whole decibels of a positive binary32 number, from −60 to 99. -/
def floorDb (x : F32) : Int :=
  let holds : Int → Bool := fun n =>
    let a := x.sig ^ 10
    let e := x.exp2 * 10
    let l := (if 0 ≤ n then 10 ^ n.toNat else 1) * (if e < 0 then 2 ^ (-e).toNat else 1)
    let r := a * (if n < 0 then 10 ^ (-n).toNat else 1) * (if 0 ≤ e then 2 ^ e.toNat else 1)
    decide (l ≤ r)
  (((List.range 160).filter (fun (k : Nat) => holds (Int.ofNat k - 60))).length : Int) - 61

/-- Whole decibels of the combined SNR of a frame (R202). -/
def snrOfFrame (g : F32 × F32 × F32) (tones : Nat) : Int :=
  floorDb (F32.div (F32.add (F32.add g.1 g.2.1) g.2.2) (F32.ofInt tones))

/-- End of the balance interval that holds an instant (R115, R203). -/
def intervalEnd (len sec ns : Nat) : Nat := if len = 0 then 0 else cdiv (sec + (if ns = 0 then 0 else 1)) len * len

/-- A usable frame enters the ring and the interval's sums (R203). -/
def Shares.put (x : Shares) (t : Nat) (q : F32 × F32 × F32) : Shares :=
  { ring := (x.ring ++ [q]).drop (x.ring.length + 1 - 16)
    sums := x.sums.upd t (0, 0, 0, 0) fun v => (F32.add v.1 q.1, F32.add v.2.1 q.2.1, F32.add v.2.2.1 q.2.2, v.2.2.2 + 1) }

/-- 1/3. -/
def third : F32 := F32.div (F32.ofInt 1) (F32.ofInt 3)

/-- The mean of sums over a count, or 1/3 each without frames (R203). -/
def meanShare (v : F32 × F32 × F32 × Nat) : F32 × F32 × F32 :=
  if v.2.2.2 = 0 then (third, third, third)
  else (F32.div v.1 (F32.ofInt v.2.2.2), F32.div v.2.1 (F32.ofInt v.2.2.2), F32.div v.2.2.1 (F32.ofInt v.2.2.2))

/-- Ring-mean shares of an endpoint. -/
def Shares.ringMean (x : Shares) : F32 × F32 × F32 :=
  meanShare (F32.sum (x.ring.map (·.1)), F32.sum (x.ring.map (·.2.1)), F32.sum (x.ring.map (·.2.2)), x.ring.length)

/-- The share records of an endpoint on a port (R203). -/
def State.sharesOn (s : State) (p eix : Nat) : Shares := s.plc.shares.getD (p * 2 ^ 18 + eix) {}

/-- Shares over balance intervals, as the port that an endpoint is bound to holds them (R203); 1/3 each when a receive path of the port is
off. -/
def State.intervalShare (s : State) (eix : Nat) (ts : List Nat) : F32 × F32 × F32 :=
  let port := ((s.tbl.dir.get? eix).map (·.port)).getD 0xF
  if 3 < port ∨ s.plcN port 5 ≠ 7 then (third, third, third)
  else
    meanShare (((s.sharesOn port eix).sums.filter (fun p => ts.contains p.1)).foldl
      (fun a p => (F32.add a.1 p.2.1, F32.add a.2.1 p.2.2.1, F32.add a.2.2.1 p.2.2.2.1, a.2.2.2 + p.2.2.2.2)) (0, 0, 0, 0))

/-- Phase 1 to 3 with the highest of three values; ties go to the lower phase. -/
def topPhase (q : F32 × F32 × F32) : Nat :=
  if F32.lt q.1 q.2.1 then (if F32.lt q.2.1 q.2.2 then 3 else 2) else (if F32.lt q.1 q.2.2 then 3 else 1)

def phaseVal (q : F32 × F32 × F32) (ph : Nat) : F32 := if ph = 1 then q.1 else if ph = 2 then q.2.1 else q.2.2

/-- Best phase of an endpoint on a port: 0 with fewer than tx_history_min frames (R204, R213). -/
def State.bestPhase (s : State) (p eix : Nat) : Nat :=
  let x := s.sharesOn p eix
  if x.ring.length < s.plcN p 11 then 0 else topPhase x.ringMean

/-! ### Link cost (R210) -/

/-- link_cost of R210; `mod` is coded as in R213. -/
def State.linkCost (s : State) (p mod off : Nat) (snr : Int) (lost imp : Nat) : Nat :=
  let l := popcount 5 lost
  let f := if 3 ≤ l then l else (((List.range 5).filter (fun i => bit lost i && !bit imp i))).length
  let miss := (s.cfgI 0x4010 4 - snr).toNat
  min 255 (s.cfgN 0x4010 0 + s.cfgN 0x4010 1 * (3 - mod % 4) + s.cfgN 0x4010 2 * off / s.groups p + s.cfgN 0x4010 3 * miss + s.cfgN 0x4010 5 * f)

def State.lcRx (s : State) (p : Nat) (n : PlcNeigh) : Nat := s.linkCost p n.mod n.groupsOff n.snr n.lost n.imp

/-- LC_tx, from the neighbour's last tone map response (R210); none without one. A link cost reply does not enter it (log 165). -/
def State.lcTx (s : State) (p : Nat) (n : PlcNeigh) : Option Nat :=
  n.tmr.map fun t => s.linkCost p t.1 (s.offGroups p t.2.2) t.2.1 n.lost n.imp

def State.hopCost (s : State) (p : Nat) (n : PlcNeigh) : Nat := max (s.lcRx p n) ((s.lcTx p n).getD 0)

/-- A neighbour is entered or replaced (R212): a full table gives up the entry heard longest ago that no route uses. -/
def State.putNeigh (s : State) (p short : Nat) (f : PlcNeigh → PlcNeigh) : State :=
  let x := s.port p
  if x.neighs.has short ∨ x.neighs.length < 4096 then s.onPort p fun y => { y with neighs := y.neighs.upd short {} f }
  else
    let used := (s.plc.routes.filter (fun r => r.1 / 65536 = p)).map (·.2.hop)
    let free := x.neighs.filter (fun n => !used.contains n.1)
    match free.foldl (fun (m : Option (Nat × PlcNeigh)) n => match m with
        | none => some n
        | some b => if n.2.order < b.2.order then some n else some b) none with
    | some v => s.onPort p fun y => { y with neighs := (y.neighs.erase v.1).upd short {} f }
    | none => s.onPort p fun y => { y with neighFull := y.neighFull + 1 }

/-- The outcome of a unicast attempt to a neighbour enters its history. -/
def State.attempt (s : State) (p short : Nat) (lost imp : Bool) : State :=
  s.onPort p fun y => { y with neighs := y.neighs.adj short fun n => { n with
    lost := (n.lost * 2 + b2n lost) % 32, imp := (n.imp * 2 + b2n imp) % 32 } }

/-- An impulsive loss: event base + 3 when more than 20 fall within 60 s, at most once per 600 s (R207). -/
def State.impulsiveLoss (s : State) (p : Nat) : State :=
  let now := s.power.ot
  let s1 := s.onPort p fun y => { y with impulses := (y.impulses.filter (fun t => decide (now < t + 60))) ++ [now] }
  let n := (s1.port p).impulses.length
  let quiet : Bool := match (s1.port p).stormOt with
    | some t => decide (now < t + 600)
    | none => false
  if 20 < n ∧ !quiet then (s1.onPort p fun y => { y with stormOt := some now }).raisePlc p 3 (le 4 n) else s1

/-! ### Phases and form of a transmission (R200, R208, R218) -/

/-- Phases of a unicast first attempt to a neighbour (R208). -/
def State.unicastPhases (s : State) (p hop : Nat) : Nat :=
  let e := (((s.port p).neighs.get? hop).map (·.eix)).getD noEix
  let ph := s.bestPhase p e
  let q := phaseVal (s.sharesOn p e).ringMean ph
  let single := decide (ph ≠ 0) && F32.le (F32.q16 (s.cfgI (0x4000 + p) 10)) q && bit (s.allPhases p) (ph - 1)
  if single then 2 ^ (ph - 1) else s.allPhases p

/-- The phases of a frame, by the first matching row of R208. -/
def State.framePhases (s : State) (p : Nat) (t : PlcTx) : Nat :=
  match t.dest with
  | .hop h =>
    if t.kind = .rreq ∨ (t.kind = .lbp ∧ !s.plc.joined.has t.eix) ∨ 1 < t.tries then s.allPhases p else s.unicastPhases p h
  | _ => s.allPhases p

/-- Modulation and tone map of a frame (R200): for data to an endpoint those of its last tone map response within the limits and the
mask, free values where it has given none (log 133); ROBO on all unmasked tones for every other frame. -/
def State.frameForm (s : State) (p : Nat) (t : PlcTx) : Nat × Nat × State :=
  let hopTo : Option Nat := match t.kind, t.dest with
    | .data, .hop h => some h
    | .time, .hop h => some h
    | _, _ => none
  match hopTo with
  | none => (0, s.liveGroups p, s)
  | some h =>
    match ((s.port p).neighs.get? h).bind (·.tmr) with
    | some (m, _, map) => (s.limitMod p m, Nat.land map (s.liveGroups p), s)
    | none =>
      let (m, s1) := s.draw 5 1
      let (map, s2) := s1.draw 6 3
      (s.limitMod p m, Nat.land map (s.liveGroups p), s2)

/-- The mains period and the time from the last rising zero crossing of a mains phase (1 to 3) to an NT instant, in ns, from the translated
stamps (R218, log 166); none without a stamp. -/
def State.sinceZx (s : State) (ph at_ : Nat) : Option (Nat × Nat) :=
  let zs := s.time.zxDone.filter fun z => z.channel = ph && z.flags % 2 = 0
  match zs.head?, zs.getLast? with
  | some a, some b =>
    let halves := (b.half + 65536 - a.half) % 65536
    let period := max 1 (if halves < 2 then 1000000000 / s.mirrorN 0x1110 1 else (b.nt - a.nt) * 2 / halves / 256)
    some (period, (((at_ : Int) - (b.nt / 256 : Nat)) % (period : Int)).toNat)
  | _, _ => none

/-- The phase detection counter of a frame on a set of phases whose FCH starts at an NT instant (R218): the reference is the phase that
transmits, the phase of channel 1 for an all-phase frame; zero while it is LOST or has no stamp. -/
def State.fchCounter (s : State) (p phases at_ : Nat) : Nat :=
  let ph := match (List.range 3).filter (bit phases) with
    | [k] => k + 1
    | _ => s.phaseOf p 0 + 1
  if s.phaseLost ph then 0
  else match s.sinceZx ph at_ with
    | some (period, d) => Config.phaseCounter period d % 256
    | none => 0

/-- Channels that drive a set of mains phases. -/
def State.channelsOf (s : State) (p phases : Nat) : Nat :=
  (((List.range 3).filter (fun k => bit phases (s.phaseOf p k))).map (2 ^ ·)).sum

/-! ### The clock SET (R219, R220) -/

/-- A COSEM date-time in local time with the deviation of the active zone rules (R142, R220), of an NT instant in units of 10 ms;
without a tariff document local time is UTC. -/
def State.localDate (s : State) (cs : Int) : Bytes :=
  let nt := cs.fdiv 100
  let off := s.time.utcOffset
  let (loc, dev, dst) : Int × Int × Bool := match s.tariffView.active with
    | some d => (d.localOf off nt, -((d.localOf off nt - nt - off) / 60), d.dst (nt + off))
    | none => (nt + off, 0, false)
  let (y, m, d) := dateOf (loc.fdiv 86400)
  let sec := (loc % 86400).toNat
  be 2 y ++ le 1 m ++ le 1 d ++ le 1 0xFF ++ le 1 (sec / 3600) ++ le 1 (sec / 60 % 60) ++ le 1 (sec % 60) ++ le 1 (cs % 100).toNat ++
    beI 2 dev ++ le 1 (if dst then 0x80 else 0)

/-- SET of attribute 2 of the clock object (class 8) at an OBIS code, from the device's client association (R24, R219). -/
def clockSet (obis date : Bytes) : Bytes :=
  wrapper clientPort 1 ([0xC1#8, 0x01#8, 0xC1#8] ++ be 2 8 ++ padTo 6 obis ++ [0x02#8, 0x00#8, 0x09#8, 0x0C#8] ++ date)

/-- A packet for an endpoint's transmit queue without its edge code (log 42). -/
def State.endpointBody (s : State) (eix : Nat) (payload : Bytes) : Bytes :=
  let e := s.tbl.dir.getD eix { eui := [] }
  if e.short = 0xFFFF then le 4 eix ++ le 1 1 ++ zeros 1 ++ le 2 4059 ++ padTo 8 e.eui ++ payload
  else le 4 eix ++ le 1 0 ++ zeros 1 ++ le 2 4059 ++ padTo 8 (le 2 e.short) ++ payload

/-- NT in ns at which the last symbol of a clock SET ends (R220): the first whole multiple of 10 ms that leaves a delay of 400 µs or more after
the grant. -/
def State.setEnd (s : State) (air : PlcAir) : Nat :=
  cdiv (s.time.nt.sec * 1000000000 + s.time.nt.ns + air.grant + 400000 + air.us * 1000) 10000000 * 10000000

/-! ### Sending (R193 to R197, R208, R218, R220) -/

def PlcDest.isHop : PlcDest → Bool
  | .hop _ => true
  | _ => false

/-- A frame goes on the air: form, phases, driver enables, counter of its FCH; a clock SET is written for this attempt. -/
def State.drive (s : State) (p : Nat) (t : PlcTx) (air : PlcAir) : State :=
  let (m, map, s1) := s.frameForm p t
  let ph := s.framePhases p t
  let set_ := clockSet (le 6 (s.cfgN 0x4013 3)) (s.localDate ((s.setEnd air / 10000000 : Nat) : Int))
  let nt := s.time.nt.sec * 1000000000 + s.time.nt.ns
  let start := if t.kind = .time then s.setEnd air - air.us * 1000 else nt + air.grant
  let t1 : PlcTx := { t with phases := ph, bytes := if t.kind = .time then s.endpointBody t.eix set_ else t.bytes }
  (s1.onPort p fun y => { y with
    sent := y.sent + 1, lastPhases := ph, lastMod := m, lastMap := map, lastPdc := s.fchCounter p ph (start + air.fch)
    txen := s.channelsOf p ph, tx := some t1, lastTx := some t1 }).onPlc fun x => { x with
      lastSet := if t.kind = .time then set_ else x.lastSet
      discs := if t.kind = .rreq ∨ t.mesh.isSome then x.discs.adj t.eix (fun d => { d with sinceOt := s.power.ot }) else x.discs }

/-- Work kinds of PLC_ROUTE_DISCOVER, of time delivery and of key renewal. -/
abbrev workRoute : Nat := 8
abbrev workTime : Nat := 9
abbrev workGmk : Nat := 10

/-- The frame of a port leaves the air or is given up. -/
def State.plcIdle (s : State) (p : Nat) : State := s.onPort p fun y => { y with tx := none, txen := 0 }

/-- The next hop to a short address: that of its route, or the address itself. -/
def State.hopsTo (s : State) (p eix : Nat) : Nat := ((s.plc.routes.get? (p * 65536 + s.shortOf eix)).map (·.hops)).getD 1

/-- The attempt in progress was acknowledged; a clock SET is delivered with it (R219, R221, log 167). -/
def State.plcAcked (s : State) (p : Nat) : State :=
  match (s.port p).tx with
  | none => s
  | some t =>
    match t.dest with
    | .hop h =>
      let s1 := (s.attempt p h false false).plcIdle p
      if t.kind = .time then
        let k := max 1 (min 14 (s.hopsTo p t.eix)) - 1
        (s1.onPort p fun y => { y with deliveries := y.deliveries.set k (y.deliveries.getD k 0 + 1) }).finish workTime t.eix stDone []
      else s1
    | _ => s.plcIdle p

/-- Start an attempt. A clock SET goes out only at time_min_quality or above (R220). -/
def State.plcStart (s : State) (p : Nat) (t : PlcTx) (air : PlcAir) : State :=
  if t.kind = .time ∧ s.time.level < s.cfgN 0x4013 2 then (s.plcIdle p).finish workTime t.eix stTimeInvalid []
  else
    let s1 := s.drive p t air
    if t.dest.isHop ∧ air.acked then s1.plcAcked p else s1

/-- A frame enters a port's MAC queue. -/
def State.enqueue (s : State) (p : Nat) (t : PlcTx) : State := s.onPort p fun y => { y with ready := y.ready ++ [t] }

/-! ### Elections and discoveries (R211, R215) -/

/-- PLC_ROUTE_READ's bytes for a route. -/
def State.routeBytes (s : State) (r : PlcRoute) : Bytes :=
  le 2 r.hop ++ le 1 r.cost ++ le 1 r.hops ++ le 1 (b2n r.elected) ++ le 4 (r.expiry - s.power.ot)

/-- Install a route; a full table of 16,384 gives up the route that expires first (log 46). -/
def State.putRoute (s : State) (p short : Nat) (r : PlcRoute) : State :=
  s.onPlc fun x =>
    let k := p * 65536 + short
    if x.routes.has k ∨ x.routes.length < 16384 then { x with routes := x.routes.set k r }
    else
      let first := x.routes.foldl (fun (m : Option (Nat × PlcRoute)) q => match m with
        | none => some q
        | some b => if q.2.expiry < b.2.expiry then some q else some b) none
      { x with routes := (match first with
          | some q => x.routes.erase q.1
          | none => x.routes).set k r }

/-- A frame that an election has queued for D is withdrawn. -/
def State.dropMesh (s : State) (p eix : Nat) : State :=
  s.onPort p fun y => { y with ready := y.ready.filter fun t => !(t.mesh.isSome && t.eix = eix) }

/-- A discovery or election has found the way to D: the route stands and the frames that waited go out. -/
def State.routeFound (s : State) (eix : Nat) (r : PlcRoute) : State :=
  match s.plc.discs.get? eix with
  | none => s
  | some d =>
    let s1 := (s.onPlc fun x => { x with discs := x.discs.erase eix }).dropMesh d.port eix
    (s1.onPort d.port fun y => { y with ready := y.ready ++ d.frames }).finish workRoute eix stDone (s.routeBytes r)

/-- The election fails (R215): event base + 4, the frames are dropped, a clock SET among them undelivered. -/
def State.routeFailed (s : State) (eix : Nat) (event : Bool) : State :=
  match s.plc.discs.get? eix with
  | none => s
  | some d =>
    let s1 := ((s.onPlc fun x => { x with discs := x.discs.erase eix }).dropMesh d.port eix).finish workRoute eix stNotFound []
    let s2 := if d.frames.any (fun f => f.kind = .time) then s1.finish workTime eix stPeerLost [] else s1
    if event then s2.raisePlc d.port 4 (eix3 eix ++ le 1 d.attempts) else s2

/-- The repeater candidates for D, best first, at most rep_attempts (R215). -/
def State.candidates (s : State) (p eix : Nat) : List Nat :=
  let dShort := s.shortOf eix
  let seen := (s.plc.sightings.getD eix []).map (·.1)
  let best := s.bestPhase p eix
  let cs := (s.port p).neighs.filterMap fun n =>
    let c := s.hopCost p n.2
    if n.1 = dShort ∨ (s.port p).blacklist.has n.1 ∨ s.cfgN 0x4012 2 < c then none
    else if seen.contains n.1 then some (c, n.2.eix, n.1)
    else
      let b := s.bestPhase p n.2.eix
      if b ≠ 0 ∧ b = best then some (c + s.cfgN 0x4012 3, n.2.eix, n.1) else none
  let before := fun (a b : Nat × Nat × Nat) => decide (a.1 < b.1) || (a.1 = b.1 && decide (a.2.1 ≤ b.2.1))
  ((cs.mergeSort before).map (·.2.2)).take (s.cfgN 0x4012 4)

/-- Hand the waiting frame to the next repeater candidate, with a mesh header (R215; the device's short address is 0), or fail. -/
def State.nextRepeater (s : State) (eix : Nat) : State :=
  match s.plc.discs.get? eix with
  | none => s
  | some d =>
    match d.cands with
    | [] => s.routeFailed eix true
    | x :: rest =>
      let s1 := (s.onPlc fun y => { y with
        discs := y.discs.set eix { d with electing := true, cands := rest, current := some x, attempts := d.attempts + 1, sinceOt := s.power.ot } }).dropMesh d.port eix
      match d.frames with
      | f :: _ => s1.enqueue d.port { f with dest := .hop x, tries := 1, mesh := some (0, s.shortOf eix, s.cfgN 0x4011 0 - 1) }
      | [] => s1

/-- Begin the election, when rep_enable is 1. -/
def State.elect (s : State) (eix : Nat) : State :=
  match s.plc.discs.get? eix with
  | none => s
  | some d =>
    if s.cfgN 0x4012 0 = 0 then s.routeFailed eix false
    else (s.onPlc fun y => { y with discs := y.discs.set eix { d with electing := true, cands := s.candidates d.port eix } }).nextRepeater eix

/-- Begin route discovery to an endpoint, or let the frame wait for the one under way. The first RREQ of a route repair goes to the next hop
`via` of the old route when unicast_rreq is 1 (R211, log 161); every other one is broadcast. -/
def State.discover (s : State) (p eix : Nat) (frame : Option PlcTx) (via : Option Nat) : State :=
  match s.plc.discs.get? eix with
  | some d => s.onPlc fun x => { x with discs := x.discs.set eix { d with frames := d.frames ++ frame.toList } }
  | none => (s.onPlc fun x => { x with
      discs := x.discs.set eix { port := p, sinceOt := s.power.ot, frames := frame.toList, repair := via.isSome } }).enqueue p
        { kind := .rreq, eix := eix, dest := match via with
            | some h => if s.cfgN 0x4011 5 = 1 then .hop h else .all
            | none => .all }

/-- A frame that D originated has arrived: an election for D that waits for it ends (R215): event base + 5. -/
def State.electionSeen (s : State) (p eix : Nat) : State :=
  match s.plc.discs.get? eix with
  | some d =>
    match d.current with
    | some x =>
      let r : PlcRoute := { hop := x, cost := 0xFF, hops := 2, elected := true, expiry := s.power.ot + s.cfgN 0x4012 6 }
      let xe := (((s.port p).neighs.get? x).map (·.eix)).getD noEix
      let rest := { d with frames := d.frames.drop 1 }
      (((s.putRoute p (s.shortOf eix) r).raisePlc p 5 (eix3 eix ++ eix3 xe)).onPlc fun y => { y with discs := y.discs.set eix rest }).routeFound eix r
    | none => s
  | none => s

/-! ### The medium (R195, R209, R222) -/

/-- A frame that expects no acknowledgement has left the air (log 159). -/
def PlcPort.endBroadcast (y : PlcPort) : PlcPort :=
  match y.tx with
  | some t => if t.dest.isHop then y else { y with tx := none, txen := 0 }
  | none => y

/-- The medium of a port's group is free: frames without acknowledgement have ended. -/
def State.mediumFree (s : State) (p : Nat) : State :=
  (List.range 4).foldl (fun t q => if s.plcN q 3 = s.plcN p 3 then t.onPort q PlcPort.endBroadcast else t) s

/-- The safe point of a port (R222): no frame on the air and no acknowledgement awaited. What all ports share is taken when every port is
there (log 168). -/
def State.portSafePoint (s : State) (p : Nat) : State :=
  let s1 := if (s.port p).tx.isNone then s.adoptObjs fun o => o = 0x4000 + p else s
  if s1.plc.ports.all (fun y => y.tx.isNone) then s1.adoptObjs fun o => o / 16 = 0x401 else s1

/-- MAC priority of a frame: control frames above data (R209, log 160). -/
def PlcKind.prio : PlcKind → Nat
  | .data => 0
  | .time => 0
  | _ => 1

/-- MAC priority of the frame that a port has ready; none when it has none or may not transmit. -/
def State.plcPrio (s : State) (p : Nat) : Option Nat :=
  let y := s.port p
  if !s.plcUp p ∨ y.fault.isSome ∨ y.tx.isSome then none
  else match y.aborted with
    | some t => some t.kind.prio
    | none =>
      if y.ready.any (fun t => t.kind.prio = 1) then some 1
      else if !y.ready.isEmpty ∨ (s.nextEgress p).isSome then some 0 else none

/-- Whether a port of the group awaits an acknowledgement, or has a frame ready that goes before one of priority `k` of port `p` (R195,
R209). -/
def State.mediumTaken (s : State) (p k : Nat) : Bool :=
  (List.range 4).any fun q => q ≠ p && s.plcN q 3 = s.plcN p 3 && ((s.port q).tx.isSome || (match s.plcPrio q with
    | some j => decide (k < j) || (j = k && decide (q < p))
    | none => false))

/-! ### Reception (R201 to R206, R210, R214, R218) -/

/-- Whether the fog registers add an impulse of 100 µs to symbol `i` of a frame that reaches imp_thresh_db: they come at evenly spaced instants,
plc_impulse_db above the preamble's rms, on all three paths (R518, log 67). -/
def State.fogImpulse (s : State) (p : Nat) (f : PlcRx) (i : Nat) : Bool :=
  let a := f.stamp.sec * 1000000000 + f.stamp.ns + i * f.symNs
  let t := 1000000000 / s.fogN 6
  bit (s.fogN 5) p && decide (0 < s.fogN 6) && decide (s.plcN p 12 ≤ s.fogN 7) && decide (a < (a + f.symNs - 1) / t * t + 100000)

/-- Whether the impulse detector of a path fires in symbol `i`: its peak exceeds the preamble's rms by imp_thresh_db (R205). -/
def State.detects (s : State) (p : Nat) (f : PlcRx) (k i : Nat) : Bool :=
  let x := rxPath f k
  (decide (0 < x.peaks.getD i 0) && decide (x.rms ^ 20 * 10 ^ s.plcN p 12 ≤ x.peaks.getD i 0 ^ 20)) || s.fogImpulse p f i

/-- Whether a symbol is hit on a path, ringing included (R205). -/
def State.hitAt (s : State) (p : Nat) (f : PlcRx) (k i : Nat) : Bool := s.detects p f k i || (i ≠ 0 && s.detects p f k (i - 1))

/-- The enabled paths of which a symbol is combined: those that are not hit; 0 for an erased symbol (R205). -/
def State.symbolPaths (s : State) (p : Nat) (f : PlcRx) (i : Nat) : Nat :=
  (((List.range 3).filter (fun k => bit (s.plcN p 5) k && !s.hitAt p f k i)).map (2 ^ ·)).sum

/-- Symbols of a frame, and those of its payload that are erased (R205). -/
def rxLength (f : PlcRx) : Nat := f.head + f.symbols
def State.erasedSymbols (s : State) (p : Nat) (f : PlcRx) : Nat :=
  ((List.range f.symbols).filter (fun i => s.symbolPaths p f (f.head + i) = 0)).length

/-- Whether a frame is IMPULSIVE (R206). -/
def State.frameImpulsive (s : State) (p : Nat) (f : PlcRx) : Bool :=
  (List.range 3).any fun k => (List.range (rxLength f)).any (s.detects p f k)

/-- Whether a preamble or FCH symbol is hit on an enabled path (R202). -/
def State.headHit (s : State) (p : Nat) (f : PlcRx) : Bool :=
  (List.range 3).any fun k => bit (s.plcN p 5) k && (List.range f.head).any (s.hitAt p f k)

/-- What the DSP does with a frame (R193, R201, R205). -/
def State.dspOf (s : State) (p : Nat) (f : PlcRx) : PlcDsp :=
  let rejoin := fun k => (List.range (rxLength f)).filterMap fun i =>
    if bit (s.plcN p 5) k && i ≠ 0 && s.hitAt p f k (i - 1) && !s.hitAt p f k i then
      some (k + 1, i, ((List.range (rxLength f)).find? (fun j => decide (i < j) && !s.hitAt p f k j)).getD (rxLength f))
    else none
  { gains := f.paths.map fun x => min 42 (x.gain / 6 * 6)
    weights := (List.range 3).map fun k => (s.estimates p f k).map toneWeight
    symbols := (List.range (rxLength f)).map (s.symbolPaths p f)
    reest := if bit f.mod 2 then ((List.range 3).map rejoin).flatten else [] }

/-- The paths that delivered nothing while another decoded: event base + 2 at the 1,000th frame in a row (R204). -/
def State.silentPaths (s : State) (p : Nat) (silent : List Bool) : State :=
  if !silent.any (fun b => !b) then s
  else
    (List.range 3).foldl (fun t k =>
      let y := t.port p
      if !bit (t.plcN p 5) k then t
      else if silent.getD k false then
        let n := y.silentRun.getD k 0 + 1
        let due := decide (1000 ≤ n) && !(y.silentRaised.getD k false)
        let t1 := t.onPort p fun z => { z with
          silentRun := z.silentRun.set k (min n 1000), silentRaised := if due then z.silentRaised.set k true else z.silentRaised }
        if due then t1.raisePlc p 2 (le 1 (k + 1) ++ le 1 (t.phaseOf p k + 1)) else t1
      else t.onPort p fun z => { z with silentRun := z.silentRun.set k 0, silentRaised := z.silentRaised.set k false }) s

/-- A frame that is lost in reception (R205, R206). -/
def State.rxLost (s : State) (p : Nat) (imp : Bool) : State :=
  let s1 := s.onPort p fun y => { y with lost := y.lost + 1, impulsive := y.impulsive + b2n imp }
  if imp then s1.impulsiveLoss p else s1

/-- What the port records about the neighbour that sent a frame; one without a tone map response is asked for its link cost once (R211). -/
def State.heardNeigh (s : State) (p : Nat) (f : PlcRx) (snr : Int) : State :=
  let e := (s.tbl.direct.get? (p * 65536 + f.hop)).getD noEix
  let s1 := s.onPlc fun x => { x with clock := x.clock + 1 }
  let was := ((s.port p).neighs.get? f.hop).getD {}
  let ask := decide (s.cfgN 0x4011 4 = 1) && f.tmr.isNone && was.tmr.isNone && was.lcReply.isNone && !was.rlcAsked
  let s2 := s1.putNeigh p f.hop fun n => { n with
    eix := e, mod := f.mod, groupsOff := s.offGroups p f.map, snr := snr, heard := f.stamp.sec, order := s1.plc.clock
    tmr := if f.tmr.isSome then f.tmr else n.tmr, rlcAsked := n.rlcAsked || ask }
  if ask ∧ (s2.port p).neighs.has f.hop then s2.enqueue p { kind := .rlcreq, eix := e, dest := .hop f.hop } else s2

/-- The sender's zero-crossing offset against the V1 crossings in µs, from a received counter (R218, log 166): none while V1 is LOST or has
no stamp. -/
def State.zxOffsetOf (s : State) (f : PlcRx) : Option Int :=
  if s.phaseLost 1 then none
  else (s.sinceZx 1 (f.stamp.sec * 1000000000 + f.stamp.ns)).map fun d =>
    ((d.2 : Int) - (Config.counterNs d.1 f.counter : Nat)) % (d.1 : Int) / 1000

/-- The frame's shares, sighting and zero-crossing offset (R202, R203, R214, R218). -/
def State.frameRecords (s : State) (p : Nat) (f : PlcRx) (g : F32 × F32 × F32) : State :=
  let hopEix := s.tbl.direct.get? (p * 65536 + f.hop)
  let s1 := match hopEix with
    | some e =>
      if s.plcN p 5 = 7 ∧ !s.headHit p f then
        s.onPlc fun x => { x with
          shares := x.shares.upd (p * 2 ^ 18 + e) {} fun y => y.put (intervalEnd (s.cfgN 0x2000 1) f.stamp.sec f.stamp.ns) (sharesOfFrame g) }
      else s
    | none => s
  let s2 := match hopEix, s.zxOffsetOf f with
    | some e, some z => s1.onPlc fun x => { x with zxOffset := x.zxOffset.set e z }
    | _, _ => s1
  match s.eixOf p f.kind f.src with
  | some d =>
    let others : List (Nat × Nat) := ((s.plc.sightings.getD d []).filter (fun q => q.1 ≠ f.hop)).drop
      (((s.plc.sightings.getD d []).filter (fun q => q.1 ≠ f.hop)).length - 3)
    let s3 := if s.shortOf d ≠ f.hop then
        s2.onPlc fun x => { x with sightings := x.sightings.set d (others ++ [(f.hop, s.power.ot)]) }
      else s2
    s3.electionSeen p d
  | none => s2

/-- Phases of an acknowledgement of a frame with these path energies (R208). -/
def State.phasesOfAck (s : State) (p : Nat) (g : F32 × F32 × F32) : Nat :=
  let q := sharesOfFrame g
  let ph := topPhase q
  if F32.le (F32.q16 (s.cfgI (0x4000 + p) 10)) (phaseVal q ph) && bit (s.allPhases p) (ph - 1) then 2 ^ (ph - 1) else s.allPhases p

/-- PLC_FRAME_RECEIVE. A frame that arrives while the port or another port of its group transmits is lost (R195, R197). -/
def State.plcReceive (s : State) (p : Nat) (f : PlcRx) : State :=
  if !s.plcUp p ∨ f.overlap then s
  else
    let s0 := (s.mediumFree p).onPort p fun y => { y with dsp := s.dspOf p f }
    let imp := s.frameImpulsive p f
    if s.plcN p 13 * f.symbols < 100 * s.erasedSymbols p f ∨ !f.fcsOk then s0.rxLost p imp
    else
      let s1 := s0.silentPaths p (f.paths.map (·.silent))
      if f.pan ≠ s.plcN p 2 then s1.onPort p fun y => { y with panDrops := y.panDrops + 1 }
      else
        let g := s.energies p f
        let snr := snrOfFrame g (s.tonesInUse p f.map).length
        let s2 := ((s1.onPort p fun y => { y with
          rx := y.rx + 1, impulsive := y.impulsive + b2n imp, ackPhases := s.phasesOfAck p g }).countRx p)
        let s3 := (s2.heardNeigh p f snr).frameRecords p f g
        let cost := s3.lcRx p (((s3.port p).neighs.get? f.hop).getD { mod := f.mod, groupsOff := s.offGroups p f.map, snr := snr })
        s3.send p p (rxPacket f.kind p cost f.src f.stamp f.udp f.payload)

def execPlcFrameReceive (port : Nat) (f : PlcRx) (s : State) : Host.Outcome State Fault Refusal := .next (s.plcReceive port f)

/-! ### Transmission (R197, R206, R208) -/

/-- The next hop of a frame for an endpoint: that of its route, or the endpoint itself when it is a neighbour. -/
def State.nextHop (s : State) (p eix : Nat) : Option Nat :=
  let short := s.shortOf eix
  match s.plc.routes.get? (p * 65536 + short) with
  | some r => some r.hop
  | none => if (s.port p).neighs.has short && !(s.port p).blacklist.has short then some short else none

/-- One frame for the medium: to its destination, or into discovery; while one runs for its endpoint it waits (R215). -/
def State.plcDispatch (s : State) (p : Nat) (t : PlcTx) (air : PlcAir) : State :=
  match t.dest with
  | .route =>
    if s.plc.discs.has t.eix then s.discover p t.eix (some t) none
    else match s.nextHop p t.eix with
      | some h => s.plcStart p { t with dest := .hop h } air
      | none => s.discover p t.eix (some t) none
  | _ => s.plcStart p t air

/-- The frame of a packet of the transmit queue (log 42): broadcast, or data for an endpoint. -/
def dataFrame (body : Bytes) : PlcTx :=
  if getLE 4 1 body = 2 then { bytes := body, dest := .all } else { bytes := body, eix := getLE 0 4 body }

/-- A port that has the medium sends: an aborted frame, then its MAC queue by priority, then the transmit queue. -/
def State.plcSendNext (s : State) (p : Nat) (air : PlcAir) : State :=
  let y := s.port p
  match y.aborted with
  | some t => (s.onPort p fun z => { z with aborted := none }).plcStart p t air
  | none =>
    match y.ready.findIdx? (fun t => t.kind.prio = 1), y.ready with
    | some i, r => (s.onPort p fun z => { z with ready := z.ready.eraseIdx i }).plcDispatch p (r.getD i {}) air
    | none, t :: rest => (s.onPort p fun z => { z with ready := rest }).plcDispatch p t air
    | none, [] =>
      match s.takeEgress p with
      | (none, s1) => s1
      | (some k, s1) => s1.plcDispatch p (dataFrame k.body) air

/-- PLC_TRANSMIT: the medium is free; the port sends unless it has nothing ready, may not, or another port of its group goes first
(R195 to R197, R209). -/
def State.plcTransmit (s : State) (p : Nat) (air : PlcAir) : State :=
  let s0 := (s.mediumFree p).portSafePoint p
  match s0.plcPrio p with
  | some k => if s0.mediumTaken p k then s0 else s0.plcSendNext p air
  | none => s0

def execPlcTransmit (port : Nat) (air : PlcAir) (s : State) : Host.Outcome State Fault Refusal := .next (s.plcTransmit port air)

/-- A unicast frame to `hop` is given up after its last retry. Data loses its route and goes into route repair once; a clock SET is not
delivered; the neighbour of a failed RREP is blacklisted (R211, R219). -/
def State.plcGiveUp (s : State) (p : Nat) (t : PlcTx) (hop : Nat) : State :=
  let gone := s.onPlc fun x => { x with routes := x.routes.erase (p * 65536 + s.shortOf t.eix) }
  match t.kind with
  | .data =>
    if t.mesh.isSome then s
    else if !t.repaired then gone.discover p t.eix (some { t with dest := .route, tries := 1, repaired := true }) (some hop)
    else gone
  | .time => (if t.mesh.isSome then s else gone.finish workTime t.eix stPeerLost [])
  | .rrep => s.onPort p fun y => { y with blacklist := y.blacklist.set hop s.power.ot }
  | _ => s

/-- PLC_ACK_TIMEOUT: a lost attempt, retried on all phases up to mac_max_retries (R206, R208); `air` is the retry's. -/
def State.plcAckTimeout (s : State) (p : Nat) (imp : Bool) (air : PlcAir) : State :=
  match (s.port p).tx with
  | none => s
  | some t =>
    match t.dest with
    | .hop h =>
      let s1 := ((s.attempt p h true imp).plcIdle p).onPort p fun y => { y with lost := y.lost + 1, impulsive := y.impulsive + b2n imp }
      let s2 := if imp then s1.impulsiveLoss p else s1
      if t.tries ≤ s.plcN p 14 then s2.plcStart p { t with tries := t.tries + 1 } air else s2.plcGiveUp p t h
    | _ => s.plcIdle p

def execPlcAckTimeout (port : Nat) (impulsive : Bool) (air : PlcAir) (s : State) : Host.Outcome State Fault Refusal :=
  .next (s.plcAckTimeout port impulsive air)

/-! ### Faults and resets (R197, R223) -/

/-- PLC_FLT_FALL: the drivers fall silent; a frame in progress is aborted, without an entry in the link history (R196, R197). -/
def State.plcFltFall (s : State) (p : Nat) : State :=
  if 3 < p then s
  else
    let y := s.port p
    let s1 := s.onPort p fun z => { z with
      fault := some (z.fault.getD s.power.ot), aborted := if z.tx.isSome then z.tx else z.aborted, tx := none, txen := 0 }
    s1.raisePlc p 0 (le 1 y.txen ++ le 1 (b2n y.tx.isSome))

def execPlcFltFall (port : Nat) (s : State) : Host.Outcome State Fault Refusal := .next (s.plcFltFall port)

/-- PLC_FAULT_CLEAR: 100 ms after PLCn_FLT_N has risen (R196). -/
def execPlcFaultClear (port : Nat) (s : State) : Host.Outcome State Fault Refusal :=
  .next (s.onPort port fun y => { y with fault := none })

/-- A port reset (R223): drivers off, MAC queues discarded, a clock SET among them undelivered. -/
def State.plcReset (s : State) (p cause : Nat) : State :=
  if 3 < p then s
  else
    let y := s.port p
    let mine := (s.plc.discs.filter (fun d => d.2.port = p)).map (·.1)
    let sets := ((y.tx.toList ++ y.aborted.toList ++ y.ready).filter (fun t => t.kind = .time)).map (·.eix)
    let s1 := (s.plcIdle p).onPort p fun z => { z with aborted := none, ready := [] }
    let s2 := sets.foldl (fun t e => t.finish workTime e stPeerLost []) (mine.foldl (fun t e => t.routeFailed e false) s1)
    let (cells, s3) := s2.reclaim p
    s3.raisePlc p 1 (le 1 cause ++ zeros 3 ++ le 4 cells)

/-- PLC_FAULT_PERSIST: a driver fault that has lasted more than 10 s (R223). -/
def execPlcFaultPersist (port : Nat) (s : State) : Host.Outcome State Fault Refusal :=
  .next (match (s.port port).fault with
    | some t => if t + 10 < s.power.ot then s.plcReset port 3 else s
    | none => s)

/-- PLC_PORT_WATCHDOG: a port that has not returned to idle within 2 s (R223). -/
def execPlcPortWatchdog (port : Nat) (s : State) : Host.Outcome State Fault Refusal := .next (s.plcReset port 1)

/-! ### LOADng frames (R211) -/

/-- The cost of the device's own hop to a neighbour (R210); 255 to one that it has not heard. -/
def State.costTo (s : State) (p hop : Nat) : Nat := (((s.port p).neighs.get? hop).map (s.hopCost p)).getD 255

/-- RREQ_RECEIVED: one addressed to the device is answered with an RREP to the neighbour `hop`, with the cost of R210; nothing of a
blacklisted one, or of one beyond max_hops (log 174), is answered. -/
def State.rreqReceived (s : State) (p hop hops : Nat) (forDevice : Bool) : State :=
  if !s.plcUp p ∨ !forDevice ∨ s.cfgN 0x4011 0 < hops ∨ (s.port p).blacklist.has hop then s
  else s.enqueue p { kind := .rrep, dest := .hop hop, cost := s.costTo p hop }

def execRreqReceived (port hop hops : Nat) (forDevice : Bool) (s : State) : Host.Outcome State Fault Refusal :=
  .next (s.rreqReceived port hop hops forDevice)

/-- RREP_RECEIVED: a LOADng route to short address `dest` through `hop` (log 174). -/
def State.rrepReceived (s : State) (p dest hop cost hops : Nat) : State :=
  if !s.plcUp p ∨ s.cfgN 0x4011 0 < hops ∨ (s.port p).blacklist.has hop then s
  else
    let r : PlcRoute := { hop := hop, cost := min 255 cost, hops := hops, expiry := s.power.ot + s.cfgN 0x4011 3 }
    let s1 := s.putRoute p dest r
    match s.tbl.direct.get? (p * 65536 + dest) with
    | some e => s1.routeFound e r
    | none => s1

def execRrepReceived (port dest hop cost hops : Nat) (s : State) : Host.Outcome State Fault Refusal := .next (s.rrepReceived port dest hop cost hops)

/-- RERR_RECEIVED: the named route is invalidated. -/
def execRerrReceived (port dest : Nat) (s : State) : Host.Outcome State Fault Refusal :=
  .next (if s.plcUp port then s.onPlc fun x => { x with routes := x.routes.erase (port * 65536 + dest) } else s)

/-- RLCREQ_RECEIVED: answered with an RLCREP to the neighbour, which carries LC_rx, when rlc_enable is 1 (R211). -/
def State.rlcreqReceived (s : State) (l : PlcLink) : State :=
  if s.plcUp l.port ∧ s.cfgN 0x4011 4 = 1 then
    s.enqueue l.port { kind := .rlcrep, dest := .hop l.hop, cost := (((s.port l.port).neighs.get? l.hop).map (s.lcRx l.port)).getD 255 }
  else s

def execRlcreqReceived (link : PlcLink) (s : State) : Host.Outcome State Fault Refusal := .next (s.rlcreqReceived link)

/-- RLCREP_RECEIVED: the neighbour's link cost in the transmit direction. -/
def execRlcrepReceived (port hop cost : Nat) (s : State) : Host.Outcome State Fault Refusal :=
  .next (if s.plcUp port ∧ s.cfgN 0x4011 4 = 1 then
    s.onPort port fun y => { y with neighs := y.neighs.adj hop fun n => { n with lcReply := some (min 255 cost) } } else s)

/-- RREQ_WAIT_EXPIRY: the next RREQ, or the election after the last one. -/
def State.rreqWait (s : State) (eix : Nat) : State :=
  match s.plc.discs.get? eix with
  | none => s
  | some d =>
    if d.electing ∨ s.power.ot * 1000 < d.sinceOt * 1000 + s.cfgN 0x4011 2 then s
    else if d.rreqs ≤ s.cfgN 0x4011 1 then
      (s.onPlc fun x => { x with discs := x.discs.set eix { d with rreqs := d.rreqs + 1, sinceOt := s.power.ot } }).enqueue d.port
        { kind := .rreq, eix := eix, dest := .all }
    else s.elect eix

def execRreqWaitExpiry (eix : Nat) (s : State) : Host.Outcome State Fault Refusal := .next (s.rreqWait eix)

/-- REPEATER_WAIT_EXPIRY: the next candidate, or the election fails (R215). -/
def State.repeaterWait (s : State) (eix : Nat) : State :=
  match s.plc.discs.get? eix with
  | none => s
  | some d =>
    if !d.electing ∨ s.power.ot * 1000 < d.sinceOt * 1000 + s.cfgN 0x4012 5 then s
    else (s.onPlc fun x => { x with discs := x.discs.set eix { d with current := none } }).nextRepeater eix

def execRepeaterWaitExpiry (eix : Nat) (s : State) : Host.Outcome State Fault Refusal := .next (s.repeaterWait eix)

/-- ROUTE_EXPIRY, BLACKLIST_EXPIRY, SIGHTING_EXPIRY. -/
def execRouteExpiry (port short : Nat) (s : State) : Host.Outcome State Fault Refusal :=
  .next (match s.plc.routes.get? (port * 65536 + short) with
    | some r => if r.expiry ≤ s.power.ot then s.onPlc fun x => { x with routes := x.routes.erase (port * 65536 + short) } else s
    | none => s)

def execBlacklistExpiry (port short : Nat) (s : State) : Host.Outcome State Fault Refusal :=
  .next (match (s.port port).blacklist.get? short with
    | some t => if t + s.cfgN 0x4011 6 ≤ s.power.ot then s.onPort port fun y => { y with blacklist := y.blacklist.erase short } else s
    | none => s)

def execSightingExpiry (eix : Nat) (s : State) : Host.Outcome State Fault Refusal :=
  .next (s.onPlc fun x => { x with sightings := x.sightings.adj eix fun l => l.filter (fun q => decide (s.power.ot < q.2 + s.cfgN 0x4012 1)) })

end Sys2Proof.Machine
end

