-- ==== Sys2Proof/Machine/PlcRows.lean ====
section
/-! DEFINITION. Clock delivery to PLC endpoints (R219 to R221), key renewal and the PLC commands 0x0C01 to 0x0C09 (R213, R217, R227). -/

namespace Sys2Proof.Machine
open Sys2Proof

/-! ### Clock delivery (R219, R220) -/

/-- Whether a clock delivery to an EIX is due: by a command that waits for it, or by its period. -/
def State.timeDue (s : State) (commanded : Bool) (kind eix enable period : Nat) : Bool :=
  if commanded then s.host.deferred.any (fun d => d.kind = kind && d.key = eix)
  else enable = 1 && s.plc.joined.has eix && (match s.plc.timeOt.get? eix with
    | some t => decide (t + period ≤ s.power.ot)
    | none => true)

/-- Whether a clock SET for an EIX stands on its port already. -/
def State.setQueued (s : State) (p eix : Nat) : Bool :=
  let y := s.port p
  let isSet := fun (t : PlcTx) => decide (t.kind = .time) && decide (t.eix = eix)
  (y.tx.toList ++ y.aborted.toList ++ y.ready ++ ((s.plc.discs.get? eix).map (·.frames)).getD []).any isSet

/-- PLC_TIME_DELIVERY: a clock SET that is due enters the MAC queue of the endpoint's port; below time_min_quality none is made. -/
def State.plcTimeDelivery (s : State) (p eix : Nat) (commanded : Bool) : State :=
  match s.tbl.dir.get? eix with
  | none => s
  | some e =>
    if e.port ≠ p ∨ !s.plcUp p ∨ !s.timeDue commanded workTime eix (s.cfgN 0x4013 0) (s.cfgN 0x4013 1) ∨ s.setQueued p eix then s
    else if s.time.level < s.cfgN 0x4013 2 then s.finish workTime eix stTimeInvalid []
    else (s.onPlc fun x => { x with timeOt := x.timeOt.set eix s.power.ot }).enqueue p { kind := .time, eix := eix }

def execPlcTimeDelivery (port eix : Nat) (commanded : Bool) (s : State) : Host.Outcome State Fault Refusal :=
  .next (s.plcTimeDelivery port eix commanded)

/-! ### Commands -/

/-- The port or radio of a request `(n, 3 reserved bytes, ...)`. -/
def badPort (c : HostCmd) : Bool × Nat := badField (decide (3 < getLE 0 1 c.req) || !zeroAt 1 3 c.req)

/-- The EIX of a request. -/
def reqEix (c : HostCmd) : Nat := getLE 0 4 c.req

/-- Whether an EIX is no EIX. -/
def eixCheck (c : HostCmd) : Bool × Nat := badField (decide (2 ^ 18 ≤ reqEix c))

/-- Port of an EIX's entry. -/
def State.portOfEix (s : State) (eix : Nat) : Nat := ((s.tbl.dir.get? eix).map (·.port)).getD 0xF

/-- Number of endpoints joined on a port. -/
def State.joinedOn (s : State) (p : Nat) : Nat := (s.plc.joined.filter (fun j => j.2 = p)).length

def State.plcStatus (s : State) (p : Nat) : Bytes :=
  let y := s.port p
  le 1 (s.plcN p 0) ++ le 1 (s.plcN p 1) ++ le 2 (s.plcN p 2) ++ le 4 (s.joinedOn p) ++ le 4 y.neighs.length ++
    le 4 ((s.plc.routes.filter (fun r => r.1 / 65536 = p)).length) ++ le 4 y.rx ++ le 4 y.sent ++ le 4 y.lost ++ le 4 y.impulsive ++
    (y.deliveries.map (le 4)).flatten

def execPlcPortStatus (c : HostCmd) (s : State) : Host.Outcome State Fault Refusal :=
  .next (s.serve 0x0C01 c (fun _ => [lenIs c 4, badPort c]) (fun t => (t, .done (t.plcStatus (getLE 0 1 c.req)))))

/-- × 256 rounded to nearest, saturated at 255 (R213). -/
def share256 (q : F32) : Bytes := le 1 (min 255 (F32.round q 8).toNat)

/-- A neighbour entry (R213). -/
def State.neighBytes (s : State) (p short : Nat) (n : PlcNeigh) : Bytes :=
  let q := (s.sharesOn p n.eix).ringMean
  let map := match n.tmr with
    | some (_, _, t) => t
    | none => 0
  le 2 short ++ zeros 2 ++ le 4 (n.eix % 2 ^ 18) ++ le 1 n.mod ++ le 1 (s.lcRx p n) ++ le 1 ((s.lcTx p n).getD 0xFF) ++ leI 1 n.snr ++
    le 2 (n.lost % 32 + 32 * (n.imp % 32)) ++ le 1 (s.bestPhase p n.eix) ++ le 1 (s.sharesOn p n.eix).ring.length ++
    le 4 (map % 2 ^ (if s.plcN p 1 = 0 then 6 else 24)) ++ share256 q.1 ++ share256 q.2.1 ++ share256 q.2.2 ++ zeros 1 ++ le 8 n.heard

/-- Start and count of a request, the count from 1 to `hi`. -/
def badCount (c : HostCmd) (hi : Nat) : Bool × Nat := badField (getLE 8 4 c.req = 0 || decide (hi < getLE 8 4 c.req))

def execPlcNeighbours (c : HostCmd) (s : State) : Host.Outcome State Fault Refusal :=
  .next (s.serve 0x0C02 c (fun _ => [lenIs c 12, badPort c, badCount c 256])
    (fun t =>
      let p := getLE 0 1 c.req
      (t, .done ((((t.port p).neighs.drop (getLE 4 4 c.req)).take (getLE 8 4 c.req)).map (fun n => t.neighBytes p n.1 n.2)).flatten)))

/-- The route to an EIX on the port it is bound to. -/
def State.routeOf (s : State) (eix : Nat) : Option PlcRoute := s.plc.routes.get? (s.portOfEix eix * 65536 + s.shortOf eix)

def execPlcRouteRead (c : HostCmd) (s : State) : Host.Outcome State Fault Refusal :=
  .next (s.serve 0x0C03 c (fun t => [lenIs c 4, eixCheck c, ((t.routeOf (reqEix c)).isNone, stNotFound)])
    (fun t => (t, .done (((t.routeOf (reqEix c)).map t.routeBytes).getD []))))

/-- PLC_ROUTE_DISCOVER: an endpoint that is bound to no working PLC port is not found. -/
def execPlcRouteDiscover (c : HostCmd) (s : State) : Host.Outcome State Fault Refusal :=
  .next (s.serve 0x0C04 c (fun t => [lenIs c 4, eixCheck c, (!t.plcUp (t.portOfEix (reqEix c)), stNotFound)])
    (fun t => ((t.discover (t.portOfEix (reqEix c)) (reqEix c) none none).defer workRoute (reqEix c) 0x0C04 c, .accepted)))

/-- The angle nearest to a zero-crossing offset (R218), in degrees: 0, 120 or 240. -/
def nearestAngle (hz : Nat) (us : Int) : Nat :=
  let d := ((us * hz * 360) % 360000000).toNat
  if d < 60000000 then 0 else if d < 180000000 then 120 else if d < 300000000 then 240 else 0

def State.phaseShareBytes (s : State) (eix : Nat) : Bytes :=
  let x := s.sharesOn (s.portOfEix eix) eix
  let ring := x.ringMean
  let now := s.intervalShare eix [intervalEnd (s.cfgN 0x2000 1) s.time.nt.sec s.time.nt.ns]
  let z := s.plc.zxOffset.getD eix 0
  le 4 ring.1 ++ le 4 ring.2.1 ++ le 4 ring.2.2 ++ le 4 now.1 ++ le 4 now.2.1 ++ le 4 now.2.2 ++
    le 1 (s.bestPhase (s.portOfEix eix) eix) ++ le 1 x.ring.length ++ leI 4 z ++ le 2 (nearestAngle (s.mirrorN 0x1110 1) z)

def execPlcPhaseShare (c : HostCmd) (s : State) : Host.Outcome State Fault Refusal :=
  .next (s.serve 0x0C05 c (fun t => [lenIs c 4, eixCheck c, (!t.tbl.dir.has (reqEix c), stNotFound)])
    (fun t => (t, .done (t.phaseShareBytes (reqEix c)))))

/-- PLC_SET_PSK (R384, R227): the rules of a wrapped KEY_WRITE with slot code 0xFE; a full store refuses a new EUI-64. -/
def execPlcSetPsk (c : HostCmd) (s : State) : Host.Outcome State Fault Refusal :=
  .next (s.serve 0x0C06 c
    (fun t => [lenIs c 52,
      (decide (3 ≤ t.sec.lifecycle) || (t.sec.slot 2).content.isNone || t.keysBlocked, stDeniedAuth),
      (decide (16384 ≤ t.sec.psks.length) && !t.sec.psks.has (getLE 0 8 c.req), stStoreFull)])
    (fun t => match t.unwrapSlot (padTo 16 Config.openIdentity ++ le 1 0xFE ++ slice 0 8 c.req) (c.req.drop 8) with
      | none => (t, .status stSignatureBad [])
      | some k => ((t.onSec fun x => { x with psks := x.psks.set (getLE 0 8 c.req) (padTo 16 k) }).raise 214
          (le 1 0xFE ++ zeros 1 ++ le 1 1), .done [])))

/-- The frame that gives an endpoint a key of a port or radio (R217, R244; its layout is the model's, log 169): code 4, EUI-64, number and
key sealed for the holder of its PSK. -/
def State.keyFrame (s : State) (eix num : Nat) (key : Bytes) : Bytes :=
  let eui := padTo 8 (s.tbl.dir.getD eix { eui := [] }).eui
  le 1 4 ++ eui ++ le 4 num ++ Config.eapSeal ((s.sec.psks.get? (fromLE eui)).getD []) key

/-- A port's new group master key, from the DRBG, goes to every joined endpoint (R217, R386). -/
def State.gmkRotate (s : State) (p : Nat) : State :=
  let js := (s.plc.joined.filter (fun j => j.2 = p)).map (·.1)
  let (k, s1) := s.random 16
  let s2 := (s1.onSec fun x => x.writeSlot (8 + p) k).onPort p fun y => { y with gmk := y.gmk + 1, gmkPending := js }
  js.foldl (fun t e => t.enqueue p { kind := .lbp, bytes := s2.keyFrame e (s2.port p).gmk k, eix := e, dest := .route }) s2

/-- PLC_GMK_ROTATE (R217, R386): one renewal at a time; ACCEPTED, then DONE, at once where no endpoint is joined. -/
def execPlcGmkRotate (c : HostCmd) (s : State) : Host.Outcome State Fault Refusal :=
  let p := getLE 0 1 c.req
  .next (s.serve 0x0C07 c
    (fun t => [lenIs c 4, badPort c, (!(t.port p).gmkPending.isEmpty, stBusy), (t.sec.trngStopped, stInternalFault)])
    (fun t => ((t.gmkRotate p).defer workGmk p 0x0C07 c, .accepted))
    (fun t => if (t.port p).gmkPending.isEmpty then t.finish workGmk p stDone [] else t))

def execPlcPortReset (c : HostCmd) (s : State) : Host.Outcome State Fault Refusal :=
  .next (s.serve 0x0C08 c (fun _ => [lenIs c 4, badPort c]) (fun t => (t.plcReset (getLE 0 1 c.req) 2, .done [])))

/-- PLC_TIME_DELIVER: the delivery itself is PLC_TIME_DELIVERY. -/
def execPlcTimeDeliver (c : HostCmd) (s : State) : Host.Outcome State Fault Refusal :=
  .next (s.serve 0x0C09 c (fun t => [lenIs c 4, eixCheck c, (!t.plcUp (t.portOfEix (reqEix c)), stNotFound)])
    (fun t => (t.defer workTime (reqEix c) 0x0C09 c, .accepted)))

end Sys2Proof.Machine
end

