-- ==== Sys2Proof/Machine/Radio.lean ====
section
/-! DEFINITION. The radios: timeslots and cells, airtime and duty, sensing, reception with time correction, drift recovery, clock
delivery, resets (R229 to R253). -/

namespace Sys2Proof.Machine
open Sys2Proof

def State.radio (s : State) (n : Nat) : Radio := s.radios.getD n {}
def State.onRadio (s : State) (n : Nat) (f : Radio → Radio) : State := { s with radios := s.radios.set n (f (s.radio n)) }

/-- Fields of rf-radio-n, of rf-schedule-n, of rf-template-n, of the radio's regulatory profile. -/
def State.rfN (s : State) (n f : Nat) : Nat := s.cfgN (0x5000 + n) f
def State.tmplN (s : State) (n f : Nat) : Nat := s.cfgN (0x5030 + n) f
def State.regN (s : State) (n f : Nat) : Nat := s.cfgN (0x5040 + s.rfN n 3) f
def State.sfLen (s : State) (n k : Nat) : Nat := (s.cfgE (0x5010 + n) 0 k).toNat

/-- Event 128 + 4n + k (R258). -/
def State.raiseRf (s : State) (n k : Nat) (d : Bytes) : State := s.raise (128 + 4 * n + k) d

/-- Whether a radio works. -/
def State.radioUp (s : State) (n : Nat) : Bool := decide (n < 4) && s.portsServe && s.rfN n 0 = 1

/-! ### Airtime and duty (R232, R236) -/

/-- Data rate in kb/s of a mode (R231). -/
def modeRate (m : Nat) : Nat :=
  if m ≤ 5 then [50, 100, 150, 200, 200, 300].getD m 50
  else if m < 0x20 then [100, 200, 400, 800].getD (m - 0x10) 100
  else if m < 0x30 then [50, 100, 200, 400, 600, 800].getD (m - 0x20) 50
  else if m < 0x40 then [50, 100, 200, 300, 400, 600].getD (m - 0x31) 50
  else [50, 100, 150, 200, 300].getD (m - 0x42) 50

/-- Whether a mode code is one of R231. -/
def rfModeValid (m : Nat) : Bool :=
  decide (m ≤ 5) || (decide (0x10 ≤ m) && decide (m ≤ 0x13)) || (decide (0x20 ≤ m) && decide (m ≤ 0x25)) ||
  (decide (0x31 ≤ m) && decide (m ≤ 0x36)) || (decide (0x42 ≤ m) && decide (m ≤ 0x46))

/-- Airtime in µs of a PSDU of `m` octets: R232's formula for FSK, the standard's for OFDM (log 162). -/
def airtime (mode preamble m : Nat) : Nat :=
  if mode ≤ 5 then cdiv ((preamble + 4 + m) * 8000) (modeRate mode) else Config.ofdmAirtime mode (modeRate mode) m

/-- The code of a mode's lowest rate (R231, R243; log 134). -/
def lowestMode (m : Nat) : Nat :=
  if 0x42 ≤ m then 0x42 else if 0x31 ≤ m then 0x31 else if 0x20 ≤ m then 0x20 else if 0x10 ≤ m then 0x10 else m

def State.rfAirtime (s : State) (n m : Nat) : Nat := airtime (s.rfN n 2) (s.rfN n 10) m

/-- The longest airtime of a frame: TsMaxTx or max_tx_ms (R232). -/
def State.maxAirtime (s : State) (n : Nat) : Nat := min (s.tmplN n 10) (s.regN n 7 * 1000)

/-- The longest PSDU of a radio's frames: max_psdu, and the longest airtime (R232). -/
def State.maxPsdu (s : State) (n : Nat) : Nat :=
  let top := s.rfN n 11
  if s.rfN n 2 ≤ 5 then min top (s.maxAirtime n * modeRate (s.rfN n 2) / 8000 - (s.rfN n 10 + 4))
  else (((List.range (top + 1)).filter fun m => decide (s.rfAirtime n m ≤ s.maxAirtime n)).getLast?).getD 0

/-- Airtime in the window of the last 3,600 buckets of 1 s. -/
def State.rfWindow (s : State) (n : Nat) : Nat :=
  (((s.radio n).buckets.filter (fun b => decide (s.power.ot < b.1 + 3600))).map (·.2)).sum

/-- B of R236. -/
def State.rfBudget (s : State) (n : Nat) : Nat := s.regN n 8 * 360000

/-- Whether a frame of `air` µs may be sent; a data frame leaves ack_reserve_pct. -/
def State.dutyAllows (s : State) (n air : Nat) (data : Bool) : Bool :=
  decide ((s.rfWindow n + air) * 100 ≤ s.rfBudget n * (if data then 100 - s.regN n 9 else 100))

/-- Count the airtime of a transmission; buckets that have left the window are dropped. -/
def State.spendAir (s : State) (n air : Nat) : State :=
  s.onRadio n fun x => { x with buckets := Tab.upd (x.buckets.filter (fun b => decide (s.power.ot < b.1 + 3600))) s.power.ot 0 (· + air) }

/-- Event base + 0: causes 1 and 2 at most once per 600 s, with the count since the last event (R237, R258). -/
def State.regLimit (s : State) (n cause : Nat) : State :=
  let s1 := s.onRadio n fun x => { x with limits := x.limits.upd cause 0 (· + 1) }
  let src := 128 + 4 * n
  let d := le 1 cause ++ zeros 3 ++ le 4 ((s1.radio n).limits.getD cause 0)
  if cause ≤ 2 then
    if s1.eventDue 600 src cause then (s1.raiseEvery 600 src cause d).onRadio n fun x => { x with limits := x.limits.set cause 0 } else s1
  else (s1.raise src d).onRadio n fun x => { x with limits := x.limits.set cause 0 }

/-! ### Cells (R238 to R240) -/

/-- The slotframe that owns an offset of slotframe 0 (R239). -/
def State.ownerOf (s : State) (n t : Nat) : Nat :=
  ([1, 2, 3].find? (fun k =>
    let a := (s.cfgE (0x5010 + n) k 0).toNat
    let b := (s.cfgE (0x5010 + n) k 1).toNat
    a ≠ 0xFFFF && decide (a ≤ t) && decide (t ≤ b))).getD 0

inductive RfCell where
  | beacon | idle | rescue | shared | wake (eix : Nat) | down (eix : Nat)
  deriving DecidableEq, Repr

/-- The cell of a radio at an absolute slot number. -/
def State.cellAt (s : State) (n asn : Nat) : RfCell :=
  let l0 := s.sfLen n 0
  let t := asn % l0
  let k := s.ownerOf n t
  let eb := s.cfgN (0x5010 + n) 4
  let rescue := s.cfgN (0x5010 + n) 6
  if k = 0 then
    if t = eb then (if (asn / l0) % s.cfgN (0x5010 + n) 5 = 0 then .beacon else .idle)
    else if t = rescue then .rescue
    else if t + 1 = rescue ∨ t = rescue + 1 then .idle
    else .shared
  else
    let tk := asn % s.sfLen n k
    match (s.radio n).sleepy.find? (fun e => e.2.sf = k && (e.2.wake = tk || e.2.wake + 1 = tk)) with
    | some (e, y) => if y.wake = tk then .wake e else .down e
    | none => .idle

/-- The hopping sequence (R238). -/
def State.hopList (s : State) (n : Nat) : List Nat :=
  (((List.range 64).map (fun i => (s.cfgE (0x5000 + n) 13 i).toNat)).takeWhile (fun c => c ≠ 255))

/-- Channel of the cell at an absolute slot number: h[(ASN + o) mod length], o the wake pair's channel offset and else 0 (R238, R240). -/
def State.cellChannel (s : State) (n asn : Nat) : Nat :=
  let o := match s.cellAt n asn with
    | .wake e | .down e => (((s.radio n).sleepy.get? e).map (·.chan)).getD 0
    | _ => 0
  (s.hopList n).getD ((asn + o) % (s.hopList n).length) 0

/-- The power at RFn_ANT of radio `n` (R233). -/
def antennaPower (im : Tab Int) (n : Nat) : Int :=
  let v := fun f => cfgValue im (0x5000 + n) f 0
  min (v 4) (cfgValue im (0x5040 + (v 3).toNat) 3 0 - v 7 - (if v 5 = 1 then v 6 else 0))

/-- RFn_LNAEN and RFn_PAEN round a transmission of `air` µs, each with its µs after the first symbol (R230 at its typical figures): (LNAEN, PAEN);
held low while ext_pa is 0 (R229). -/
def State.pinsOf (s : State) (n air : Nat) : List (Int × Bool × Bool) :=
  if s.rfN n 5 = 0 then []
  else
    let on : Int := s.rfN n 8
    let off : Int := air + s.rfN n 9
    [(-on - 1, false, false), (-on, false, true), (off, false, false), (off + 1, true, false)]

/-- A transmission on the current channel in a mode (R234: the centre frequency is chan0_khz + c × spacing_khz). -/
def State.txNow (s : State) (n mode psdu air : Nat) (security : Option (Nat × Nat)) : RfTx :=
  { channel := (s.radio n).channel, khz := s.cfgI (0x5040 + s.rfN n 3) 0 + (s.radio n).channel * s.cfgI (0x5040 + s.rfN n 3) 1
    dbm := antennaPower s.cfg.running n, mode := mode, psdu := psdu, security := security, pins := s.pinsOf n air }

/-- The Enhanced Beacon of the current timeslot (R243). Dedicated cells are not in it. -/
def State.beaconNow (s : State) (n : Nat) : RfBeacon :=
  let l0 := s.sfLen n 0
  let eb := s.cfgN (0x5010 + n) 4
  let rescue := s.cfgN (0x5010 + n) 6
  { asn := (s.radio n).asn - 1
    template := (List.range 12).map (fun f => s.cfgI (0x5030 + n) f)
    hopList := s.hopList n
    sfLen := l0, eb := eb, rescue := rescue
    shared := (List.range l0).filter (fun t =>
      s.ownerOf n t = 0 && t ≠ eb && t ≠ rescue && t + 1 ≠ rescue && t ≠ rescue + 1) }

/-- NT in ns at which a slot starts (R242). -/
def State.slotStart (s : State) (n asn : Nat) : Nat :=
  (((((s.radio n).s0.getD 0) * 1000000000 + asn * s.tmplN n 11 * 1000 : Nat) : Int) + (s.radio n).shiftNs).toNat

/-- Whether a radio realigns its timeline after a step: some boundary lies off the 10 ms grid (R242). -/
def Radio.realigning (x : Radio) : Bool := gridOffset x.shiftNs ≠ 0

/-- S0 of every radio that is enabled for the first time: the first whole NT second from now on (R242). -/
def State.radiosEnable (s : State) : State :=
  if !s.portsServe then s
  else { s with radios := s.radios.zipIdx.map fun p =>
    if p.1.s0.isNone ∧ s.rfN p.2 0 = 1 then
      { p.1 with s0 := some (s.time.nt.sec + (if s.time.nt.ns = 0 ∧ s.time.nt.frac = 0 then 0 else 1)), asn := 0, shiftNs := 0 }
    else p.1 }

/-- The safe point of a radio, a timeslot boundary without a frame in progress (R252): its own objects and its regulatory profile; rf-sync
with the first radio that reaches one (log 168). -/
def State.radioSafePoint (s : State) (n : Nat) : State :=
  if (s.radio n).waiting.isSome then s
  else
    let prof := 0x5040 + s.rfN n 3
    (s.adoptObjs fun o => o = 0x5000 + n || o = 0x5010 + n || o = prof || o = 0x5020).radiosEnable

/-- Whether an endpoint of a radio is in WIDE. -/
def State.anyWide (s : State) (n : Nat) : Bool := (s.radio n).sleepy.any fun z => z.2.state = .wide

/-- Index in the MAC queue of the frame that a cell may carry: shared cells, the rescue cell among them while no endpoint is in WIDE, carry
broadcasts, frames for endpoints that are not sleepy, and frames that join or deliver a wake pair; a down cell the frames of its endpoint when the
frame-pending bit was set. No clock SET goes out while the radio realigns (R251). -/
def State.eligible (s : State) (n : Nat) (c : RfCell) : Option Nat :=
  let x := s.radio n
  let inShared := fun (f : RfFrame) => !(f.kind = .time && x.realigning) && (match f.eix with
    | none => true
    | some e => f.kind = .wake || f.kind = .lbp || !x.sleepy.has e)
  match c with
  | .shared => x.macq.findIdx? inShared
  | .rescue => if s.anyWide n then none else x.macq.findIdx? inShared
  | .down e =>
    if ((x.sleepy.get? e).map (·.pendingBit)).getD false then
      x.macq.findIdx? (fun f => f.eix = some e && !(f.kind = .wake || f.kind = .lbp) && !(f.kind = .time && x.realigning))
    else none
  | _ => none

/-- The radio takes the next packet of its transmit queue into its MAC queue, in 6LoWPAN fragments that fit beside `overhead` octets (R232). -/
def State.rfPull (s : State) (n overhead : Nat) : State :=
  match s.takeEgress (4 + n) with
  | (none, s1) => s1
  | (some p, s1) =>
    let room := max 8 ((s.maxPsdu n - overhead) / 8 * 8)
    let parts := if p.body.length ≤ s.maxPsdu n - overhead then [p.body] else chunks room p.body
    s1.onRadio n fun x => { x with
      macq := x.macq ++ parts.map fun b => { bytes := b, eix := if getLE 4 1 p.body = 2 then none else some (getLE 0 4 p.body) } }

/-- Work kinds of RF_KEY_ROTATE, RF_SET_WAKE, RF_TIME_DELIVER. -/
abbrev workRfKey : Nat := 11
abbrev workWake : Nat := 12
abbrev workRfTime : Nat := 13

/-- A frame has been given up: the wake pair that it carried is not given, its clock SET not delivered. -/
def State.rfLost (s : State) (f : RfFrame) : State :=
  match f.eix, f.kind with
  | some e, .wake => s.finish workWake e stPeerLost []
  | some e, .time => s.finish workRfTime e stPeerLost []
  | _, _ => s

/-- The frame at an index of the MAC queue leaves it. -/
def State.rfTake (s : State) (n i : Nat) : State := s.onRadio n fun x => { x with macq := x.macq.eraseIdx i, waiting := none }

/-- The frame at an index of the MAC queue leaves it undelivered. -/
def State.rfDrop (s : State) (n i : Nat) : State :=
  match (s.radio n).macq[i]? with
  | some f => (s.rfTake n i).rfLost f
  | none => s.rfTake n i

/-- The frame at an index of the MAC queue has been acknowledged: it leaves; a wake pair that it carried is in force (R245), a clock SET
delivered (R251, log 167). -/
def State.rfDelivered (s : State) (n i : Nat) : State :=
  let s1 := (s.rfTake n i).onRadio n fun x => { x with be := 1, bw := 0 }
  match (s.radio n).macq[i]? with
  | some { kind := .wake, eix := some e, wake := some w, .. } =>
    (s1.onRadio n fun x => { x with sleepy := x.sleepy.set e w }).finish workWake e stDone (le 2 w.wake)
  | some { kind := .time, eix := some e, .. } =>
    (s1.onRadio n fun x => { x with deliveries := x.deliveries + 1 }).finish workRfTime e stDone []
  | _ => s1

/-- The share of sensing periods that the fog registers read as busy, spread evenly (R518). -/
def State.fogBusy (s : State) (n : Nat) : Bool × State :=
  if bit (s.fogN 8) n ∧ 0 < s.fogN 9 then
    let k := s.fog.sensings.getD n 0
    (decide ((k * s.fogN 9) % 100 < s.fogN 9), s.onFog fun f => { f with sensings := f.sensings.upd n 0 (· + 1) })
  else (false, s)

/-- What a timeslot brings (R232, R235, R237, R243): octets of the MAC header, security fields and IEs of a frame beside its payload, octets of an
Enhanced Beacon, the energy in dBm of each 128 µs window of the sensing, whether the acknowledgement comes. -/
structure RfSlot where
  overhead : Nat := 30
  beacon : Nat := 60
  energy : List Int := []
  acked : Bool := false
  deriving DecidableEq, Repr

/-- Sensing (R235): some 128 µs window over sensing_us reaches lbt_threshold_dbm. -/
def State.senses (s : State) (n : Nat) (energy : List Int) : Bool :=
  (energy.take (s.regN n 6 / 128)).any fun e => decide (s.cfgI (0x5040 + s.rfN n 3) 5 ≤ e)

/-- The clock SET that the current timeslot carries (R219, R251): the NT of the start of the next one. -/
def State.rfSet (s : State) (n : Nat) : Bytes :=
  clockSet (le 6 (s.cfgN 0x5020 9)) (s.localDate ((s.slotStart n (s.radio n).asn / 10000000 : Nat) : Int))

/-- Security level and key identifier mode of a frame (R244): a unicast data frame is ENC-MIC-32 with key identifier mode 1; a joining frame has
no MAC key yet. -/
def RfFrame.security (f : RfFrame) : Option (Nat × Nat) := if f.eix.isSome ∧ f.kind ≠ .lbp then some (5, 1) else none

/-- Step 5 of R237 for the frame at an index of the MAC queue. -/
def State.rfTransmit (s : State) (n psdu air i : Nat) (f : RfFrame) (shared acked : Bool) : State :=
  let set_ := s.rfSet n
  let s1 := (s.spendAir n air).onRadio n fun x => { x with
    sent := x.sent + 1, lastTx := some (s.txNow n (s.rfN n 2) psdu air f.security), sentSlot := true, dutyWait := false
    macq := x.macq.modify i fun g => { g with busy := 0, tries := g.tries + 1, bytes := if g.kind = .time then s.endpointBody (g.eix.getD noEix) set_ else g.bytes } }
  let s2 := if f.kind = .time then s1.onPlc fun y => { y with lastSet := set_ } else s1
  if f.eix.isNone ∨ acked then s2.rfDelivered n i else s2.onRadio n fun x => { x with waiting := some i, waitShared := shared }

/-- Steps 2 to 5 of R237 for the frame at an index of the MAC queue. A clock SET goes out only at time_min_quality or above (R251). -/
def State.rfAttempt (s : State) (n i : Nat) (shared : Bool) (w : RfSlot) : State :=
  match (s.radio n).macq[i]? with
  | none => s
  | some f =>
    let psdu := w.overhead + f.bytes.length
    let air := s.rfAirtime n psdu
    if f.kind = .time ∧ s.time.level < s.cfgN 0x5020 8 then (s.rfTake n i).finish workRfTime (f.eix.getD noEix) stTimeInvalid []
    else if s.maxAirtime n < air then (s.rfDrop n i).regLimit n 3
    else if !s.dutyAllows n air true then
      if (s.radio n).dutyWait then s else (s.onRadio n fun x => { x with dutyWait := true }).regLimit n 1
    else
      let (fog, s0) := if s.regN n 4 = 1 then s.fogBusy n else (false, s)
      if s.regN n 4 = 1 ∧ (s.senses n w.energy ∨ fog) then
        let s1 := s0.onRadio n fun x => { x with busyCells := x.busyCells + 1, macq := x.macq.modify i fun g => { g with busy := g.busy + 1 } }
        if 32 ≤ f.busy + 1 then (s1.rfDrop n i).regLimit n 4 else s1
      else s0.rfTransmit n psdu air i f shared w.acked

/-- Steps 2 to 5 of R237 for the Enhanced Beacon (R243). -/
def State.rfBeacon (s : State) (n : Nat) (w : RfSlot) : State :=
  let mode := lowestMode (s.rfN n 2)
  let air := airtime mode (s.rfN n 10) w.beacon
  if s.maxAirtime n < air then s.regLimit n 3
  else if !s.dutyAllows n air false then s
  else
    let (fog, s0) := if s.regN n 4 = 1 then s.fogBusy n else (false, s)
    if s.regN n 4 = 1 ∧ (s.senses n w.energy ∨ fog) then s0.onRadio n fun x => { x with busyCells := x.busyCells + 1 }
    else (s0.spendAir n air).onRadio n fun x => { x with
      sent := x.sent + 1, sentSlot := true, lastTx := some (s.txNow n mode w.beacon air (some (1, 1))), lastBeacon := some (s.beaconNow n) }

/-- A shared cell: while the backoff window holds the frame back the radio listens (R235, R240). -/
def State.rfShared (s : State) (n : Nat) (c : RfCell) (w : RfSlot) : State :=
  match s.eligible n c with
  | some i => if 0 < (s.radio n).bw then s.onRadio n fun x => { x with bw := x.bw - 1 } else s.rfAttempt n i true w
  | none => s.rfPull n w.overhead

/-- RF_TIMESLOT: slot `asn` begins (R237). -/
def State.rfTimeslot (s : State) (n asn : Nat) (w : RfSlot) : State :=
  if !s.radioUp n ∨ (s.radio n).s0.isNone ∨ asn < (s.radio n).asn then s
  else
    let s0 := s.radioSafePoint n
    let s1 := s0.onRadio n fun y => { y with asn := asn + 1, channel := s0.cellChannel n asn, sentSlot := false, lnaen := decide (s0.rfN n 5 = 1) }
    if (s1.radio n).waiting.isSome then s1
    else
      match s1.cellAt n asn with
      | .beacon => (s1.rfBeacon n w).rfPull n w.overhead
      | .shared => s1.rfShared n .shared w
      | .rescue => s1.rfShared n .rescue w
      | .down e =>
        let done := fun (t : State) => t.onRadio n fun y => { y with sleepy := y.sleepy.adj e fun z => { z with pendingBit := false } }
        match s1.eligible n (.down e) with
        | some i => done (s1.rfAttempt n i false w)
        | none => done (s1.rfPull n w.overhead)
      | _ => s1.rfPull n w.overhead

def execRfTimeslot (n asn overhead beacon : Nat) (energy : List Int) (acked : Bool) (s : State) : Host.Outcome State Fault Refusal :=
  .next (s.rfTimeslot n asn { overhead := overhead, beacon := beacon, energy := energy, acked := acked })

/-- The shared-cell backoff after an attempt without acknowledgement (R235): the exponent rises to 7 at most, the window is a free value below
2^exponent (IEEE 802.15.4-2020, log 170). -/
def State.backOff (s : State) (n : Nat) : State :=
  let (v, s1) := s.draw 9 1
  s1.onRadio n fun x => { x with be := min 7 (x.be + 1), bw := v % 2 ^ min 7 (x.be + 1) }

/-- RF_ACK_TIMEOUT: retried up to mac_max_retries. -/
def State.rfAckTimeout (s : State) (n : Nat) : State :=
  match (s.radio n).waiting with
  | none => s
  | some i =>
    let s0 := s.onRadio n fun x => { x with waiting := none, lost := x.lost + 1 }
    let s1 := if (s.radio n).waitShared then s0.backOff n else s0
    if (((s.radio n).macq[i]?).map (·.tries)).getD 0 ≤ s.rfN n 12 then s1 else s1.rfDrop n i

def execRfAckTimeout (n : Nat) (s : State) : Host.Outcome State Fault Refusal := .next (s.rfAckTimeout n)

/-! ### Guards (R246) -/

/-- g_n of R246 in µs for a slotframe length in slots. -/
def State.guardFor (s : State) (n sf ep : Nat) : Nat :=
  max (s.cfgN 0x5020 0) (cdiv ((s.cfgN 0x5020 1 + ep) * (s.sfLen n sf * s.tmplN n 11)) 1000000 + 100)

/-- The nominal guard of a sleepy endpoint, and its current guard. -/
def State.nominalGuard (s : State) (n : Nat) (z : Sleepy) : Nat := s.guardFor n z.sf z.epPpm
def State.guardNow (s : State) (n : Nat) (z : Sleepy) : Nat := if z.state = .synced then s.nominalGuard n z else z.g

/-! ### Drift recovery (R248) -/

/-- A change of one sleepy endpoint. -/
def State.onSleepy (s : State) (n eix : Nat) (f : Sleepy → Sleepy) : State :=
  s.onRadio n fun x => { x with sleepy := x.sleepy.adj eix f }

/-- Event base + 3. -/
def State.driftEvent (s : State) (n eix state : Nat) (offset : Int) : State :=
  s.raiseRf n 3 (eix3 eix ++ le 1 state ++ leI 4 offset)

/-- A usable frame of a sleepy endpoint. -/
def State.usable (s : State) (n eix : Nat) (off : Int) : State :=
  match (s.radio n).sleepy.get? eix with
  | none => s
  | some z =>
    let near := decide (off.natAbs ≤ s.nominalGuard n z)
    let s1 := s.onSleepy n eix fun y => { y with offset := off, misses := 0 }
    let synced := s1.onSleepy n eix fun y => { y with state := .synced }
    match z.state with
    | .synced => s1
    | .widening => if near then synced else s1.onSleepy n eix fun y => { y with state := .recovering }
    | .wide | .recovering => if near then synced.driftEvent n eix 1 off else s1.onSleepy n eix fun y => { y with state := .recovering }

/-- A miss. -/
def State.miss (s : State) (n eix : Nat) : State :=
  match (s.radio n).sleepy.get? eix with
  | none => s
  | some z =>
    let s1 := s.onSleepy n eix fun y => { y with misses := min 255 (y.misses + 1) }
    match z.state with
    | .synced => s1.onSleepy n eix fun y => { y with g := min (2 * s.nominalGuard n z) 4000, c := 0, state := .widening }
    | .widening =>
      if z.g < 4000 then s1.onSleepy n eix fun y => { y with g := min (2 * z.g) 4000 }
      else (s1.onSleepy n eix fun y => { y with state := .wide }).driftEvent n eix 0 z.offset
    | .wide => s1
    | .recovering => s1.onSleepy n eix fun y => { y with state := .wide }

def execSleepyMiss (n eix : Nat) (s : State) : Host.Outcome State Fault Refusal := .next (s.miss n eix)

/-- RESCUE_CELL_EMPTY: c counts for every endpoint in WIDE. -/
def State.rescueEmpty (s : State) (n : Nat) : State :=
  s.onRadio n fun x => { x with sleepy := x.sleepy.mapVals fun _ z => if z.state = .wide then { z with c := min (z.c + 1) 8 } else z }

def execRescueCellEmpty (n : Nat) (s : State) : Host.Outcome State Fault Refusal := .next (if n < 4 then s.rescueEmpty n else s)

/-- Event of an endpoint's membership on a port: 0 left, 1 joined, 2 dropped unsynchronised (R228, R258). -/
def State.memberEvent (s : State) (p eix state : Nat) : State :=
  let d := eix3 eix ++ le 1 state ++ le 2 (s.shortOf eix)
  if p < 4 then s.raisePlc p 6 d else s.raiseRf (p - 4) 2 d

/-- An endpoint holds the new key of a port, or needs it no more (R217, R244). -/
def State.keyHeld (s : State) (p eix : Nat) : State :=
  if p < 4 then
    let was := !(s.port p).gmkPending.isEmpty
    let s1 := s.onPort p fun y => { y with gmkPending := y.gmkPending.erase eix }
    if was ∧ (s1.port p).gmkPending.isEmpty then s1.finish workGmk p stDone [] else s1
  else
    let n := p - 4
    let was := !(s.radio n).keyPending.isEmpty
    let s1 := s.onRadio n fun x => { x with keyPending := x.keyPending.erase eix }
    if was ∧ (s1.radio n).keyPending.isEmpty then s1.finish workRfKey n stDone [] else s1

/-- An endpoint is no longer a member of a port; its wake pair goes with it. -/
def State.unjoin (s : State) (p eix state : Nat) : State :=
  let s1 := s.onPlc fun x => { x with joined := x.joined.erase eix }
  let s2 := if 4 ≤ p then s1.onRadio (p - 4) fun x => { x with sleepy := x.sleepy.erase eix } else s1
  (s2.memberEvent p eix state).keyHeld p eix

/-- WAL_EXHAUSTED. -/
def State.walExhausted (s : State) (n eix : Nat) : State :=
  match (s.radio n).sleepy.get? eix with
  | some z => if n < 4 ∧ z.state = .wide ∧ s.cfgN 0x5020 5 ≤ z.c then s.unjoin (4 + n) eix 2 else s
  | none => s

def execWalExhausted (n eix : Nat) (s : State) : Host.Outcome State Fault Refusal := .next (s.walExhausted n eix)

/-! ### Reception (R235, R236, R247, R250) -/

/-- The cell that a frame arriving in the current timeslot belongs to, with its offset from that cell's expected start, when it falls in a window in
which the device listens (R240, R241, R246, R249): g of a wake cell's endpoint; g0_us in a shared cell in which nothing is sent; in the rescue cell
wal_us while some endpoint is in WIDE, which spans the idle outer offsets. `off` is counted from the expected start in the current timeslot. -/
def State.rxCell (s : State) (n : Nat) (off : Int) : Option (RfCell × Int) :=
  let asn := (s.radio n).asn - 1
  let slot : Int := s.tmplN n 11
  let t := asn % s.sfLen n 0
  let within := fun (c : RfCell) (o : Int) (w : Nat) => if o.natAbs ≤ w then some (c, o) else none
  match s.cellAt n asn with
  | .wake e => within (.wake e) off ((((s.radio n).sleepy.get? e).map (s.guardNow n)).getD 0)
  | .shared => if (s.radio n).sentSlot then none else within .shared off (s.cfgN 0x5020 0)
  | .rescue =>
    if (s.radio n).sentSlot then none else within .rescue off (if s.anyWide n then s.cfgN 0x5020 4 else s.cfgN 0x5020 0)
  | .idle =>
    if !s.anyWide n ∨ s.ownerOf n t ≠ 0 then none
    else if t + 1 = s.cfgN (0x5010 + n) 6 then within .rescue (off - slot) (s.cfgN 0x5020 4)
    else if t = s.cfgN (0x5010 + n) 6 + 1 then within .rescue (off + slot) (s.cfgN 0x5020 4)
    else none
  | _ => none

/-- The Time Correction IE: expected minus measured start, saturated to 12 bits (R247). -/
def timeCorrection (off : Int) : Int := clampI (-2047) 2047 (-off)

/-- A frame that a radio accepts is acknowledged (R236, R240, R244, R247): airtime, correction, and in a wake cell the frame-pending bit. -/
def State.rfAcknowledge (s : State) (n air : Nat) (c : RfCell) (off : Int) : State :=
  let pend := match c with
    | .wake e => (s.radio n).macq.any (fun q => q.eix = some e && !(q.kind = .wake || q.kind = .lbp))
    | _ => false
  let s1 := (s.spendAir n air).onRadio n fun y => { y with
    correction := timeCorrection off, lastAck := some { correction := timeCorrection off, pending := pend } }
  match c with
  | .wake e => s1.onSleepy n e fun z => { z with pendingBit := pend }
  | _ => s1

/-- RF_FRAME_RECEIVE. A frame whose acknowledgement is too long (log 171) or would exceed the budget is discarded (R232, R237). -/
def State.rfReceive (s : State) (n : Nat) (f : RfRx) : State :=
  match s.rxCell n f.offset with
  | none => s
  | some (cell, off) =>
    let air := s.rfAirtime n f.ackOctets
    if !s.radioUp n ∨ (s.radio n).s0.isNone then s
    else if f.pan ≠ s.rfN n 1 then s.onRadio n fun y => { y with panDrops := y.panDrops + 1 }
    else if s.maxAirtime n < air then s.regLimit n 3
    else if !s.dutyAllows n air false then s.regLimit n 2
    else
      let s1 := ((s.rfAcknowledge n air cell off).countRx (4 + n)).onRadio n fun y => { y with rx := y.rx + 1 }
      let sender := match f.relay with
        | some e => s.tbl.findEui (padTo 8 e)
        | none => s.eixOf (4 + n) f.kind f.src
      let cost := min 255 (2 * (s.cfgI 0x7000 5 - f.rssi)).toNat
      let s2 := match sender with
        | none => s1
        | some e =>
          let t := s1.onRadio n fun y => { y with heard := y.heard.set e f.stamp.sec, costs := y.costs.set e cost }
          if cell = .wake e ∨ cell = .rescue then t.usable n e off else t
      if f.payload.isEmpty then s2 else s2.send (4 + n) (4 + n) (rxPacket f.kind (4 + n) cost f.src f.stamp f.udp f.payload)

def execRfFrameReceive (n : Nat) (f : RfRx) (s : State) : Host.Outcome State Fault Refusal := .next (s.rfReceive n f)

/-! ### Clock delivery (R251) -/

/-- RF_TIME_DELIVERY: a clock SET that is due enters the MAC queue; below time_min_quality none is made. -/
def State.rfTimeDelivery (s : State) (n eix : Nat) (commanded : Bool) : State :=
  if s.portOfEix eix ≠ n + 4 ∨ !s.radioUp n ∨ !s.timeDue commanded workRfTime eix (s.cfgN 0x5020 6) (s.cfgN 0x5020 7) ∨
      (s.radio n).macq.any (fun f => f.kind = .time && f.eix = some eix) then s
  else if s.time.level < s.cfgN 0x5020 8 then s.finish workRfTime eix stTimeInvalid []
  else (s.onPlc fun y => { y with timeOt := y.timeOt.set eix s.power.ot }).onRadio n fun x => { x with
    macq := x.macq ++ [{ kind := .time, bytes := s.endpointBody eix (s.rfSet n), eix := some eix }] }

def execRfTimeDelivery (n eix : Nat) (commanded : Bool) (s : State) : Host.Outcome State Fault Refusal :=
  .next (s.rfTimeDelivery n eix commanded)

/-! ### Reset (R253) -/

/-- The MAC queue of a radio is discarded. -/
def State.rfDiscard (s : State) (n : Nat) : State :=
  (s.radio n).macq.foldl (fun t f => t.rfLost f) (s.onRadio n fun x => { x with macq := [], waiting := none })

/-- A radio reset (R253). -/
def State.radioReset (s : State) (n cause : Nat) : State :=
  if 3 < n then s
  else
    let (cells, s1) := ((s.onRadio n fun x => { x with paen := false, lnaen := false, be := 1, bw := 0 }).rfDiscard n).reclaim (4 + n)
    s1.raiseRf n 1 (le 1 cause ++ zeros 3 ++ le 4 cells)

/-- RF_WATCHDOG: a radio that has not returned to idle within 2 s. -/
def execRfWatchdog (n : Nat) (s : State) : Host.Outcome State Fault Refusal := .next (s.radioReset n 1)

end Sys2Proof.Machine
end

