-- ==== Sys2Proof/Machine/RadioRows.lean ====
section
/-! DEFINITION. Joining and leaving on every port (R217, R244) and the RF commands 0x0D01 to 0x0D08 (R245, R246, R257). -/

namespace Sys2Proof.Machine
open Sys2Proof

/-! ### Joining -/

/-- Whether a port, 0 to 3 PLC and 4 to 7 radio, works. -/
def State.portUp (s : State) (p : Nat) : Bool := if p < 4 then s.plcUp p else s.radioUp (p - 4)

/-- A joining or key frame for an endpoint enters the MAC queue of its port (R217, R244). -/
def State.sendLbp (s : State) (p eix : Nat) (b : Bytes) : State :=
  if p < 4 then s.enqueue p { kind := .lbp, bytes := b, eix := eix, dest := .hop (s.shortOf eix) }
  else s.onRadio (p - 4) fun x => { x with macq := x.macq ++ [{ kind := .lbp, bytes := b, eix := some eix }] }

/-- The group master key of a PLC port, or the MAC key of a radio: slot 8 + p (R382). -/
def State.netKey (s : State) (p : Nat) : Bytes := ((s.sec.slot (8 + p)).content).getD []

/-- The frames of the bootstrap server (R217; their layout is the model's, log 169): code 1 accepted, 2 challenge, 3 decline, EUI-64, content. -/
def lbpFrame (code : Nat) (eui data : Bytes) : Bytes := le 1 code ++ padTo 8 eui ++ data

/-- Key of a joining EUI-64 on a port. -/
def joinKey (p : Nat) (eui : Bytes) : Nat := p * 2 ^ 64 + fromLE (padTo 8 eui)

/-- MAC_P of the second message of EAP-PSK, over RAND_S, RAND_P and the EUI-64, and the confirmation of the fourth, over RAND_S (log 169). -/
def macPeer (psk randS randP eui : Bytes) : Bytes := padTo 16 (Config.eapMac psk (randS ++ randP ++ padTo 8 eui))
def macDone (psk randS : Bytes) : Bytes := padTo 16 (Config.eapMac psk randS)

/-- The bootstrap ends: declined. -/
def State.joinDecline (s : State) (p eix : Nat) (eui : Bytes) : State :=
  (s.onPlc fun x => { x with joins := x.joins.erase (joinKey p eui) }).sendLbp p eix (lbpFrame 3 eui [])

/-- The peer's last EAP-PSK message verifies. -/
def State.joinVerified (s : State) (p : Nat) (eui psk data : Bytes) : Bool :=
  match s.plc.joins.get? (joinKey p eui) with
  | some j => j.verified && decide (data = macDone psk j.randS)
  | none => false

/-- EAP-PSK with an endpoint that has a directory entry and a PSK (R217): `what` 0 asks to join and is challenged with RAND_S; 1 brings RAND_P and
MAC_P and is answered with MAC_S and, on the protected channel, the short address of its entry and the port's key; 2 confirms, and the endpoint is
joined; 3 confirms a renewed key. What does not verify is declined. -/
def State.joinStep (s : State) (p eix : Nat) (eui psk : Bytes) (what : Nat) (data : Bytes) : State :=
  match what, s.plc.joins.get? (joinKey p eui) with
  | 0, _ =>
    if s.sec.trngStopped then s
    else
      let (r, s1) := s.random 16
      (s1.onPlc fun x => { x with joins := x.joins.set (joinKey p eui) { randS := r } }).sendLbp p eix
        (lbpFrame 2 eui (r ++ padTo 16 Config.openIdentity))
  | 1, some j =>
    if data.drop 16 = macPeer psk j.randS (data.take 16) eui then
      let k := s.netKey p
      (s.onPlc fun x => { x with joins := x.joins.set (joinKey p eui) { j with verified := true } }).sendLbp p eix
        (lbpFrame 2 eui (padTo 16 (Config.eapMac psk (padTo 16 Config.openIdentity ++ data.take 16)) ++ Config.eapSeal psk (le 2 (s.shortOf eix) ++ k)))
    else s.joinDecline p eix eui
  | 2, some _ =>
    if s.joinVerified p eui psk data then
      ((s.onPlc fun x => { x with joins := x.joins.erase (joinKey p eui), joined := x.joined.set eix p }).memberEvent p eix 1).sendLbp p eix
        (lbpFrame 1 eui (le 2 (s.shortOf eix)))
    else s.joinDecline p eix eui
  | 3, _ => s.keyHeld p eix
  | _, _ => s

/-- LBP_JOIN: a joining frame of an EUI-64 on a port. One without a directory entry or without a PSK is declined with the learning notice; one that
is BLOCKED is not answered. `what` 4 is a beacon request on a PLC port, answered with a beacon (log 169). -/
def State.lbpJoin (s : State) (p : Nat) (eui : Bytes) (what cost : Nat) (data : Bytes) (st : Stamp) : State :=
  let key := padTo 8 eui
  let stamp := st.sec * 1000000000 + st.ns
  if !s.portUp p then s
  else if what = 4 then (if p < 4 then s.enqueue p { kind := .beacon, dest := .all } else s)
  else
    let (s1, e) := s.lookupSource 0 key p cost stamp
    match e with
    | none => s1.joinDecline p noEix eui
    | some e =>
      if bit (((s.tbl.dir.get? e).map (·.flags)).getD 0) 4 then s1
      else match s.sec.psks.get? (fromLE key) with
        | none => (s1.learn 0 key e p cost stamp).joinDecline p e eui
        | some psk => s1.joinStep p e eui psk what data

/-- ENDPOINT_LEAVE: a leave, a kick or an expired entry. -/
def State.endpointLeave (s : State) (eix : Nat) : State :=
  match s.plc.joined.get? eix with
  | some p => s.unjoin p eix 0
  | none => s

def execEndpointLeave (eix : Nat) (s : State) : Host.Outcome State Fault Refusal := .next (s.endpointLeave eix)

/-! ### Commands -/

def State.rfStatus (s : State) (n : Nat) : Bytes :=
  let x := s.radio n
  le 1 (s.rfN n 0) ++ le 1 (s.rfN n 2) ++ le 2 (s.rfN n 1) ++ le 1 (s.rfN n 3) ++ zeros 3 ++ le 8 (x.asn - 1) ++ le 4 (s.joinedOn (4 + n)) ++
    le 4 x.sleepy.length ++ le 4 x.rx ++ le 4 x.sent ++ le 4 x.lost ++ le 4 x.busyCells ++ le 4 (s.rfWindow n) ++ le 4 (s.rfBudget n) ++
    le 4 x.deliveries

def execRfStatus (c : HostCmd) (s : State) : Host.Outcome State Fault Refusal :=
  .next (s.serve 0x0D01 c (fun _ => [lenIs c 4, badPort c]) (fun t => (t, .done (t.rfStatus (getLE 0 1 c.req)))))

/-- A sync entry (R257); an endpoint that is not sleepy has state 0xFF and zeros. -/
def State.syncBytes (s : State) (n eix : Nat) : Bytes :=
  let heard := (s.radio n).heard.getD eix 0
  match (s.radio n).sleepy.get? eix with
  | some z =>
    le 4 eix ++ le 2 (s.shortOf eix) ++ le 1 z.state.code ++ le 1 z.c ++ le 2 (s.nominalGuard n z) ++ le 2 (s.guardNow n z) ++ leI 2 (clampI (-32767) 32767 z.offset) ++
      le 1 z.epPpm ++ le 1 z.misses ++ le 2 z.wake ++ le 1 z.sf ++ zeros 5 ++ le 8 heard
  | none => le 4 eix ++ le 2 (s.shortOf eix) ++ le 1 0xFF ++ zeros 17 ++ le 8 heard

/-- Endpoints that have a sync entry on a radio: joined or sleepy ones, in ascending EIX. -/
def State.syncEixs (s : State) (n : Nat) : List Nat :=
  let js := (s.plc.joined.filter (fun j => j.2 = 4 + n)).map (·.1)
  (js ++ (Tab.keys (s.radio n).sleepy).filter (fun e => !js.contains e)).mergeSort (fun a b => decide (a ≤ b))

def execRfSyncRead (c : HostCmd) (s : State) : Host.Outcome State Fault Refusal :=
  .next (s.serve 0x0D02 c (fun _ => [lenIs c 12, badPort c, badCount c 256])
    (fun t =>
      let n := getLE 0 1 c.req
      (t, .done ((((t.syncEixs n).drop (getLE 4 4 c.req)).take (getLE 8 4 c.req)).map (t.syncBytes n)).flatten)))

/-- The cells of a slotframe at one offset: options are TX 1, RX 2, SHARED 4 (IEEE 802.15.4). -/
def State.scheduleCell (s : State) (n k t : Nat) : Option Bytes :=
  let cell := fun (ch opts eix : Nat) => some (le 2 t ++ le 1 ch ++ le 1 opts ++ le 4 eix)
  let rescue := s.cfgN (0x5010 + n) 6
  if k = 0 then
    if s.ownerOf n t ≠ 0 then none
    else if t = s.cfgN (0x5010 + n) 4 then cell 0 1 noEix
    else if t + 1 = rescue ∨ t = rescue + 1 then none
    else cell 0 7 noEix
  else
    match (s.radio n).sleepy.find? (fun e => e.2.sf = k && (e.2.wake = t || e.2.wake + 1 = t)) with
    | some (e, z) => cell z.chan (if z.wake = t then 2 else 1) e
    | none => none

/-- RF_SCHEDULE_READ: the cells from an offset on. -/
def execRfScheduleRead (c : HostCmd) (s : State) : Host.Outcome State Fault Refusal :=
  .next (s.serve 0x0D03 c
    (fun _ => [lenIs c 12, badField (decide (3 < getLE 0 1 c.req) || decide (3 < getLE 1 1 c.req) || !zeroAt 2 2 c.req), badCount c 1024])
    (fun t =>
      let n := getLE 0 1 c.req
      let k := getLE 1 1 c.req
      let offs := (List.range (t.sfLen n k)).drop (getLE 4 4 c.req)
      (t, .done ((offs.filterMap (t.scheduleCell n k)).take (getLE 8 4 c.req)).flatten)))

/-- The lowest free wake pair of a slotframe (R245): two consecutive offsets that the slotframe owns and no dedicated cell has. -/
def State.freePair (s : State) (n sf eix : Nat) : Option Nat :=
  let l0 := s.sfLen n 0
  let taken := (((s.radio n).sleepy.filter (fun z => z.1 ≠ eix && z.2.sf = sf)).map (·.2.wake)) ++
    (s.radio n).macq.filterMap (fun f => match f.wake with
      | some w => if w.sf = sf then some w.wake else none
      | none => none)
  (List.range (s.sfLen n sf - 1)).find? fun t =>
    s.ownerOf n (t % l0) = sf && s.ownerOf n ((t + 1) % l0) = sf && taken.all (fun w => decide (t + 1 < w) || decide (w + 1 < t))

/-- The wake pair of RF_SET_WAKE goes into the MAC queue, as a TSCH Slotframe and Link IE (slotframe, offset, channel offset); its channel offset is a
free value (log 6). -/
def State.setWake (s : State) (n eix sf ep t : Nat) : State :=
  let (o, s1) := s.draw 3 4
  let l := ((List.range 64).filter (fun i => s.cfgE (0x5000 + n) 13 i ≠ 0xFF)).length
  let w : Sleepy := { epPpm := ep, wake := t, sf := sf, chan := o % max 1 l }
  s1.onRadio n fun x => { x with
    macq := x.macq ++ [{ kind := .wake, bytes := le 1 sf ++ le 2 t ++ le 1 w.chan, eix := some eix, wake := some w }] }

/-- RF_SET_WAKE: ACCEPTED, then DONE with the pair's acknowledgement; clearing it is done at once. -/
def execRfSetWake (c : HostCmd) (s : State) : Host.Outcome State Fault Refusal :=
  let sf := getLE 4 1 c.req
  let e := reqEix c
  let ep := fun (t : State) => if getLE 5 1 c.req = 0 then t.cfgN 0x5020 2 else getLE 5 1 c.req
  let n := fun (t : State) => t.portOfEix e - 4
  .next (s.serve 0x0D04 c
    (fun t => [lenIs c 8, eixCheck c, badField (!(sf = 0 || sf = 2 || sf = 3) || !zeroAt 6 2 c.req),
      (decide (t.portOfEix e < 4) || decide (7 < t.portOfEix e), stNotFound),
      badField (sf ≠ 0 && decide (2000 < t.guardFor (n t) sf (ep t))),
      ((t.radio (n t)).macq.any (fun f => f.wake.isSome && f.eix = some e), stBusy),
      (sf ≠ 0 && (t.freePair (n t) sf e).isNone, stNotFound)])
    (fun t => ((if sf = 0 then t.onRadio (n t) fun x => { x with sleepy := x.sleepy.erase e }
      else t.setWake (n t) e sf (ep t) ((t.freePair (n t) sf e).getD 0)).defer workWake e 0x0D04 c, .accepted))
    (fun t => if sf = 0 then t.finish workWake e stDone [] else t))

/-- RF_AIRTIME: judged with the preamble, the template and the regulatory profile of radio 0. -/
def execRfAirtime (c : HostCmd) (s : State) : Host.Outcome State Fault Refusal :=
  .next (s.serve 0x0D05 c (fun _ => [lenIs c 4, badField (!rfModeValid (getLE 0 1 c.req) || !zeroAt 1 1 c.req)])
    (fun t =>
      let a := airtime (getLE 0 1 c.req) (t.rfN 0 10) (getLE 2 2 c.req)
      (t, .done (le 4 a ++ le 1 (b2n (decide (a ≤ t.tmplN 0 10))) ++ le 1 (b2n (decide (a ≤ t.regN 0 7 * 1000)))))))

/-- A radio's new MAC key, from the DRBG, goes to every joined endpoint (R244, R386). -/
def State.rfKeyRotate (s : State) (n : Nat) : State :=
  let js := (s.plc.joined.filter (fun j => j.2 = 4 + n)).map (·.1)
  let (k, s1) := s.random 16
  let s2 := (s1.onSec fun x => x.writeSlot (12 + n) k).onRadio n fun x => { x with key := x.key + 1, keyPending := js }
  js.foldl (fun t e => t.sendLbp (4 + n) e (s2.keyFrame e (s2.radio n).key k)) s2

/-- RF_KEY_ROTATE (R244, R386): one renewal at a time; ACCEPTED, then DONE, at once where no endpoint is joined. -/
def execRfKeyRotate (c : HostCmd) (s : State) : Host.Outcome State Fault Refusal :=
  let n := getLE 0 1 c.req
  .next (s.serve 0x0D06 c
    (fun t => [lenIs c 4, badPort c, (!(t.radio n).keyPending.isEmpty, stBusy), (t.sec.trngStopped, stInternalFault)])
    (fun t => ((t.rfKeyRotate n).defer workRfKey n 0x0D06 c, .accepted))
    (fun t => if (t.radio n).keyPending.isEmpty then t.finish workRfKey n stDone [] else t))

def execRfRadioReset (c : HostCmd) (s : State) : Host.Outcome State Fault Refusal :=
  .next (s.serve 0x0D07 c (fun _ => [lenIs c 4, badPort c]) (fun t => (t.radioReset (getLE 0 1 c.req) 2, .done [])))

def execRfTimeDeliver (c : HostCmd) (s : State) : Host.Outcome State Fault Refusal :=
  .next (s.serve 0x0D08 c
    (fun t => [lenIs c 4, eixCheck c,
      (decide (t.portOfEix (reqEix c) < 4) || !t.radioUp (t.portOfEix (reqEix c) - 4), stNotFound)])
    (fun t => (t.defer workRfTime (reqEix c) 0x0D08 c, .accepted)))

end Sys2Proof.Machine
end

