-- ==== Sys2Proof/Machine/Balance.lean ====
section
/-! DEFINITION. The balance engine: inputs, intervals, technical loss, residuals, the solver, detectors, phase identification
(R112 to R131). -/

namespace Sys2Proof.Machine
open Sys2Proof

def State.onBal (s : State) (f : Bal → Bal) : State := { s with bal := f s.bal }
def State.node (s : State) (n : Nat) : BalNode := s.bal.nodes.getD n {}
def State.onNode (s : State) (n : Nat) (f : BalNode → BalNode) : State := s.onBal fun b => { b with nodes := b.nodes.set n (f (b.nodes.getD n {})) }

/-- interval_s, and the 30 days within which inputs count (R116). -/
def State.balLen (s : State) : Nat := s.cfgN 0x2000 1
abbrev thirtyDays : Nat := 2592000

/-- Whether a feeder emits records, by the mirror of its channel calibrations (R85, R110). -/
def State.feederUsed (s : State) (f : Nat) : Bool :=
  (List.range 3).any fun p => getLE 0 1 ((s.mirrored (0x1200 + 4 + 4 * f + p)).getD [0xFF#8]) ≠ 0xFF

/-- Whether a node exists (R112). -/
def State.nodeExists (s : State) (n : Nat) : Bool := decide (n < 12) && s.cfgN (0x2010 + n) 0 = 1 && s.feederUsed (n / 3)

/-! ### Members -/

/-- Whether a member is active (R114). -/
def Member.active (m : Member) : Bool := !m.silent && m.eligible

/-- Whether a member counts in a node (R113). -/
def Member.inNode (m : Member) (n : Nat) : Bool := m.feeder = n / 3 && bit m.mask (n % 3)

def State.membersOf (s : State) (n : Nat) : Tab Member := s.bal.members.filter (fun m => m.2.inNode n)

/-- The nodes of a feeder and a phase mask. -/
def nodesOf (f mask : Nat) : List Nat := ([0, 1, 2].filter (bit mask)).map (3 * f + ·)

/-- The node that an event about a member names: the lowest of its nodes. -/
def Member.node (m : Member) : Nat := 3 * m.feeder + (if bit m.mask 0 then 0 else if bit m.mask 1 then 1 else 2)

/-- A member's share of an energy in a node (R115). -/
def Member.share (m : Member) (n : Nat) (v : Int) : Int := if m.mask = 7 then v.tdiv 3 + (if n % 3 = 0 then v.tmod 3 else 0) else v

/-- Interval length of a descriptor in the mirror. -/
def State.descLength (s : State) (index : Nat) : Option Nat := (s.cp.mirror.get? (0x1400 + index)).map (getLE 4 4)

/-- Interval length of a local endpoint's descriptor in the mirror (R32, R110, R114). -/
def State.eixLength (s : State) (eix : Nat) : Option Nat :=
  (s.cp.provisioned.get? eix).bind fun b => s.descLength (getLE 12 1 b)

/-- A member turns out ineligible, or eligible again, by its interval length: event 90 (R114). -/
def State.judgeLength (s : State) (eix : Nat) (len : Option Nat) : State :=
  match s.bal.members.get? eix, len with
  | some m, some l =>
    let ok := l ≠ 0 && s.balLen % l = 0
    let s1 := s.onBal fun b => { b with members := b.members.set eix { m with eligible := ok } }
    if m.eligible && !ok then s1.raise 90 (eix3 eix ++ le 1 m.node ++ le 4 l) else s1
  | _, _ => s

/-! ### Inputs (R115, R116) -/

/-- The interval that an instant falls in. -/
def State.balEnd (s : State) (fin : Nat) : Nat := intervalEnd s.balLen fin 0

/-- Intervals of a node that an input touches are recomputed at its next safe point when they are closed (R116). -/
def State.touch (s : State) (n : Nat) (ts : List Nat) : State :=
  s.onNode n fun x => { x with touched := (x.touched ++ ts.filter (fun t => x.ints.has t)).eraseDups }

/-- A member cell enters the engine; one that the rebuild reads back (`live` false) is no cell that arrives (R114, R130). -/
def State.balCell (s : State) (d : Bytes) (live : Bool) : State :=
  let w := getLE 0 4 d
  let eix := w % 2 ^ 18
  let fin := getLE 8 8 d
  let sq := getLE 4 4 d
  match s.bal.members.get? eix with
  | none => s
  | some m =>
    if fin + thirtyDays ≤ s.time.nt.sec then s.onBal fun b => { b with discarded := b.discarded + b2n live }
    else
      let s1 := if eix / 16384 = s.member.getD 16 then s.judgeLength eix (s.descLength (getLE 56 4 d / 65536 % 256)) else s
      let c : BalCell := { fin := fin, imp := getLE 16 8 d, exp := getLE 24 8 d, volt := getLE 44 4 d, flags := w / 2 ^ 22 }
      let old : Tab BalCell := (s.bal.cells.getD eix []).filter (fun p => decide (s.time.nt.sec < p.2.fin + thirtyDays + 86400))
      let next := (old.find? (fun p => decide (sq < p.1))).map (fun p => s.balEnd p.2.fin)
      let s2 := s1.onBal fun b => { b with
        cells := b.cells.set eix (old.set sq c)
        members := if live then b.members.adj eix fun x => { x with silent := false, lastOt := s.power.ot } else b.members }
      let s3 := if m.silent && live then s2.raise 89 (eix3 eix ++ le 1 m.node ++ le 1 1) else s2
      (nodesOf m.feeder m.mask).foldl (fun t n => t.touch n (s.balEnd fin :: next.toList)) s3

/-- A feeder record enters the engine; NEUTRAL_MISMATCH records in a row are counted by feeder as they arrive (R129). -/
def State.balRec (s : State) (d : Bytes) (live : Bool) : State :=
  let f := getLE 0 1 d
  let n := 3 * f + (getLE 1 1 d - 1)
  let fin := getLE 8 8 d
  if 3 < f ∨ getLE 1 1 d = 0 ∨ 3 < getLE 1 1 d then s
  else if fin + thirtyDays ≤ s.time.nt.sec then s.onBal fun b => { b with discarded := b.discarded + b2n live }
  else
    let r : FeedRec := { period := getLE 4 4 d, flags := getLE 2 2 d, imp := getLE 16 8 d, exp := getLE 24 8 d, volt := getLE 48 4 d, amp := getLE 52 4 d }
    let old : Tab FeedRec := (s.bal.recs.getD n []).filter (fun p => decide (s.time.nt.sec < p.1 + thirtyDays + 86400))
    let next := (old.find? (fun p => decide (fin < p.1))).map (fun p => s.balEnd p.1)
    let s1 := s.onBal fun b => { b with
      recs := b.recs.set n (old.set fin r)
      nmRun := if live then b.nmRun.set f (if bit r.flags 6 then b.nmRun.getD f 0 + 1 else 0) else b.nmRun
      nmRaised := if live && !bit r.flags 6 then b.nmRaised.set f false else b.nmRaised }
    s1.touch n (s.balEnd fin :: next.toList)

/-- One input of the engine: kind 0x81 or 0x83; a failing edge code is event 95. -/
def State.balInput (s : State) (kind : Nat) (d : Bytes) (live : Bool := true) : State :=
  if !edgeOk d then s.raise 95 (le 1 kind ++ (if kind = 0x81 then eix3 (getLE 0 4 d) else le 1 (getLE 0 1 d)))
  else if kind = 0x81 then s.balCell d live
  else if kind = 0x83 then s.balRec d live
  else s

/-- The inputs that the READING and METRO streams hold, of the classes that the engine takes. -/
def State.storedInputs (s : State) : List StoreRec :=
  (s.streamRecs 1 ++ s.streamRecs 7).filter fun r => r.kind = 0x83 || (r.kind = 0x81 && decide (getLE 0 4 r.data / 2 ^ 18 % 16 ≤ 1))

/-- Whether the engine holds an input already. -/
def State.inputHeld (s : State) (r : StoreRec) : Bool :=
  if r.kind = 0x81 then (s.bal.cells.getD (getLE 0 4 r.data % 2 ^ 18) []).has (getLE 4 4 r.data)
  else (s.bal.recs.getD (3 * getLE 0 1 r.data + (getLE 1 1 r.data - 1)) []).has (getLE 8 8 r.data)

/-- Skipped inputs are read again from their streams: those of the last 30 days that the engine does not hold (R321). -/
def State.rereadInputs (s : State) : State :=
  s.storedInputs.foldl (fun t r =>
    if t.inputHeld r ∨ getLE 8 8 r.data + thirtyDays ≤ s.time.nt.sec then t else t.balInput r.kind r.data) s

/-! ### Intervals (R115 to R120) -/

/-- Cells of a member with an interval end in (T − interval_s, T], with the energies since the cell before (R115). -/
def State.cellsIn (s : State) (eix t : Nat) : List (BalCell × Int × Int) :=
  let cs := s.bal.cells.getD eix []
  (cs.zipIdx.filter (fun p => decide (t < p.1.2.fin + s.balLen) && decide (p.1.2.fin ≤ t))).map fun p =>
    match cs[p.2 - 1]? with
    | some q => if p.2 = 0 then (p.1.2, 0, 0) else (p.1.2, (p.1.2.imp : Int) - q.2.imp, (p.1.2.exp : Int) - q.2.exp)
    | none => (p.1.2, 0, 0)

/-- Feeder records of a node in an interval, likewise. -/
def State.recsIn (s : State) (n t : Nat) : List (FeedRec × Int × Int) :=
  let rs := s.bal.recs.getD n []
  (rs.zipIdx.filter (fun p => decide (t < p.1.1 + s.balLen) && decide (p.1.1 ≤ t))).map fun p =>
    match rs[p.2 - 1]? with
    | some q => if p.2 = 0 then (p.1.2, 0, 0) else (p.1.2, (p.1.2.imp : Int) - q.2.imp, (p.1.2.exp : Int) - q.2.exp)
    | none => (p.1.2, 0, 0)

/-- The first condition of R116. -/
def State.intervalComplete (s : State) (n t : Nat) : Bool :=
  (s.bal.recs.getD n []).any (fun r => decide (t ≤ r.1)) &&
  (s.membersOf n).all (fun m => !m.2.active || (s.bal.cells.getD m.1 []).any (fun c => decide (t ≤ c.2.fin)))

/-- Technical loss in mWh (R119). -/
def State.technicalLoss (s : State) (n t : Nat) : Nat :=
  let o := 0x2010 + n
  let act := (s.membersOf n).filter (fun m => m.2.active)
  let n3 := (act.filter (fun m => m.2.mask = 7)).length
  let n1 := act.length - n3
  let fixed := s.cfgN o 1 * s.balLen / 3600
  let meter := s.cfgN o 4 * (3 * n1 + n3) * s.balLen / 10800
  let series := ((s.recsIn n t).map (fun r => r.1.amp ^ 2 * s.cfgN o 2 * r.1.period * s.cfgN o 3)).sum / (3600000000000 * 65536)
  min 0xFFFFFFFF (fixed + meter + series)

/-- Evaluate an interval: `keep` has the status bits REVISED and TIMED_OUT. -/
def State.evalInterval (s : State) (n t keep : Nat) : BalInt :=
  let ms := s.membersOf n
  let per := ms.map (fun m => (m.1, m.2, s.cellsIn m.1 t))
  let rs := s.recsIn n t
  let shares : Tab (Int × Int) := per.filterMap fun p =>
    if p.2.2.isEmpty then none
    else some (p.1, p.2.1.share n ((p.2.2.map (·.2.1)).sum), p.2.1.share n ((p.2.2.map (·.2.2)).sum))
  let complete := s.intervalComplete n t
  let flagged := rs.any (fun r => [1, 3, 4, 9, 10].any (bit r.1.flags))
  let interrupted := per.any (fun p => p.2.2.any (fun c => bit c.1.flags 1))
  let all := (per.map (fun p => (p.2.2.map (fun c => p.2.1.share n c.2.1)).sum)).sum
  let est := (per.map (fun p => ((p.2.2.filter (fun c => bit c.1.flags 0)).map (fun c => p.2.1.share n c.2.1)).sum)).sum
  let heavy := decide (all * s.cfgI 0x2000 6 < est * 100)
  { status := b2n complete + 2 * b2n (complete && !flagged && !interrupted && !heavy) + keep % 128 / 4 % 2 * 4 + 8 * b2n flagged +
      16 * b2n interrupted + 32 * b2n heavy + keep % 128 / 64 * 64
    present := (per.filter (fun p => p.2.1.active && !p.2.2.isEmpty)).length
    feederNet := (rs.map (fun r => r.2.1 - r.2.2)).sum
    feederExport := (rs.map (·.2.2)).sum
    memberNet := (shares.map (fun x => x.2.1 - x.2.2)).sum
    loss := s.technicalLoss n t
    shares := shares }

/-- r_t (R120). -/
def BalInt.residual (x : BalInt) : Int := x.feederNet - x.memberNet - (x.loss : Int)

/-- The interval record (R118). -/
def intervalRecord (n t : Nat) (x : BalInt) : Bytes :=
  withEdge (le 8 t ++ le 1 n ++ le 1 x.status ++ le 2 x.present ++ zeros 4 ++ leI 8 x.feederNet ++ leI 8 x.memberNet ++ le 4 x.loss)

/-- An interval closes: its record is held and goes to the balance stream. -/
def State.closeInterval (s : State) (n t : Nat) : State :=
  let x := s.evalInterval n t (if (s.node n).due.contains t then 64 else 0)
  (s.onNode n fun y => { y with
    ints := (y.ints.set t x).filter (fun p => decide (s.time.nt.sec < p.1 + thirtyDays))
    due := y.due.erase t, want := true }).send 16 69 (intervalRecord n t x)

/-- Ends of the intervals of a node that are due at a safe point, oldest first (R116): of all from the first input held to the last, with
inputs or without, those that are complete or whose wait has passed. -/
def State.dueIntervals (s : State) (n : Nat) : List Nat :=
  let ends := ((s.bal.recs.getD n []).map (fun r => s.balEnd r.1)) ++ (s.node n).due ++ Tab.keys (s.node n).ints ++
    ((s.membersOf n).map (fun m => (s.bal.cells.getD m.1 []).map (fun c => s.balEnd c.2.fin))).flatten
  match ends with
  | [] => []
  | e :: rest =>
    let lo := rest.foldl min e
    ((List.range ((rest.foldl max e - lo) / s.balLen + 1)).map (fun k => lo + k * s.balLen)).filter fun t =>
      !(s.node n).ints.has t && decide (s.time.nt.sec < t + thirtyDays) && (s.intervalComplete n t || (s.node n).due.contains t)

/-! ### The solver (R121 to R123) -/

/-- An energy in mWh as the solver takes it (R120). -/
def fpWh (v : Int) : F32 := F32.div (F32.ofInt v) (F32.ofInt 1000)

/-- The intervals T of a solve (R122). -/
def State.solveSet (s : State) (n : Nat) : List (Nat × BalInt) :=
  let xs := (s.node n).ints
  let last := xs.foldl (fun m p => max m p.1) 0
  let span := s.cfgN 0x2000 2 * 86400 / s.balLen * s.balLen
  xs.filter (fun p => decide (last < p.1 + span) && bit p.2.status 1)

/-- What a solve of a node works on. -/
def State.solveInput (s : State) (n : Nat) : SolveIn :=
  let ts := s.solveSet n
  { r := ts.map (fun p => p.2.residual)
    cols := ((s.membersOf n).filter (fun m => m.2.active)).map fun m => (m.1, ts.map (fun p => ((p.2.shares.get? m.1).map (·.1)).getD 0))
    lam := s.cfgI 0x2000 7, tol := s.cfgI 0x2000 8, passes := s.cfgN 0x2000 9, intercept := s.cfgN 0x2000 10 = 1 }

/-- One column of a pass: its new θ, the new e, |d|. -/
def solveColumn (lam : F32) (x : List F32) (nj theta : F32) (e : List F32) : F32 × List F32 × F32 :=
  if nj.isZero then (theta, e, 0)
  else
    let rho := F32.sum (List.zipWith (fun xv ev => F32.mul xv (F32.add ev (F32.mul theta xv))) x e)
    let new := F32.clamp 0 (F32.ofInt 1) (F32.sub (F32.div rho nj) lam)
    let d := F32.sub new theta
    if d.isZero then (theta, e, F32.abs d) else (new, List.zipWith (fun ev xv => F32.sub ev (F32.mul d xv)) e x, F32.abs d)

/-- All columns of a pass: the θ in order, e, dmax. -/
def solveColumns (lam : F32) : List (List F32 × F32 × F32) → List F32 → F32 → List F32 × List F32 × F32
  | [], e, dmax => ([], e, dmax)
  | (x, nj, th) :: rest, e, dmax =>
    let (t1, e1, d) := solveColumn lam x nj th e
    let (ts, e2, dm) := solveColumns lam rest e1 (F32.max dmax d)
    (t1 :: ts, e2, dm)

/-- The result of a solve: θ by column, b, passes, converged, dmax of the last pass. -/
structure SolveOut where
  theta : List F32
  b : F32
  passes : Nat
  converged : Bool
  dmax : F32
  deriving DecidableEq, Repr

/-- The passes of R123; `k` passes are left. -/
def solvePasses (lam tol tolB m : F32) (intercept : Bool) (cols : List (List F32 × F32)) : Nat → Nat → List F32 → F32 → List F32 → F32 → SolveOut
  | 0, done, theta, b, _, dmax => { theta := theta, b := b, passes := done, converged := false, dmax := dmax }
  | k + 1, done, theta, b, e, _ =>
    let (th, e1, dmax) := solveColumns lam (List.zipWith (fun c t => (c.1, c.2, t)) cols theta) e 0
    let acc := F32.sum (e1.map (fun v => F32.add v b))
    let newb := if intercept then F32.max 0 (F32.div acc m) else b
    let db := if intercept then F32.sub newb b else 0
    let e2 := if intercept then e1.map (fun v => F32.sub v db) else e1
    if F32.le dmax tol && F32.le (F32.abs db) tolB then { theta := th, b := newb, passes := done + 1, converged := true, dmax := dmax }
    else solvePasses lam tol tolB m intercept cols k (done + 1) th newb e2 dmax

/-- solve(node) of R123. -/
def solveNode (i : SolveIn) : SolveOut :=
  let r := i.r.map fpWh
  let m := F32.ofInt (i.r.length : Int)
  let cols := i.cols.map fun c =>
    let x := c.2.map fpWh
    (x, F32.sum (x.map (fun v => F32.mul v v)))
  let tol := F32.q16 i.tol
  let tolB := F32.mul tol (F32.sqrt (F32.div (F32.sum (r.map (fun v => F32.mul v v))) m))
  solvePasses (F32.q16 i.lam) tol tolB m i.intercept cols i.passes 0 (cols.map (fun _ => 0)) 0 r 0

/-! ### Publishing (R125, R126) -/

/-- Detector flags of a member in a node, without BYPASS. -/
def State.detectorFlags (s : State) (n eix : Nat) : Nat :=
  2 * b2n (s.bal.drops.contains eix) + 4 * b2n (s.bal.reverse.contains eix) + 8 * b2n (((s.bal.members.get? eix).map (·.mismatch)).getD false) +
    16 * b2n (s.bal.nmRaised.getD (n / 3) false)

def Score.bytes (n : Nat) (x : Score) : Bytes :=
  withEdge (le 4 x.eix ++ le 1 n ++ zeros 1 ++ le 2 x.flags ++ le 4 x.theta ++ le 4 x.intervals ++ le 8 x.attributed ++ le 4 x.solveNo)

/-- The node whose solve opened a member's alarm, as node `n` sees it: an alarm that was open in the node's last committed score set is open
(R131), and one of a node that the member has left follows the member (log 156). -/
def State.alarmNode (s : State) (n eix : Nat) : Option Nat :=
  match s.bal.alarms.get? eix with
  | some k => if ((s.bal.members.get? eix).map (·.inNode k)).getD false then some k else some n
  | none => if (s.node n).prior.contains eix then some n else none

/-- Alarms of one column (R126, R131): a member has at most one alarm, which the node that opened it closes. -/
def State.scoreAlarm (s : State) (n : Nat) (x : Score) : State :=
  let put := fun (a : Tab Nat) => s.onBal fun b => { b with alarms := a }
  match s.alarmNode n x.eix with
  | some k =>
    if k ≠ n then s
    else if x.theta < s.cfgN 0x2001 1 then (put (s.bal.alarms.erase x.eix)).raise 82 (eix3 x.eix ++ le 1 n ++ le 4 x.theta)
    else put (s.bal.alarms.set x.eix n)
  | none =>
    if s.cfgN 0x2001 0 ≤ x.theta ∧ s.cfgN 0x2001 2 ≤ x.attributed then (put (s.bal.alarms.set x.eix n)).raise 81 (eix3 x.eix ++ le 1 n ++ le 4 x.theta)
    else s

/-- Commands of BAL_SOLVE_NOW whose node has solved since, or could not for want of intervals: a solve that ran when the command came does
not serve it. -/
abbrev workSolve : Nat := 14
def State.nodeServed (s : State) (n : Nat) : State :=
  let upd := s.bal.commands.map (fun c => (c.1, c.2.filter (fun q => decide (q.1 ≠ n) || decide ((s.node n).starts < q.2))))
  let done := (upd.filter (fun c => c.2.isEmpty)).map (·.1)
  done.foldl (fun t k => t.finish workSolve k stDone []) (s.onBal fun b => { b with commands := upd.filter (fun c => !c.2.isEmpty) })

/-- Publish a solve: scores, alarms, events 81, 82, 86, 92; the score set goes to the balance stream. -/
def State.publish (s : State) (n : Nat) (i : SolveIn) : State :=
  let o := solveNode i
  let no := (s.node n).solveNo + 1
  let raw : List Score := List.zipWith (fun c th =>
    let q := (F32.round th 16).toNat
    { eix := c.1, flags := 0, theta := q, intervals := i.r.length, attributed := q * (c.2.sum).toNat / 65536, solveNo := no }) i.cols o.theta
  let s1 := s.onNode n fun x => { x with solving := none, solveNo := no, passes := o.passes, converged := o.converged, b := o.b }
  let s2 := raw.foldl (fun t x => t.scoreAlarm n x) s1
  let scores := raw.map (fun x => { x with flags := s2.detectorFlags n x.eix + b2n (s2.bal.alarms.get? x.eix = some n) })
  let s3 := s2.onNode n fun x => { x with scores := scores, prior := [] }
  let un := (F32.round (F32.mul (F32.mul o.b (F32.ofInt (i.r.length : Int))) (F32.ofInt 1000)) 0).toNat
  let s4 := if s.cfgN 0x2001 3 ≤ un then s3.raise 86 (le 1 n ++ zeros 3 ++ le 4 (min 0xFFFFFFFF un)) else s3
  let s5 := if o.converged then s4 else s4.raise 92 (le 1 n ++ le 2 o.passes ++ le 4 o.dmax)
  let parts := chunks 65536 ((scores.map (Score.bytes n)).flatten)
  (parts.foldl (fun t b => if b.isEmpty then t else t.send 16 69 (withEdge b)) s5).nodeServed n

end Sys2Proof.Machine
end

