-- ==== Sys2Proof/Machine/BalanceRows.lean ====
section
/-! DEFINITION. Rows of the balance engine: inputs, safe points with the detectors and phase identification, solves, the rebuild; the
commands 0x0B01 to 0x0B07 (R113, R114, R116, R124 to R137). -/

namespace Sys2Proof.Machine
open Sys2Proof

/-- BAL_IN_PACKET: the head of BAL_IN; skipped copies are read again from the streams (R321). -/
def State.balIn (s : State) : State :=
  if !s.openRuns then s
  else
    match s.takeHead 56 with
    | (none, s1) => s1
    | (some p, s1) =>
      let sk := ((s1.fabric.lastNotice.get? 56).map (·.skipped)).getD 0
      let s2 := if sk = 0 then s1 else
        (s1.onFabric fun f => { f with lastNotice := f.lastNotice.adj 56 fun n => { n with skipped := 0 } }).rereadInputs
      if s.cfgN 0x2000 0 = 0 then s2 else s2.balInput (getLE 0 1 p.body) (p.body.drop 12)

def execBalInPacket (s : State) : Host.Outcome State Fault Refusal := .next s.balIn

/-- NT aligned to sealed time, in ns (R116). -/
def State.alignedNt (s : State) : Int := (s.time.nt.sec : Int) * 1000000000 + s.time.nt.ns - s.deltaHat

/-- INTERVAL_CLOSE_WAIT: an interval of a node becomes due for its close with TIMED_OUT. -/
def State.closeWait (s : State) (n t : Nat) : State :=
  if s.nodeExists n ∧ s.cfgN 0x2000 0 = 1 ∧ s.openRuns ∧ t % s.balLen = 0 ∧ !(s.node n).ints.has t ∧ s.time.nt.sec < t + thirtyDays ∧
     ((t + s.cfgN 0x2000 4 : Nat) : Int) * 1000000000 < s.alignedNt ∧ !(s.node n).due.contains t
  then s.onNode n fun x => { x with due := x.due ++ [t] } else s

def execIntervalCloseWait (n t : Nat) (s : State) : Host.Outcome State Fault Refusal := .next (s.closeWait n t)

/-- MEMBER_SILENT: no cell for silent_s (R114). -/
def State.memberSilent (s : State) (eix : Nat) : State :=
  match s.bal.members.get? eix with
  | some m =>
    if s.openRuns ∧ s.cfgN 0x2000 0 = 1 ∧ !m.silent ∧ m.lastOt + s.cfgN 0x2000 5 ≤ s.power.ot then
      (s.onBal fun b => { b with members := b.members.set eix { m with silent := true } }).raise 89 (eix3 eix ++ le 1 m.node ++ le 1 0)
    else s
  | none => s

def execMemberSilent (eix : Nat) (s : State) : Host.Outcome State Fault Refusal := .next (s.memberSilent eix)

/-! ### Safe point, steps 1 and 2 -/

/-- Step 1: the closed intervals that inputs touched are recomputed and REVISED; their records go to the balance stream again (log 158). -/
def State.mergeInputs (s : State) (n : Nat) : State :=
  let x := s.node n
  let s1 := s.onNode n fun y => { y with
    touched := []
    ints := y.ints.mapVals fun t i => if x.touched.contains t then s.evalInterval n t (i.status / 64 * 64 + 4) else i }
  ((s1.node n).ints.filter (fun p => x.touched.contains p.1)).foldl (fun t p => t.send 16 69 (intervalRecord n p.1 p.2)) s1

/-- Recompute the residuals of every held interval of a node whose membership changed; what the intervals are stays. -/
def State.recompute (s : State) (n : Nat) : State :=
  s.onNode n fun y => { y with ints := y.ints.mapVals fun t i => { s.evalInterval n t 0 with status := i.status, present := i.present } }

/-- Membership as it will be once everything staged has been applied: EIX to feeder and mask. -/
def State.stagedMembers (s : State) (more : List (Nat × Nat × Nat × Nat)) : Tab (Nat × Nat) :=
  (s.bal.staged ++ more).foldl (fun t e => if e.2.2.1 = 0 then t.erase e.1 else t.set e.1 (e.2.1, e.2.2.1)) ((s.bal.members.map fun m => (m.1, (m.2.feeder, m.2.mask))))

/-- Whether staging more entries would leave a node with more than 4,096 members (R113). -/
def State.overfull (s : State) (more : List (Nat × Nat × Nat × Nat)) : Bool :=
  let after := s.stagedMembers more
  (List.range 12).any (fun n => decide (4096 < (after.filter (fun m => m.2.1 = n / 3 && bit m.2.2 (n % 3))).length))

/-- Stage one entry. -/
def State.stageEntry (s : State) (e : Nat × Nat × Nat × Nat) : State := s.onBal fun b => { b with staged := b.staged ++ [e] }

/-- The nodes that a staged entry takes its member from and puts it into. -/
def State.entryNodes (s : State) (e : Nat × Nat × Nat × Nat) : List Nat :=
  (((s.bal.members.get? e.1).map (fun m => nodesOf m.feeder m.mask)).getD [] ++ nodesOf e.2.1 e.2.2.1).eraseDups

/-- Apply one staged entry. What the engine knew of the member's phase goes with a change of its place; a member that leaves takes its
marks along (log 156). -/
def State.applyEntry (s : State) (e : Nat × Nat × Nat × Nat) : State :=
  let (eix, f, mask, flags) := e
  let old := s.bal.members.get? eix
  let m : Member := match old with
    | some m => { m with
        feeder := f, mask := mask, flags := flags, mismatch := false, differ := 0
        result := if m.mask = mask ∧ !bit flags 1 then m.result else none }
    | none => { feeder := f, mask := mask, flags := flags, lastOt := s.power.ot }
  let remote := decide (eix / 16384 ≠ s.member.getD 16)
  let s1 := if remote ∧ (mask ≠ 0) ≠ old.isSome then s.onTier fun x => { x with toSubscribe := x.toSubscribe ++ [(eix, decide (mask ≠ 0))] } else s
  let s2 := s1.onBal fun b =>
    if mask = 0 then { b with members := b.members.erase eix, alarms := b.alarms.erase eix, drops := b.drops.erase eix, reverse := b.reverse.erase eix }
    else { b with members := b.members.set eix m }
  if remote then s2 else s2.judgeLength eix (s.eixLength eix)

/-- Step 2: apply the staged membership entries and phase moves in the order in which they were staged; an entry waits while one of its nodes
is solving, and so do later ones of its EIX. -/
def State.applyStaged (s : State) : State :=
  if s.bal.staged.isEmpty then s
  else
    let (s1, changed, later) := s.bal.staged.foldl (fun (acc : State × List Nat × List (Nat × Nat × Nat × Nat)) e =>
      let (t, ch, later) := acc
      let ns := t.entryNodes e
      if later.any (fun q => q.1 = e.1) || ns.any (fun n => (t.node n).solving.isSome) then (t, ch, later ++ [e])
      else (t.applyEntry e, (ch ++ ns).eraseDups, later)) (s, [], [])
    changed.foldl (fun t n => t.recompute n) (s1.onBal fun b => { b with staged := later })

/-! ### Step 3: residual, neutral and reverse-flow detectors (R129) -/

/-- Raise an event at most once per NT day for a node. -/
def State.oncePerDay (s : State) (n src : Nat) (d : Bytes) : State :=
  let day := s.time.nt.sec / 86400
  if (s.node n).marks.get? src = some day then s else (s.onNode n fun x => { x with marks := x.marks.set src day }).raise src d

def State.nodeResidual (s : State) (n : Nat) : State :=
  let held := (s.node n).ints.filter (fun p => bit p.2.status 1)
  let xs := held.drop (held.length - 96)
  let r := (xs.map (fun p => p.2.residual)).sum
  let net := (xs.map (fun p => p.2.feederNet)).sum
  if net ≤ 0 then s
  else
    let ratio := (r * 65536).tdiv net
    let s1 := s.onNode n fun x => { x with ratio := ratio }
    if s.cfgI 0x2001 4 * net < r * 65536 then s1.oncePerDay n 80 (le 1 n ++ zeros 3 ++ leI 4 ratio) else s1

def State.neutralDetector (s : State) (f : Nat) : State :=
  let run := s.bal.nmRun.getD f 0
  if s.cfgN 0x2001 5 ≤ run ∧ !(s.bal.nmRaised.getD f false) then
    (s.onBal fun b => { b with nmRaised := b.nmRaised.set f true }).raise 85 (le 1 f ++ zeros 3 ++ le 4 run)
  else s

/-- Reverse flow of one member over a closed interval: its whole export, whatever its phases; event 84 once per day per member. -/
def State.reverseMember (s : State) (n t : Nat) (eix : Nat) (m : Member) : State :=
  let v := ((s.cellsIn eix t).map (·.2.2)).sum
  if s.cfgI 0x2001 6 < v ∧ !bit m.flags 0 then
    let day := s.time.nt.sec / 86400
    let s1 := s.onBal fun b => { b with
      reverse := if b.reverse.contains eix then b.reverse else b.reverse ++ [eix], reverseDay := b.reverseDay.set eix day }
    if s.bal.reverseDay.get? eix = some day then s1 else s1.raise 84 (eix3 eix ++ le 1 n ++ le 4 (min 0xFFFFFFFF v.toNat))
  else s

/-- Reverse flow over a closed interval. -/
def State.reverseFlow (s : State) (n t : Nat) : State :=
  match (s.node n).ints.get? t with
  | none => s
  | some x =>
    let ms := s.membersOf n
    let s1 := ms.foldl (fun u m => u.reverseMember n t m.1 m.2) s
    if s.cfgI 0x2001 6 < x.feederExport ∧ ms.all (fun m => !bit m.2.flags 0) then
      s1.oncePerDay n 84 (eix3 noEix ++ le 1 n ++ le 4 (min 0xFFFFFFFF x.feederExport.toNat))
    else s1

/-! ### Step 4: sudden drop and phase identification (R127 to R129) -/

/-- Sudden drop of one member; days end at multiples of 86,400 and `day` is the last end. The residuals of a three-phase member are those of
its nodes together (log 157). -/
def State.suddenDrop (s : State) (day eix : Nat) (m : Member) : State :=
  let xs := (nodesOf m.feeder m.mask).map fun n =>
    (s.node n).ints.filter (fun p => bit p.2.status 0 && decide (p.1 ≤ day) && decide (day < p.1 + 17 * 86400))
  if xs.any (fun l => decide (l.length < 17 * 86400 / s.balLen)) then s
  else
    let total := fun (late : Bool) (f : BalInt → Int) =>
      (xs.map fun l => ((l.filter (fun p => decide (day < p.1 + 3 * 86400) = late)).map (fun p => f p.2)).sum).sum
    let imp := fun (x : BalInt) => ((x.shares.get? eix).map (·.1)).getD 0
    let d3 := total true imp
    let b14 := total false imp
    let r3 := total true BalInt.residual
    let r14 := total false BalInt.residual
    if d3 * 14 * 65536 < s.cfgI 0x2001 7 * (b14 * 3) then
      if decide (14 * s.cfgI 0x2001 8 ≤ b14) && decide (s.cfgI 0x2001 9 * (b14 * 3 - d3 * 14) ≤ (r3 * 14 - r14 * 3) * 65536) &&
         !s.bal.drops.contains eix then
        (s.onBal fun b => { b with drops := b.drops ++ [eix] }).raise 83 (eix3 eix ++ le 1 m.node ++ le 4 ((d3 * 14 * 65536).tdiv (b14 * 3)).toNat)
      else s
    else s.onBal fun b => { b with drops := b.drops.erase eix }

/-- Mean of mean voltages in mV, in binary32. -/
def meanVolt (l : List Nat) : F32 := F32.div (F32.sum (l.map (fun (v : Nat) => F32.ofInt (Int.ofNat v)))) (F32.ofInt (l.length : Int))

/-- The series of a member over its window (R127): u_t and v_1t to v_3t of the usable intervals. A cell without a mean voltage (R34, R37: zero)
gives u_t nothing. -/
def State.voltSeries (s : State) (eix : Nat) (ts : List Nat) : List (F32 × List F32) :=
  let f := ((List.range 4).find? s.feederUsed).getD 0
  ts.filterMap fun t =>
    let cs := s.cellsIn eix t
    let us := (cs.map (·.1.volt)).filter (fun v => decide (0 < v))
    let rs := [0, 1, 2].map (fun p => s.recsIn (3 * f + p) t)
    if us.isEmpty ∨ rs.any (·.isEmpty) ∨ cs.any (fun c => bit c.1.flags 1) ∨ rs.any (fun l => l.any (fun r => bit r.1.flags 1 || bit r.1.flags 4)) then none
    else some (meanVolt us, rs.map (fun l => meanVolt (l.map (·.1.volt))))

/-- c_p of R128. -/
def correlation (us vs : List F32) : F32 :=
  let n := F32.ofInt (us.length : Int)
  let mu := F32.div (F32.sum us) n
  let mv := F32.div (F32.sum vs) n
  let du := us.map (fun u => F32.sub u mu)
  let dv := vs.map (fun v => F32.sub v mv)
  let den := F32.sqrt (F32.mul (F32.sum (du.map (fun a => F32.mul a a))) (F32.sum (dv.map (fun a => F32.mul a a))))
  if den.isZero ∨ den.isNan then 0 else F32.div (F32.sum (List.zipWith F32.mul du dv)) den

/-- s_1 to s_3 of a member, none where no identification is made (R128). -/
def State.phaseScores (s : State) (eix : Nat) : Option (F32 × F32 × F32) :=
  let len := s.balLen
  let last := s.time.nt.sec / len * len
  let ts := ((List.range (s.cfgN 0x2002 0)).map (fun k => last - k * len)).reverse
  let ser := s.voltSeries eix ts
  let plc := decide (s.portOfEix eix < 4)
  let enough := decide (s.cfgN 0x2002 1 ≤ ser.length)
  if !plc && !enough then none
  else
    let w := if plc then (if enough then F32.q16 (s.cfgI 0x2002 2) else F32.ofInt 1) else 0
    let q := s.intervalShare eix ts
    let sc := fun (p : Nat) (qp : F32) =>
      let c := if ser.isEmpty then 0 else correlation (ser.map (·.1)) (ser.map (fun x => x.2.getD p 0))
      F32.add (F32.mul (F32.sub (F32.ofInt 1) w) c) (F32.div (F32.mul w (F32.sub (F32.mul (F32.ofInt 3) qp) (F32.ofInt 1))) (F32.ofInt 2))
    some (sc 0 q.1, sc 1 q.2.1, sc 2 q.2.2)

/-- The second highest of three values whose highest is at `ph`. -/
def secondPhase (q : F32 × F32 × F32) (ph : Nat) : F32 :=
  if ph = 1 then F32.max q.2.1 q.2.2 else if ph = 2 then F32.max q.1 q.2.2 else F32.max q.1 q.2.1

/-- Phase of a single-phase mask, 1 to 3. -/
def maskPhase (m : Nat) : Nat := if m = 1 then 1 else if m = 2 then 2 else 3

/-- The day's identification of one member (R128); a move into a node that holds 4,096 members is not staged (log 156). -/
def State.identifyPhase (s : State) (eix : Nat) (m : Member) : State :=
  let sc := s.phaseScores eix
  let q := sc.getD (0, 0, 0)
  let ph := topPhase q
  let marg := F32.sub (phaseVal q ph) (secondPhase q ph)
  let clear := sc.isSome && F32.le (F32.q16 (s.cfgI 0x2002 3)) (phaseVal q ph) && F32.le (F32.q16 (s.cfgI 0x2002 4)) marg
  let days := s.cfgN 0x2002 5
  let put := fun (t : State) (x : Member) => t.onBal fun b => { b with members := b.members.set eix x }
  if clear then
    let m1 := { m with scores := q, result := some ph, ambiguous := 0, ambiguousRaised := false }
    if ph = maskPhase m.mask then put s { m1 with differ := 0, mismatch := false }
    else
      let n := m.differ + 1
      if days ≤ n ∧ !m.mismatch then
        let move := (eix, m.feeder, 2 ^ (ph - 1), m.flags)
        let auto := decide (s.cfgN 0x2002 6 = 1) && !s.overfull [move]
        let s1 := (put s { m1 with differ := n, mismatch := true }).raise 87
          (eix3 eix ++ le 1 m.node ++ le 1 ph ++ le 1 (b2n auto) ++ leI 2 (F32.round marg 8))
        if auto then s1.stageEntry move else s1
      else put s { m1 with differ := n }
  else
    let n := m.ambiguous + 1
    let m1 := { m with scores := q, result := none, differ := 0, ambiguous := n }
    if days ≤ n ∧ !m.ambiguousRaised then
      (put s { m1 with ambiguousRaised := true }).raise 88 (eix3 eix ++ le 1 ph ++ leI 4 (F32.round (phaseVal q ph) 8))
    else put s m1

/-- Step 4, when an NT day has passed since the node's last safe point. -/
def State.dailyStep (s : State) (n : Nat) : State :=
  let day := s.time.nt.sec / 86400
  let x := s.node n
  let s1 := s.onNode n fun y => { y with lastDay := day }
  if day ≤ x.lastDay ∨ x.lastDay = 0 then s1
  else
    let ms := s.membersOf n
    let s2 := (ms.filter (fun m => m.2.node = n)).foldl (fun t m => t.suddenDrop (day * 86400) m.1 m.2) s1
    (ms.filter (fun m => m.2.mask ≠ 7 && !bit m.2.flags 1)).foldl (fun t m => t.identifyPhase m.1 m.2) s2

/-! ### Step 5 and the row -/

/-- Step 5: a solve that is wanted starts when no other runs and no lower node waits for one, unless throttling suspends solves
(R124, R428). -/
def State.startSolve (s : State) (n : Nat) : State :=
  if !(s.node n).want ∨ s.bal.rebuilding ∨ s.bal.nodes.any (fun x => x.solving.isSome) ∨
     (List.range n).any (fun k => s.nodeExists k && (s.node k).want) ∨ 1 ≤ s.power.thermalLevel ∨ s.power.pfw then s
  else
    let s1 := s.onNode n fun x => { x with want := false, starts := x.starts + 1 }
    let k := (s.solveSet n).length
    if k < s.cfgN 0x2000 3 then (s1.raise 93 (le 1 n ++ zeros 3 ++ le 4 k)).nodeServed n
    else s1.onNode n fun x => { x with solving := some (s.solveInput n) }

/-- The node's own object applies at its safe point (R135), the objects of the whole engine when no node is solving. -/
def State.adoptNode (s : State) (n : Nat) : State :=
  let idle := s.bal.nodes.all (fun x => x.solving.isNone)
  s.adoptObjs fun o => o = 0x2010 + n || (idle && decide (0x2000 ≤ o) && decide (o < 0x2010))

/-- NODE_SAFE_POINT: the five steps of R124. A node that is solving is not at its safe point; when its next interval is due, the solve
is abandoned with event 91. -/
def State.nodeSafePoint (s : State) (n : Nat) : State :=
  if 11 < n ∨ !s.openRuns then s
  else
    let busy := (s.node n).solving.isSome
    if busy ∧ (s.dueIntervals n).isEmpty then s
    else
      let s0 := if busy then (s.onNode n fun x => { x with solving := none, want := true }).raise 91 (le 1 n ++ zeros 3 ++ le 4 ((s.node n).solveNo + 1)) else s
      if !s0.nodeExists n ∨ s0.cfgN 0x2000 0 = 0 then
        (s0.applyStaged.adoptNode n).onNode n (fun x => { x with starts := x.starts + 1 }) |>.nodeServed n
      else
        let s1 := ((s0.mergeInputs n).applyStaged).adoptNode n
        let due := s1.dueIntervals n
        let s2 := due.foldl (fun t x => t.closeInterval n x) s1
        let s3 := ((s.node n).touched ++ due).foldl (fun t x => t.reverseFlow n x) ((s2.nodeResidual n).neutralDetector (n / 3))
        (s3.dailyStep n).startSolve n

/-- BALANCE_SOLVE_DONE: the solve of a node ends and its result is published. -/
def State.solveDone (s : State) (n : Nat) : State :=
  match (s.node n).solving with
  | some i => if s.openRuns then s.publish n i else s
  | none => s

def execBalanceSolveDone (n : Nat) (s : State) : Host.Outcome State Fault Refusal := .next (s.solveDone n)

/-- The intervals of a node that the balance stream holds, with their last status (R130, log 158). -/
def State.storedIntervals (s : State) (n : Nat) : Tab BalInt :=
  (s.streamRecs 9).foldl (fun m r =>
    if r.data.length = 36 ∧ getLE 8 1 r.data = n ∧ s.time.nt.sec < getLE 0 8 r.data + thirtyDays then m.set (getLE 0 8 r.data) { status := getLE 9 1 r.data } else m) []

/-- Members with an open alarm in the last score set of a node that the balance stream holds (R131). -/
def State.storedAlarms (s : State) (n : Nat) : List Nat :=
  let xs := ((s.streamRecs 9).filter (fun r => decide (r.data.length % 32 = 0) && decide (getLE 4 1 r.data = n))).flatMap fun r => chunks 32 r.data
  let last := (xs.getLast?.map (getLE 24 4)).getD 0
  (xs.filter (fun b => decide (getLE 24 4 b = last) && bit (getLE 6 2 b) 0)).map (getLE 0 4)

/-- A node is rebuilt: the intervals that had closed, and those that the inputs read back make complete, keep REVISED and TIMED_OUT; its
alarms wait for the first solve (R130, R131). -/
def State.rebuildNode (s : State) (n : Nat) : State :=
  let old := s.storedIntervals n
  let s1 := s.onNode n fun y => { y with
    ints := old.mapVals fun t i => s.evalInterval n t i.status
    prior := s.storedAlarms n }
  s1.onNode n fun y => { y with ints := (s1.dueIntervals n).foldl (fun m t => m.set t (s1.evalInterval n t 0)) y.ints }

/-- BALANCE_REBUILD_DONE: the rebuild from storage ends after `sec` seconds (R130). -/
def State.rebuildDone (s : State) (sec : Nat) : State :=
  if !s.bal.rebuilding ∨ !s.openRuns ∨ !s.store.mapReady then s
  else
    let s1 := s.storedInputs.foldl (fun t r => t.balInput r.kind r.data false) s
    let s2 := ((List.range 12).filter s.nodeExists).foldl (fun t n => t.rebuildNode n) s1
    let count := (s2.bal.nodes.map (fun x => x.ints.length)).sum
    (s2.onBal fun b => { b with rebuilding := false }).raise 94 (le 4 count ++ le 4 sec)

def execBalanceRebuildDone (sec : Nat) (s : State) : Host.Outcome State Fault Refusal := .next (s.rebuildDone sec)

/-- What the engine keeps over a restart of the open die: the membership with what is known of its members, and what its detectors have
raised (log 158); the alarms come back from the balance stream (R131). -/
def Bal.restart (b : Bal) : Bal :=
  { members := b.members
    drops := b.drops, reverse := b.reverse, reverseDay := b.reverseDay, nmRun := b.nmRun, nmRaised := b.nmRaised
    nodes := b.nodes.map fun x => { solveNo := x.solveNo, lastDay := x.lastDay, marks := x.marks } }

/-! ### Commands -/

def State.balStatus (s : State) : Bytes :=
  ((List.range 12).map fun n =>
    let x := s.node n
    le 1 (b2n (s.nodeExists n)) ++ le 2 (((s.membersOf n).filter (fun m => m.2.active)).length) ++ le 2 (s.solveSet n).length ++ le 4 x.solveNo ++
      le 2 x.passes ++ le 1 (b2n x.converged) ++ le 4 (F32.round (F32.mul x.b (F32.ofInt 1000)) 0).toNat ++ leI 4 x.ratio).flatten

def execBalStatus (c : HostCmd) (s : State) : Host.Outcome State Fault Refusal := .next (s.serveQuery 0x0B01 c 0 (fun _ => false) State.balStatus)

/-- The entries of a BAL_SET_MEMBERS request: EIX, feeder, mask, flags, reserved. -/
def memberEntries (req : Bytes) : List (Nat × Nat × Nat × Nat × Nat) :=
  (List.range (getLE 0 2 req)).map fun k =>
    let o := 4 + 8 * k
    (getLE o 4 req, getLE (o + 4) 1 req, getLE (o + 5) 1 req, getLE (o + 6) 1 req, getLE (o + 7) 1 req)

/-- Whether a BAL_SET_MEMBERS request is refused with BAD_FIELD. -/
def State.badMembers (s : State) (req : Bytes) : Bool :=
  let es := memberEntries req
  let stag := es.map (fun e => (e.1, e.2.1, e.2.2.1, e.2.2.2.1))
  let inelig := fun (eix : Nat) => eix / 16384 = s.member.getD 16 && (match s.eixLength eix with
    | some l => l = 0 || s.balLen % l ≠ 0
    | none => false)
  getLE 0 2 req = 0 || decide (512 < getLE 0 2 req) || !zeroAt 2 2 req ||
  es.any (fun e => decide (2 ^ 18 ≤ e.1) || decide (3 < e.2.1) || !([0, 1, 2, 4, 7].contains e.2.2.1) || decide (3 < e.2.2.2.1) || e.2.2.2.2 ≠ 0 ||
    (e.2.2.1 ≠ 0 && inelig e.1)) ||
  decide ((es.map (·.1)).eraseDups.length < es.length) ||
  s.overfull stag

def execBalSetMembers (c : HostCmd) (s : State) : Host.Outcome State Fault Refusal :=
  .next (s.serve 0x0B02 c
    (fun t => [(decide (c.req.length ≠ 4 + 8 * getLE 0 2 c.req), stBadLength), badField (t.badMembers c.req)])
    (fun t => (t.onBal fun b => { b with staged := b.staged ++ (memberEntries c.req).map (fun e => (e.1, e.2.1, e.2.2.1, e.2.2.2.1)) }, .done [])))

def State.memberBytes (s : State) (eix : Nat) (m : Member) : Bytes :=
  let q := fun (x : F32) => leI 4 (F32.round x 16)
  le 4 eix ++ le 1 m.feeder ++ le 1 m.mask ++ le 1 m.flags ++ zeros 1 ++ le 1 (b2n m.active) ++ q m.scores.1 ++ q m.scores.2.1 ++ q m.scores.2.2 ++
    le 1 (if m.result.isSome then m.differ else m.ambiguous) ++
    le 2 (([0, 1, 2].filter (bit m.mask)).foldl (fun a p => Nat.lor a (s.detectorFlags (3 * m.feeder + p) eix)) (b2n (s.bal.alarms.has eix)))

def execBalGetMember (c : HostCmd) (s : State) : Host.Outcome State Fault Refusal :=
  .next (s.serve 0x0B03 c (fun t => [lenIs c 4, eixCheck c, (!t.bal.members.has (reqEix c), stNotFound)])
    (fun t => (t, .done (((t.bal.members.get? (reqEix c)).map (t.memberBytes (reqEix c))).getD []))))

/-- The node of a request. -/
def badNode (c : HostCmd) : Bool × Nat := badField (decide (11 < getLE 0 1 c.req) || !zeroAt 1 3 c.req)

def execBalReadScores (c : HostCmd) (s : State) : Host.Outcome State Fault Refusal :=
  .next (s.serve 0x0B04 c (fun t => [lenIs c 12, badNode c, badCount c 256, (t.bal.rebuilding, stBusy)])
    (fun t =>
      let n := getLE 0 1 c.req
      (t, .done ((((t.node n).scores.drop (getLE 4 4 c.req)).take (getLE 8 4 c.req)).map (Score.bytes n)).flatten)))

def execBalReadIntervals (c : HostCmd) (s : State) : Host.Outcome State Fault Refusal :=
  .next (s.serve 0x0B05 c
    (fun t => [lenIs c 16, badNode c, badField (getLE 12 4 c.req = 0 || decide (256 < getLE 12 4 c.req)), (t.bal.rebuilding, stBusy)])
    (fun t =>
      let n := getLE 0 1 c.req
      (t, .done ((((t.node n).ints.filter (fun p => decide (getLE 4 8 c.req ≤ p.1))).take (getLE 12 4 c.req)).map
        (fun p => intervalRecord n p.1 p.2)).flatten)))

/-- The nodes that a BAL_SOLVE_NOW names and that exist. -/
def State.solveNodes (s : State) (c : HostCmd) : List Nat := (List.range 12).filter fun n => bit (getLE 0 4 c.req) n && s.nodeExists n

/-- BAL_SOLVE_NOW: nodes that do not exist are left out; with none left, DONE follows ACCEPTED at once (log 32). -/
def execBalSolveNow (c : HostCmd) (s : State) : Host.Outcome State Fault Refusal :=
  .next (s.serve 0x0B06 c
    (fun t => [lenIs c 4, badField (getLE 0 4 c.req = 0 || decide (4096 ≤ getLE 0 4 c.req)), (t.bal.rebuilding, stBusy)])
    (fun t =>
      let ns := t.solveNodes c
      let k := t.bal.nextCommand
      let t1 := ns.foldl (fun u n => u.onNode n fun x => { x with want := true }) (t.onBal fun b => { b with
        commands := if ns.isEmpty then b.commands else b.commands ++ [(k, ns.map fun n => (n, (t.node n).starts + 1))], nextCommand := k + 1 })
      (t1.defer workSolve k 0x0B06 c, .accepted))
    (fun t => if (t.solveNodes c).isEmpty then t.finish workSolve (t.bal.nextCommand - 1) stDone [] else t))

/-- The move to the identified phase of a member (R136). -/
def State.phaseMove (s : State) (eix : Nat) : Option (Nat × Nat × Nat × Nat) :=
  (s.bal.members.get? eix).bind fun m => m.result.map fun p => (eix, m.feeder, 2 ^ (p - 1), m.flags)

/-- BAL_APPLY_PHASE: a move into a node that holds 4,096 members is BAD_FIELD, as in BAL_SET_MEMBERS (log 156). -/
def execBalApplyPhase (c : HostCmd) (s : State) : Host.Outcome State Fault Refusal :=
  .next (s.serve 0x0B07 c
    (fun t => [lenIs c 4, eixCheck c, ((t.phaseMove (reqEix c)).isNone, stNotFound), badField (((t.phaseMove (reqEix c)).map fun e => t.overfull [e]).getD false)])
    (fun t => match t.phaseMove (reqEix c) with
      | some e => (t.stageEntry e, .done [])
      | none => (t, .done [])))

end Sys2Proof.Machine
end

