-- ==== Sys2Proof/Machine/FabricRows.lean ====
section
/-! DEFINITION. The rows of the queue fabric (R313 to R332). -/

namespace Sys2Proof.Machine
open Sys2Proof

/-- A producer requests an OPEN of `c` cells on `q` (R316, R317). -/
def State.queueOpen (s : State) (producer q c : Nat) : State :=
  let s1 := s.countOpen q
  match s1.openAnswer q c s1.fabric.bpCount with
  | .granted => (s1.onFabric fun f => { f with opened := f.opened ++ [{ queue := q, producer := producer, cells := c }] }).poolCheck s.sharedFree
  | .impossible => s1.refuseOpen producer q c
  | .perturbed => s1.notGranted producer q c none false true
  | .later l => s1.notGranted producer q c none l (producer ≤ 7 || producer = 10 || producer = 13)

def execQueueOpen (producer q c : Nat) (s : State) : Host.Outcome State Fault Refusal := .next (s.queueOpen producer q c)

/-- Rank of a queue (R321). -/
def queueRank (q : Nat) : Nat := ((queueRow q).map (·.rank)).getD 0

/-- The head request of every queue that has one waiting. -/
def State.waitingHeads (s : State) : List Waiter :=
  ((s.fabric.waiters.map (·.queue)).eraseDups).filterMap (fun q => s.fabric.waiters.find? (·.queue = q))

/-- The waiting head request that freed cells can grant and that the fabric serves first: the highest rank, then the lowest
queue number (R317). -/
def State.nextWaiter (s : State) : Option Waiter :=
  (s.waitingHeads.filter (fun w => s.grantable w.queue w.cells)).foldl (fun m w => match m with
    | none => some w
    | some b => if queueRank b.queue < queueRank w.queue ∨ (queueRank b.queue = queueRank w.queue ∧ w.queue < b.queue)
      then some w else some b) none

/-- Grant one waiting request: its packet is closed when its payload waits with it. -/
def State.grantWaiter (s : State) (w : Waiter) : State :=
  let s1 := s.onFabric fun f => { f with waiters := f.waiters.erase w }
  match w.payload with
  | some p => (s1.closeOn w.queue w.producer p).poolCheck s.sharedFree
  | none => (s1.onFabric fun f => { f with opened := f.opened ++ [{ queue := w.queue, producer := w.producer, cells := w.cells }] }).poolCheck s.sharedFree

/-- Serve the waiting head requests that freed cells can grant (R317); `n` bounds how many. -/
def State.openGrant : Nat → State → State
  | 0, s => s
  | n + 1, s =>
    match s.nextWaiter with
    | some w => State.openGrant n (s.grantWaiter w)
    | none => s

def execOpenGrant (s : State) : Host.Outcome State Fault Refusal := .next (s.openGrant s.fabric.waiters.length)

/-- Take an open packet of a producer on a queue off the list of reservations. -/
def State.endOpen (s : State) (o : OpenPacket) : State := s.onFabric fun f => { f with opened := f.opened.erase o }

/-- A producer closes its packet: appended and noticed, quarantined when its edge code differs, voided when it was written
beyond its cells (R318). -/
def State.queueClose (s : State) (producer q : Nat) (payload : Bytes) : State :=
  match s.fabric.opened.find? (fun o => o.queue = q ∧ o.producer = producer) with
  | none => s
  | some o =>
    let s1 := s.endOpen o
    if o.cells < cellsFor payload.length then s1.raise 177 (le 1 1 ++ le 1 producer ++ le 2 q ++ le 4 o.cells)
    else if edgeOk payload then (s1.closeOn q producer payload).poolCheck s.sharedFree
    else s1.edgeFailure 0 q { producer := producer, seq := (s.queue q).nextSeq, cells := cellsFor payload.length, payload := payload }

def execQueueClose (producer q : Nat) (payload : Bytes) (s : State) : Host.Outcome State Fault Refusal := .next (s.queueClose producer q payload)

/-- A consumer reads the head packet of a queue and releases it (R320). `ecc` is 0 for clean cells, 1 for a corrected
single-bit error, 2 for a double-bit error in the head packet (R328). -/
def State.consumerRead (s : State) (q ecc : Nat) : State :=
  let s1 :=
    if ecc = 1 then
      let t := s.onFabric fun f => { f with eccCorrected := f.eccCorrected + 1 }
      if t.eventDue 60 186 0 then (t.raiseEvery 60 186 0 (le 4 t.fabric.eccCorrected)).onFabric fun f => { f with eccCorrected := 0 } else t
    else if ecc = 2 then s.onQueue q fun x => { x with pkts := match x.pkts with
      | p :: ps => { p with eccBad := true } :: ps
      | [] => [] }
    else s
  (s1.takeHead q).2

def execConsumerRead (q ecc : Nat) (s : State) : Host.Outcome State Fault Refusal := .next (s.consumerRead q ecc)

/-- A packet has stayed open longer than open_max_us: voided, event 177 (R327). A CLOSE in the same cycle wins: then no
packet is open. -/
def State.openTimeout (s : State) (producer q : Nat) : State :=
  match s.fabric.opened.find? (fun o => o.queue = q ∧ o.producer = producer) with
  | none => s
  | some o => (s.endOpen o).raise 177 (le 1 2 ++ le 1 producer ++ le 2 q ++ le 4 o.cells)

def execOpenTimeout (producer q : Nat) (s : State) : Host.Outcome State Fault Refusal := .next (s.openTimeout producer q)

/-- The head packet of a rank 3 or rank 4 queue has stood for head_max_ms: released unsent, event 180 (R324, R332). -/
def State.headExpiry (s : State) (q : Nat) : State :=
  let rank := ((queueRow q).map (·.rank)).getD 9
  if (rank = 3 ∨ rank = 4) ∧ !(s.queue q).pkts.isEmpty then
    let s1 := s.onQueue q fun x => { x with pkts := x.pkts.drop 1, headReleased := x.headReleased + 1 }
    if s1.eventDue 60 180 q then
      (s1.raiseEvery 60 180 q (le 2 q ++ le 2 0 ++ le 4 (s1.queue q).headReleased)).onQueue q fun x => { x with headReleased := 0 }
    else s1
  else s

def execHeadExpiry (q : Nat) (s : State) : Host.Outcome State Fault Refusal := .next (s.headExpiry q)

/-- A wait for credit on `q` has lasted `ms`: event 184 from wait_warn_ms on (R332). `held` is the queue whose head packet
the waiter holds, if any. -/
def State.creditWaitLong (s : State) (q ms : Nat) (held : Option Nat) : State :=
  if s.cfgN 0x8000 3 ≤ ms ∧ s.fabric.waiters.any (·.queue = q) then
    let rank := match held.bind queueRow with
      | some r => r.rank
      | none => 0xFF
    s.raiseEvery 60 184 q (le 1 rank ++ le 1 0 ++ le 2 q ++ le 4 ms)
  else s

def execCreditWaitLong (q ms : Nat) (held : Option Nat) (s : State) : Host.Outcome State Fault Refusal := .next (s.creditWaitLong q ms held)

/-- The queues that a gate message is copied to, by kind (R321); of the cells, only INTERVAL and FILL ones go to BAL_IN (R49). -/
def fanoutQueues (kind cls : Nat) : List Nat :=
  if kind = 0x81 then (if cls ≤ 1 then [64, 56, 57] else [64, 57]) else if kind = 0x86 ∨ kind = 0x87 then [64, 57] else if kind = 0x82 then [66, 58]
  else if kind = 0x83 then [67, 56] else if kind = 0x84 then [59] else if kind = 0x85 then [71]
  else if kind = 0x88 ∨ kind = 0x89 then [66, 58] else []

/-- The fan-out unit takes the head of GATE_OUT and copies it to the queues of its kind. While a queue that is not lossy
cannot grant its copy, the unit holds the packet and nothing is copied (R317, R321). -/
def State.fanout (s : State) : State :=
  match s.peekHead 48 with
  | none => (s.takeHead 48).2
  | some p =>
    let qs := fanoutQueues (getLE 0 1 p.payload) (getLE 12 4 p.payload / 2 ^ 18 % 16)
    let ready := qs.all (fun q => ((queueRow q).map (·.lossy)).getD false ||
      (s.grantable q p.cells && !s.fabric.waiters.any (·.queue = q)))
    if ready then qs.foldl (fun t q => t.send 13 q p.payload) (s.takeHead 48).2 else s

def execFanoutPacket (s : State) : Host.Outcome State Fault Refusal := .next s.fanout

end Sys2Proof.Machine
end

