-- ==== Sys2Proof/Machine/Dist.lean ====
section
/-! DEFINITION. The distribution engine: coded symbols, requests to members, the member state machine, rounds, activation (R401 to
R413). -/

namespace Sys2Proof.Machine
open Sys2Proof

/-- Change a campaign; the change goes to the table state stream with the shadow (R401). -/
def State.onCamp (s : State) (c : Nat) (f : Campaign → Campaign) : State :=
  ({ s with camps := s.camps.adj c f } : State).onTbl fun t => t.touch [(regCampaign, c)]

/-- Change a member. -/
def State.onDist (s : State) (c eix : Nat) (f : DistMember → DistMember) : State :=
  ({ s with camps := s.camps.adj c fun x => { x with members := x.members.adj eix f } } : State).onTbl fun t => t.touch [(regMember, memberPos c eix)]

/-- Change every member of a campaign. -/
def State.onMembers (s : State) (c : Nat) (f : DistMember → DistMember) : State :=
  ((s.camps.get? c).map (fun x => Tab.keys x.members)).getD [] |>.foldl (fun t e => t.onDist c e f) s

/-! ### Coded symbols (R404 to R406) -/

/-- Product in GF(256) under 0x11D, by the bits of the second factor. -/
def gfMulGo : Nat → Nat → Nat → Nat → Nat
  | 0, _, _, acc => acc
  | k + 1, a, b, acc =>
    let a2 := if a < 128 then a * 2 else Nat.xor (a * 2) 0x11D
    gfMulGo k a2 (b / 2) (if b % 2 = 1 then Nat.xor acc a else acc)

def gfMul (a b : Nat) : Nat := gfMulGo 8 a b 0

/-- The xorshift step of R405. -/
def coeffStep (x : Nat) : Nat :=
  let a := Nat.xor x (x * 2 ^ 13 % 2 ^ 32)
  let b := Nat.xor a (a / 2 ^ 17)
  Nat.xor b (b * 2 ^ 5 % 2 ^ 32)

def coeffsGo : Nat → Nat → List Nat
  | 0, _ => []
  | k + 1, x => coeffStep x / 2 ^ 24 :: coeffsGo k (coeffStep x)

/-- coeffs(seed, n, e, g) of R405. -/
def coeffs (seed n e g : Nat) : List Nat :=
  let x := Nat.xor seed (((n * 65536 + e) * 0x9E3779B9) % 2 ^ 32)
  coeffsGo g (if x = 0 then 0x6D2B79F5 else x)

/-- Source symbol i, padded with zeros. -/
def Campaign.symbol (x : Campaign) (i : Nat) : Bytes := padTo 128 (slice (128 * i) 128 x.content)

/-- Repair symbol e of generation n. -/
def Campaign.repair (x : Campaign) (n e : Nat) : Bytes :=
  let g := x.genSize n
  let cs := coeffs x.seed n e g
  (cs.zipIdx.foldl (fun acc p =>
    List.zipWith (fun a b => Nat.xor a (gfMul p.1 b)) acc ((x.symbol (64 * n + p.2)).map (·.toNat))) (List.replicate 128 0)).map (BitVec.ofNat 8)

/-- A repair frame (R406). -/
def Campaign.repairFrame (x : Campaign) (c n e : Nat) : Bytes :=
  withEdge (ascii "SLRS" ++ le 1 1 ++ zeros 1 ++ le 2 c ++ le 4 (edgeCode x.ident) ++ le 4 x.seed ++ le 4 x.length ++ le 2 n ++ le 2 e ++ x.repair n e)

/-! ### Requests (R403, R407, R410, R413) -/

/-- Length octets of an A-XDR octet-string. -/
def axdrLen (n : Nat) : Bytes := if n < 128 then le 1 n else if n < 256 then [0x81#8] ++ le 1 n else [0x82#8] ++ be 2 n

/-- The class 18 or 20 object of a campaign. -/
def Campaign.object (x : Campaign) : Bytes := be 2 (if x.kind = 1 then 18 else 20) ++ padTo 6 x.obis

/-- GET of an attribute; ACTION of a method; SET of an attribute. -/
def Campaign.get (x : Campaign) (i : Nat) : Bytes := [0xC0#8, 0x01#8, 0xC1#8] ++ x.object ++ le 1 i ++ zeros 1
def Campaign.action (x : Campaign) (id : Byte) (m : Nat) (d : Bytes) : Bytes := [0xC3#8, 0x01#8, id] ++ x.object ++ le 1 m ++ [0x01#8] ++ d
def Campaign.set (x : Campaign) (i : Nat) (v : Bytes) : Bytes := [0xC1#8, 0x01#8, 0xC1#8] ++ x.object ++ le 1 i ++ zeros 1 ++ v

/-- Parameters of method 2: block number and the block's bytes. -/
def blockData (i : Nat) (d : Bytes) : Bytes := [0x02#8, 0x02#8, 0x06#8] ++ be 4 i ++ [0x09#8] ++ axdrLen d.length ++ d

/-- The entries of a calendar's content (R413): attribute and value, by fuel. -/
def calEntriesGo : Nat → Bytes → Option (List (Nat × Bytes))
  | 0, _ => none
  | k + 1, b =>
    if b.isEmpty then some []
    else
      let n := getLE 2 2 b
      let a := getLE 0 1 b
      if b.length < 4 + n ∨ a < 6 ∨ 10 < a ∨ n = 0 ∨ getLE 1 1 b ≠ 0 then none
      else (calEntriesGo k (b.drop (4 + n))).map (fun l => (a, slice 4 n b) :: l)

/-- Content of a calendar campaign: attributes 6 to 9 exactly once, 10 at most once. -/
def calEntries (b : Bytes) : Option (List (Nat × Bytes)) :=
  (calEntriesGo (b.length + 1) b).bind fun l =>
    let n := fun (a : Nat) => (l.filter (fun p => p.1 = a)).length
    if [6, 7, 8, 9].all (fun a => n a = 1) && decide (n 10 ≤ 1) then some l else none

/-- The value a calendar campaign gives attribute `i`; attribute 10 has the activation time when there is no entry. -/
def State.calValue (s : State) (x : Campaign) (i : Nat) : Bytes :=
  match ((calEntries x.content).getD []).find? (fun p => p.1 = i) with
  | some (_, v) => v
  | none => [0x09#8, 0x0C#8] ++ s.localDate ((x.actNt : Int) * 100)

/-- The APDU of a request. -/
def State.distApdu (s : State) (x : Campaign) (m : DistMember) (r : DistReq) : Bytes :=
  match r with
  | .attributes25 => [0xC0#8, 0x03#8, 0xC1#8, 0x02#8] ++ x.object ++ [0x02#8, 0x00#8] ++ x.object ++ [0x05#8, 0x00#8]
  | .initiate => x.action 0xC1#8 1 ([0x02#8, 0x02#8, 0x09#8] ++ axdrLen x.ident.length ++ x.ident ++ [0x06#8] ++ be 4 x.length)
  | .attribute3 => x.get 3
  | .attribute4 => x.get 4
  | .block i => x.action 0xC1#8 2 (blockData i (slice (m.blockSize * i) m.blockSize x.content))
  | .verify => x.action 0xC1#8 3 [0x0F#8, 0x00#8]
  | .attribute6 => x.get 6
  | .attribute7 => x.get 7
  | .activate => x.action 0xC1#8 4 [0x0F#8, 0x00#8]
  | .setAttr i => x.set i (s.calValue x i)
  | .getAttr i => x.get i
  | .activatePassive => x.action 0xC1#8 1 [0x0F#8, 0x00#8]

/-- Send the member's request; a delivery attempt of a meter order under way for the endpoint goes first (R410). -/
def State.distTransmit (s : State) (c eix : Nat) : State :=
  match s.camps.get? c with
  | none => s
  | some x =>
    match x.members.get? eix with
    | some m =>
      match m.request with
      | some r =>
        if ((s.cp.orders.get? eix).map (·.awaiting)).getD false then s
        else (s.onDist c eix fun y => { y with attempts := y.attempts + 1 }).sendEndpoint eix (s.distApdu x m r)
      | none => s
    | none => s

/-- Make a request of a member. -/
def State.distAsk (s : State) (c eix : Nat) (r : DistReq) : State :=
  (s.onDist c eix fun y => { y with request := some r, attempts := 0 }).distTransmit c eix

/-- A member fails with a cause: event 218. -/
def State.distFail (s : State) (c eix cause : Nat) : State :=
  let left := (((s.camps.get? c).bind (fun x => x.members.get? eix)).map (fun m => m.state.code)).getD 0
  (s.onDist c eix fun y => { y with state := .failed, cause := cause, request := none }).raise 218
    (eix3 eix ++ le 1 c ++ le 1 cause ++ le 1 left)

/-! ### Rounds, windows and events (R408, R410, R411) -/

def DistState.beforeReady (d : DistState) : Bool := decide (d.code < 5)
def DistState.terminal (d : DistState) : Bool := decide (7 ≤ d.code)

def Campaign.count (x : Campaign) (p : DistState → Bool) : Nat := (x.members.filter (fun m => p m.2.state)).length

/-- R_n of the next round, for each generation (R408). -/
def State.repairPlan (s : State) (x : Campaign) : List Nat :=
  (List.range x.generations).map fun n =>
    let most := x.members.foldl (fun a m =>
      if m.2.mode = 2 ∧ m.2.state = .feed then max a ((m.2.missing.filter (fun i => i / 64 = n)).length) else a) 0
    if most = 0 then 0 else most + s.cfgN 0xC000 3

/-- The frames of a round in their order: every source block, or the planned repair symbols from the next index of each generation up (R405,
R408). -/
def Campaign.frames (x : Campaign) : List DistFrame :=
  if x.round = 0 then (List.range x.blocks).map .source
  else (x.plan.zipIdx.map fun p => (List.range p.1).map fun j => .repair p.2 (x.nextSymbol p.2 + j)).flatten

/-- Take the frames of a round: its symbol indexes are used up, so that a round that starts again sends others (R405, R412). -/
def Campaign.takeFrames (x : Campaign) : Campaign :=
  { x with
    left := x.frames, repairs := 0
    nextE := x.plan.zipIdx.foldl (fun t p => if p.1 = 0 then t else t.set p.2 (x.nextSymbol p.2 + p.1)) x.nextE }

/-- Start the transfers of members in TOPUP as far as the window of their port allows (R410). -/
def State.fillWindow (s : State) (c : Nat) : State :=
  match s.camps.get? c with
  | none => s
  | some x => (Tab.keys x.members).foldl (fun t e =>
      match (t.camps.get? c).bind (fun y => y.members.get? e) with
      | some m =>
        let p := t.portOfEix e
        let active := (t.camps.map (fun q => (q.2.members.filter (fun z => z.2.state = .topup && z.2.request.isSome && t.portOfEix z.1 = p)).length)).sum
        if m.state = .topup ∧ m.request.isNone ∧ active < t.cfgN 0xC000 5 then t.distAsk c e .attribute4 else t
      | none => t) s

/-- Members in FEED are asked for attribute 3 after a round; one that is complete is not asked again. -/
def State.queryRound (s : State) (c : Nat) : State :=
  match s.camps.get? c with
  | none => s
  | some x => (Tab.keys (x.members.filter (fun m => m.2.state = .feed))).foldl (fun t e =>
      match x.members.get? e with
      | some m => if 0 < x.round ∧ m.missing.isEmpty then t.onDist c e fun y => { y with queried := true } else t.distAsk c e .attribute3
      | none => t) ((s.onCamp c fun y => { y with phase := .querying }).onMembers c fun m => { m with queried := false })

/-- After the last round the members go to TOPUP. -/
def State.endRounds (s : State) (c : Nat) : State :=
  (s.onCamp c fun y => { y with phase := .unicast }).onMembers c fun m => if m.state = .feed then { m with state := .topup, request := none } else m

/-- Begin a round with its plan. -/
def State.beginRound (s : State) (c k : Nat) (plan : List Nat) : State :=
  s.onCamp c fun y => Campaign.takeFrames { y with phase := .round, round := k, plan := plan }

/-- The end of preparation or of the queries after a round. -/
def State.advanceRounds (s : State) (c : Nat) : State :=
  match s.camps.get? c with
  | none => s
  | some x =>
    if x.phase = .preparing ∧ x.count (fun d => decide (d.code ≤ 1)) = 0 then
      if x.kind = 1 ∧ 0 < x.count (fun d => d = .feed) then s.beginRound c 0 []
      else s.endRounds c
    else if x.phase = .querying ∧ x.members.all (fun m => m.2.state ≠ .feed || m.2.queried) then
      let plan := s.repairPlan x
      if s.cfgN 0xC000 4 ≤ x.round ∨ plan.sum = 0 then s.endRounds c else s.beginRound c (x.round + 1) plan
    else s

/-- Events 219, 220, 221 and the end of a campaign. -/
def State.campaignEvents (s : State) (c : Nat) : State :=
  match s.camps.get? c with
  | none => s
  | some x =>
    if x.phase = .defined ∨ x.phase = .loading ∨ x.phase = .ended then s
    else
      let before := x.count DistState.beforeReady
      let inReady := x.count (fun d => d = .ready || d = .activate)
      let s1 := if before = 0 ∧ !x.readyRaised then
          (s.onCamp c fun y => { y with readyRaised := true }).raise 219 (le 1 c ++ zeros 3 ++ le 4 (x.count (fun d => d = .ready)))
        else s
      let s2 := if before = 0 ∧ inReady = 0 ∧ !x.doneRaised then
          (s1.onCamp c fun y => { y with doneRaised := true }).raise 220 (le 1 c ++ zeros 3 ++ le 4 (x.count (fun d => d = .done)))
        else s1
      if before = 0 ∧ inReady = 0 then
        (s2.onCamp c fun y => { y with phase := .ended, content := [] }).raise 221
          (le 1 c ++ le 1 1 ++ le 2 (x.count (fun d => d = .failed)) ++ zeros 4)
      else s2

/-- What follows any change of a member. -/
def State.distSettle (s : State) (c : Nat) : State := ((s.advanceRounds c).fillWindow c).campaignEvents c

/-! ### Activation (R411) -/

/-- Members of all campaigns that were activated on a port within the last 60 s of OT. -/
def State.activatedLately (s : State) (p : Nat) : Nat :=
  (s.camps.map fun q => (q.2.members.filter fun z => z.2.activated && decide (s.power.ot < z.2.since + 60) && s.portOfEix z.1 = p).length).sum

/-- Activate a READY member when the rate of its PAN allows it. -/
def State.activateMember (s : State) (c eix : Nat) : State :=
  match s.camps.get? c with
  | none => s
  | some x =>
    if s.activatedLately (s.portOfEix eix) < s.cfgN 0xC000 9 then
      (s.onDist c eix fun y => { y with state := .activate, since := s.power.ot, activated := true }).distAsk c eix
        (if x.kind = 1 then .activate else .activatePassive)
    else s

/-- A member reaches READY (R411, R413). -/
def State.reachReady (s : State) (c eix : Nat) : State :=
  match s.camps.get? c with
  | none => s
  | some x =>
    if x.kind = 2 ∧ x.actNt ≠ 0 then s.onDist c eix fun y => { y with state := .done, request := none }
    else
      let s1 := s.onDist c eix fun y => { y with state := .ready, request := none, late := x.due && s.cfgN 0xC000 10 = 0 }
      if x.due ∧ s.cfgN 0xC000 10 = 1 then s1.activateMember c eix else s1

/-! ### Responses (R410, R413) -/

/-- Blocks of the image in the member's block size. -/
def Campaign.blockCount (x : Campaign) (m : DistMember) : Nat := cdiv x.length m.blockSize

/-- Missing blocks by attribute 3: a bit string, first block in the most significant bit. -/
def missingBlocks (k : Nat) (d : Bytes) : List Nat := (List.range k).filter (fun i => !bit (getLE (i / 8) 1 d) (7 - i % 8))

/-- The cause with which a request that is refused to the end fails its member (R410). -/
def DistReq.cause : DistReq → Nat
  | .initiate | .block _ | .setAttr _ => 3
  | .verify | .getAttr _ => 4
  | .activate | .activatePassive => 6
  | _ => 1

/-- A request that failed or went unanswered is retried up to block_retries times. -/
def State.distRetry (s : State) (c eix cause : Nat) : State :=
  match (s.camps.get? c).bind (fun x => x.members.get? eix) with
  | some m => if m.attempts ≤ s.cfgN 0xC000 6 then s.distTransmit c eix else s.distFail c eix cause
  | none => s

/-- A successful answer to a member's request; `nums` are its numbers, `d` its octets. In TOPUP a member of the rounds gets the blocks that its
last attribute 3 lacked, and without that list the one that attribute 4 names (log 115). -/
def State.distAnswer (s : State) (c eix : Nat) (x : Campaign) (m : DistMember) (r : DistReq) (nums : List Nat) (d : Bytes) : State :=
  let v := nums.getD 0 0
  let clear := s.onDist c eix fun y => { y with request := none, attempts := 0 }
  match r with
  | .attributes25 =>
    if nums.getD 1 0 = 0 then s.distFail c eix 3
    else if m.mode ≠ 0 ∧ v ≠ 128 then s.distFail c eix 2
    else if v = 0 then s.distFail c eix 2
    else (s.onDist c eix fun y => { y with blockSize := v }).distAsk c eix .initiate
  | .initiate => clear.onDist c eix fun y => { y with
      state := if m.mode = 0 ∨ m.noRounds ∨ x.phase ≠ .preparing then .topup else .feed }
  | .attribute3 => clear.onDist c eix fun y => { y with queried := true, missing := missingBlocks x.blocks d }
  | .attribute4 =>
    if x.blockCount m ≤ v then s.distAsk c eix .verify
    else
      let known := m.missing.filter (fun i => decide (v ≤ i))
      let todo := if m.mode = 0 then (List.range (x.blockCount m)).drop v else if known.isEmpty then [v] else known
      (s.onDist c eix fun y => { y with todo := todo.drop 1, missing := [] }).distAsk c eix (.block (todo.headD v))
  | .block _ =>
    match m.todo with
    | i :: rest => (s.onDist c eix fun y => { y with todo := rest }).distAsk c eix (.block i)
    | [] => s.distAsk c eix .attribute4
  | .verify => clear.onDist c eix fun y => { y with state := .verify, since := s.power.ot }
  | .attribute6 =>
    if m.state = .verify then
      if v = 3 then s.distAsk c eix .attribute7 else if v = 4 then s.distFail c eix 4 else clear
    else if m.state = .activate then
      if v = 6 then clear.onDist c eix fun y => { y with state := .done } else if v = 7 then s.distFail c eix 6 else clear
    else clear
  | .attribute7 => if d = x.ident ∧ v = x.length then s.reachReady c eix else s.distFail c eix 5
  | .activate => clear
  | .activatePassive => clear.onDist c eix fun y => { y with state := .done }
  | .setAttr i => if i < 10 then s.distAsk c eix (.setAttr (i + 1)) else (s.onDist c eix fun y => { y with state := .verify, since := s.power.ot }).distAsk c eix (.getAttr 6)
  | .getAttr i =>
    if d = s.calValue x i then (if i < 10 then s.distAsk c eix (.getAttr (i + 1)) else s.reachReady c eix)
    else if m.retries < s.cfgN 0xC000 6 then
      (s.onDist c eix fun y => { y with retries := y.retries + 1 }).distAsk c eix (.setAttr i)
    else s.distFail c eix 4

/-- MEMBER_RESPONSE: the answer to the request in flight; `ok` false is an error result. -/
def State.memberResponse (s : State) (c eix : Nat) (ok : Bool) (nums : List Nat) (d : Bytes) : State :=
  match s.camps.get? c with
  | none => s
  | some x =>
    match x.members.get? eix with
    | none => s
    | some m =>
      match m.request with
      | none => s
      | some r =>
        if !s.openRuns then s
        else (if ok then s.distAnswer c eix x m r nums d else s.distRetry c eix r.cause).distSettle c

end Sys2Proof.Machine
end

