-- ==== Sys2Proof/Machine/DistRows.lean ====
section
/-! DEFINITION. Rows and commands of the distribution engine (R401, R402, R407, R410 to R412, R415). -/

namespace Sys2Proof.Machine
open Sys2Proof

def execMemberResponse (c eix : Nat) (ok : Bool) (nums : List Nat) (data : Bytes) (s : State) : Host.Outcome State Fault Refusal :=
  .next (s.memberResponse c eix ok nums data)

/-- MEMBER_REQUEST_TIMEOUT: an unanswered request is retried, or fails the member with cause 1; one that a meter order held back is sent. -/
def State.memberTimeout (s : State) (c eix : Nat) : State :=
  match (s.camps.get? c).bind (fun x => x.members.get? eix) with
  | some m => if m.request.isSome ∧ s.openRuns then (s.distRetry c eix 1).distSettle c else s
  | none => s

def execMemberRequestTimeout (c eix : Nat) (s : State) : Host.Outcome State Fault Refusal := .next (s.memberTimeout c eix)

/-- VERIFY_POLL: attribute 6 of an image member in VERIFY or ACTIVATE that has no request in flight. -/
def State.verifyPoll (s : State) (c eix : Nat) : State :=
  match s.camps.get? c with
  | some x =>
    match x.members.get? eix with
    | some m => if x.kind = 1 ∧ (m.state = .verify ∨ m.state = .activate) ∧ m.request.isNone ∧ s.openRuns then s.distAsk c eix .attribute6 else s
    | none => s
  | none => s

def execVerifyPoll (c eix : Nat) (s : State) : Host.Outcome State Fault Refusal := .next (s.verifyPoll c eix)

/-- VERIFY_TIMEOUT: verify_timeout_s in VERIFY or ACTIVATE. -/
def State.verifyTimeout (s : State) (c eix : Nat) : State :=
  match s.camps.get? c with
  | some x =>
    match x.members.get? eix with
    | some m =>
      if x.kind = 1 ∧ (m.state = .verify ∨ m.state = .activate) ∧ m.since + s.cfgN 0xC000 8 ≤ s.power.ot ∧ s.openRuns then
        (s.distFail c eix (if m.state = .verify then 4 else 6)).distSettle c
      else s
    | none => s
  | none => s

def execVerifyTimeout (c eix : Nat) (s : State) : Host.Outcome State Fault Refusal := .next (s.verifyTimeout c eix)

/-! ### Content and rounds -/

/-- The content that a campaign names in its volume (R401). -/
def State.campContent (s : State) (x : Campaign) : Bytes :=
  (((List.range (cdiv x.length 4096)).map (fun i => s.volBlock x.volume (x.first + i))).flatten).take x.length

/-- Work kind of a DIST_START. -/
abbrev workDist : Nat := 15

/-- A campaign ends because its content is not what its definition says: events 222 and 221 (R401). -/
def State.badContent (s : State) (c : Nat) : State :=
  match s.camps.get? c with
  | none => s
  | some x => ((s.onCamp c fun y => { y with phase := .ended, content := [] }).raise 222 (le 1 c ++ le 1 x.volume ++ zeros 2 ++ le 4 x.first)).raise 221
      (le 1 c ++ le 1 3 ++ le 2 (x.count (fun d => d = .failed)) ++ zeros 4)

/-- The request with which a member's preparation begins (R410, R413). -/
def Campaign.firstRequest (x : Campaign) : DistReq := if x.kind = 1 then .attributes25 else .setAttr 6

/-- CONTENT_LOADED: the content is read and digested; the campaign starts with its members' first requests, or ends with event 222. Without
DRBG output an image campaign, which needs a seed, stays defined and its DIST_START ends with INTERNAL_FAULT (R386, log 115). -/
def State.contentLoaded (s : State) (c : Nat) : State :=
  match s.camps.get? c with
  | none => s
  | some x =>
    if x.phase ≠ .loading ∨ !s.openRuns then s
    else
      let b := s.campContent x
      if shake 64 b ≠ x.digest ∨ (x.kind = 2 ∧ (calEntries b).isNone) then
        (s.badContent c).finish workDist c stSignatureBad []
      else if x.kind = 1 ∧ s.sec.trngStopped then (s.onCamp c fun y => { y with phase := .defined }).finish workDist c stInternalFault []
      else
        let (r, s1) := if x.kind = 1 then s.random 4 else ([], s)
        let s2 := (s1.onCamp c fun y => { y with phase := .preparing, content := b, seed := if x.kind = 1 then max 1 (fromLE r) else 0 }).raise 216
          (le 1 c ++ le 1 x.kind ++ zeros 2 ++ le 4 x.members.length)
        let s3 := (Tab.keys x.members).foldl (fun t e =>
          (t.onDist c e fun m => { m with state := .prepare }).distAsk c e x.firstRequest) s2
        (s3.finish workDist c stDone []).distSettle c

def execContentLoaded (c : Nat) (s : State) : Host.Outcome State Fault Refusal := .next (s.contentLoaded c)

/-- The ports whose members take part in the rounds of a campaign. -/
def State.roundPorts (s : State) (x : Campaign) : List Nat :=
  ((x.members.filter (fun m => m.2.mode ≠ 0 && !m.2.noRounds && (m.2.state = .feed || m.2.state = .topup))).map (fun m => s.portOfEix m.1)).eraseDups.filter
    (fun p => decide (p ≤ 7))

/-- MULTICAST_FRAME: the next source block or repair frame of a round, on every port that has members in the rounds. Throttling suspends
rounds (R428). -/
def State.multicastFrame (s : State) (c : Nat) : State :=
  match s.camps.get? c with
  | none => s
  | some x =>
    if x.phase ≠ .round ∨ !s.openRuns ∨ 1 ≤ s.power.thermalLevel then s
    else
      match x.left with
      | [] => s
      | f :: rest =>
        let pkt := match f with
          | .source i => txPacket noEix 2 [] (wrapper clientPort 1 (x.action 0x81#8 2 (blockData i (x.symbol i))))
          | .repair n e => txPacketTo (s.cfgN 0xC000 0) noEix 2 [] (x.repairFrame c n e)
        let s1 := (s.roundPorts x).foldl (fun t p => t.send 17 (24 + p) pkt) s
        let n := x.repairs + b2n (x.round ≠ 0)
        let s2 := s1.onCamp c fun y => { y with left := rest, sent := y.sent + 1, repairs := n }
        if rest.isEmpty then ((s2.raise 217 (le 1 c ++ le 1 x.round ++ zeros 2 ++ le 4 n)).queryRound c).distSettle c else s2

def execMulticastFrame (c : Nat) (s : State) : Host.Outcome State Fault Refusal := .next (s.multicastFrame c)

/-! ### Activation -/

/-- Activate the READY members, in ascending EIX, as far as act_rate allows. -/
def State.activateReady (s : State) (c : Nat) : State :=
  match s.camps.get? c with
  | none => s
  | some x => ((Tab.keys (x.members.filter (fun m => m.2.state = .ready && !m.2.late))).foldl (fun t e => t.activateMember c e) s).distSettle c

/-- ACTIVATION_DUE: NT reaches the activation time at level 2 or above; later minutes go on with the members that act_rate left. -/
def State.activationDue (s : State) (c : Nat) : State :=
  match s.camps.get? c with
  | none => s
  | some x =>
    if x.phase = .defined ∨ x.phase = .loading ∨ x.phase = .ended ∨ !s.openRuns then s
    else if x.due then s.activateReady c
    else if x.actNt ≠ 0 ∧ x.actNt ≤ s.time.nt.sec ∧ 2 ≤ s.time.level then (s.onCamp c fun y => { y with due := true }).activateReady c
    else s

def execActivationDue (c : Nat) (s : State) : Host.Outcome State Fault Refusal := .next (s.activationDue c)

/-! ### Coincidences (R412) -/

/-- A member that re-joins resumes in TOPUP. -/
def State.distRejoin (s : State) (eix : Nat) : State :=
  (Tab.keys s.camps).foldl (fun t c =>
    match (t.camps.get? c).bind (fun x => x.members.get? eix) with
    | some m =>
      if m.state = .feed ∨ m.state = .topup then
        (t.onDist c eix fun y => { y with state := .topup, noRounds := true, request := none, todo := [] }).distSettle c
      else if m.state = .pending ∨ m.state = .prepare then t.onDist c eix fun y => { y with noRounds := true }
      else t
    | none => t) s

/-- Where a member goes on after a restart: FEED and TOPUP in TOPUP, which reads attribute 4 first; an image member in VERIFY or ACTIVATE is
polled; what else had a request in flight makes it again (R412). -/
def State.memberResume (s : State) (c eix : Nat) (x : Campaign) : State :=
  match x.members.get? eix with
  | none => s
  | some m =>
    if m.state = .feed ∨ m.state = .topup then s.onDist c eix fun y => { y with state := .topup }
    else if m.state = .pending ∨ m.state = .prepare then (s.onDist c eix fun y => { y with state := .prepare }).distAsk c eix x.firstRequest
    else if x.kind = 2 ∧ m.state = .verify then s.distAsk c eix (.getAttr 6)
    else if x.kind = 2 ∧ m.state = .activate then s.distAsk c eix .activatePassive
    else s

/-- The engine at a restart: running campaigns load their content again and digest it, the round under way starts from its first frame, and an
activation that fell due during the outage is carried out (R401, R412). -/
def State.distRestart (s : State) : State :=
  (Tab.keys s.camps).foldl (fun t c => match t.camps.get? c with
    | none => t
    | some x =>
      let b := t.campContent x
      if x.phase = .defined ∨ x.phase = .ended ∨ x.phase = .loading then t
      else if shake 64 b ≠ x.digest then t.badContent c
      else
        let t1 := t.onCamp c fun y => if y.phase = .round then ({ y with content := b } : Campaign).takeFrames else { y with content := b }
        (((Tab.keys x.members).foldl (fun u e => u.memberResume c e x) t1).distSettle c).activationDue c) s

/-- LBP_JOIN (R217, R412). -/
def execLbpJoin (port : Nat) (eui : Bytes) (what cost : Nat) (data : Bytes) (stamp : Stamp) (s : State) : Host.Outcome State Fault Refusal :=
  let s1 := s.lbpJoin port eui what cost data stamp
  .next (match s.tbl.findEui (padTo 8 eui), s.sec.psks.get? (fromLE (padTo 8 eui)) with
    | some e, some psk =>
      if what = 2 ∧ s1.plc.joined.get? e = some port ∧ s.joinVerified port eui psk data then s1.distRejoin e else s1
    | _, _ => s1)

/-! ### Commands -/

/-- Campaign of a request, which must exist. -/
def campCheck (c : HostCmd) (t : State) : List (Bool × Nat) :=
  [badField (decide (7 < getLE 0 1 c.req) || !zeroAt 1 3 c.req), (!t.camps.has (getLE 0 1 c.req), stNotFound)]

def State.distStatus (s : State) (c : Nat) : Bytes :=
  match s.camps.get? c with
  | none => []
  | some x => le 1 x.phase.code ++ le 1 x.round ++ zeros 2 ++ le 4 x.blocks ++ le 4 x.seed ++
      ((List.range 10).map (fun k => le 4 (x.count (fun d => d.code = k)))).flatten ++ le 4 x.sent

def execDistStatus (c : HostCmd) (s : State) : Host.Outcome State Fault Refusal :=
  .next (s.serve 0x0901 c (fun t => lenIs c 4 :: campCheck c t) (fun t => (t, .done (t.distStatus (getLE 0 1 c.req)))))

/-- The lowest number that no running campaign has. -/
def State.freeCampaign (s : State) : Option Nat :=
  (List.range 8).find? (fun k => (s.camps.get? k).all (fun x => x.phase = .ended))

def State.badCreate (s : State) (req : Bytes) : Bool :=
  let kind := getLE 0 1 req
  let n := getLE 8 4 req
  (kind ≠ 1 && kind ≠ 2) || !zeroAt 2 2 req || !s.store.vols.has (getLE 1 1 req) || n = 0 || (kind = 1 && decide (2097152 < n)) ||
    decide (s.volBlocks (getLE 1 1 req) < getLE 4 4 req + cdiv n 4096) || !zeroAt 82 2 req || getLE 92 1 req = 0 || decide (48 < getLE 92 1 req) ||
    !zeroAt 93 3 req

/-- A new campaign takes a number, of which the campaign that ended under it goes with its members. -/
def State.putCampaign (s : State) (k : Nat) (x : Campaign) : State :=
  let old := ((s.camps.get? k).map fun y => (Tab.keys y.members).map fun e => (regMember, memberPos k e)).getD []
  ({ s with camps := s.camps.set k x } : State).onTbl fun t => t.touch ((regCampaign, k) :: old)

def execDistCreate (c : HostCmd) (s : State) : Host.Outcome State Fault Refusal :=
  let kind := getLE 0 1 c.req
  .next (s.serve 0x0902 c
    (fun t => [(decide (c.req.length ≠ 96 + getLE 92 1 c.req), stBadLength), badField (t.badCreate c.req),
      (t.freeCampaign.isNone || (kind = 1 && decide (4 ≤ (t.camps.filter (fun x => x.2.kind = 1 && x.2.phase ≠ .ended)).length)), stBusy)])
    (fun t =>
      let k := t.freeCampaign.getD 0
      let x : Campaign := { kind := kind, volume := getLE 1 1 c.req, first := getLE 4 4 c.req, length := getLE 8 4 c.req
                            digest := slice 12 64 c.req, obis := slice 76 6 c.req, actNt := getLE 84 8 c.req
                            ident := slice 96 (getLE 92 1 c.req) c.req }
      (t.putCampaign k x, .done (le 1 k ++ zeros 3))))

/-- Entries of a DIST_MEMBERS request: EIX, mode, reserved bytes are zero. -/
def distEntries (req : Bytes) : List (Nat × Nat × Bool) :=
  (List.range (getLE 4 4 req)).map fun k => (getLE (8 + 8 * k) 4 req, getLE (12 + 8 * k) 1 req, zeroAt (13 + 8 * k) 3 req)

/-- Whether an EIX belongs to another running campaign of the same kind (R402). -/
def State.inOther (s : State) (c kind eix : Nat) : Bool :=
  s.camps.any (fun x => x.1 ≠ c && x.2.kind = kind && x.2.phase ≠ .ended &&
    (x.2.members.get? eix).any (fun m => m.state ≠ .cancelled))

/-- Whether an endpoint is sleepy (R245). -/
def State.isSleepy (s : State) (eix : Nat) : Bool := s.radios.any (fun x => x.sleepy.has eix)

/-- Add or remove one member. -/
def State.distMember (s : State) (c eix mode : Nat) : State :=
  match s.camps.get? c with
  | none => s
  | some x =>
    if mode = 0xFF then
      if (x.members.get? eix).any (fun m => m.state = .done) then s
      else if x.phase = .defined ∨ x.phase = .loading then
        (s.onCamp c fun y => { y with members := y.members.erase eix }).onTbl fun t => t.touch [(regMember, memberPos c eix)]
      else (s.onDist c eix fun m => { m with state := .cancelled, request := none }).distSettle c
    else
      let started := x.phase ≠ .defined ∧ x.phase ≠ .loading
      let m : DistMember := { mode := mode, state := if started then .prepare else .pending, noRounds := decide (started ∧ x.phase ≠ .preparing) }
      let s1 := (s.onCamp c fun y => { y with members := y.members.set eix m }).onTbl fun t => t.touch [(regMember, memberPos c eix)]
      if started then s1.distAsk c eix x.firstRequest else s1

def execDistMembers (c : HostCmd) (s : State) : Host.Outcome State Fault Refusal :=
  let k := getLE 0 1 c.req
  let es := distEntries c.req
  .next (s.serve 0x0903 c
    (fun t => (decide (c.req.length ≠ 8 + 8 * getLE 4 4 c.req), stBadLength) :: campCheck c t ++
      [badField (getLE 4 4 c.req = 0 || decide (512 < getLE 4 4 c.req) || decide ((es.map (·.1)).eraseDups.length < es.length) ||
        es.any (fun e => decide (2 ^ 18 ≤ e.1) || (decide (2 < e.2.1) && e.2.1 ≠ 0xFF) || !e.2.2 ||
          (e.2.1 ≠ 0 && e.2.1 ≠ 0xFF && t.isSleepy e.1))),
       ((t.camps.get? k).any (fun x => x.phase = .ended || es.any (fun e => e.2.1 = 0xFF && !x.members.has e.1)), stNotFound),
       ((t.camps.get? k).any (fun x => es.any (fun e => e.2.1 ≠ 0xFF && (t.inOther k x.kind e.1 || (x.phase ≠ .defined && (x.members.get? e.1).any (fun m => m.state ≠ .cancelled))))), stExists)])
    (fun t => (es.foldl (fun u e => u.distMember k e.1 e.2.1) t, .done [])))

def execDistStart (c : HostCmd) (s : State) : Host.Outcome State Fault Refusal :=
  let k := getLE 0 1 c.req
  .next (s.serve 0x0904 c
    (fun t => lenIs c 4 :: campCheck c t ++ [((t.camps.get? k).any (fun x => x.phase ≠ .defined), stBusy)])
    (fun t => ((t.onCamp k fun x => { x with phase := .loading }).defer workDist k 0x0904 c, .accepted)))

/-- Whether a block is on its way to the member. -/
def DistMember.sending (m : DistMember) : Bool := match m.request with
  | some (.block _) => true
  | _ => false

def distMemberBytes (eix : Nat) (m : DistMember) : Bytes :=
  le 4 eix ++ le 1 m.mode ++ le 1 m.state.code ++ le 1 m.cause ++ zeros 1 ++ le 4 (m.missing.length + m.todo.length + b2n m.sending) ++ le 1 m.attempts ++ zeros 3

def execDistReadMembers (c : HostCmd) (s : State) : Host.Outcome State Fault Refusal :=
  .next (s.serve 0x0905 c (fun t => lenIs c 12 :: badCount c 256 :: campCheck c t)
    (fun t => (t, .done (match t.camps.get? (getLE 0 1 c.req) with
      | some x => (((x.members.filter (fun m => decide (getLE 4 4 c.req ≤ m.1))).take (getLE 8 4 c.req)).map (fun m => distMemberBytes m.1 m.2)).flatten
      | none => []))))

/-- DIST_CANCEL: members that are not DONE or FAILED are CANCELLED; event 221. -/
def State.distCancel (s : State) (c : Nat) : State :=
  match s.camps.get? c with
  | none => s
  | some x =>
    if x.phase = .ended then s
    else
      let s1 := (s.onCamp c fun y => { y with phase := .ended, content := [] }).onMembers c fun m =>
        if m.state = .done ∨ m.state = .failed then m else { m with state := .cancelled, request := none }
      (s1.raise 221 (le 1 c ++ le 1 2 ++ le 2 (x.count (fun d => d = .failed)) ++ zeros 4)).finish workDist c stNotFound []

def execDistCancel (c : HostCmd) (s : State) : Host.Outcome State Fault Refusal :=
  .next (s.serve 0x0906 c (fun t => lenIs c 4 :: campCheck c t) (fun t => (t.distCancel (getLE 0 1 c.req), .done [])))

def execDistActivate (c : HostCmd) (s : State) : Host.Outcome State Fault Refusal :=
  let k := getLE 0 1 c.req
  .next (s.serve 0x0907 c
    (fun t => lenIs c 4 :: campCheck c t ++ [((t.camps.get? k).any (fun x => x.actNt ≠ 0), stDeniedAuth)])
    (fun t => ((if (t.camps.get? k).any (fun x => x.phase = .ended) then t else
      ((t.onCamp k fun x => { x with due := true }).activateReady k)), .done [])))

end Sys2Proof.Machine
end

