-- ==== Sys2Proof/Machine/TierRows.lean ====
section
/-! DEFINITION. The tier: frames, heartbeats, peers, the directory of the tier, contributions, upload through the manager (R479 to R492);
upload acknowledgements (R397, R488) and decisions of learning notices (R296). -/

namespace Sys2Proof.Machine
open Sys2Proof

/-! ### Frames (R481, R482) -/

/-- The source member of the device's own frames: an unpromoted standby sends 0xFE. -/
def State.tierSource (s : State) : Nat := s.member.getD 0xFE

/-- Whether the device sends and accepts tier frames (R479): not when STANDALONE or without a tier_id. -/
def State.tierOn (s : State) : Bool := s.openRuns && s.role ≠ 0 && s.cfgN 0xE000 0 ≠ 0

/-- Send a tier frame: `mac` 6 octets, the body of a type to a destination member. -/
def State.tierSend (s : State) (mac : Bytes) (typ dest : Nat) (body : Bytes) : State :=
  if !s.tierOn then s
  else
    let n := 33 + body.length
    let h := le 1 1 ++ le 1 typ ++ le 1 s.tierSource ++ le 1 dest ++ le 4 (s.cfgN 0xE000 0) ++ le 4 s.tier.frameSeq ++ le 2 n ++ zeros 2
    match s.protect 2 h (le 1 typ ++ body) with
    | (s1, some r) => (s1.onTier fun t => { t with frameSeq := (t.frameSeq + 1) % 2 ^ 32 }).send 11 34 (withEdge (padTo 6 mac ++ withEdge (h ++ r)))
    | (s1, none) => s1

/-- Whether a member is a live peer. -/
def State.peerLive (s : State) (m : Nat) : Bool := ((s.tier.peers.get? m).map (·.live)).getD false

/-- Send to a member's individual address, learned from its last heartbeat. -/
def State.tierTo (s : State) (m typ : Nat) (body : Bytes) : State :=
  match s.tier.peers.get? m with
  | some p => if p.mac.isEmpty then s else s.tierSend p.mac typ m body
  | none => s

/-- Receive a tier frame of a type: its source and body when it is accepted. A failing edge code quarantines it with event 245; another
tier_id discards it, counted. -/
def State.tierReceive (s : State) (typ : Nat) (frame : Bytes) : State × Option (Nat × Bytes) :=
  if !s.tierOn then (s, none)
  else if !edgeOk frame then
    let p : Packet := { producer := 8 + s.cfgN 0xE000 2, seq := 0, cells := cellsFor frame.length, payload := frame }
    (((s.onTier fun t => { t with edgeFails := t.edgeFails + 1 }).quarantinePacket 10 p).raise 245
      (le 1 (getLE 2 1 frame) ++ le 1 (getLE 1 1 frame) ++ zeros 2 ++ le 4 (getLE 8 4 frame)), none)
  else
    let src := getLE 2 1 frame
    let dst := getLE 3 1 frame
    let bad := getLE 0 1 frame ≠ 1 || getLE 1 1 frame ≠ typ || (decide (15 < src) && src ≠ 0xFE) || src = s.tierSource && s.tierSource = 0xFE ||
      (dst ≠ 0xFF && dst ≠ s.tierSource) || !zeroAt 14 2 frame || getLE 4 4 frame ≠ s.cfgN 0xE000 0 || frame.length ≠ 20 + getLE 12 2 frame ||
      getLE 16 1 frame ≠ 2
    if bad then (s.onTier fun t => { t with discarded := t.discarded + 1 }, none)
    else
      match s.unprotect (frame.take 16) (slice 16 (getLE 12 2 frame) frame) with
      | (s1, some pt) =>
        if getLE 0 1 pt = typ then (s1.onTier fun t => { t with peers := t.peers.adj src fun p => { p with frames := p.frames + 1 } }, some (src, pt.drop 1))
        else (s1.onTier fun t => { t with discarded := t.discarded + 1 }, none)
      | (s1, none) => (s1, none)

/-! ### Contributions (R487) -/

/-- The INTERVAL and FILL cells of some endpoints that are newer than 30 days, in stream order. -/
def State.cellsOf (s : State) (es : List Nat) : List StoreRec :=
  (s.streamRecs 1).filter fun r =>
    r.kind = 0x81 && decide (getLE 0 4 r.data / 2 ^ 18 % 16 ≤ 1) && es.contains (getLE 0 4 r.data % 2 ^ 18) &&
    decide (s.time.nt.sec < getLE 8 8 r.data + thirtyDays)

/-- The cells of subscribed endpoints that a peer has not been sent, in stream order: sequence and cell. -/
def State.contribsFor (s : State) (m : Nat) : List StoreRec :=
  (s.cellsOf (s.tier.served.getD m [])).filter fun r => (s.tier.contribSent.get? m).all fun k => decide (k < r.seq)

/-- Send one contribution. -/
def State.sendContrib (s : State) (m : Nat) (r : StoreRec) : State :=
  s.tierTo m 6 (le 8 r.seq ++ le 4 ((s.eixLength (getLE 0 4 r.data % 2 ^ 18)).getD 0) ++ r.data)

/-- Send the contributions of a peer. -/
def State.sendContribs (s : State) (m : Nat) : State :=
  if !s.peerLive m then s
  else (s.contribsFor m).foldl (fun t r => (t.onTier fun x => { x with contribSent := x.contribSent.set m r.seq }).sendContrib m r) s

/-- Send the subscriptions that are due (R487). -/
def State.sendSubscribes (s : State) : State :=
  s.tier.toSubscribe.foldl (fun t e =>
    let m := e.1 / 16384
    if t.peerLive m then
      (t.onTier fun x => { x with
        held := if e.2 then x.held.set e.1 m else x.held.erase e.1
        toSubscribe := x.toSubscribe.erase e }).tierTo m 5 (le 4 e.1 ++ le 1 (b2n e.2) ++ zeros 3)
    else t) s

/-- NODE_SAFE_POINT: the five steps of R124, then the subscriptions that its step 2 made (R487). -/
def execNodeSafePoint (n : Nat) (s : State) : Host.Outcome State Fault Refusal := .next (s.nodeSafePoint n).sendSubscribes

/-- SUBSCRIBE_FRAME: the serving member starts with its oldest cell that is newer than 30 days, or stops. -/
def State.subscribeFrame (s : State) (frame : Bytes) : State :=
  match s.tierReceive 5 frame with
  | (s1, some (src, b)) =>
    let eix := getLE 0 4 b
    if b.length ≠ 8 ∨ some (eix / 16384) ≠ s1.member ∨ 1 < getLE 4 1 b then s1
    else if getLE 4 1 b = 1 then
      let s2 := s1.onTier fun t => { t with served := t.served.upd src [] fun l => if l.contains eix then l else l ++ [eix] }
      let back := (s1.cellsOf [eix]).filter fun r => (s1.tier.contribSent.get? src).any fun k => decide (r.seq ≤ k)
      if s1.peerLive src then (back.foldl (fun t r => t.sendContrib src r) s2).sendContribs src
      else s2.onTier fun t => { t with contribSent := t.contribSent.erase src }
    else s1.onTier fun t => { t with served := t.served.adj src fun l => l.erase eix }
  | (s1, none) => s1

def execSubscribeFrame (frame : Bytes) (s : State) : Host.Outcome State Fault Refusal := .next (s.subscribeFrame frame)

/-- CONTRIB_FRAME: the cell enters the balance engine as a local one; a copy that is held already is discarded. -/
def State.contribFrame (s : State) (frame : Bytes) : State :=
  match s.tierReceive 6 frame with
  | (s1, some (src, b)) =>
    let cell := b.drop 12
    let eix := getLE 0 4 cell % 2 ^ 18
    if b.length ≠ 76 ∨ eix / 16384 ≠ src then s1
    else
      let s2 := s1.onTier fun t => { t with contribHigh := t.contribHigh.upd src 0 fun h => max h (getLE 0 8 b) }
      if (s2.bal.cells.getD eix []).has (getLE 4 4 cell) then s2
      else (s2.judgeLength eix (some (getLE 8 4 b))).balInput 0x81 cell
  | (s1, none) => s1

def execContribFrame (frame : Bytes) (s : State) : Host.Outcome State Fault Refusal := .next (s.contribFrame frame)

/-! ### Directory (R486) -/

/-- The 16-byte directory entries of EIXs; an entry that no longer exists has flags 0. -/
def State.dirBytes (s : State) (eix : Nat) : Bytes :=
  match s.tbl.dir.get? eix with
  | some e => le 4 eix ++ padTo 8 e.eui ++ le 2 e.short ++ le 1 e.port ++ le 1 e.flags
  | none => le 4 eix ++ zeros 8 ++ le 2 0xFFFF ++ le 1 0xF ++ le 1 0

/-- A worker sends the entries whose binding changed, at most 32 a frame. -/
def State.sendDirectory (s : State) : State :=
  if s.role ≠ 2 ∨ !s.peerLive 0 then s
  else
    let es := s.tbl.bindChanged
    let frames := chunks 512 ((es.map s.dirBytes).flatten)
    frames.foldl (fun t b => if b.isEmpty then t else t.tierTo 0 2 b) (s.onTbl fun t => { t with bindChanged := [] })

/-- One listed entry at the manager: written with REMOTE and Port 0xF at position EIX. -/
def State.remoteEntry (s : State) (src : Nat) (b : Bytes) : State :=
  let eix := getLE 0 4 b
  if eix / 16384 ≠ src ∨ 2 ^ 18 ≤ eix then s
  else if !bit (getLE 15 1 b) 0 then (if s.tbl.dir.has eix then s.onTbl fun t => t.dropDir eix else s)
  else
    let fl := setBit (setBit (getLE 15 1 b % 32) 3 true) 1 false
    (s.writeDir (s.tbl.dir.has eix) eix (slice 4 8 b ++ slice 12 2 b ++ le 1 0xF ++ le 1 fl ++ zeros 12)).1

def State.directoryFrame (s : State) (frame : Bytes) : State :=
  match s.tierReceive 2 frame with
  | (s1, some (src, b)) =>
    if s1.role ≠ 1 ∨ b.length % 16 ≠ 0 ∨ b.isEmpty ∨ 512 < b.length then s1
    else (chunks 16 b).foldl (fun t e => t.remoteEntry src e) s1
  | (s1, none) => s1

def execDirectoryFrame (frame : Bytes) (s : State) : Host.Outcome State Fault Refusal := .next (s.directoryFrame frame)

/-! ### Heartbeats (R483, R484) -/

/-- Live peers as a bitmap, with the manager's own bit. -/
def State.liveBitmap (s : State) : Nat :=
  if s.role = 1 then 1 + ((s.tier.peers.filter (fun p => p.2.live && decide (p.1 ≤ 15) && p.1 ≠ 0)).map (fun p => 2 ^ p.1)).sum else 0

/-- HEARTBEAT_SEND: once per second; a worker's changed bindings and contributions leave with it (R486, R487). -/
def State.heartbeatSend (s : State) : State :=
  let acks := (s.tier.contribHigh.map (fun p => le 1 p.1 ++ zeros 3 ++ le 8 p.2)).flatten
  let body := le 1 s.role ++ le 1 s.time.level ++ zeros 2 ++ padTo 16 Config.openIdentity ++ le 2 s.liveBitmap ++ zeros 2 ++ acks
  let s1 := s.tierSend (leI 6 (s.cfgI 0xE000 3)) 1 0xFF body
  if s.tierOn then (Tab.keys s1.tier.served).foldl (fun t m => t.sendContribs m) (s1.sendDirectory.sendSubscribes) else s1

def execHeartbeatSend (s : State) : Host.Outcome State Fault Refusal := .next s.heartbeatSend

/-- The device finds its member number held by another device: ISOLATED until restart, its ports and radios off the air (R484). -/
def State.isolate (s : State) (m : Nat) (ident : Bytes) : State :=
  if s.tier.isolated then s
  else ((s.airStop.onTier fun t => { t with isolated := true }).raise 246 (le 1 m ++ zeros 3 ++ ident.take 4))

/-- A peer is regained: event 241; a worker sends its whole directory to its manager, a manager drops the REMOTE entries that the
worker replaces, contributions go on from the acknowledged sequence (R483, R486, R487, R489). -/
def State.regained (s : State) (m lostOt : Nat) : State :=
  let s1 := s.raise 241 (le 1 m ++ zeros 3 ++ le 4 (s.power.ot - lostOt))
  let s2 := s1.onTier fun t => { t with contribSent := match t.contribAcked.get? m with
    | some k => t.contribSent.set m k
    | none => t.contribSent.erase m }
  if s.role = 2 ∧ m = 0 then
    ((s2.onTier fun t => { t with managerLostOt := none, lossDays := 0, batchSent := [] }).onTbl fun t => { t with bindChanged := Tab.keys t.dir }).sendDirectory
  else if s.role = 1 then
    (Tab.keys (s2.tbl.dir.filter (fun e => e.1 / 16384 = m && bit e.2.flags 3))).foldl (fun t e => t.onTbl fun x => x.dropDir e) s2
  else s2

/-- The acknowledgements of contributions that a heartbeat carries for this member. -/
def State.takeAcks (s : State) (src : Nat) (b : Bytes) : State :=
  (chunks 12 (b.drop 24)).foldl (fun t a =>
    if a.length = 12 ∧ some (getLE 0 1 a) = t.member then t.onTier fun x => { x with contribAcked := x.contribAcked.set src (getLE 4 8 a) } else t) s

/-- HEARTBEAT_RECEIVE: a heartbeat from an individual address. A worker sends its whole directory to a manager that it hears for the first time or
that counts it live again (R486). -/
def State.heartbeatReceive (s : State) (mac frame : Bytes) : State :=
  match s.tierReceive 1 frame with
  | (s1, none) => s1
  | (s1, some (src, b)) =>
    let ident := slice 4 16 b
    let old := s1.tier.peers.get? src
    let mine := decide (some src = s1.member)
    let conflict := s1.role = 1 && (mine || (match old with
      | some p => p.live && p.identity ≠ ident
      | none => false))
    if b.length < 24 then s1
    else if conflict then s1.raise 242 (le 1 src ++ zeros 3 ++ ident.take 4)
    else
      let p := old.getD {}
      let wasLost := decide (0 < p.lostOt) && !p.live
      let q : Peer := {
        role := getLE 0 1 b, identity := ident, mac := padTo 6 mac, ntLevel := getLE 1 1 b, lastNt := (s.time.nt.sec, s.time.nt.ns)
        lastOt := s.power.ot, live := true, frames := p.frames + (if old.isNone then 1 else 0), silent := 0, bitmap := getLE 20 2 b, lostOt := 0 }
      let s2 := s1.onTier fun t => { t with peers := t.peers.set src q }
      let own := s1.member.getD 16
      let found := old.isNone || (!bit p.bitmap own && bit q.bitmap own)
      let s3 := if wasLost then s2.regained src (p.lostOt - 1) else if found ∧ s.role = 2 ∧ src = 0 then
        (s2.onTbl fun t => { t with bindChanged := Tab.keys t.dir }).sendDirectory else s2
      let s4 := s3.takeAcks src b
      let held := (s4.tier.peers.get? own).map (·.identity)
      if s4.role = 2 ∧ src = 0 ∧ bit (getLE 20 2 b) own ∧ held.isSome ∧ held ≠ some (padTo 16 Config.openIdentity) then
        s4.isolate own (held.getD [])
      else s4

def execHeartbeatReceive (mac frame : Bytes) (s : State) : Host.Outcome State Fault Refusal := .next (s.heartbeatReceive mac frame)

/-- PEER_LOSS: 5 s without a heartbeat of a member; a worker that has never heard its manager since event 1 loses it too. -/
def State.peerLoss (s : State) (m : Nat) : State :=
  let ot := s.power.ot
  let lose := fun (p : Peer) =>
    (s.onTier fun t => { t with
      peers := t.peers.set m { p with live := false, lostOt := ot + 1 }
      managerLostOt := if s.role = 2 ∧ m = 0 then some ot else t.managerLostOt
      batchSent := if m = 0 then [] else t.batchSent }).raise 240 (le 1 m ++ le 1 p.role ++ zeros 2 ++ (padTo 4 p.identity))
  if !s.tierOn then s
  else
    match s.tier.peers.get? m with
    | some p => if p.live ∧ p.lastOt + 5 ≤ ot then lose p else s
    | none => if s.role = 2 ∧ m = 0 ∧ s.tier.startOt + 5 ≤ ot ∧ s.power.stage = .running then lose { role := 1 } else s

def execPeerLoss (m : Nat) (s : State) : Host.Outcome State Fault Refusal := .next (s.peerLoss m)

/-- BUFFER_AGE_DAY: each day of manager loss past buffer_warn_days (R489). -/
def State.bufferAge (s : State) : State :=
  match s.tier.managerLostOt with
  | none => s
  | some t =>
    let days := (s.power.ot - t) / 86400
    if s.tier.lossDays < days then
      let s1 := s.onTier fun x => { x with lossDays := days }
      let held := (s.store.batches.filter (fun b => b.2.complete && !b.2.delivered)).length
      if s.cfgN 0xE000 5 < days then s1.raise 244 (le 2 days ++ zeros 2 ++ le 4 held) else s1
    else s

def execBufferAgeDay (s : State) : Host.Outcome State Fault Refusal := .next s.bufferAge

/-! ### Upload (R397, R488) -/

/-- A worker sends a batch to its manager: oldest first, at most 4 unacknowledged. -/
def State.workerSend (s : State) (n : Nat) : State :=
  let older := s.store.batches.any (fun b => decide (b.1 < n) && b.2.complete && !b.2.delivered && !s.tier.batchSent.contains b.1)
  let due := ((s.store.batches.get? n).map (fun b => b.complete && !b.delivered)).getD false
  if !s.peerLive 0 ∨ older ∨ !due ∨ s.tier.batchSent.contains n ∨ 4 ≤ s.tier.batchSent.length then s
  else
    match s.batchBytes n with
    | none => s
    | some b => (segmentsOf [] n b).foldl (fun t x => t.tierTo 0 3 x) (s.onTier fun t => { t with batchSent := t.batchSent ++ [n] })

def execUploadBatchSend (n : Nat) (s : State) : Host.Outcome State Fault Refusal :=
  .next (if s.role = 2 then s.workerSend n else s.uploadSend n)

/-- BATCH_SEGMENT_FRAME: the manager relays a worker's segment as type 3; it holds at most relay_window batches of a worker. -/
def State.batchSegment (s : State) (frame : Bytes) : State :=
  match s.tierReceive 3 frame with
  | (s1, none) => s1
  | (s1, some (src, b)) =>
    let n := getLE 0 8 b
    let held := s1.tier.relay.getD src []
    if s1.role ≠ 1 ∨ b.length < 17 ∨ (!held.contains n ∧ s1.cfgN 0xE000 4 ≤ held.length) ∨ s1.headendAddr = zeros 16 then s1
    else (s1.onTier fun t => { t with relay := t.relay.set src (if held.contains n then held else held ++ [n]) }).sendUpload
      (le 1 3 ++ le 1 src ++ zeros 2 ++ b)

def execBatchSegmentFrame (frame : Bytes) (s : State) : Host.Outcome State Fault Refusal := .next (s.batchSegment frame)

/-- BATCH_ACK_FRAME: the worker marks the batch delivered. -/
def State.batchAck (s : State) (frame : Bytes) : State :=
  match s.tierReceive 4 frame with
  | (s1, none) => s1
  | (s1, some (src, b)) =>
    if s1.role ≠ 2 ∨ src ≠ 0 ∨ b.length ≠ 8 then s1
    else (s1.onTier fun t => { t with batchSent := t.batchSent.erase (getLE 0 8 b) }).batchDelivered (getLE 0 8 b)

def execBatchAckFrame (frame : Bytes) (s : State) : Host.Outcome State Fault Refusal := .next (s.batchAck frame)

/-- UPLOAD_ACK: of an own batch (R397), or of a relayed one of a member, which gets BATCH_ACK (R488). -/
def State.uploadAck (s : State) (n : Nat) (member : Option Nat) : State :=
  match member with
  | none => if s.sec.uploads.any (·.batch = n) then (s.onSec fun x => { x with uploads := x.uploads.filter (·.batch ≠ n) }).batchDelivered n else s
  | some m =>
    if (s.tier.relay.getD m []).contains n then
      (s.onTier fun t => { t with relay := t.relay.set m ((t.relay.getD m []).erase n) }).tierTo m 4 (le 8 n)
    else s

def execUploadAck (n : Nat) (member : Option Nat) (s : State) : Host.Outcome State Fault Refusal := .next (s.uploadAck n member)

/-- UPLOAD_ACK_TIMEOUT: an own batch (R397); a worker sends a batch without BATCH_ACK to its manager again. -/
def execUploadAckTimeout (n : Nat) (s : State) : Host.Outcome State Fault Refusal :=
  .next (if s.role = 2 then
    (if s.tier.batchSent.contains n then (s.onTier fun t => { t with batchSent := t.batchSent.erase n }).workerSend n else s)
    else s.uploadTimeout n)

/-! ### Notices (R296) -/

/-- The current hop cost of an endpoint on the port it is bound to: on PLC its neighbour entry's or else its route's cost, on RF the cost
of its last frame; 255 without any. -/
def State.boundCost (s : State) (e : DirEntry) (eix : Nat) : Nat :=
  if e.port < 4 then
    match (s.port e.port).neighs.get? e.short with
    | some n => s.hopCost e.port n
    | none => ((s.plc.routes.get? (e.port * 65536 + e.short)).map (·.cost)).getD 255
  else ((s.radio (e.port - 4)).costs.get? eix).getD 255

/-- NOTICE_DECISION: learn_hold_ms after its first sighting, a notice with an EIX binds it or moves its binding, or waits while a rebuild makes
its REPLACE complete with BUSY (R300); one without goes to the host. The bound port's own sighting, where the notice lists one, is its current hop cost. -/
def State.noticeDecision (s : State) (number : Nat) : State :=
  match s.tbl.notices.find? (fun p => p.2.number = number) with
  | none => s
  | some (slot, n) =>
    if !s.openRuns then s
    else if n.eix = noEix then
      if n.raised then s
      else (s.onTbl fun t => { t with notices := t.notices.set slot { n with raised := true } }).raise 161
        (le 2 n.number ++ le 1 n.kind ++ le 1 ((n.sightings.head?.map (·.port)).getD 0xF) ++ le 1 n.sightings.length ++ eix3 n.eix)
    else
      match s.tbl.dir.get? n.eix, n.sightings with
      | some e, g :: gs =>
        let best := gs.foldl (fun b x => if x.cost < b.cost then x else b) g
        let old := ((n.sightings.find? (·.port = e.port)).map (·.cost)).getD (s.boundCost e n.eix)
        let bind := fun (t : State) => (t.writeDir true n.eix (padTo 8 e.eui ++ le 2 e.short ++ le 1 best.port ++ le 1 (setBit e.flags 5 false) ++ zeros 12))
        if s.tbl.rebuild.isSome then s
        else if e.port = 0xF then ((bind s).1).onTbl fun t => t.release slot
        else if best.port ≠ e.port ∧ best.cost + n.margin < old then
          let (s1, st) := bind s
          ((if st = stDone then s1.raise 171 (eix3 n.eix ++ le 1 e.port ++ le 1 best.port ++ le 1 old ++ le 1 best.cost) else s1)).onTbl fun t => t.release slot
        else s.onTbl fun t => t.release slot
      | _, _ => s.onTbl fun t => t.release slot

def execNoticeDecision (number : Nat) (s : State) : Host.Outcome State Fault Refusal := .next (s.noticeDecision number)

/-! ### Commands (R492) -/

def State.tierStatus (s : State) : Bytes :=
  le 1 s.role ++ le 1 (s.member.getD 0xFF) ++ le 1 (b2n s.tier.isolated) ++ zeros 1 ++ le 4 (s.cfgN 0xE000 0) ++
    le 4 ((s.tier.managerLostOt.map (fun t => s.power.ot - t)).getD 0) ++ le 4 s.tier.batchSent.length ++ le 4 s.tier.held.length ++
    le 4 ((s.tier.served.map (fun p => p.2.length)).sum)

def execTierStatus (c : HostCmd) (s : State) : Host.Outcome State Fault Refusal := .next (s.serveQuery 0x0F01 c 0 (fun _ => false) State.tierStatus)

def State.tierPeers (s : State) : Bytes :=
  ((List.range 16).map fun m => match s.tier.peers.get? m with
    | none => zeros 36
    | some p => le 1 (if p.live then 1 else 2) ++ padTo 16 p.identity ++ padTo 6 p.mac ++ le 1 p.ntLevel ++ le 8 p.lastNt.1 ++ le 4 p.frames).flatten

def execTierPeers (c : HostCmd) (s : State) : Host.Outcome State Fault Refusal := .next (s.serveQuery 0x0F02 c 0 (fun _ => false) State.tierPeers)

end Sys2Proof.Machine
end

