-- ==== Sys2Proof/Machine/Panel.lean ====
section
/-! DEFINITION. The door panel driver: images, waveform table and maps, the DC-balance ledger, jobs and frames (R494 to R511). -/

namespace Sys2Proof.Machine
open Sys2Proof

def State.onPanel (s : State) (f : Panel → Panel) : State := { s with panel := f s.panel }

/-- A field of panel-setup (R511). -/
def State.panelN (s : State) (f : Nat) : Nat := s.cfgN 0xD000 f

/-- Work kinds of the panel's ACCEPTED commands; the key is the update number. -/
abbrev workUpdate : Nat := 16
abbrev workSheet : Nat := 17
abbrev workRebalance : Nat := 18

/-! ### Images, tiles and the TABLE stream (R497) -/

def pixelKey (x y : Nat) : Nat := y * 1024 + x

/-- The pixels of a rectangle, row by row. -/
def Rect.pixels (r : Rect) : List Nat := (List.range r.h).flatMap fun j => (List.range r.w).map fun i => pixelKey (r.x + i) (r.y + j)

def Rect.overlaps (a b : Rect) : Bool :=
  decide (a.x < b.x + b.w) && decide (b.x < a.x + a.w) && decide (a.y < b.y + b.h) && decide (b.y < a.y + a.h)

def Rect.has (r : Rect) (k : Nat) : Bool :=
  decide (r.x ≤ k % 1024) && decide (k % 1024 < r.x + r.w) && decide (r.y ≤ k / 1024) && decide (k / 1024 < r.y + r.h)

def rectOf (req : Bytes) : Rect := { x := getLE 0 2 req, y := getLE 2 2 req, w := getLE 4 2 req, h := getLE 6 2 req }

/-- A rectangle outside the panel, or with an odd x or w (R512). -/
def State.rectBad (s : State) (r : Rect) : Bool :=
  decide (s.panelN 1 < r.x + r.w) || decide (s.panelN 2 < r.y + r.h) || r.x % 2 = 1 || r.w % 2 = 1

def State.wholePanel (s : State) : Rect := { x := 0, y := 0, w := s.panelN 1, h := s.panelN 2 }

/-- A level of a sparse image; an unlisted pixel is white. -/
def levelAt (m : Tab Nat) (k : Nat) : Nat := m.getD k 15
def setPixel (m : Tab Nat) (k v : Nat) : Tab Nat := if v = 15 then m.erase k else m.set k v
def ledgerAt (m : Tab Int) (k : Nat) : Int := m.getD k 0
def setLedger (m : Tab Int) (k : Nat) (v : Int) : Tab Int := if v = 0 then m.erase k else m.set k v

/-- The number of the 16 × 16 tile of a pixel, and the pixels of a tile in order. -/
def tileOf (k : Nat) : Nat := k / 1024 / 16 * 64 + k % 1024 / 16
def tilePixels (t : Nat) : List Nat := Rect.pixels { x := t % 64 * 16, y := t / 64 * 16, w := 16, h := 16 }

/-- Levels packed 4 bits per pixel, the low nibble first. -/
def packNibbles : List Nat → Bytes
  | a :: b :: t => BitVec.ofNat 8 (a % 16 + 16 * (b % 16)) :: packNibbles t
  | [a] => [BitVec.ofNat 8 (a % 16)]
  | [] => []

def unpackNibbles (b : Bytes) : List Nat := b.flatMap fun x => [x.toNat % 16, x.toNat / 16]

/-- Regions of the table state stream that the driver writes (log 18). -/
abbrev regTarget : Nat := 16
abbrev regLedger : Nat := 17
abbrev regWave : Nat := 18
abbrev regMap : Nat := 19
abbrev regDelta : Nat := 20

def State.targetTile (s : State) (t : Nat) : Bytes := tablePacket regTarget t (some (packNibbles ((tilePixels t).map (levelAt s.panel.target))))
def State.ledgerTile (s : State) (t : Nat) : Bytes := tablePacket regLedger t (some ((tilePixels t).flatMap fun k => leI 1 (ledgerAt s.panel.ledger k)))

/-- Commit the ledger tiles that changed since their last commit (R503). -/
def State.commitLedger (s : State) : State :=
  (s.panel.dirty.foldl (fun t d => t.send 11 68 (s.ledgerTile d)) s).onPanel fun p => { p with dirty := [] }

/-- A table or map goes to the TABLE stream in parts of 32,768 bytes; a shorter part is the last. -/
def State.commitParts (s : State) (region base : Nat) (b : Bytes) : State :=
  (List.range (b.length / 32768 + 1)).foldl (fun t i => t.send 11 68 (tablePacket region (base + i) (some (slice (32768 * i) 32768 b)))) s

/-- The images of a region as the TABLE stream holds them: the newest record of each position. -/
def State.storedImages (s : State) (region : Nat) : Tab Bytes :=
  (s.streamRecs 8).foldl (fun m r => if getLE 2 1 r.data = region then
    (if getLE 3 1 r.data = 1 then m.set (getLE 4 4 r.data) (r.data.drop 8) else m.erase (getLE 4 4 r.data)) else m) []

/-- Put parts together again, up to the first short one. -/
def joinParts (m : Tab Bytes) (base : Nat) : Nat → Nat → Option Bytes
  | 0, _ => none
  | n + 1, i =>
    match m.get? (base + i) with
    | none => none
    | some b => if b.length < 32768 then some b else (joinParts m base n (i + 1)).map (b ++ ·)

/-! ### The waveform table, bands and maps (R499 to R502) -/

def thresholds (t : Bytes) : List Int := (List.range 7).map fun i => getI (12 + i) 1 t

/-- Offset and frames of an entry. -/
def waveEntry (t : Bytes) (mode band : Nat) : Nat × Nat := let o := 20 + 8 * (mode * 8 + band); (getLE o 4 t, getLE (o + 4) 1 t)

/-- The frame data of an entry. -/
def waveOf (t : Bytes) (mode band : Nat) : Bytes := slice (waveEntry t mode band).1 (64 * (waveEntry t mode band).2) t

/-- The code of frame k of frame data for the transition with index i = from · 16 + to. -/
def waveCode (w : Bytes) (k i : Nat) : Nat := getLE (64 * k + i / 4) 1 w / 4 ^ (i % 4) % 4

def tableBad (t : Bytes) : Bool :=
  decide (t.length < 280) || t.take 4 ≠ ascii "SLWF" || getLE 4 2 t ≠ 1 || !zeroAt 6 2 t || !zeroAt 19 1 t || !edgeOk t ||
  (List.range 6).any (fun i => decide (getI (13 + i) 1 t ≤ getI (12 + i) 1 t)) ||
  (List.range 32).any fun i =>
    let e := waveEntry t (i / 8) (i % 8)
    e.2 = 0 || decide (t.length < e.1 + 64 * e.2) || !zeroAt (20 + 8 * i + 5) 3 t

def State.mapBad (s : State) (band : Nat) (m : Bytes) : Bool :=
  m.length ≠ 16 + s.panelN 1 * s.panelN 2 / 2 || m.take 4 ≠ ascii "SLUM" || getLE 4 1 m ≠ 1 || getLE 5 1 m ≠ band || decide (7 < band) ||
  getLE 6 2 m ≠ s.panelN 1 || getLE 8 2 m ≠ s.panelN 2 || !zeroAt 10 2 m || !edgeOk m

/-- The band of a temperature: the number of thresholds at or below it (R500). -/
def Panel.bandOf (p : Panel) (temp : Int) : Nat :=
  match p.table with
  | some t => ((thresholds t).filter fun v => decide (v ≤ temp)).length
  | none => p.band

/-- Take the band of the latest temperature; a change raises event 233. -/
def State.reband (s : State) : State :=
  let b := s.panel.bandOf s.panel.temp
  if b = s.panel.band then s
  else (s.onPanel fun p => { p with band := b }).raise 233 (le 1 s.panel.band ++ le 1 b ++ leI 1 s.panel.temp)

/-- The trim of a pixel in a band: a signed nibble of the band's map (R502). -/
def State.trimOf (s : State) (band k : Nat) : Int :=
  match s.panel.maps.get? band with
  | none => 0
  | some m =>
    let i := k / 1024 * s.panelN 1 + k % 1024
    let n := getLE (12 + i / 2) 1 m / 16 ^ (i % 2) % 16
    if n < 8 then (n : Int) else (n : Int) - 16

/-- The frame data of a mode in a band, and the number of its frames. -/
def Panel.waveFor (p : Panel) (mode band : Nat) : Bytes := (p.table.map fun t => waveOf t mode band).getD []
def Panel.framesOf (p : Panel) (mode band : Nat) : Nat := (p.table.map fun t => (waveEntry t mode band).2).getD 0

/-! ### Rails (R496) -/

/-- Whether the driver draws: enabled, and no power-fail warning (R496, R508). -/
def State.panelUp (s : State) : Bool := s.openRuns && s.panelN 0 = 1 && !s.power.pfw

/-- The rails are brought up before the first frame of a scan. -/
def State.panelWake (s : State) : State :=
  if s.panelUp ∧ s.panel.rails = .off ∧ !(s.panel.active.isEmpty && s.panel.queue.isEmpty && s.panel.blinks.isEmpty) then
    s.onPanel (·.setRails .waking)
  else s

/-! ### Jobs (R505, R506, R509, R510) -/

/-- Queue a job behind those that wait; it takes the next update number. -/
def State.queueJob (s : State) (kind : JobKind) (rects : List Rect) (mode : Nat) (tiles : List Bytes) : State :=
  let n := s.panel.nextNumber
  let j : PanelJob := { number := n, kind := kind, rects := rects, mode := mode, tiles := tiles }
  s.onPanel fun p => { p with queue := p.queue ++ [j], nextNumber := (n + 1) % 65536 }

/-- Whether a job holds every other update back: a recovery sequence before its step 3 (R509). -/
def PanelJob.blocks (j : PanelJob) : Bool :=
  match j.kind with
  | .rebalance => decide (j.stage < 2)
  | .recovery _ _ => decide (j.stage < 2)
  | _ => false

def PanelJob.meets (a b : PanelJob) : Bool := a.rects.any fun r => b.rects.any r.overlaps

/-- Whether the target tiles of a job are still on their way to the TABLE stream (R497). -/
def State.tilesPending (s : State) (j : PanelJob) : Bool :=
  j.tiles.any fun t => (s.queue 68).pkts.any (·.payload == t) || s.fabric.waiters.any (fun w => w.queue = 68 && w.payload == some t)

/-- The pixels that a mode drives in rectangles, with from · 16 + to (R505). `level` is what a pixel is driven to, `all` says that every
pixel is driven. -/
def State.drives (s : State) (rects : List Rect) (all : Bool) (level : Nat → Nat) : Tab Nat :=
  (rects.flatMap Rect.pixels).foldl (fun d k =>
    let f := levelAt s.panel.current k
    let t := level k
    if all || f ≠ t then d.set k (f * 16 + t) else d) []

/-- The trimmed target of a pixel in a band (R502). -/
def State.trimmed (s : State) (band k : Nat) : Nat := (clampI 0 15 (Int.ofNat (levelAt s.panel.target k) + s.trimOf band k)).toNat

/-- The contact sheet: 16 vertical bars above an 8 × 8-pixel checkerboard (R510). -/
def State.sheetLevel (s : State) (k : Nat) : Nat :=
  let x := k % 1024
  let y := k / 1024
  if y < s.panelN 2 / 2 then x / (s.panelN 1 / 16)
  else if (x / 8 + y / 8) % 2 = 0 then 0 else 15

/-- The drive of a job's stage under the band latched. -/
def State.stageDrive (s : State) (j : PanelJob) (band : Nat) : Tab Nat :=
  match j.kind with
  | .sheet _ => if j.stage = 0 then s.drives j.rects true (fun _ => 15) else s.drives j.rects true s.sheetLevel
  | .rebalance | .recovery _ _ =>
    if j.stage = 0 then
      (j.rects.flatMap Rect.pixels).foldl (fun d k => if ledgerAt s.panel.ledger k = 0 then d else d.set k (ledgerAt s.panel.ledger k + 128).toNat) []
    else if j.stage = 1 then s.drives j.rects true (fun _ => 15)
    else s.drives j.rects true (levelAt s.panel.target)
  | _ =>
    match j.mode with
    | 0 => s.drives j.rects true (fun _ => 15)
    | 1 => s.drives j.rects true (s.trimmed band)
    | 2 => s.drives j.rects false (s.trimmed band)
    | _ => s.drives j.rects false (fun k => if levelAt s.panel.target k < 8 then 0 else 15)

/-- The waveform mode of a job's stage. -/
def PanelJob.waveMode (j : PanelJob) : Nat :=
  match j.kind with
  | .sheet _ => j.stage
  | .rebalance | .recovery _ _ => j.stage - 1
  | _ => j.mode

/-- Whether a stage runs the recovery waveform of R509 step 1. -/
def PanelJob.isLedgerStage (j : PanelJob) : Bool := j.blocks && j.stage = 0

/-- Largest |value| that a drive of step 1 holds. -/
def maxAbsDrive (d : Tab Nat) : Nat := (d.map fun p => (Int.ofNat p.2 - 128).natAbs).foldl max 0

/-- A stage of a job begins: the band is latched at a job's first frame (R501). -/
def State.beginStage (s : State) (j : PanelJob) : PanelJob :=
  let band := j.band.getD s.panel.band
  let d := s.stageDrive j band
  let n := if j.isLedgerStage then maxAbsDrive d else s.panel.framesOf j.waveMode band
  { j with band := some band, drive := d, frame := 0, frames := n, wave := s.panel.waveFor j.waveMode band }

/-- Event 236 at the start of a recovery sequence (R509). -/
def State.recoveryEvent (s : State) (j : PanelJob) : State :=
  let d : Bytes := le 2 j.frames ++ le 4 j.drive.length
  match j.kind with
  | .recovery cause lost => s.raise 236 (le 1 cause ++ le 1 (b2n lost) ++ d)
  | .rebalance => s.raise 236 (le 1 3 ++ le 1 0 ++ d)
  | _ => s

/-- A queued job becomes active. A sequence whose region has no value to return starts with its INIT. -/
def State.startJob (s : State) (j : PanelJob) : State :=
  let j1 := s.beginStage j
  let s1 := s.recoveryEvent j1
  let j2 := if j1.isLedgerStage && j1.frames = 0 then s1.beginStage { j1 with stage := 1 } else j1
  s1.onPanel fun p => { p with active := p.active ++ [j2], queue := p.queue.filter (·.number ≠ j.number) }

/-- Start the queued jobs that may start at this boundary (R498, R506, R509); `earlier` are those that stay in the queue before. -/
def State.startJobs : List PanelJob → List PanelJob → State → State
  | [], _, s => s
  | j :: rest, earlier, s =>
    let p := s.panel
    let free := decide (p.active.length < 4) && !p.active.any PanelJob.blocks && !p.active.any j.meets && !earlier.any j.meets &&
      !p.blinks.vals.any (fun b => j.rects.any b.rect.overlaps) && !s.tilesPending j
    if free then State.startJobs rest earlier (s.startJob j) else State.startJobs rest (earlier ++ [j]) s

/-- What one frame of codes does to the ledger (R503): pixels with code 1 lose 1, with code 2 gain 1, saturating at ±127. -/
def State.scanCodes (s : State) (codes : List (Nat × Nat)) : State × List Nat :=
  codes.foldl (fun (acc : State × List Nat) (kc : Nat × Nat) =>
    let v := ledgerAt acc.1.panel.ledger kc.1
    let w : Int := if kc.2 = 1 then v - 1 else if kc.2 = 2 then v + 1 else v
    let c := clampI (-127) 127 w
    if kc.2 = 1 ∨ kc.2 = 2 then
      (acc.1.onPanel fun p => { p with
        ledger := setLedger p.ledger kc.1 c
        dirty := if c = v ∨ p.dirty.contains (tileOf kc.1) then p.dirty else p.dirty ++ [tileOf kc.1] },
       if c = w then acc.2 else acc.2 ++ [kc.1])
    else acc) (s, [])

/-- The codes of a frame of a waveform. -/
def driveCodes (w : Bytes) (frame : Nat) (d : Tab Nat) : List (Nat × Nat) := d.map fun x => (x.1, waveCode w frame x.2)

/-- The codes of a frame of a job. In step 1 of R509 a negative pixel takes white and a positive one black while k < |v|. -/
def PanelJob.codes (j : PanelJob) : List (Nat × Nat) :=
  if j.isLedgerStage then
    j.drive.map fun x => (x.1, if (Int.ofNat x.2 - 128).natAbs ≤ j.frame then 0 else if x.2 < 128 then 2 else 1)
  else driveCodes j.wave j.frame j.drive

/-- The current image takes the driven levels. -/
def State.takeLevels (s : State) (d : Tab Nat) : State :=
  s.onPanel fun p => { p with current := d.foldl (fun m x => setPixel m x.1 (x.2 % 16)) p.current }

/-- The bounding rectangle of pixels. -/
def boundingRect (ks : List Nat) : Rect :=
  let xs := ks.map (· % 1024)
  let ys := ks.map (· / 1024)
  let x0 := xs.foldl min 1024
  let y0 := ys.foldl min 1024
  { x := x0, y := y0, w := xs.foldl max 0 + 1 - x0, h := ys.foldl max 0 + 1 - y0 }

/-- Rectangles start and end at even x (R512). -/
def Rect.even (r : Rect) : Rect := let x := r.x / 2 * 2; { r with x := x, w := (r.x + r.w + 1) / 2 * 2 - x }

/-- Whether a job is an update that R501 and R504 look at. -/
def PanelJob.isUpdate (j : PanelJob) : Bool :=
  match j.kind with
  | .update | .settle | .redraw => true
  | _ => false

/-- R501: an update whose band differs by two or more from the latest reading's queues a settling refresh. -/
def State.settleCheck (s : State) (j : PanelJob) : State :=
  let b := j.band.getD 0
  if j.isUpdate ∧ j.kind ≠ .settle ∧ (b + 2 ≤ s.panel.band ∨ s.panel.band + 2 ≤ b) then
    (s.queueJob .settle j.rects 1 []).raise 234 (le 2 j.number ++ le 1 b ++ le 1 s.panel.band)
  else s

/-- R504: pixels at dc_limit queue a rebalance of their bounding rectangle. -/
def State.balanceCheck (s : State) (j : PanelJob) : State :=
  let ks := (s.panel.ledger.filter fun p => j.rects.any (fun r => r.has p.1) && decide (s.panelN 13 ≤ p.2.natAbs)).map (·.1)
  if j.isUpdate ∧ !ks.isEmpty then s.queueJob .rebalance [(boundingRect ks).even] 0 [] else s

/-- A job ends: the ledger is committed, its command completes, what follows it is queued. -/
def State.endJob (s : State) (j : PanelJob) : State :=
  let s1 := s.onPanel fun p => { p with active := p.active.filter (·.number ≠ j.number) }
  let s2 := if j.saturated.isEmpty then s1 else s1.raise 235 (le 2 j.number ++ zeros 2 ++ le 4 j.saturated.length)
  let s3 := ((s2.commitLedger).settleCheck j).balanceCheck j
  match j.kind with
  | .update => s3.finish workUpdate j.number stDone []
  | .rebalance => s3.finish workRebalance j.number stDone []
  | .recovery _ _ => s3.onPanel fun p => { p with interrupted := [], faulted := [] }
  | .sheet hold =>
    let s4 := s3.finish workSheet j.number stDone []
    if hold = 0 then s4 else s4.onPanel fun p => { p with sheetHold := some (s.power.ot, hold) }
  | _ => s3

/-- One frame of a job, and the end of its stage or of the job after its last frame. -/
def State.jobFrame (s : State) (number : Nat) : State :=
  match s.panel.active.find? (·.number = number) with
  | none => s
  | some j =>
    let (s1, sat) := s.scanCodes j.codes
    let j1 := { j with frame := j.frame + 1, saturated := (j.saturated ++ sat).eraseDups }
    let put (t : State) (x : PanelJob) : State := t.onPanel fun p => { p with active := p.active.map fun a => if a.number = number then x else a }
    if j1.frame < j1.frames then put s1 j1
    else
      let s2 := if j1.isLedgerStage then s1 else s1.takeLevels j1.drive
      let last := match j1.kind with
        | .sheet _ => 1
        | .rebalance | .recovery _ _ => 2
        | _ => 0
      if j1.stage < last then put s2 (s2.beginStage { j1 with stage := j1.stage + 1 })
      else s2.endJob j1

/-! ### Blink regions (R507) -/

/-- A toggle of a blink region starts: the pixels that do not show its next level are driven. -/
def State.startToggle (s : State) (i : Nat) (b : Blink) : State :=
  let lv := if b.showB then b.a else b.b
  let b1 : Blink := { b with
    showB := !b.showB
    toggling := true
    count := 0
    frame := 0
    band := s.panel.band
    frames := s.panel.framesOf 3 s.panel.band
    wave := s.panel.waveFor 3 s.panel.band
    drive := s.drives [b.rect] false (fun _ => lv) }
  s.onPanel fun p => { p with blinks := p.blinks.set i b1 }

/-- A region that is to stop goes, and a FULL update of it to the target image is queued. -/
def State.dropBlink (s : State) (i : Nat) (b : Blink) : State :=
  (s.onPanel fun p => { p with blinks := p.blinks.erase i }).queueJob .redraw [b.rect] 1 []

/-- One frame of a blink region. -/
def State.blinkFrame (s : State) (i : Nat) : State :=
  match s.panel.blinks.get? i with
  | none => s
  | some b =>
    if !b.toggling then s.onPanel fun p => { p with blinks := p.blinks.set i { b with count := b.count + 1 } }
    else
      let (s1, _) := s.scanCodes (driveCodes b.wave b.frame b.drive)
      if b.frame + 1 < b.frames then
        s1.onPanel fun p => { p with blinks := p.blinks.set i { b with frame := b.frame + 1, count := b.count + 1 } }
      else
        let s2 := (s1.takeLevels b.drive).onPanel fun p => { p with
          blinks := p.blinks.set i { b with toggling := false, drive := [], count := b.count + 1 } }
        let s3 := s2.commitLedger
        if b.stopping then s3.dropBlink i b else s3

/-- Start the toggles that are due. -/
def State.startToggles (s : State) : State :=
  if s.panel.table.isNone then s
  else s.panel.blinks.foldl (fun t (x : Nat × Blink) =>
    let b := x.2
    if !b.toggling && (b.frames = 0 || decide (b.half ≤ b.count)) then t.startToggle x.1 b else t) s

/-! ### Frames (R498, R511) -/

/-- Whether no pixel is in transition. -/
def Panel.settled (p : Panel) : Bool := p.active.isEmpty && !p.blinks.vals.any (·.toggling)

/-- The driver's safe point: a generation that waits is adopted; one that sets enable shows a failed panel enabled again (R496, R511). -/
def State.panelSafePoint (s : State) : State :=
  if s.panel.settled ∧ !s.power.pfw ∧ s.cfg.adopting.contains 13 then
    let s1 := s.adopt 13
    if s1.panelN 0 = 1 then
      (if s.panelN 0 = 0 ∧ s1.panel.rails = .failed then s1.onPanel fun p => { p.setRails .off with attempts := 0 } else s1)
    else s1.onPanel fun p => { p.setRails (if p.rails = .failed then .failed else .off) with scanning := false }
  else s

/-- A frame boundary, and the frame scanned after it. -/
def State.panelFrame (s : State) : State :=
  if !s.panelUp ∨ s.panel.rails ≠ .on then s.panelSafePoint
  else
    let s1 := s.panelSafePoint
    if !s1.panelUp ∨ s1.panel.rails ≠ .on then s1
    else
      let waits := s1.cfg.adopting.contains 13
      let s2 := if waits ∨ s1.panel.table.isNone then s1 else (State.startJobs s1.panel.queue [] s1).startToggles
      let drawing := !s2.panel.active.isEmpty || !s2.panel.blinks.isEmpty
      let s3 := s2.panel.active.foldl (fun t j => t.jobFrame j.number) s2
      let s4 := (Tab.keys s2.panel.blinks).foldl (fun t i => t.blinkFrame i) s3
      s4.onPanel fun p => { p with scanning := drawing, lastFrameOt := if s2.panel.scanning || drawing then s.power.ot else p.lastFrameOt }

end Sys2Proof.Machine
end

