-- ==== Sys2Proof/Machine/PanelRows.lean ====
section
/-! DEFINITION. Rows of the door panel: frames, rails, temperature, power loss, recovery and commands 0x0E01 to 0x0E08 (R496 to R513). -/

namespace Sys2Proof.Machine
open Sys2Proof

def execPanelFrame (s : State) : Host.Outcome State Fault Refusal := .next s.panelFrame.panelWake

/-! ### Rails -/

/-- PNL_PWRGOOD rose and VCOM has settled (R496). -/
def State.railUp (s : State) : State :=
  if s.panelUp ∧ s.panel.rails = .waking then s.onPanel fun p => { p.setRails .on with attempts := 0, lastFrameOt := s.power.ot } else s

def execPanelRailUp (s : State) : Host.Outcome State Fault Refusal := .next s.railUp

/-- Every update completes with INTERNAL_FAULT: those of the host and the contact sheet end, the recovery sequence stays queued. -/
def State.failUpdates (s : State) : State :=
  let js := s.panel.active ++ s.panel.queue
  let keep : List PanelJob := (js.filter fun j => match j.kind with
    | .recovery _ _ => true
    | _ => false).map fun j => { j with stage := 0, band := none, frame := 0, drive := [] }
  (js.foldl (fun t j => match j.kind with
    | .update => t.finish workUpdate j.number stInternalFault []
    | .rebalance => t.finish workRebalance j.number stInternalFault []
    | .sheet _ => t.finish workSheet j.number stInternalFault []
    | _ => t) s).onPanel fun p => { p with active := [], queue := keep }

/-- The rails did not come up: event 232, a retry after 1 s, up to three attempts (R496). -/
def State.railTimeout (s : State) : State :=
  if !s.panelUp ∨ s.panel.rails ≠ .waking then s
  else
    let n := s.panel.attempts + 1
    let s1 := (s.onPanel fun p => { p.setRails (if n < 3 then .retry else .failed) with attempts := n }).raise 232 (le 1 1 ++ le 1 n)
    if n < 3 then s1 else s1.failUpdates

def execPwrgoodTimeout (s : State) : Host.Outcome State Fault Refusal := .next s.railTimeout

def execPanelRailRetry (s : State) : Host.Outcome State Fault Refusal :=
  .next (if s.panelUp && s.panel.rails = .retry then s.onPanel (·.setRails .waking) else s)

/-- rail_hold_ms after the last frame of a scan the rails come down (R496). -/
def State.railHold (s : State) : State :=
  let p := s.panel
  if p.rails = .on ∧ !p.scanning ∧ p.active.isEmpty ∧ p.queue.isEmpty ∧ p.blinks.isEmpty ∧
      p.lastFrameOt * 1000 + s.panelN 12 < (s.power.ot + 1) * 1000 then
    s.onPanel (·.setRails .off)
  else s

def execRailHoldExpiry (s : State) : Host.Outcome State Fault Refusal := .next s.railHold

/-! ### Updates that are cut short (R508, R509) -/

/-- The records of the updates that are active, of blink regions, and of recovery sequences that have not ended. -/
def Panel.cutShort (p : Panel) : List (Rect × Nat × Nat) :=
  let waiting := p.queue.filter fun j => match j.kind with
    | .recovery _ _ => true
    | _ => false
  (p.active ++ waiting).flatMap (fun j => j.rects.map fun r => (r, j.mode, j.frame)) ++ p.blinks.vals.map fun b => (b.rect, 3, b.frame)

/-- Each update cut short raises event 238. -/
def State.abortEvents (s : State) (cause : Nat) : State :=
  s.panel.active.foldl (fun t j => t.raise 238 (le 2 j.number ++ le 1 cause ++ le 1 j.frame)) s

/-- Step 3 of R422: the records of the active updates and the delta sequence go to the always-on island, the dirty ledger tiles and
the delta record to the storage manager; the rails are down (R508). -/
def State.panelPowerFail (s : State) : State :=
  let cut := s.panel.cutShort
  let s0 := s.abortEvents 1
  let s1 := if cut.isEmpty then s0 else
    let d := s0.panel.delta + 1
    let t1 := s0.panel.dirty.foldl (fun t i => t.storeRecord 8 0 none (Packet.body { producer := 11, seq := 0, cells := 0, payload := s0.ledgerTile i })) s0
    (t1.storeRecord 8 0 none ((tablePacket regDelta d (some [])).take 8)).onPanel fun p => { p with dirty := [], interrupted := cut, delta := d }
  s1.onPanel fun p => { p.setRails .off with scanning := false }

/-- PNL_PWRGOOD is lost during a scan: the same in DRAM, event 232 with cause 2, and a recovery as soon as the rails are up (R508). -/
def State.pwrgoodLost (s : State) : State :=
  if s.panel.rails ≠ .on ∨ !s.panel.scanning then s
  else
    let cut := s.panel.cutShort
    let s1 := (s.abortEvents 2).raise 232 (le 1 2 ++ le 1 s.panel.attempts)
    let ends := s1.panel.active.foldl (fun t j => match j.kind with
      | .update => t.finish workUpdate j.number stInternalFault []
      | .rebalance => t.finish workRebalance j.number stInternalFault []
      | .sheet _ => t.finish workSheet j.number stInternalFault []
      | _ => t) s1
    let n := s.panel.nextNumber
    let rec0 : PanelJob := { number := n, kind := .recovery 2 false, rects := cut.map (·.1), mode := 0 }
    ((ends.commitLedger).onPanel fun p => { p.setRails .off with
      faulted := cut
      active := []
      blinks := []
      scanning := false
      nextNumber := if cut.isEmpty then n else (n + 1) % 65536
      queue := if cut.isEmpty then p.queue else rec0 :: p.queue.filter fun j => match j.kind with
        | .recovery _ _ => false
        | _ => true }).panelWake

def execPwrgoodLost (s : State) : Host.Outcome State Fault Refusal := .next s.pwrgoodLost

/-- A tile image back in the pixels of a sparse image. -/
def spreadTile (t : Nat) (vs : List Nat) (m : Tab Nat) : Tab Nat := ((tilePixels t).zip vs).foldl (fun a p => setPixel a p.1 p.2) m
def spreadLedger (t : Nat) (b : Bytes) (m : Tab Int) : Tab Int := ((tilePixels t).zip b).foldl (fun a p => setLedger a p.1 (toSigned 1 p.2.toNat)) m

/-- After event 1 the driver loads the table, the maps, the ledger and the displayed image from the TABLE stream and queues the
recovery of what was cut short (R509). -/
def State.panelStart (s : State) : State :=
  let waves := s.storedImages regWave
  let maps := s.storedImages regMap
  let target := (s.storedImages regTarget).foldl (fun m x => spreadTile x.1 (unpackNibbles x.2) m) []
  let ledger := (s.storedImages regLedger).foldl (fun m x => spreadLedger x.1 x.2 m) []
  let cut := s.panel.interrupted
  let lost := !cut.isEmpty && !(s.storedImages regDelta).has s.panel.delta
  let tiles := (cut.flatMap fun c => c.1.pixels.map tileOf).eraseDups
  let ledger1 := if lost then ledger.filter fun p => !tiles.contains (tileOf p.1) else ledger
  let p0 : Panel := {
    interrupted := cut
    delta := s.panel.delta
    target := target
    current := target
    ledger := ledger1
    dirty := if lost then tiles else []
    table := joinParts waves 0 65536 0
    maps := (List.range 8).foldl (fun m b => match joinParts maps (256 * b) 64 0 with
      | some x => if s.mapBad b x then m else m.set b x
      | none => m) [] }
  let s1 := s.onPanel fun _ => p0
  let s2 := if cut.isEmpty then s1 else s1.queueJob (.recovery 1 lost) (cut.map (·.1)) 0 []
  s2.panelWake

/-! ### Temperature (R500) -/

def State.panelTemperature (s : State) (reading : Option Int) : State :=
  if !s.openRuns ∨ s.panelN 0 = 0 then s
  else
    let pkg := s.power.packageCentiC / 100 - s.cfgI 0xD000 7
    if s.panelN 4 = 1 then (s.onPanel fun p => { p with temp := pkg }).reband
    else
      match reading with
      | some t =>
        let s1 := s.onPanel fun p => { p with temp := t, packageSource := false, failedReads := 0 }
        (if s.panel.packageSource then s1.raise 239 (le 1 0 ++ zeros 3 ++ le 4 s.panel.failedReads) else s1).reband
      | none =>
        let n := s.panel.failedReads + 1
        let s1 := s.onPanel fun p => { p with failedReads := n }
        if s.panel.packageSource then (s1.onPanel fun p => { p with temp := pkg }).reband
        else if n < 3 then s1
        else ((s1.onPanel fun p => { p with packageSource := true, temp := pkg }).raise 239 (le 1 1 ++ zeros 3 ++ le 4 n)).reband

def execPanelTemperature (reading : Option Int) (s : State) : Host.Outcome State Fault Refusal := .next (s.panelTemperature reading)

/-- hold_s after the contact sheet a FULL update to the displayed image follows (R510). -/
def State.sheetHoldEnd (s : State) : State :=
  match s.panel.sheetHold with
  | some (t, h) =>
    if s.openRuns ∧ t + h ≤ s.power.ot then
      ((s.onPanel fun p => { p with sheetHold := none }).queueJob .redraw [s.wholePanel] 1 []).panelWake
    else s
  | none => s

def execContactSheetHold (s : State) : Host.Outcome State Fault Refusal := .next s.sheetHoldEnd

/-! ### Commands (R512) -/

/-- While enable is 0 every command but 0x0E01 and 0x0E04 completes with DENIED_AUTH. -/
def State.panelDenied (s : State) : Bool × Nat := (s.panelN 0 = 0, stDeniedAuth)

/-- Largest |value| of the ledger. -/
def Panel.maxLedger (p : Panel) : Nat := (p.ledger.map fun x => x.2.natAbs).foldl max 0

def State.panelStatusData (s : State) : Bytes :=
  let p := s.panel
  le 1 (s.panelN 0) ++ le 1 p.rails.code ++ le 1 p.attempts ++ le 1 p.band ++ leI 1 p.temp ++
  le 1 (if s.panelN 4 = 1 || p.packageSource then 1 else 0) ++ le 4 ((p.table.map (getLE 8 4)).getD 0) ++
  le 1 ((Tab.keys p.maps).map (2 ^ ·)).sum ++ le 1 p.active.length ++ le 1 p.queue.length ++ le 1 p.blinks.length ++ le 1 (b2n p.scanning) ++
  le 1 p.maxLedger

def execPanelStatus (c : HostCmd) (s : State) : Host.Outcome State Fault Refusal :=
  .next (s.serveQuery 0x0E01 c 0 (fun _ => false) State.panelStatusData)

def execPanelWrite (c : HostCmd) (s : State) : Host.Outcome State Fault Refusal :=
  let r := rectOf c.req
  .next (s.serve 0x0E02 c
    (fun t => [t.panelDenied, (c.req.length ≠ 8 + r.w * r.h / 2 || decide (65536 < r.w * r.h / 2), stBadLength), badField (t.rectBad r)])
    (fun t => (t.onPanel fun p => { p with
      staging := (r.pixels.zip (unpackNibbles (c.req.drop 8))).foldl (fun m x => setPixel m x.1 x.2) p.staging }, .done [])))

/-- What turns an update away (R499, R506, R496). -/
def State.updateChecks (s : State) (r : Rect) : List (Bool × Nat) :=
  [s.panelDenied, badField (s.rectBad r), (s.panel.table.isNone, stNotFound), (s.panel.rails = .failed, stInternalFault),
   (decide (16 ≤ s.panel.queue.length) || s.panel.blinks.vals.any (fun b => b.rect.overlaps r), stBusy)]

/-- The region goes from the staging image to the target image, its target tiles to the TABLE stream, the update to the queue (R497). -/
def State.panelUpdate (s : State) (c : HostCmd) (r : Rect) (mode : Nat) : State × Reply :=
  let s1 := s.onPanel fun p => { p with target := r.pixels.foldl (fun m k => setPixel m k (levelAt p.staging k)) p.target }
  let tiles := ((r.pixels.map tileOf).eraseDups).map s1.targetTile
  let s2 := tiles.foldl (fun t b => t.send 11 68 b) s1
  let n := s2.panel.nextNumber
  (((s2.queueJob .update [r] mode tiles).defer workUpdate n 0x0E03 c).panelWake, .acceptedWith (le 2 n))

def execPanelUpdate (c : HostCmd) (s : State) : Host.Outcome State Fault Refusal :=
  let r := rectOf c.req
  let mode := getLE 8 1 c.req
  .next (s.serve 0x0E03 c (fun t => lenIs c 12 :: badField (decide (3 < mode) || !zeroAt 9 3 c.req) :: t.updateChecks r)
    (fun t => t.panelUpdate c r mode))

/-- The last chunk has arrived: the table or map is checked as a whole (R499, R502). -/
def State.panelLoaded (s : State) (kind band : Nat) (b : Bytes) : State × Reply :=
  let s1 := s.onPanel fun p => { p with loading := none }
  if kind = 0 then
    if tableBad b then (s1, .status stBadField [])
    else
      let s2 := (s1.onPanel fun p => { p with table := some b }).commitParts regWave 0 b
      ((s2.raise 237 (le 1 0 ++ le 1 0 ++ le 2 stDone ++ le 4 (getLE 8 4 b))).reband, .done [])
  else if s.mapBad band b then (s1, .status stBadField [])
  else
    let s2 := (s1.onPanel fun p => { p with maps := p.maps.set band b }).commitParts regMap (256 * band) b
    (s2.raise 237 (le 1 1 ++ le 1 band ++ le 2 stDone ++ le 4 0), .done [])

/-- A chunk of a table or map: chunks come in order from offset 0. -/
def State.panelLoad (s : State) (req : Bytes) : State × Reply :=
  let kind := getLE 0 1 req
  let band := getLE 1 1 req
  let total := getLE 4 4 req
  let off := getLE 8 4 req
  let chunk := req.drop 12
  let have0 : Option Bytes :=
    if off = 0 then some []
    else match s.panel.loading with
      | some (k, b, n, d) => if k = kind ∧ b = band ∧ n = total ∧ d.length = off then some d else none
      | none => none
  match have0 with
  | none => (s, .status stBadField [])
  | some d =>
    let all := d ++ chunk
    if total < all.length then (s, .status stBadField [])
    else if all.length = total then s.panelLoaded kind band all
    else (s.onPanel fun p => { p with loading := some (kind, band, total, all) }, .done [])

def execPanelLoad (c : HostCmd) (s : State) : Host.Outcome State Fault Refusal :=
  let kind := getLE 0 1 c.req
  let band := getLE 1 1 c.req
  .next ((s.serve 0x0E04 c
    (fun _ => [(decide (c.req.length < 13) || decide (65548 < c.req.length), stBadLength),
               badField (decide (1 < kind) || (kind = 1 && decide (7 < band)) || !zeroAt 2 2 c.req)])
    (fun t => t.panelLoad c.req)).panelWake)

/-- Start or stop a blink region (R507). -/
def State.panelBlink (s : State) (req : Bytes) : State × Reply :=
  let i := getLE 0 1 req
  let r := rectOf (req.drop 8)
  if getLE 1 1 req = 0 then
    match s.panel.blinks.get? i with
    | none => (s, .status stNotFound [])
    | some b =>
      (if b.toggling then s.onPanel fun p => { p with blinks := p.blinks.set i { b with stopping := true } } else (s.dropBlink i b).panelWake, .done [])
  else if s.panel.active.any (fun j => j.rects.any r.overlaps) || s.panel.blinks.vals.any (fun b => b.rect.overlaps r) || s.panel.blinks.has i then
    (s, .status stBusy [])
  else
    let b : Blink := { rect := r, a := getLE 2 1 req, b := getLE 3 1 req, half := getLE 4 1 req }
    ((s.onPanel fun p => { p with blinks := p.blinks.set i b }).panelWake, .done [])

def execPanelBlink (c : HostCmd) (s : State) : Host.Outcome State Fault Refusal :=
  let start := getLE 1 1 c.req = 1
  .next (s.serve 0x0E05 c
    (fun t => [lenIs c 16, t.panelDenied,
      badField (decide (7 < getLE 0 1 c.req) || decide (1 < getLE 1 1 c.req) || !zeroAt 5 3 c.req ||
        (decide start && (decide (15 < getLE 2 1 c.req) || decide (15 < getLE 3 1 c.req) || getLE 4 1 c.req = 0 || t.rectBad (rectOf (c.req.drop 8)))))])
    (fun t => t.panelBlink c.req))

/-- A contact sheet is queued (R510). -/
def State.contactSheet (s : State) (c : HostCmd) (hold : Nat) : State × Reply :=
  let n := s.panel.nextNumber
  (((s.queueJob (.sheet hold) [s.wholePanel] 1 []).defer workSheet n 0x0E06 c).panelWake, .accepted)

def execPanelContactSheet (c : HostCmd) (s : State) : Host.Outcome State Fault Refusal :=
  .next (s.serve 0x0E06 c
    (fun t => [lenIs c 4, t.panelDenied, badField (decide (3600 < getLE 0 4 c.req)), (t.panel.table.isNone, stNotFound),
      (t.panel.rails = .failed, stInternalFault), (!t.panel.active.isEmpty || !t.panel.blinks.isEmpty, stBusy)])
    (fun t => t.contactSheet c (getLE 0 4 c.req)))

def execPanelReadLedger (c : HostCmd) (s : State) : Host.Outcome State Fault Refusal :=
  let r := rectOf c.req
  .next (s.serve 0x0E07 c (fun t => [lenIs c 8, t.panelDenied, badField (t.rectBad r || decide (65536 < r.w * r.h))])
    (fun t => (t, .done (r.pixels.flatMap fun k => leI 1 (ledgerAt t.panel.ledger k)))))

/-- A rebalance of a rectangle is queued (R504). -/
def State.panelRebalance (s : State) (c : HostCmd) (r : Rect) : State × Reply :=
  let n := s.panel.nextNumber
  (((s.queueJob .rebalance [r] 0 []).defer workRebalance n 0x0E08 c).panelWake, .accepted)

def execPanelRebalance (c : HostCmd) (s : State) : Host.Outcome State Fault Refusal :=
  let r := rectOf c.req
  .next (s.serve 0x0E08 c (fun t => lenIs c 8 :: t.updateChecks r) (fun t => t.panelRebalance c r))

end Sys2Proof.Machine
end

