-- ==== Sys2Proof/Machine/Power.lean ====
section
/-! DEFINITION. The power controller: the freezes of a power-fail warning, the hold-up order, resets of the open die, the start sequence
(R417 to R434), and what each block keeps over them. -/

namespace Sys2Proof.Machine
open Sys2Proof

/-- State codes of event 8 and SYS_POWER_STATUS (R437): 2 HOLD, 3 OFF; the others are the model's (log 10). -/
def PowerState.code : PowerState → Nat
  | .run => 0
  | .idle => 1
  | .hold => 2
  | .off => 3
  | .starting => 4
  | .unpowered => 5

/-! ### The warning (R421) -/

/-- What the sealed die does at a power-fail warning: the open metrology period and a seal-break session close (R75, R98). -/
def State.sealedWarning (s : State) : State := if s.sealedDie.running then s.metroPowerFail.closeSession 4 else s

/-- The freezes at a power-fail warning, and the first step of the hold-up order when a store map is there (R421, R424). -/
def State.holdupBegin (s0 : State) (after : AfterHoldup) : State :=
  let s := s0.sealedWarning
  let steps := s.openRuns && s.store.mapReady
  let s1 := s.onPower fun p => { p with
    pfw := true
    stateBefore := p.state.code
    state := if p.state = .idle then .run else p.state
    holdup := if steps then some 1 else none
    holdupLast := 0
    holdupDone := false
    holdupStarted := steps
    holdupTimings := []
    after := after
    vinRecovered := false
    coreMhz := 600 }
  let s2 := s1.airStop
  { s2 with
    time := { s2.time with frozen := true, stepPending := none }
    sealedDie := { s2.sealedDie with pfw := s2.sealedDie.running, calFrozen := s2.sealedDie.running }
    bal := { s2.bal with nodes := s2.bal.nodes.map fun x => { x with solving := none } }
    fog := { s2.fog with frozen := true }
    panel := { s2.panel.setRails (if s2.panel.rails = .failed then .failed else .off) with scanning := false }
    cfg := { s2.cfg with paused := decide (s2.cfg.genState = .proving) }
    host := { s2.host with phase := if s2.host.phase = 1 ∨ s2.host.phase = 2 then 4 else s2.host.phase } }

/-- The hold-up order of a command, of throttling or of a restart that is due; one order runs at a time (R424, R432). -/
def State.orderBegin (s : State) (after : AfterHoldup) : State :=
  if s.power.pfw ∨ !s.openRuns then s else s.holdupBegin after

/-! ### The steps (R422) -/

/-- Packets of a rank 7 queue that the store has not read. -/
def State.unread (s : State) (q : Nat) : Nat := (s.queue q).pkts.length - s.store.held.getD q 0

/-- Whether anything is on its way between the sealed die, the fabric and the store. -/
def State.inTransit (s : State) : Bool :=
  (s.gate.up && s.sealedDie.outBuf.any (fun m => !m.sent)) || !s.gate.acks.isEmpty || !s.gate.storeResults.isEmpty ||
  s.gate.outPlaced.isSome || !(s.queue 48).pkts.isEmpty || [64, 65, 66, 67, 68, 69, 71].any (fun q => decide (0 < s.unread q))

/-- The recorder takes the next packet of queue 71, its own or the sealed die's. -/
def State.recorderTurn (s : State) : State :=
  match ((s.queue 71).pkts.drop (s.store.held.getD 71 0)).head? with
  | some p => if p.producer = 13 then s.sealedEventRecord else s.recorderPacket
  | none => s

/-- One round: a message crosses the gate, its units are taken, the fan-out and the store take one packet of each queue, the recorder its
next packet, critical buffers are programmed. -/
def State.pumpRound (s : State) : State :=
  let s1 := s.gateOutbound false
  let s2 := s1.gate.acks.foldl (fun t a => t.ackOut a) (s1.onGate fun g => { g with acks := [] })
  let s3 := [65, 64, 66, 67, 68, 69].foldl (fun t q => if 0 < t.unread q then t.storeAccept q else t) s2.fanout
  let s5 := s3.recorderTurn.flushAll streamCritical
  let s6 := s5.gate.storeResults.foldl (fun t r => t.takeResult r) (s5.onGate fun g => { g with storeResults := [] })
  s6.drainOut.pumpJournal

/-- What is inside the device runs to its end: admitted readings are priced (R158), records reach the store, a batch whose trailer holds
the cells up is signed. -/
def State.pump : Nat → State → State
  | 0, s => s
  | n + 1, s =>
    let core := s.sealedDie.running && s.sealedDie.started
    if core ∧ !s.corePaused ∧ (s.admittedOf 1).isSome then State.pump n s.sealedApdu
    else if s.inTransit then State.pump n s.pumpRound
    else if core ∧ s.corePaused ∧ !s.sealedDie.signing.isEmpty then State.pump n s.trailerReady
    else s

/-- How many rounds the work at hand can take. -/
def State.pumpFuel (s : State) : Nat :=
  64 + 4096 * s.gate.admitted.length + 4 * (s.sealedDie.outBuf.length + s.sealedDie.readingQ.length + s.sealedDie.recordQ.length +
    s.sealedDie.imageQ.length + s.sealedDie.signing.length + (s.sealedDie.txns.map (fun t => t.parts.length + t.outputs.length + 1)).sum) + 2 * ((s.fabric.queues.map (fun p => p.2.pkts.length)).sum)

def State.pumpAll (s : State) : State := s.pump s.pumpFuel

/-- Step 2: the records of the metrology period that the warning closed leave, the open batch closes, the trailer is signed, the epochs
advance and the anchors are written (R50, R73, R80, R90, R98). -/
def State.sealedHoldup (s : State) : State :=
  if !s.sealedDie.running ∨ !s.sealedDie.started then s
  else
    let s1 := s.metroHoldup.closeBatch 3
    let s2 := s1.sealedDie.signing.foldl (fun t _ => t.trailerReady) s1
    let s3 := (s2.drainOut.pumpJournal).pumpAll
    s3.writeAnchors_.onSealed fun x => { x with streams := x.streams.map fun st => { st with epoch := st.epoch + 1, next := 0 } }

/-- Losses of the recorder that are still to be reported go to the always-on island (R375). -/
def State.lossesToAon (s : State) : State :=
  s.onPower fun p => { p with lostInHoldup := (s.recd.channels.filter (fun c => decide (0 < c.2.lostRun))).map fun c => (c.1, (c.2.lostFirst.getD 0, c.2.lostRun)) }

/-- What step `k` of R422 does. -/
def State.holdupAction (s : State) (k : Nat) : State :=
  match k with
  | 1 => s.pumpAll.storeHoldup1
  | 2 => s.sealedHoldup
  | 3 => (s.panelPowerFail.shadowCommit.pumpAll).flushAll streamCritical
  | 4 => s.storeHoldup3
  | 5 => (s.mapCheckpoint true).flushAll (· = 0)
  | _ => s.lossesToAon

/-! ### Resets of the open die (R432) -/

/-- What the tier keeps over a restart (log 117): the promotion, the transport's windows, whom it serves and what they have acknowledged; its own
subscriptions are made again. -/
def Tier.restart (t : Tier) : Tier :=
  { promoted := t.promoted, frameSeq := t.frameSeq, rx := t.rx, served := t.served, contribSent := t.contribAcked, contribAcked := t.contribAcked
    toSubscribe := t.toSubscribe ++ (Tab.keys t.held).map fun e => (e, true) }

/-- What is lost when the open die's clocks and rails stop, or at its reset: SRAM, DRAM and every register; what NAND, fuses, the system
area and the always-on island hold stays. -/
def State.openReset (s0 : State) : State :=
  let s := s0.storePowerLoss
  { s with
    host := { ringMem := if s.qspi then [] else s.host.ringMem }
    fabric := {}
    recd := { channels := s.recd.channels.mapVals (fun _ c => { c with lostFirst := none, lostRun := 0 })
              sealedLast := s.recd.sealedLast, lastAnchorOt := s.recd.lastAnchorOt, nextHandle := s.recd.nextHandle }
    cfg := { s.cfg with staging := none, paused := decide (s.cfg.genState = .proving), rxHist := [] }
    fog := { endedByRestart := s.fog.unlock.map (fun u => s.power.ot - u.since) }
    gate := { s.gate with up := false, wire := none }
    time := {}
    tbl := { dirSeed0 := s.tbl.dirSeed0, dirSeed1 := s.tbl.dirSeed1, pfxSeed := s.tbl.pfxSeed, noticeNo := s.tbl.noticeNo, lastPassOt := s.tbl.lastPassOt }
    sec := { s.sec with
             debugSeen := false, debugSince := none, trngFailures := 0, trngRestarting := false, trngStopped := false, samples := 0
             requests := 0, uploads := [], activateDue := false, fw := s.sec.fw.map (fun f => if f.valid then f else {}) }
    camps := []
    cp := { s.cp with portsEnabled := false, profileReads := [], profileWait := [], mirror := [], provisioned := [] }
    tier := s.tier.restart
    plc := { joined := s.plc.joined, timeOt := s.plc.timeOt, ports := s.plc.ports.map (fun q => { gmk := q.gmk }) }
    radios := s.radios.map (fun x => { s0 := x.s0, asn := x.asn, buckets := x.buckets, correction := x.correction, shiftNs := x.shiftNs, sleepy := x.sleepy
                                       key := x.key })
    bal := s.bal.restart
    panel := { interrupted := s.panel.interrupted, delta := s.panel.delta }
    power := { s.power with state := .starting, stage := .resetHeld, pfw := false, holdup := none, idleLog := [], lockstepMismatches := 0 } }

/-- A reset with its cause and loss kind (R432); the start sequence follows when reset is released. -/
def State.resetWith (s : State) (cause loss : Nat) : State :=
  s.openReset.onPower fun p => { p with cause := cause, lossKind := loss, holdupDone := if loss = 0 then p.holdupDone else false }

/-- The open die is off, coming from the state with code `old`: the sealed die keeps its counter and its monitors only (R425, R426). -/
def State.powerDown (s : State) (old : Nat) (next : PowerState) : State :=
  (s.openReset.onPower fun p => { p with
    state := next
    holdSince := p.ot
    transitions := p.transitions ++ [{ old := old, new := next.code, ot := p.ot }] }).onSealed
      fun x => { x with running := false, pfw := false, calFrozen := false }

/-- Both supplies are lost: the always-on island and the sealed counter lose their state (R73, R269, R419). -/
def State.supplyLost (s : State) : State :=
  let s1 := s.onPower fun p => { p with
    state := .unpowered
    ot := 0
    pcc := 0
    cause := 1
    lossKind := 1
    holdupDone := false
    holdupStarted := false
    holdupTimings := []
    transitions := []
    lostInHoldup := []
    pendingRollback := none
    owed := []
    aonNt := none
    thermalShutdown := false
    tampLatch := List.replicate 6 none }
  { s1 with
    gate := { s1.gate with ackRegister := none }
    radios := s1.radios.map fun x => { x with s0 := none, asn := 0, shiftNs := 0 }
    panel := { s1.panel with interrupted := [], delta := 0 }
    bal := { s1.bal with members := s1.bal.members.mapVals fun _ m => { m with lastOt := 0 } }
    sealedDie := { s1.sealedDie with running := false, timeState := .invalid, base := 0 } }

/-- Where the device goes without VIN (R426): HOLD by VBAT, OFF, or no supply at all. -/
def State.loseVin (s : State) (old : Nat) : State :=
  if s.power.vbatMv < 1900 then (s.powerDown old .off).supplyLost
  else if s.cfgN 0x0000 2 ≤ s.power.vbatMv ∧ s.cfgN 0x0000 3 ≠ 0 then s.powerDown old .hold
  else s.powerDown old .off

/-- Whether VIN is present after an order that its loss did not start, or has recovered (R424, R426). -/
def Power.vinBack (p : Power) : Bool := p.vinRecovered || (decide (p.pfwSource = 1) && decide (2900 ≤ p.vinMv))

/-- Step 6 has ended: NT is handed to the always-on counter, the rails go off, and the device goes where the order leads (R422, R424,
R426, R431). -/
def State.holdupEnd (s : State) : State :=
  let s1 := s.onPower fun p => { p with
    holdupDone := true
    vinEndMv := p.vinMv
    aonNt := if s.time.level = 0 ∧ s.time.nt.sec = 0 then p.aonNt else some ((s.time.nt.sec * 1000000000 + s.time.nt.ns) * 32768 / 1000000000)
    cause := 1
    lossKind := 0 }
  match s1.power.after with
  | .restart c => s1.resetWith c 0
  | .toOff => s1.powerDown s.power.stateBefore .off
  | .byVbat =>
    if s1.power.thermalShutdown then (s1.powerDown s.power.stateBefore .hold).onPower fun p => { p with cause := 9 }
    else if s1.power.vinBack then s1.resetWith 1 0
    else s1.loseVin s.power.stateBefore

/-- One step of the order has ended after `ms`; the next one starts (R422). -/
def State.holdupStep (s : State) (ms : Nat) : State :=
  match s.power.holdup with
  | none => s
  | some k =>
    let s1 := (s.holdupAction k).onPower fun p => { p with holdupLast := k, holdupTimings := p.holdupTimings ++ [ms], holdup := some (k + 1) }
    if k < 6 then s1 else s1.holdupEnd

/-! ### The start sequence (R433) -/

/-- The boot ROM (R389): the slot that boots with what event 209 reports, or none for recovery. A pending rollback value is programmed; an image
below the rollback counter owes event 215 to the start (R388). -/
def State.bootRom (s : State) : State × Option (Nat × Nat × Nat) × Bool :=
  let x := s.sec
  let spent : Bool := match x.trial with
    | some _ => decide (x.trialMax ≤ x.attempts)
    | none => false
  let s1 := s.onSec fun y => { y with
    rollback := max y.rollback (s.power.pendingRollback.getD 0)
    trial := if spent then none else y.trial
    attempts := if spent then 0 else if y.trial.isSome then y.attempts + 1 else y.attempts
    reverted := spent }
  let pick := s1.sec.trial.getD s1.sec.active
  let old := fun (i : Nat) => if s1.slotFailure i = some 6 then [(215, le 1 4 ++ le 1 i ++ zeros 2 ++ le 4 1)] else []
  let s2 := s1.onPower fun p => { p with
    pendingRollback := none
    owed := if x.lifecycle = 4 then p.owed else p.owed ++ old pick ++ (if (s1.slotFailure pick).isNone then [] else old (1 - pick)) }
  let first : Option (Nat × Nat × Nat) := if spent then x.trial.map fun t => (t, x.attempts, 2) else none
  if s.sec.lifecycle = 4 then (s2, none, false)
  else if (s2.slotFailure pick).isNone then (s2.onSec fun y => { y with running := pick }, first, true)
  else if (s2.slotFailure (1 - pick)).isNone then
    (s2.onSec fun y => { y with running := 1 - pick, reverted := true }, some (pick, s2.sec.attempts, 1), true)
  else (s2.onSec fun y => { y with revertCause := some (pick, s2.sec.attempts, 3) }, none, false)

/-- NT at a start (R269): from the always-on counter at level 1, `ticks` of 1/32,768 s after the last OT increment, or zero at level 0
with event 156. -/
def State.timeStart (s : State) (ticks : Nat) : State :=
  match s.power.aonNt with
  | some t =>
    let u := t + ticks
    s.onTime fun x => { x with nt := { sec := u / 32768, ns := u % 32768 * 1000000000 / 32768 }, level := 1, utcOffset := s.cfgI 0x6000 8 }
  | none => (s.onTime fun x => { x with utcOffset := s.cfgI 0x6000 8 }).raise 156 []

/-- The RESTART fields take effect; a reset that proving forbids reverts the generation before a port is enabled; a generation whose
adoption the reset cut short has been adopted by the start (R470, R473, R474). -/
def State.cfgStart (s : State) (cause : Nat) : State :=
  let slots := (List.range 4).map fun n => cfgValue s.cfg.running (0x5030 + n) 11 0
  let cut := !s.cfg.adopting.isEmpty
  let fails := decide (s.cfg.genState = .proving) && !cut && bit (s.proveCfg 1) 0 && [3, 4, 5, 6].contains cause
  let s1 := s.onCfg fun c => { c with
    running := c.force.values
    adopting := []
    restartDue := false
    genState := if c.genState = .pendingRestart then .proving
                else if cut then (if c.force.origin = 2 ∨ c.force.origin = 3 then .proven else .proving) else c.genState
    remaining := if cut ∨ c.genState = .pendingRestart then s.proveCfg 0 else c.remaining
    paused := true }
  let s2 := if fails then
      let t := (s1.onCfg fun c => { c with failed := setBit c.failed 0 true }).revert 1
      t.onCfg fun c => { c with running := c.force.values, adopting := [], genState := .proven, remaining := 0, restartDue := false }
    else s1
  { s2 with radios := s2.radios.zipIdx.map fun p =>
      if cfgValue s2.cfg.running (0x5030 + p.2) 11 0 = slots.getD p.2 0 then p.1 else { p.1 with s0 := none, asn := 0, shiftNs := 0 } }

/-- A directory entry from its stored image. -/
def dirFrom (b : Bytes) : DirEntry :=
  { eui := slice 0 8 b, short := getLE 8 2 b, port := getLE 10 1 b, flags := getLE 11 1 b, wpos := 0, wfill := 0, gen := getLE 14 2 b,
    rep := getLE 16 4 b, plain := getLE 20 4 b }

/-- A prefix entry from its stored image. -/
def pfxFrom (b : Bytes) : PfxEntry :=
  { pfx := slice 0 16 b, len := getLE 16 1 b, flags := getLE 17 1 b, gen := getLE 18 2 b, result := getLE 20 4 b }

/-- Whether a prefix may stand at a position under the layout in force. -/
def State.pfxStands (s : State) (pos : Nat) (e : PfxEntry) : Bool :=
  match s.pfxSlotOf e.len with
  | none => false
  | some i => (banksOf (s.pfxSlotMask i)).any fun b => let base := pfxBase s.tbl.pfxSeed b e.len e.pfx; decide (base ≤ pos) && decide (pos < base + 5)

/-- The campaigns and their members as the TABLE stream holds them (R401). -/
def State.storedCampaigns (s : State) : Tab Campaign :=
  (s.storedImages regMember).foldl (fun m p => m.adj (p.1 / 2 ^ 18) fun x => { x with members := x.members.set (p.1 % 2 ^ 18) (memberFrom p.2) })
    ((s.storedImages regCampaign).map fun p => (p.1, campaignFrom p.2))

/-- The tables, the campaigns and the mirror of the sealed objects are loaded from the TABLE stream (R110, R301, R401): entries are indexed anew; a prefix that the layout in force no longer allows at
its position moves, or goes with its slot. -/
def State.loadTables (s : State) : State :=
  let dir := (s.storedImages 0).map fun p => (p.1, dirFrom p.2)
  let direct := (s.storedImages 2).map fun p => (p.1, getLE 0 4 p.2 % 2 ^ 18)
  let pfx := (s.storedImages 4).map fun p => (p.1, pfxFrom p.2)
  let keep := pfx.filter fun p => s.pfxStands p.1 p.2
  let s1 := ({ s with camps := s.storedCampaigns } : State).onTbl (fun t => { t with dir := dir, direct := direct, pfx := keep }) |>.onCp fun c => { c with
    mirror := s.storedImages regMirror, provisioned := s.storedImages regProvisioned }
  let index := (Tab.keys dir).foldl (fun idx e => (placeDir s.tbl.dirSeed0 s.tbl.dirSeed1 s1.tbl.euiOf idx e).getD idx) []
  let s2 := (pfx.filter fun p => !s.pfxStands p.1 p.2).foldl (fun t p =>
    let t0 := t.onTbl fun x => x.touch [(4, p.1)]
    match (t.pfxSlotOf p.2.len).bind (fun i => placePfx t.tbl.pfxSeed (t.pfxSlotMask i) p.2.len t.tbl.pfx p.2.pfx) with
    | some k => t0.onTbl fun x => ({ x with pfx := x.pfx.set k p.2 }).touch [(4, k)]
    | none => t0) s1
  s2.onTbl fun t => { t with
    index := index
    filter := (t.pfx.vals.filterMap (fun e => (s.pfxSlotOf e.len).map (fun i => filterRange i e.len e.pfx))).eraseDups }

/-- The lookup self-test (R292): a pipeline that fails starts retired, event 163 with cause 2. -/
def State.selfTest (s : State) (pipesOk : List Bool) : State :=
  (List.range 2).foldl (fun t i => if pipesOk.getD i true then t
    else (t.onTbl fun x => { x with pipes := x.pipes.set i false }).raise 163 (le 1 i ++ le 1 2)) s

/-- What the previous run left to report (R370, R375, R389, R424, R426, R479, R515). -/
def State.startReports (s : State) (boot : Option (Nat × Nat × Nat)) : State :=
  let p := s.power
  let ms := fun k => min 0xFFFF (p.holdupTimings.getD k 0)
  let s1 := if p.holdupStarted then
      s.raise 3 (le 1 p.holdupLast ++ le 1 0 ++ le 2 (ms 0) ++ le 2 (min 0xFFFF p.holdupTimings.sum) ++ le 2 p.vinEndMv) else s
  let s2 := p.transitions.foldl (fun t x => t.raise 8 (le 1 x.old ++ le 1 x.new ++ zeros 2 ++ le 4 x.ot)) s1
  let s3 := p.owed.foldl (fun t e => t.raise e.1 e.2) s2
  let s4 := match boot with
    | some (slot, n, c) => s3.raise 209 (le 1 slot ++ le 1 n ++ le 1 c)
    | none => s3
  let f := s.sec.fw.getD s.sec.running {}
  let s5 := s4.raise 208 (le 1 s.sec.running ++ le 1 s.attestFlags ++ le 2 f.security ++ le 4 f.image)
  let s6 := match s.fog.endedByRestart with
    | some n => s5.raise 249 (le 1 3 ++ zeros 3 ++ le 4 n)
    | none => s5
  let s7 := p.lostInHoldup.foldl (fun t x => t.raise 225 (le 1 x.1 ++ le 1 0 ++ le 2 (min x.2.2 0xFFFF) ++ le 4 x.2.1)) s6
  let s8 := if s.straps.tier ≠ 0 ∧ s.tier.promoted.isNone ∧ s.cfgN 0xE000 0 = 0 then s7.raise 247 (le 1 s.straps.tier ++ zeros 7) else s7
  (s8.onPower fun q => { q with holdupStarted := false, transitions := [], owed := [], lostInHoldup := [] }).onFog fun g => { g with endedByRestart := none }

/-- The freezes of a sealed die that ran on through a hold-up order end: boundaries missed meanwhile are executed, marked (R157). -/
def State.sealedThaw (s : State) : State :=
  let frozen := s.sealedDie.calFrozen
  let s1 := s.onSealed fun x => { x with pfw := false, calFrozen := false }
  if frozen && s1.calendarRuns then (s1.catchUp true).1 else s1

/-- RESET_RELEASE (R433): PCC, straps, boot ROM, store map, configuration, tables, self-test. `ticks` is the always-on time since the last
OT increment, `off` the unpowered interval in s when that counter kept it, `mapMs` the replay's duration. -/
def State.resetRelease (s : State) (ticks : Nat) (off : Option Nat) (mapMs : Nat) (diesOk pipesOk : List Bool) : State :=
  let ready := decide (s.power.state = .starting) && decide (s.power.stage = .resetHeld) && !s.power.pfw && s.power.tcxoPresent &&
    s.power.vioHUp && s.power.vioPUp && s.host.phase ≠ 3
  if !ready then s
  else
    let cause := s.power.cause
    let s1 := (s.onPower fun p => { p with
      pcc := min (p.pcc + 1) 0xFFFFFF
      coreMhz := if p.thermalLevel = 0 then 1200 else if p.thermalLevel = 1 then 900 else if p.thermalLevel = 2 then 600 else 300
      fabMhz := if p.thermalLevel ≤ 1 then 500 else 250 })
    let s2 : State := { s1 with straps := { s1.straps with hif := s1.straps.pinHif, tier := s1.straps.pinTier } }
    let (s3, boot, ok) := s2.bootRom
    if !ok then s3.onHost fun h => { h with phase := 3 }
    else
      let s4 := (s3.onPower fun p => { p with stage := .booted }).onHost fun h => { h with phase := 1 }
      let s5 := match s4.sec.revertCause with
        | some (slot, n, c) => (s4.raise 209 (le 1 slot ++ le 1 n ++ le 1 c)).onSec fun y => { y with revertCause := none }
        | none => s4
      let s6 := s5.raise 0 (le 1 cause ++ le 1 s.power.lossKind ++ zeros 2 ++ le 4 s5.power.pcc)
      let s7 := ((s6.cfgStart cause).startReports boot).timeStart ticks
      let s8 := s7.storeStart mapMs off diesOk (decide (s.power.lossKind = 0))
      let s9 := (s8.loadTables.selfTest pipesOk).onSec fun y => { y with runStartOt := s8.power.ot }
      if s9.sealedDie.running then s9.sealedThaw.linkReset 1 else s9

/-- START_COMPLETE (R433 step 6): the sealed replay and the tables are done; ports are enabled; event 1; what starts after it. -/
def State.startComplete (s : State) (ms : Nat) : State :=
  if s.power.state ≠ .starting ∨ s.power.stage ≠ .booted ∨ s.power.pfw ∨ !s.sealedDie.running ∨ !s.sealedDie.started then s
  else
    let s1 := (s.onPower fun p => { p with stage := .running, state := .run, tampLatch := List.replicate 6 none }).raise 1
      (le 4 ms ++ le 1 s.power.thermalLevel ++ zeros 3)
    let s2 := ((s1.onHost fun h => { h with phase := 2 }).onCfg fun c => { c with paused := false }).onTier fun t => { t with startOt := s.power.ot }
    let s3 := s2.onCp fun c => { c with
      portsEnabled := true
      orders := c.orders.mapVals fun _ o => if o.finished then o else { o with
        attempts := 0, startOt := s.power.ot, nextOt := s.power.ot, awaiting := false, getSent := false, undelivered := false } }
    s3.firstKeys.radiosEnable.distRestart.panelStart

end Sys2Proof.Machine
end

