-- ==== Sys2Proof/Machine/PowerRows.lean ====
section
/-! DEFINITION. Rows of the power controller: warning, hold-up, supplies, thermal throttling, clocks, idling, tamper inputs, resets, start
(R417 to R437), and the commands SYS_POWER_STATUS, SYS_RESTART, SYS_SHUTDOWN, SYS_CLOCKS, TIER_PROMOTE. -/

namespace Sys2Proof.Machine
open Sys2Proof

/-- Whether the open die is in RUN, in IDLE or in its start sequence. -/
def State.alive (s : State) : Bool :=
  match s.power.state with
  | .run | .idle | .starting => true
  | _ => false

/-! ### The warning and its order -/

/-- POWER_FAIL_WARNING: source 0 is the VIN monitor with VIN at `mv`, 1 PFAIL_N low for 20 µs; pfw_source says which count (R420, R421, R424). -/
def State.powerFail (s : State) (source mv : Nat) : State :=
  let s0 := s.onPower fun p => { p with vinMv := if source = 0 then mv else p.vinMv, pfailN := if source = 1 then false else p.pfailN }
  let sel := s.cfgN 0x0000 1
  let counts : Bool := if source = 0 then sel ≠ 1 && decide (mv ≤ s.cfgN 0x0000 0) else source = 1 && sel ≠ 0
  if !counts ∨ !s.alive ∨ s.power.pfw then s0
  else
    let s1 := s0.raise 2 (le 1 source ++ le 1 0 ++ le 2 s0.power.vinMv ++ le 1 s.power.state.code ++ zeros 3)
    (s1.holdupBegin .byVbat).onPower fun p => { p with pfwSource := source }

def execPowerFailWarning (source mv : Nat) (s : State) : Host.Outcome State Fault Refusal := .next (s.powerFail source mv)

def execHoldupStep (ms : Nat) (s : State) : Host.Outcome State Fault Refusal := .next (s.holdupStep ms)

/-- VIN_UNDERVOLTAGE: the open die stops (R420, R424, R432). A start that was cut short before its store map was ready keeps its cause. -/
def State.undervoltage (s : State) (mv : Nat) : State :=
  let s0 := s.onPower fun p => { p with vinMv := mv, vinEndMv := if p.holdupStarted then mv else p.vinEndMv }
  if 2600 ≤ mv then s0
  else if s.alive then
    let early := decide (s.power.state = .starting) && decide (s.power.stage = .resetHeld)
    let s1 := if early then s0 else s0.onPower fun p => { p with cause := 2, lossKind := 1, holdupDone := false }
    s1.loseVin (if s.power.pfw then s.power.stateBefore else s.power.state.code)
  else s0

def execVinUndervoltage (mv : Nat) (s : State) : Host.Outcome State Fault Refusal := .next (s.undervoltage mv)

/-- PFW_CLEARED: VIN has recovered during the order, event 12 (R424); PFAIL_N is high again. -/
def State.pfwClear (s : State) (mv : Nat) : State :=
  let s0 := s.onPower fun p => { p with vinMv := mv, pfailN := true }
  if s.power.pfw ∧ s.power.holdup.isSome ∧ s.cfgN 0x0000 0 + 200 < mv ∧ !s.power.vinRecovered then
    (s0.onPower fun p => { p with vinRecovered := true }).raise 12 (le 2 mv ++ le 1 (s.power.holdup.getD 0))
  else s0

def execPfwCleared (mv : Nat) (s : State) : Host.Outcome State Fault Refusal := .next (s.pfwClear mv)

/-- VIN_START: VIN has stayed above vin_start for 10 ms with both I/O banks up (R418, R426). -/
def State.vinStart (s : State) (mv : Nat) : State :=
  let s0 := s.onPower fun p => { p with vinMv := mv }
  let down : Bool := match s.power.state with
    | .hold | .off | .unpowered => true
    | _ => false
  if down ∧ 2900 ≤ mv ∧ s.power.vioHUp ∧ s.power.vioPUp ∧ !s.power.thermalShutdown then
    s0.onPower fun p => { p with state := .starting, stage := .resetHeld }
  else s0

def execVinStart (mv : Nat) (s : State) : Host.Outcome State Fault Refusal := .next (s.vinStart mv)

/-! ### Other supplies (R420) -/

/-- The state of VBAT with hysteresis: 0 good, 1 low, 2 lost. -/
def State.vbatStateAt (s : State) (mv : Nat) : Nat :=
  let hold := s.cfgN 0x0000 2
  if mv < 1900 ∨ (s.power.vbatState = 2 ∧ mv < 2000) then 2
  else if mv < hold ∨ (s.power.vbatState ≠ 0 ∧ mv < hold + 100) then 1 else 0

/-- VBAT is `mv`: event 4 at a change; without VIN its loss takes the always-on island down. -/
def State.vbat (s : State) (mv : Nat) : State :=
  let st := s.vbatStateAt mv
  let s1 := s.onPower fun p => { p with vbatMv := mv, vbatState := st }
  let s2 := if st = s.power.vbatState then s1 else s1.raise 4 (le 1 st ++ le 1 0 ++ le 2 mv)
  if st = 2 ∧ !s.alive ∧ s.power.state ≠ .unpowered ∧ s.power.vinMv < 2600 then s2.supplyLost else s2

def execVbatLow (mv : Nat) (s : State) : Host.Outcome State Fault Refusal := .next (s.vbat mv)
def execVbatLost (mv : Nat) (s : State) : Host.Outcome State Fault Refusal := .next (s.vbat mv)

/-- VIO_FAULT: bank 0 VIO_H, 1 VIO_P; below 1.62 V it goes high-impedance, above 1.68 V it is back (R420). -/
def State.vio (s : State) (bank mv : Nat) : State :=
  let up := if bank = 0 then s.power.vioHUp else s.power.vioPUp
  let now : Bool := if up then decide (1620 ≤ mv) else decide (1680 < mv)
  let s0 := s.onPower fun p => if bank = 0 then { p with vioHMv := mv, vioHUp := now } else { p with vioPMv := mv, vioPUp := now }
  let s1 := if bank ≠ 0 ∧ !now then s0.enablesLow else s0
  if now = up then s1 else s1.raise 9 (le 1 bank ++ le 1 (if now then 0 else 1) ++ le 2 mv)

def execVioFault (bank mv : Nat) (s : State) : Host.Outcome State Fault Refusal := .next (s.vio bank mv)

/-- RAIL_FAULT: the open die resets with cause RAIL; event 10 (R420, R432). -/
def execRailFault (rail mv : Nat) (s : State) : Host.Outcome State Fault Refusal :=
  .next (if s.alive then ((s.resetWith 6 1).onPower fun p => { p with owed := p.owed ++ [(10, le 1 rail ++ le 1 0 ++ le 2 mv)] }) else s)

/-! ### Thermal levels (R431) -/

def enterAt (level : Nat) : Int := if level = 1 then 9500 else if level = 2 then 10000 else 10400
def leaveAt (level : Nat) : Int := if level = 1 then 9300 else if level = 2 then 9800 else 10200

/-- The level after a reading: one level per reading. -/
def thermalStep (level : Nat) (c : Int) : Nat :=
  if level < 3 ∧ enterAt (level + 1) ≤ c then level + 1
  else if 0 < level ∧ c ≤ leaveAt level then level - 1 else level

/-- THERMAL_READING of the package sensor in 0.01 °C. -/
def State.thermal (s : State) (c : Int) : State :=
  let s0 := s.onPower fun p => { p with packageCentiC := c }
  if s.power.thermalShutdown then
    if (s.power.state = .hold ∨ s.power.state = .off) ∧ c ≤ 10000 then
      s0.onPower fun p => { p with thermalShutdown := false, state := if 2900 ≤ p.vinMv then .starting else p.state, stage := .resetHeld }
    else s0
  else if !s.alive then s0
  else if 11000 ≤ c ∧ s.openRuns ∧ !s.power.pfw then
    ((s0.raise 7 (leI 4 c)).onPower fun p => { p with thermalShutdown := true }).orderBegin .byVbat
  else
    let l := thermalStep s.power.thermalLevel c
    if l = s.power.thermalLevel then s0
    else
      (s0.onPower fun p => { p with
        thermalLevel := l
        coreMhz := if p.pfw then p.coreMhz else if l = 0 then 1200 else if l = 1 then 900 else if l = 2 then 600 else 300
        fabMhz := if l ≤ 1 then 500 else 250 }).raise 6 (le 1 s.power.thermalLevel ++ le 1 l ++ zeros 2 ++ leI 4 c)

def execThermalReading (c : Int) (s : State) : Host.Outcome State Fault Refusal := .next (s.thermal c)

/-! ### Clocks (R430) -/

/-- CLOCK_MONITOR: TCXO_IN measured against AON, in ppm; whether the AON crystal runs. A device held in reset for want of TCXO_IN may start. -/
def State.clockMonitor (s : State) (ppm : Int) (crystal : Bool) : State :=
  let dev := decide (100 < ppm.natAbs)
  let s1 := s.onPower fun p => { p with tcxoPresent := true, tcxoPpm := ppm, tcxoDeviating := dev, aonCrystal := crystal }
  let s2 := if dev = s.power.tcxoDeviating then s1 else s1.raise 5 (le 1 0 ++ le 1 (b2n dev) ++ zeros 2 ++ leI 4 ppm)
  if crystal = s.power.aonCrystal then s2 else s2.raise 5 (le 1 1 ++ le 1 (if crystal then 0 else 2) ++ zeros 2 ++ leI 4 0)

def execClockMonitor (ppm : Int) (crystal : Bool) (s : State) : Host.Outcome State Fault Refusal := .next (s.clockMonitor ppm crystal)

/-- TCXO_ABSENT: the open die resets with cause CLOCK and is held until TCXO_IN returns. -/
def execTcxoAbsent (s : State) : Host.Outcome State Fault Refusal :=
  .next (if s.alive then (s.resetWith 7 1).onPower fun p => { p with tcxoPresent := false } else s.onPower fun p => { p with tcxoPresent := false })

/-! ### IDLE, HOLD, OFF (R426) -/

/-- IDLE_ENTRY: nothing to do for idle_entry_us. -/
def State.idleEntry (s : State) : State :=
  let quiet := (s.fabric.queues.all fun q => q.2.pkts.isEmpty) && s.host.crHead = s.host.crTail && s.store.programs.isEmpty && s.store.eraseQ.isEmpty
  if s.power.state = .run ∧ !s.power.pfw ∧ s.cfgN 0x0000 4 = 1 ∧ quiet then s.onPower fun p => { p with state := .idle } else s

def execIdleEntry (s : State) : Host.Outcome State Fault Refusal := .next s.idleEntry

/-- IDLE_WAKE: a wake source ends an idle period of `ms`. -/
def execIdleWake (ms : Nat) (s : State) : Host.Outcome State Fault Refusal :=
  .next (if s.power.state = .idle then
    s.onPower fun p => { p with state := .run, idleLog := (p.idleLog.filter fun x => decide (p.ot < x.1 + 60)) ++ [(p.ot, ms)] }
    else s)

/-- HOLD_EXPIRY: hold_max_s of OT in HOLD, or VBAT below vbat_hold_mv. -/
def execHoldExpiry (s : State) : Host.Outcome State Fault Refusal :=
  .next (if s.power.state = .hold ∧ (s.power.holdSince + s.cfgN 0x0000 3 ≤ s.power.ot ∨ s.power.vbatMv < s.cfgN 0x0000 2) then
    s.onPower fun p => { p with state := .off, transitions := p.transitions ++ [{ old := 2, new := 3, ot := p.ot }] }
    else s)

/-- TAMPER_INPUT: a TAMP input has changed to a level; in HOLD and OFF the first change sets its latch with the OT (R427, R529). -/
def execTamperInput (n : Nat) (level : Bool) (s : State) : Host.Outcome State Fault Refusal :=
  .next (if n < 6 ∧ s.power.state ≠ .unpowered ∧ s.power.tampLevel.getD n true ≠ level then
    s.onPower fun p => { p with
      tampLevel := p.tampLevel.set n level
      tampLatch := if p.state = .hold ∨ p.state = .off then p.tampLatch.set n ((p.tampLatch.getD n none).or (some p.ot)) else p.tampLatch }
    else s)

/-! ### Resets (R424, R426, R432) -/

/-- RESET_PIN: RESET_N low for 10 µs. Ignored during the hold-up order; in OFF with VIN present it starts the device, unclean (log 180). -/
def State.resetPin (s : State) : State :=
  if s.alive then (if s.power.holdup.isSome then s else s.resetWith 3 1)
  else if s.power.state = .off ∧ 2900 ≤ s.power.vinMv ∧ !s.power.thermalShutdown then
    s.onPower fun p => { p with state := .starting, stage := .resetHeld, cause := 3, lossKind := 1, holdupDone := false }
  else s

def execResetPin (s : State) : Host.Outcome State Fault Refusal := .next s.resetPin

/-- WATCHDOG_RESET: ignored during the hold-up order. -/
def execWatchdogReset (s : State) : Host.Outcome State Fault Refusal :=
  .next (if s.openRuns && s.power.holdup.isNone then s.resetWith 4 1 else s)

/-- LOCKSTEP_RESET: event 11 is committed first when the store is running. -/
def State.lockstep (s : State) (pair : Nat) : State :=
  if !s.openRuns then s
  else
    let n := s.power.lockstepMismatches + 1
    let s1 := (s.onPower fun p => { p with lockstepMismatches := n }).raise 11 (le 1 pair ++ le 1 0 ++ le 2 (min n 0xFFFF))
    let s2 := if s.store.mapReady then ((List.range (s1.unread 71)).foldl (fun t _ => t.recorderTurn) s1).flushAll (fun st => st = 10 || st = 11)
      else s1
    s2.resetWith 5 1

def execLockstepReset (pair : Nat) (s : State) : Host.Outcome State Fault Refusal := .next (s.lockstep pair)

def execResetRelease (ticks : Nat) (off : Option Nat) (mapMs : Nat) (diesOk pipesOk : List Bool) (s : State) : Host.Outcome State Fault Refusal :=
  .next (s.resetRelease ticks off mapMs diesOk pipesOk)

def execStartComplete (ms : Nat) (s : State) : Host.Outcome State Fault Refusal := .next (s.startComplete ms)

/-! ### Firmware restarts (R390) -/

/-- FW_CONFIRM_TIMEOUT: a trial image has run for fw_confirm_s of its start without a confirm. -/
def execFwConfirmTimeout (s : State) : Host.Outcome State Fault Refusal :=
  .next (if s.sec.trial = some s.sec.running ∧ s.sec.runStartOt + s.sec.trialConfirm ≤ s.power.ot then s.orderBegin (.restart 8) else s)

/-- FW_ACTIVATE_RESTART: 100 ms after FW_ACTIVATE completed. -/
def execFwActivateRestart (s : State) : Host.Outcome State Fault Refusal :=
  .next (if s.sec.activateDue then s.orderBegin (.restart 8) else s)

/-! ### Commands (R436, R490) -/

def State.powerStatusData (s : State) (powerMw : Nat) : Bytes :=
  let p := s.power
  le 1 p.state.code ++ le 2 p.vinMv ++ le 2 p.vbatMv ++ le 2 p.vioHMv ++ le 2 p.vioPMv ++ le 2 powerMw ++ le 1 p.thermalLevel ++ leI 4 p.packageCentiC ++
  le 1 p.cause ++ le 1 p.lossKind ++ (List.range 6).flatMap (fun k => le 2 (p.holdupTimings.getD k 0)) ++
  le 2 (min 1000 (((p.idleLog.filter fun x => decide (p.ot < x.1 + 60)).map (·.2)).sum / 60))

/-- SYS_POWER_STATUS; the power at VIN is measured, a free value (log 6). -/
def execSysPowerStatus (c : HostCmd) (s : State) : Host.Outcome State Fault Refusal :=
  .next (s.serve 0x0120 c (fun _ => [lenIs c 0]) (fun t => let (w, t1) := t.draw 4 2; (t1, .done (t1.powerStatusData w))))

/-- SYS_RESTART: DONE, then the hold-up order and a restart with cause COMMAND. -/
def execSysRestart (c : HostCmd) (s : State) : Host.Outcome State Fault Refusal :=
  .next (s.serve 0x0121 c (fun _ => [lenIs c 0]) (fun t => (t, .done [])) (fun t => t.orderBegin (.restart 8)))

/-- SYS_SHUTDOWN: DONE, then the hold-up order and OFF. -/
def execSysShutdown (c : HostCmd) (s : State) : Host.Outcome State Fault Refusal :=
  .next (s.serve 0x0122 c (fun _ => [lenIs c 0]) (fun t => (t, .done [])) (fun t => t.orderBegin .toOff))

/-- Nominal kHz of the clock domains of R429 in their order, at the thermal level in force. -/
def State.domainKhz (s : State) : List Nat :=
  [33, 16384, s.power.coreMhz * 1000, s.power.fabMhz * 1000, 1066000, 200000, 48000, 64000, 156250, 250000, 20000]

/-- State of a domain: 0 running, 1 gated, 2 stopped (log 10). On demand: CORE, FAB, MEM, NAND, PANEL; the ports' domains run while one of
their ports is enabled; PCIE is off with QSPI. -/
def State.domainState (s : State) (d : Nat) : Nat :=
  match d with
  | 5 => if s.store.programs.isEmpty && s.store.eraseQ.isEmpty then 1 else 0
  | 6 => if (List.range 4).any (fun p => s.plcN p 0 = 1) then 0 else 1
  | 7 => if (List.range 4).any (fun n => s.cfgN (0x5000 + n) 0 = 1) then 0 else 1
  | 8 => if s.cfgN 0x6010 0 = 1 || s.cfgN 0x6011 0 = 1 || s.cfgN 0xB000 2 ≤ 1 then 0 else 1
  | 9 => if s.qspi then 2 else 0
  | 10 => if s.panel.scanning then 0 else 1
  | _ => 0

def State.clocksData (s : State) : Bytes :=
  (s.domainKhz.zipIdx.flatMap fun p =>
    let st := s.domainState p.2
    let f := if 2 ≤ p.2 && p.2 ≠ 9 then ((Int.ofNat p.1) * (1000000 + s.power.tcxoPpm) / 1000000).toNat else p.1
    le 1 st ++ le 4 (if st = 0 then f else 0) ++ le 1 (b2n (decide (st ≠ 2)))) ++ leI 4 (s.power.tcxoPpm * 1000)

/-- SYS_CLOCKS: for each domain running, gated or stopped, its frequency, its lock. -/
def execSysClocks (c : HostCmd) (s : State) : Host.Outcome State Fault Refusal :=
  .next (s.serveQuery 0x0123 c 0 (fun _ => false) State.clocksData)

/-- Whether a member has been heard within the last 5 s, as a peer or in the manager's bitmap (R490). -/
def State.memberHeard (s : State) (m : Nat) : Bool :=
  s.tier.peers.any fun p => (p.1 = m && decide (s.power.ot ≤ p.2.lastOt + 5)) ||
    (p.1 = 0 && decide (s.power.ot ≤ p.2.lastOt + 5) && bit p.2.bitmap m)

/-- TIER_PROMOTE by the head-end: the member is recorded; the directory, the sealed endpoint records, the open die's mirror of them and
the PSKs start empty at the restart (R490). -/
def State.promote (s : State) (m : Nat) : State :=
  let s0 := (s.onCp fun c => { c with provisioned := [] }).onTbl fun t => t.touch ((Tab.keys s.cp.provisioned).map fun e => (regProvisioned, e))
  let s1 := (Tab.keys s.tbl.dir).foldl (fun t e => t.onTbl fun x => x.dropDir e) s0
  (((s1.onTier fun t => { t with promoted := some m }).onSec fun x => { x with psks := [] }).onSealed fun x => { x with eps := [] }).raise 243 (le 1 m ++ zeros 7)

def execTierPromote (c : HostCmd) (s : State) : Host.Outcome State Fault Refusal :=
  let m := getLE 0 1 c.req
  .next (s.serve 0x0F03 c
    (fun t =>
      let denied := !c.headend || decide (t.cfgN 0xE000 0 = 0) || decide (t.role ≠ 3)
      let judged : List (Bool × Nat) := match orderedFailure [(denied, stDeniedAuth), (t.memberHeard m, stExists)] with
        | some k => [(true, k)]
        | none => []
      [lenIs c 4, badField (decide (15 < m) || !zeroAt 1 3 c.req)] ++ judged)
    (fun t => (t.promote m, .done [])) (fun t => t.orderBegin (.restart 8)))

end Sys2Proof.Machine
end

