-- ==== Sys2Proof/Machine/CfgCheck.lean ====
section
/-! DEFINITION. Validation of a whole image (R468): each field's own range, the rules between fields of one object, the rules
between objects and device state. A failure names object, field and element. -/

namespace Sys2Proof.Machine
open Sys2Proof

/-- The first element of a list of conditions that is bad. -/
def firstBad (l : List Bool) : Option Nat :=
  let i := l.idxOf true
  if i < l.length then some i else none

/-- Elements of a field of an image. -/
def imageElems (im : Tab Int) (o f : Nat) : List Int :=
  (List.range (((fieldOf o f).map (·.elems.length)).getD 0)).map (cfgValue im o f)

def imageN (im : Tab Int) (o f : Nat) : Nat := (cfgValue im o f 0).toNat

/-- Elements that equal an earlier one. -/
def repeated (l : List Int) : List Bool := l.zipIdx.map fun p => (l.take p.2).contains p.1

/-- Whether phase_map is a permutation of the mains phases 1 to 3 (R224). -/
def phaseMapBad (v : Nat) : Bool :=
  let ps := [bits v 1 0, bits v 3 2, bits v 5 4]
  !(ps.contains 1 && ps.contains 2 && ps.contains 3)

/-- The rules of one field beside its widest range (R132, R199, R224, R231, R234, R238, R239, R276, R286, R287, R329, R330, R511, R518). -/
def ownRule (o f : Nat) (vs : List Int) : Option Nat :=
  let v : Int := vs.headD 0
  let one := fun (bad : Bool) => if bad then some 0 else none
  if o = 0x2000 ∧ f = 1 then one (!([900, 1800, 3600].contains v))
  else if 0x4000 ≤ o ∧ o ≤ 0x4003 ∧ f = 4 then one (phaseMapBad v.toNat)
  else if 0x4000 ≤ o ∧ o ≤ 0x4003 ∧ f = 6 then
    if vs.all (· = 255) then some 0 else firstBad (vs.map fun x => x ≠ 255 && (decide (21 < x) || decide (x % 3 ≠ 0)))
  else if 0x5000 ≤ o ∧ o ≤ 0x5003 ∧ f = 2 then one (!rfModeValid v.toNat)
  else if 0x5000 ≤ o ∧ o ≤ 0x5003 ∧ f = 13 then
    firstBad (vs.zipIdx.map fun p => (p.2 = 0 && p.1 = 255) || (p.1 ≠ 255 && (decide (63 < p.1) || (decide (0 < p.2) && vs.getD (p.2 - 1) 255 = 255))))
  else if 0x5010 ≤ o ∧ o ≤ 0x5013 ∧ f = 0 then
    firstBad (vs.zipIdx.map fun p => if p.2 = 0 then decide (p.1 < 11) || decide (1000 < p.1) else decide (p.1 % (max 1 v) ≠ 0))
  else if 0x5040 ≤ o ∧ o ≤ 0x5047 ∧ f = 6 then one (decide (v % 128 ≠ 0))
  else if o = 0x6000 ∧ f = 0 then firstBad (repeated vs)
  else if o = 0x7002 ∧ f = 0 then firstBad (vs.map fun x => decide (128 < x) && x ≠ 255)
  else if o = 0x8000 ∧ f = 0 then firstBad (vs.zipIdx.map fun p => (decide (0 < p.2) && decide (vs.getD (p.2 - 1) 0 < p.1)) || (p.2 = 7 && p.1 ≠ 0))
  else if 0x8100 ≤ o ∧ o ≤ 0x82FF ∧ f = 2 then one (decide (11 < v) && v ≠ 255)
  else if o = 0xD000 ∧ (f = 1 ∨ f = 2) then one (decide (v % 16 ≠ 0))
  else if o = 0xF000 ∧ (f = 1 ∨ f = 2) then one (decide (511 < v) && v ≠ 0xFFFF)
  else none

/-- Whether a value lies outside its descriptor range (R463, R471). -/
def outside (d : Field) (v : Int) : Bool := d.typ ≠ 2 && (decide (v < d.lo) || decide (d.hi < v))

/-- Pass 1 for one field. -/
def fieldFailure (im : Tab Int) (o f : Nat) : Option Nat :=
  match fieldOf o f with
  | none => some 0
  | some d =>
    let vs := imageElems im o f
    match firstBad (vs.map (outside d)) with
    | some e => some e
    | none => ownRule o f vs

/-- Pass 1 over the fields that were staged: every other field holds a value that passed before. -/
def passOne (im : Tab Int) (staged : Tab Int) : Option (Nat × Nat × Nat) :=
  ((Tab.keys staged).map (fun k => k / 256)).eraseDups.findSome? fun k =>
    (fieldFailure im (k / 256) (k % 256)).map fun e => (k / 256, k % 256, e)

/-- First failing rule of a list with its field and element. -/
def firstRule (l : List (Nat × Nat × Bool)) : Option (Nat × Nat) := (l.find? (·.2.2)).map fun p => (p.1, p.2.1)

/-- Bits set in a tone mask. -/
def tonesOf (v : Nat) : List Nat := (List.range 72).filter (bit v)

/-- Whether an owned range of a slotframe is well formed and leaves the beacon and the rescue group to slotframe 0 (R255). -/
def ownBad (im : Tab Int) (o f : Nat) : Bool :=
  let a := cfgValue im o f 0
  let b := cfgValue im o f 1
  let l := cfgValue im o 0 0
  let eb := cfgValue im o 4 0
  let r := cfgValue im o 6 0
  let inside := fun (x : Int) => decide (a ≤ x) && decide (x ≤ b)
  if a = 65535 ∧ b = 65535 then false
  else decide (b < a) || decide (l ≤ b) || inside eb || inside (r - 1) || inside r || inside (r + 1) ||
    (List.range (f - 1)).any (fun i => let c := cfgValue im o (i + 1) 0
                                       let d := cfgValue im o (i + 1) 1
                                       !(c = 65535 && d = 65535) && decide (c ≤ b) && decide (a ≤ d))

/-- Pass 2: rules between the fields of one object (R133, R134, R199, R234, R241, R254 to R256, R362, R495). -/
def passTwoObject (im : Tab Int) (o : Nat) : Option (Nat × Nat) :=
  let v := fun f => cfgValue im o f 0
  if o = 0x2001 then firstRule [(0, 0, decide (v 0 < v 1))]
  else if o = 0x2002 then firstRule [(1, 0, decide (v 0 < v 1))]
  else if 0x4000 ≤ o ∧ o ≤ 0x4003 then
    let ts := tonesOf (v 7).toNat
    firstRule [(7, 0, if v 1 = 0 then ts.any (fun t => decide (36 ≤ t)) || decide (ts.length < 12) else decide (ts.length < 24))]
  else if 0x5000 ≤ o ∧ o ≤ 0x5003 then firstRule [(4, 0, decide (6 ≤ v 2) && decide (13 < v 4))]
  else if 0x5010 ≤ o ∧ o ≤ 0x5013 then
    firstRule [(1, 0, ownBad im o 1), (2, 0, ownBad im o 2), (3, 0, ownBad im o 3), (4, 0, decide (v 0 ≤ v 4)), (6, 0, decide (v 0 - 2 < v 6))]
  else if o = 0x5020 then firstRule [(1, 0, decide (v 1 < v 3 + 1))]
  else if 0x5030 ≤ o ∧ o ≤ 0x5033 then firstRule [(7, 0, decide (v 7 < v 6 + 100))]
  else if 0x5040 ≤ o ∧ o ≤ 0x5047 then firstRule [(2, 0, decide (960000 < v 0 + (v 2 - 1) * v 1))]
  else if o = 0x9000 then
    firstRule [(2, 0, decide (v 2 < v 3 + 1)), (4, 0, decide (v 4 < v 6 + 1)), (5, 0, decide (v 5 < v 4 + 1)), (6, 0, decide (v 6 < v 7 + 1))]
  else if o = 0xD000 then firstRule [(3, 0, decide (235300 < (v 2 + 1) * (v 1 / 4 + v 3)))]
  else none

def passTwo (im : Tab Int) : Option (Nat × Nat × Nat) := openObjects.findSome? fun o => (passTwoObject im o).map fun p => (o, p)

/-! ### Pass 3 -/

/-- Channel spacing of a mode in kHz (R231). -/
def modeSpacing (m : Nat) : Nat :=
  if m ≤ 5 then [200, 400, 400, 600, 400, 600].getD m 200
  else if m < 0x20 then 1200 else if m < 0x30 then 800 else if m < 0x40 then 400 else 200

/-- Rules of a radio (R230, R233, R234, R238, R254). -/
def radioRules (im : Tab Int) (n : Nat) : List (Nat × Nat × Bool) :=
  let o := 0x5000 + n
  let v := fun f => cfgValue im o f 0
  let p := antennaPower im n
  let chans := cfgValue im (0x5040 + (v 3).toNat) 2 0
  [(1, 0, (List.range 4).any (fun q => cfgValue im (0x4000 + q) 2 0 = v 1)),
   (4, 0, decide (p < -10) || decide ((if v 2 ≤ 5 then 16 else 13) < p)),
   (8, 0, decide (cfgValue im (0x5030 + n) 2 0 < v 8 + 2))] ++
  (imageElems im o 13).zipIdx.map fun h => (13, h.2, h.1 ≠ 255 && decide (chans ≤ h.1))

/-- Rules of a timeslot template (R241). -/
def templateRules (im : Tab Int) (n : Nat) : List (Nat × Nat × Bool) :=
  let v := fun f => cfgValue im (0x5030 + n) f 0
  let mode := imageN im (0x5000 + n) 2
  let air := fun m => airtime mode (imageN im (0x5000 + n) 10) m
  [(3, 0, decide (v 3 < 5000) || decide (v 11 < v 3 + 4000 + v 10 + v 7 + v 9)),
   (9, 0, decide (v 9 < (air 30 : Nat))),
   (10, 0, decide (v 10 < (air (imageN im (0x5000 + n) 11) : Nat))),
   (11, 0, decide (v 11 % 10000 ≠ 0))]

/-- Rules of rf-sync (R246 for every wake pair, R249). -/
def State.syncRules (s : State) (im : Tab Int) : List (Nat × Nat × Bool) :=
  let v := fun f => imageN im 0x5020 f
  let guard := fun (n : Nat) (z : Sleepy) =>
    max (v 0) (cdiv ((v 1 + z.epPpm) * ((cfgValue im (0x5010 + n) 0 z.sf).toNat * imageN im (0x5030 + n) 11)) 1000000 + 100)
  let wide := fun (n : Nat) =>
    let t := fun f => imageN im (0x5030 + n) f
    decide (t 11 < v 4 + 4000) || decide (2 * t 11 < t 3 + v 4 + t 10 + t 7 + t 9)
  [(1, 0, (List.range 4).any fun n => (s.radio n).sleepy.any fun z => decide (2000 < guard n z.2)), (4, 0, (List.range 4).any wide)]

/-- Rules of a regulatory profile against the radios that name it (R234). -/
def profileRules (im : Tab Int) (k : Nat) : List (Nat × Nat × Bool) :=
  let mine := (List.range 4).filter fun n => imageN im (0x5000 + n) 3 = k
  [(1, 0, mine.any fun n => decide (imageN im (0x5040 + k) 1 < modeSpacing (imageN im (0x5000 + n) 2))),
   (6, 0, mine.any fun n => decide (imageN im (0x5030 + n) 3 < imageN im (0x5040 + k) 6 + imageN im (0x5030 + n) 2))]

/-- Role of the device under an image (R479, R485; log 48). -/
def State.roleUnder (s : State) (im : Tab Int) : Nat :=
  match s.tier.promoted with
  | some 0 => 1
  | some _ => 2
  | none => if (s.straps.tier = 1 ∨ s.straps.tier = 2) ∧ imageN im 0xE000 0 = 0 then 0 else s.straps.tier

/-- Rules of time-ptp on the tier's port (R485). -/
def State.ptpRules (s : State) (im : Tab Int) (i : Nat) : List (Nat × Nat × Bool) :=
  let r := s.roleUnder im
  let mine := decide (imageN im 0xE000 2 = i)
  [(0, 0, mine && (r = 1 || r = 2) && imageN im (0x6010 + i) 0 = 0), (1, 0, mine && r = 1 && imageN im (0x6010 + i) 1 = 0)]

/-- Rules of prefix-layout (R287): an active slot has a length other than 255. -/
def prefixRules (im : Tab Int) : List (Nat × Nat × Bool) :=
  let lens := imageElems im 0x7002 0
  let masks := imageElems im 0x7002 1
  let active := fun i => decide (lens.getD i 255 ≠ 255)
  (List.range 32).map (fun i => (0, i, active i && (List.range i).any (fun j => active j && lens.getD j 255 = lens.getD i 255))) ++
  (List.range 32).map (fun i => (1, i, active i && (masks.getD i 0 = 0 ||
    (banksOf (masks.getD i 0).toNat).any (fun b => decide (2 < ((List.range (i + 1)).filter (fun j => active j && bit (masks.getD j 0).toNat b)).length)))))

/-- Rules of queue-setup and of a queue (R330). -/
def queueRules (im : Tab Int) (o : Nat) : List (Nat × Nat × Bool) :=
  if o = 0x8000 then
    [(0, 0, decide (131072 < ((List.range 512).map (fun q => imageN im (0x8100 + q) 0)).sum + (cfgValue im 0x8000 0 0).toNat))]
  else
    let q := o - 0x8100
    let low := imageN im o 0
    let lim := imageN im o 1
    [(0, 0, lim ≠ 0 && decide (low < ((queueRow q).map (·.maxPkt)).getD 0)), (1, 0, decide (lim < low)),
     (2, 0, decide (128 ≤ q) && decide (q ≤ 255) && lim ≠ 0 && imageN im o 2 = 255)]

/-- Pass 3 for one object (R134, R195, R230, R233, R241, R246, R249, R267, R287, R330, R485). -/
def State.passThreeObject (s : State) (im : Tab Int) (o : Nat) : Option (Nat × Nat) :=
  if o = 0x2002 then firstRule [(0, 0, decide (1209600 < imageN im o 0 * imageN im 0x2000 1))]
  else if 0x4000 ≤ o ∧ o ≤ 0x4003 then
    firstRule [(2, 0, (List.range (o - 0x4000)).any fun p =>
      cfgValue im (0x4000 + p) 3 0 = cfgValue im o 3 0 && cfgValue im (0x4000 + p) 2 0 = cfgValue im o 2 0)]
  else if 0x5000 ≤ o ∧ o ≤ 0x5003 then firstRule (radioRules im (o - 0x5000))
  else if o = 0x5020 then firstRule (s.syncRules im)
  else if 0x5030 ≤ o ∧ o ≤ 0x5033 then firstRule (templateRules im (o - 0x5030))
  else if 0x5040 ≤ o ∧ o ≤ 0x5047 then firstRule (profileRules im (o - 0x5040))
  else if o = 0x6000 then
    firstRule [(3, 0, decide ((cfgValue im 0x5020 1 0 - cfgValue im 0x5020 3 0) * 1000 - 500 < cfgValue im 0x6000 3 0))]
  else if o = 0x6010 ∨ o = 0x6011 then firstRule (s.ptpRules im (o - 0x6010))
  else if o = 0x7002 then firstRule (prefixRules im)
  else if 0x8000 ≤ o ∧ o ≤ 0x82FF then firstRule (queueRules im o)
  else none

def State.passThree (s : State) (im : Tab Int) : Option (Nat × Nat × Nat) :=
  openObjects.findSome? fun o => (s.passThreeObject im o).map fun p => (o, p)

/-- Validation of the image `im` with the staged elements `staged` (R468): the first failure. -/
def State.validate (s : State) (im staged : Tab Int) : Option (Nat × Nat × Nat) :=
  match passOne im staged with
  | some x => some x
  | none => match passTwo im with
    | some x => some x
    | none => s.passThree im

end Sys2Proof.Machine
end

