-- ==== Sys2Proof/Machine/CfgRows.lean ====
section
/-! DEFINITION. The configuration commands (R462 to R478), the end of proving, and SYS_IDENT (R460). -/

namespace Sys2Proof.Machine
open Sys2Proof

/-! ### Images -/

/-- The image of a generation with staged elements over it (R467, R468). -/
def overImage (base staged : Tab Int) : Tab Int :=
  staged.foldl (fun im p => cfgSet im (keyObj p.1) (keyField p.1) (keyElem p.1) p.2) base

/-- The image a staging starts from: the generation with its base number (R467). -/
def State.baseImage (s : State) (g : Staging) : Tab Int :=
  match s.cfg.prior with
  | some p => if s.cfg.force.number ≠ g.base ∧ p.number = g.base then p.values else s.cfg.force.values
  | none => s.cfg.force.values

/-- Digest of an image (R465). -/
def genDigest (im : Tab Int) : Bytes :=
  shake 64 (openObjects.flatMap fun o => (numbered o).flatMap fun p => fieldBytes im o p.1 p.2)

/-- The next generation number (R466). -/
def State.nextGen (s : State) : Nat := s.cfg.highest + 1

/-- Objects with staged elements. -/
def stagedObjects (staged : Tab Int) : Nat := ((Tab.keys staged).map keyObj).eraseDups.length

/-! ### Sealed objects as the host reads them (R472) -/

/-- Fields of a calibration object with their offsets (R103). -/
def calFields : List (Field × Nat) :=
  [(num "sensor_type" 0xFF 0 255, 0), (num "gain_code" 0 0 255, 1), (num "hpf" 0 0 1, 2), (num "full_scale" 500000 1 0xFFFFFFFF, 4),
   (num "gain" 0x40000000 0x20000000 0x60000000, 8), (num "offset" 0 (-2147483648) 2147483647, 12),
   (num "phase_ns" 0 (-500000) 500000, 16), (num "a1" 0 (-32768) 32767, 20), (num "a2" 0 (-32768) 32767, 22)]

def isCal (o : Nat) : Bool := decide (0x1200 ≤ o) && decide (o < 0x1214)

/-- The descriptors of an object (R463): a calibration object's fields are those of its layout. -/
def describe (o : Nat) : Option Bytes :=
  if isCal o then some (le 1 calFields.length ++ calFields.zipIdx.flatMap fun p => descriptorBytes p.2 p.1.1)
  else (objectFields o).map fun l => le 1 l.length ++ l.zipIdx.flatMap fun p => descriptorBytes p.2 p.1

/-- A field record with one element (R464). -/
def oneRecord (o f : Nat) (v : Bytes) : Bytes := le 2 o ++ le 1 f ++ le 1 0 ++ le 2 1 ++ le 2 0 ++ padMul 4 v

/-- Field records of a mirrored sealed object after its verified flag (R110, R472, log 10). -/
def State.sealedRecords (s : State) (o : Nat) : Option Bytes :=
  (s.mirrored o).map fun d =>
    le 1 (b2n (isCal o && s.mirrorVerified)) ++ zeros 3 ++
    (if isCal o then calFields.zipIdx.flatMap fun p => oneRecord o p.2 (slice p.1.2 p.1.1.size d)
     else if sealedObjects.contains o then (fieldsIn o d).flatMap fun q => oneRecord o q.1 (elemBytes q.2.1 q.2.2)
     else le 2 o ++ le 1 0 ++ le 1 0 ++ le 2 d.length ++ le 2 0 ++ padMul 4 d)

/-- Field records of every field of an open object in an image. -/
def openRecords (im : Tab Int) (o : Nat) : Bytes := (numbered o).flatMap fun p => fieldRecord im o p.1 p.2

/-- The image that CFG_READ names: 0 in force, 1 staged, 2 prior, 3 factory (R478). -/
def State.imageOf (s : State) (which : Nat) : Option (Tab Int) :=
  match which with
  | 0 => some s.cfg.force.values
  | 1 => s.cfg.staging.map fun g => overImage (s.baseImage g) g.values
  | 2 => s.cfg.prior.map (·.values)
  | _ => some []

/-- What CFG_READ returns, none when the image or the object is absent. -/
def State.readObject (s : State) (which o : Nat) : Option Bytes :=
  if isSealedObject o then (if which = 0 then s.sealedRecords o else none)
  else if (objectFields o).isNone then none
  else (s.imageOf which).map fun im => openRecords im o

/-! ### Queries -/

def State.cfgStatusData (s : State) : Bytes :=
  let g := s.cfg.force
  let st := match s.cfg.genState with
    | .proven => 0
    | .proving => 1
    | .pendingRestart => 2
  let stg := s.cfg.staging
  le 4 g.number ++ le 1 g.origin ++ le 4 g.base ++ le 1 st ++ genDigest g.values ++ le 4 s.cfg.remaining ++ le 1 s.cfg.failed ++
  le 4 ((s.cfg.prior.map (·.number)).getD 0xFFFFFFFF) ++ le 4 s.nextGen ++ le 1 (b2n stg.isSome) ++ le 4 ((stg.map (·.base)).getD 0) ++
  le 4 ((stg.map (·.values.length)).getD 0) ++ le 4 s.pendingRestart.length ++
  s.pendingRestart.flatMap fun k => le 2 (keyObj k) ++ le 1 (keyField k) ++ le 1 (keyElem k)

def execCfgStatus (c : HostCmd) (s : State) : Host.Outcome State Fault Refusal :=
  .next (s.serveQuery 0x0201 c 0 (fun _ => false) State.cfgStatusData)

def execCfgDescribe (c : HostCmd) (s : State) : Host.Outcome State Fault Refusal :=
  let o := getLE 0 2 c.req
  .next (s.serve 0x0202 c (fun _ => [lenIs c 4, badField (!zeroAt 2 2 c.req), ((describe o).isNone, stNotFound)])
    (fun t => (t, .done ((describe o).getD []))))

def execCfgRead (c : HostCmd) (s : State) : Host.Outcome State Fault Refusal :=
  let w := getLE 0 1 c.req
  let o := getLE 2 2 c.req
  .next (s.serve 0x0203 c
    (fun t => [lenIs c 4, badField (decide (3 < w) || !zeroAt 1 1 c.req), ((t.readObject w o).isNone, stNotFound)])
    (fun t => (t, .done ((t.readObject w o).getD []))))

/-! ### Staging (R467, R471) -/

def execCfgBegin (c : HostCmd) (s : State) : Host.Outcome State Fault Refusal :=
  .next (s.serve 0x0204 c
    (fun t => [lenIs c 4, (decide (getLE 0 4 c.req ≠ t.cfg.force.number), stBadGeneration), (t.cfg.staging.isSome, stExists)])
    (fun t => (t.onCfg fun x => { x with staging := some { base := getLE 0 4 c.req, values := [] } }, .done [])))

/-- Whether a field is defined, sealed fields among them (R462). -/
def fieldDefined (o f : Nat) : Bool := if isCal o then decide (f < calFields.length) else (fieldOf o f).isSome

/-- The value of an element's bytes by its type (R463). -/
def elemValue (d : Field) (b : Bytes) : Int := if d.typ = 1 ∨ d.typ = 3 then toSigned d.size (fromLE b) else (fromLE b : Int)

/-- One record at the head of `b` (R464, R471): a status that refuses it, the first of R471's table that applies, or the elements it
stages and its length. The value's length is known for a defined field only. -/
def State.judgeRecord (s : State) (b : Bytes) (staged : Tab Int) : Sum Nat (Tab Int × Nat) :=
  let o := getLE 0 2 b
  let f := getLE 2 1 b
  let first := getLE 3 1 b
  let n := getLE 4 2 b
  let size := ((fieldOf o f).map (·.size)).getD 0
  let len := n * size
  let whole := 8 + cdiv len 4 * 4
  let classOk : Bool := match s.fog.unlock with
    | some u => bit u.classes (fogClass f)
    | none => false
  if b.length < whole then .inl stBadLength
  else if s.cfg.staging.isNone then .inl stBadGeneration
  else if !fieldDefined o f then .inl stNotFound
  else if isSealedObject o then .inl stDeniedSeal
  else if o / 4096 = 15 ∧ !classOk then .inl stDeniedAuth
  else
    match fieldOf o f with
    | none => .inl stNotFound
    | some d =>
      let vs := (List.range n).map fun i => (cfgKey o f (first + i), elemValue d (slice (8 + i * size) size b))
      if n = 0 ∨ d.elems.length < first + n ∨ d.effect = .readOnly ∨ !zeroAt 6 2 b ∨ !zeroAt (8 + len) (whole - 8 - len) b ∨
          vs.any (fun p => outside d p.2) then .inl stBadField
      else
        let next := vs.foldl (fun t p => Tab.set t p.1 p.2) staged
        if 16384 < next.length then .inl stBadField else .inr (next, whole)

/-- The records of a CFG_STAGE in their order: the first failure's status, or everything staged. -/
def State.judgeRecords (s : State) : Nat → Bytes → Tab Int → Sum Nat (Tab Int)
  | 0, b, st => if b.isEmpty then .inr st else .inl stBadLength
  | k + 1, b, st =>
    match s.judgeRecord b st with
    | .inl code => .inl code
    | .inr (st1, len) => State.judgeRecords s k (b.drop len) st1

/-- The staging after a CFG_STAGE, or its refusal: its records in their order, then an open staging, then their count (R22, R471). -/
def State.stageResult (s : State) (req : Bytes) : Sum Nat (Tab Int) :=
  let n := getLE 0 4 req
  if req.length < 4 then .inl stBadLength
  else
    match s.judgeRecords n (req.drop 4) ((s.cfg.staging.map (·.values)).getD []) with
    | .inl code => .inl code
    | .inr vs => if s.cfg.staging.isNone then .inl stBadGeneration else if n = 0 ∨ 1024 < n then .inl stBadField else .inr vs

def execCfgStage (c : HostCmd) (s : State) : Host.Outcome State Fault Refusal :=
  .next (s.serve 0x0205 c
    (fun t => match t.stageResult c.req with
      | .inl code => [(true, code)]
      | .inr _ => [])
    (fun t => match t.stageResult c.req with
      | .inl _ => (t, .done [])
      | .inr vs => (t.onCfg fun x => { x with staging := x.staging.map fun g => { g with values := vs } }, .done [])))

def execCfgAbort (c : HostCmd) (s : State) : Host.Outcome State Fault Refusal :=
  .next (s.serve 0x0208 c (fun t => [lenIs c 0, (t.cfg.staging.isNone, stNotFound)])
    (fun t => (t.onCfg fun x => { x with staging := none }, .done [])))

/-! ### Validation and commit (R468 to R470) -/

/-- Event 28. -/
def State.genRefused (s : State) (status number : Nat) : State := s.raise 28 (le 2 status ++ zeros 2 ++ le 4 number)

/-- The bytes that name a failing element (R468). -/
def failureBytes (x : Nat × Nat × Nat) : Bytes := le 2 x.1 ++ le 1 x.2.1 ++ le 1 x.2.2

/-- Validation of the open staging: its failure, if any. -/
def State.stagingFailure (s : State) (g : Staging) : Option (Nat × Nat × Nat) := s.validate (overImage (s.baseImage g) g.values) g.values

/-- CFG_VALIDATE: BAD_FIELD with the failing element and event 28, or DONE and then event 24. -/
def State.cfgValidate (s : State) (c : HostCmd) : State × Reply :=
  match s.cfg.staging with
  | none => (s.complete c.headend 0x0206 c.tag stBadGeneration [] true, .later)
  | some g =>
    match s.stagingFailure g with
    | some x => (s.genRefused stBadField s.nextGen, .status stBadField (failureBytes x))
    | none => (s, .done [])

def execCfgValidate (c : HostCmd) (s : State) : Host.Outcome State Fault Refusal :=
  .next (s.serve 0x0206 c (fun _ => [lenIs c 0]) (fun t => t.cfgValidate c)
    (fun t => t.raise 24 (le 4 t.nextGen ++ le 4 ((t.cfg.staging.map fun g => stagedObjects g.values).getD 0))))

/-- The image comes into force under its number: event 24, ACCEPTED, event 25; DONE follows when every block has adopted (R469, R470). -/
def State.commitImage (s : State) (op : Nat) (c : HostCmd) (values : Tab Int) (objects origin : Nat) : State :=
  let n := s.nextGen
  let old := s.cfg.force.number
  let s1 := (s.raise 24 (le 4 n ++ le 4 objects)).onCfg fun x => { x with staging := none }
  let s2 := ((s1.defer workCommit n op c).complete c.headend op c.tag stAccepted [] false).raise 25 (le 4 n ++ le 4 old)
  s2.bringInForce values origin

/-- A refused commit: its completion and event 28 (R469). -/
def State.commitRefused (s : State) (op : Nat) (c : HostCmd) (status : Nat) (data : Bytes) : State × Reply :=
  ((s.complete c.headend op c.tag status data true).genRefused status (getLE 0 4 c.req), .later)

/-- Steps 2 and 3 of R469, and the commit. -/
def State.commitJudged (s : State) (op : Nat) (c : HostCmd) (values staged : Tab Int) (objects origin : Nat) : State × Reply :=
  if s.cfg.genState ≠ .proven then s.commitRefused op c stBusy []
  else
    match s.validate values staged with
    | some x => s.commitRefused op c stBadField (failureBytes x)
    | none => (s.commitImage op c values objects origin, .later)

/-- CFG_COMMIT (R469). -/
def State.cfgCommit (s : State) (c : HostCmd) : State × Reply :=
  match s.cfg.staging with
  | none => s.commitRefused 0x0207 c stBadGeneration []
  | some g =>
    if g.base ≠ s.cfg.force.number ∨ getLE 0 4 c.req ≠ s.nextGen then s.commitRefused 0x0207 c stBadGeneration []
    else s.commitJudged 0x0207 c (overImage (s.baseImage g) g.values) g.values (stagedObjects g.values) 1

def execCfgCommit (c : HostCmd) (s : State) : Host.Outcome State Fault Refusal :=
  .next (s.serve 0x0207 c (fun _ => [lenIs c 4]) (fun t => t.cfgCommit c))

/-- CFG_FACTORY (R477): the factory image, which lists no element that differs from its default. -/
def State.cfgFactory (s : State) (c : HostCmd) : State × Reply :=
  if getLE 0 4 c.req ≠ s.nextGen then s.commitRefused 0x020B c stBadGeneration []
  else s.commitJudged 0x020B c [] [] openObjects.length 4

def execCfgFactory (c : HostCmd) (s : State) : Host.Outcome State Fault Refusal :=
  .next (s.serve 0x020B c (fun t => [lenIs c 4, (t.cfg.staging.isSome, stExists)]) (fun t => t.cfgFactory c))

/-- CFG_REVERT (R474): ACCEPTED, then DONE with the new number. -/
def execCfgRevert (c : HostCmd) (s : State) : Host.Outcome State Fault Refusal :=
  .next (s.serve 0x0209 c (fun t => [lenIs c 0, (t.cfg.prior.isNone, stNotFound)])
    (fun t => (((t.defer workRevert t.nextGen 0x0209 c).complete c.headend 0x0209 c.tag stAccepted [] false).revert 2, .later)))

/-- Whether a generation is being proved (R473). -/
def State.beingProved (s : State) : Bool := decide (s.cfg.genState = .proving) && s.cfg.adopting.isEmpty

/-- CFG_PROVE_NOW (R473, R478). -/
def execCfgProveNow (c : HostCmd) (s : State) : Host.Outcome State Fault Refusal :=
  .next (s.serve 0x020A c (fun t => [lenIs c 0, (!t.beingProved, stNotFound)])
    (fun t =>
      let t1 := t.endProving
      (t1, .done (if t1.cfg.force.number = t.cfg.force.number then [] else le 4 t1.cfg.force.number))))

/-- PROVING_END (R473): prove_s seconds of OT have passed. -/
def execProvingEnd (s : State) : Host.Outcome State Fault Refusal :=
  .next (if s.beingProved && !s.cfg.paused && s.cfg.remaining = 0 then s.endProving else s)

/-! ### SYS_IDENT -/

/-- The words ID_REV and ID_STRAPS (R443). -/
def idRev : Nat := 0x0342
def State.idStraps (s : State) : Nat := b2n s.straps.hif + 2 * (s.straps.tier % 4)

def State.identData (s : State) : Bytes :=
  le 4 0x4816 ++ le 4 idRev ++ le 4 s.idStraps ++ padTo 16 Config.openIdentity ++ padTo 16 (slice 72 16 s.cp.ident) ++
  padTo 8 (slice 0 8 s.cp.ident) ++ le 4 ((s.sec.fw.getD s.sec.running {}).image) ++ le 4 s.cfg.force.number

def execSysIdent (c : HostCmd) (s : State) : Host.Outcome State Fault Refusal :=
  .next (s.serveQuery 0x0101 c 0 (fun _ => false) State.identData)

end Sys2Proof.Machine
end

