-- ==== Sys2Proof/Machine/TickRows.lean ====
section
/-! DEFINITION. The tick of operating time with everything that happens at it, and writes of registers without behaviour of their
own (R6, R274, R442 to R446). -/

namespace Sys2Proof.Machine
open Sys2Proof

/-! ### OT_TICK -/

/-- A CLOCK_STEP injection becomes a step for this increment, like one decided at an update (R266, R519). -/
def State.clockInjection (s : State) : State :=
  match s.fog.clockStepMs with
  | none => s
  | some ms =>
    let s1 := s.onFog fun f => { f with clockStepMs := none }
    if s.time.frozen ∨ !s.fogActs 5 then s1
    else s1.onTime fun t => { t with stepPending := some (t.stepPending.getD 0 + ms * 1000000), phasePpb := 0 }

/-- A radio's timeline slews back to the grid at realign_ppm after a step (R242). -/
def State.realign (s : State) : State :=
  let r : Int := s.cfgI 0x5020 3 * 1000
  { s with radios := s.radios.map fun x =>
    let g := gridOffset x.shiftNs
    { x with shiftNs := x.shiftNs - (if 0 < g then min g r else max g (-r)) } }

/-- What of the radios' configuration a tick adopts (R252): that of a disabled radio, profiles that no enabled radio names, and rf-sync when no radio is
enabled; an enabled radio adopts at its timeslot boundaries. -/
def State.radioTick (s : State) : State :=
  let on := (List.range 4).filter fun n => s.rfN n 0 = 1
  let named := on.map fun n => 0x5040 + s.rfN n 3
  (s.adoptObjs fun o => o / 4096 = 5 && !(on.contains (o % 16) && (o / 16 = 0x500 || o / 16 = 0x501)) && !named.contains o && !(o = 0x5020 && !on.isEmpty)).radiosEnable

/-- A tick lies between two updates of the selected source, or at a whole NT second in holdover (R276); utc_offset_s is NT's UTC offset unless a
PTP source is or was selected (R265). -/
def State.timeSafePoint (s : State) : State :=
  let s1 := s.adopt 6
  if (s.time.source.getD (s.time.lostSource.getD 2)) = 2 then s1.onTime fun t => { t with utcOffset := s1.cfgI 0x6000 8 } else s1

/-- Safe points that a tick passes through: a PLC port with nothing on the air (R222), the radios (R252), the time unit
(R276), the tables (R310), the panel (R511), the balance engine while it is disabled (R124); a port enabled for the first time gets its key (R382). -/
def State.tickAdopt (s : State) : State :=
  let s1 := (List.range 4).foldl State.portSafePoint s
  let s2 := s1.radioTick
  let s3 := s2.timeSafePoint
  let s4 := s3.adopt 7
  let s5 := if s4.cfgN 0x2000 0 = 0 then s4.adopt 2 else s4
  let s6 := if s5.cp.portsEnabled then s5.firstKeys else s5
  if s6.panel.rails = .on ∧ s6.panel.scanning then s6 else s6.panelSafePoint

/-- One second of proving passes; reception counts older than a day go (R473). -/
def State.tickProving (s : State) : State :=
  s.onCfg fun c => { c with
    remaining := if c.genState = .proving ∧ !c.paused then c.remaining - 1 else c.remaining
    rxHist := c.rxHist.filter fun p => decide (s.power.ot ≤ p.1 + 86400) }

/-- Completion frames leave for the head-end, each in one protected record of channel HEADEND; without the channel's key they are dropped (R395,
R397, R458, log 172). -/
def State.sendHeadOut (s : State) : State :=
  s.host.headOut.foldl (fun t f => match t.protect 3 [] f with
    | (t1, some r) => t1.send 11 (32 + t1.cfgN 0xB000 2) (datagram t1.headendAddr (t1.cfgN 0xB000 4) r)
    | (t1, none) => t1) (s.onHost fun h => { h with headOut := [] })

/-- What the running open die does at an increment of OT, in order: completions for the head-end leave, NT goes on, a decided step, anchors that are due, proving,
safe points, a restart that a revert asked for (R266, R371, R470, R473, R474). -/
def State.openTick (s : State) : State :=
  let s1 := s.sendHeadOut.ntSecond.clockInjection
  let s2 := (if s1.time.frozen then s1 else s1.applyStep).takeAnchors
  let s3 := s2.realign.tickProving
  let s4 := if s3.power.pfw then s3 else s3.tickAdopt
  if s4.cfg.restartDue then s4.orderBegin (.restart 8) else s4

/-- OT_TICK (R274): OT counts in RUN, IDLE and HOLD, in a start as in RUN; the always-on counter counts with it. -/
def State.otTick (s : State) : State :=
  let counts : Bool := match s.power.state with
    | .run | .idle | .starting | .hold => true
    | _ => false
  if !counts then s
  else
    let s1 := s.onPower fun p => { p with ot := (p.ot + 1) % 2 ^ 40, aonNt := p.aonNt.map (· + 32768) }
    if s1.openRuns then s1.openTick else s1

def execOtTick (s : State) : Host.Outcome State Fault Refusal := .next s.otTick

/-! ### REGISTER_WRITE -/

/-- A list with element `i` replaced. -/
def setWord (l : List (BitVec 32)) (i v : Nat) : List (BitVec 32) := l.set i (BitVec.ofNat 32 v)

/-- A write into the MBX block (R444); CTRL, CR_TAIL and CPR_HEAD do what their rows do. -/
def State.writeMbx (s : State) (off v : Nat) : State :=
  let free := !s.mbxEnabled && !s.qspi
  if off = 0x008 then s.onHost fun h => { h with mbxErr := h.mbxErr &&& ~~~(BitVec.ofNat 32 v) }
  else if !free then s
  else s.onHost fun h =>
    if off = 0x010 then { h with crBaseLo := BitVec.ofNat 32 (v / 64 * 64) }
    else if off = 0x014 then { h with crBaseHi := BitVec.ofNat 32 v }
    else if off = 0x018 then { h with crSize := BitVec.ofNat 32 (v % 16) }
    else if off = 0x030 then { h with cprBaseLo := BitVec.ofNat 32 (v / 64 * 64) }
    else if off = 0x034 then { h with cprBaseHi := BitVec.ofNat 32 v }
    else if off = 0x038 then { h with cprSize := BitVec.ofNat 32 (v % 16) }
    else h

/-- A write into the NTF block (R445); CTRL and HEAD do what their rows do. -/
def State.writeNtf (s : State) (off v : Nat) : State :=
  let base := !s.ntfEnabled && !s.qspi
  if off = 0x004 ∧ base then s.onHost fun h => { h with ntfBaseLo := BitVec.ofNat 32 (v / 16 * 16) }
  else if off = 0x008 ∧ base then s.onHost fun h => { h with ntfBaseHi := BitVec.ofNat 32 v }
  else if off = 0x00C ∧ !s.qspi then s.onHost fun h => { h with ntfSize := BitVec.ofNat 32 (v % 16) }
  else if 0x020 ≤ off ∧ off ≤ 0x03C then s.onHost fun h => { h with ntfMask := setWord h.ntfMask ((off - 0x020) / 4) v }
  else if 0x040 ≤ off ∧ off ≤ 0x0BC then s.onHost fun h => { h with ntfVec := setWord h.ntfVec ((off - 0x040) / 4) v }
  else s

/-- A write into the host's table instance (R305); a GO with an operation of its own row does what that row does. -/
def State.writeTbl (s : State) (off v : Nat) : State :=
  if off = 0x00 ∧ 2 ^ 31 ≤ v then s.tblGo 0 (v % 512) 0
  else s.onTbl fun t =>
    let r := t.hostRegs
    let r1 : TblRegs :=
      if off = 0x00 then { r with cmd := v % 512 }
      else if off = 0x04 then { r with overrun := r.overrun && !bit v 1 }
      else if off = 0x08 then { r with key := v % 2 ^ 32 }
      else if off = 0x0C then { r with cursor := v % 2 ^ 20 }
      else if 0x20 ≤ off ∧ off ≤ 0x3C then { r with data := putAt (off - 0x20) (le 4 v) r.data }
      else r
    { t with hostRegs := r1 }

/-- A write into the MSI-X table (R439, R442, R456): unmasking a vector sends the message that waits in the PBA. -/
def State.writeMsix (s : State) (off v : Nat) : State :=
  let s1 := s.onHost fun h => { h with msix := h.msix.set off (v % 2 ^ 32) }
  let vec := off / 16
  if off % 16 = 12 ∧ v % 2 = 0 ∧ s.host.msixPending.contains vec then s1.sendMsi vec else s1

/-- A word at an offset of the host window (R442). Blocks and offsets that the map does not assign, and read-only registers, ignore it. -/
def State.windowWrite (s : State) (addr v : Nat) : State :=
  let off := addr % 4096
  match addr / 4096 with
  | 1 => if off = 0x000 then s.mailboxEnable v
    else if off = 0x01C then s.doorbell (v % 2 ^ 14) [] false
    else if off = 0x03C then s.completionHead (v % 2 ^ 14)
    else s.writeMbx off v
  | 2 => if off = 0x000 then s.notificationEnable v
    else if off = 0x010 then s.notificationHead (v % 2 ^ 14)
    else s.writeNtf off v
  | 3 => s.writeTbl off v
  | 4 => if off = 0 then s.onHost fun h => { h with queSel := BitVec.ofNat 32 (v % 512) } else s
  | 16 => if !s.qspi ∧ off < 256 then s.writeMsix off v else s
  | _ => if s.qspi ∧ 0x100000 ≤ addr ∧ addr < 0x1D8000 then
      s.onHost fun h => { h with ringMem := Memory.writeBytes h.ringMem addr (le 4 v) } else s

/-- REGISTER_WRITE (R5, R6, R440): a QSPI write whose address is not a multiple of 4 is malformed and sets ERR. -/
def State.registerWrite (s : State) (addr v : Nat) : State :=
  if !s.openRuns ∧ s.host.phase ≠ 3 then s
  else if addr % 4 ≠ 0 then (if s.qspi then s.onHost fun h => { h with qspiErr := true } else s)
  else s.windowWrite addr (v % 2 ^ 32)

def execRegisterWrite (addr v : Nat) (s : State) : Host.Outcome State Fault Refusal := .next (s.registerWrite addr v)

end Sys2Proof.Machine
end

