-- ==== Sys2Proof/Machine/Dispatch.lean ====
section
/-! DEFINITION. One arm per command: its meaning, or a rejection by name. -/

namespace Sys2Proof.Machine
open Sys2Proof

def exec (i : Instr) (s : State) : Host.Outcome State Fault Refusal :=
  match i with
  | .plcFrameReceive port f => Sys2Proof.Machine.execPlcFrameReceive port f s
  | .rfFrameReceive n f => Sys2Proof.Machine.execRfFrameReceive n f s
  | .receivedFrameHandle q => Sys2Proof.Machine.execReceivedFrameHandle q s
  | .profileRead eix => Sys2Proof.Machine.execProfileRead eix s
  | .gateInboundMessage received => Sys2Proof.Machine.execGateInboundMessage received s
  | .reassemblyTimeout eix => Sys2Proof.Machine.execReassemblyTimeout eix s
  | .gateOutboundReceive damaged => Sys2Proof.Machine.execGateOutboundReceive damaged s
  | .secondMarker capture => Sys2Proof.Machine.execSecondMarker capture s
  | .gateLinkReset cause => Sys2Proof.Machine.execGateLinkReset cause s
  | .sealNChange level => Sys2Proof.Machine.execSealNChange level s
  | .stampChange input level => Sys2Proof.Machine.execStampChange input level s
  | .sealedDieStart offNs => Sys2Proof.Machine.execSealedDieStart offNs s
  | .metroSample volts vne currents neutrals => Sys2Proof.Machine.execMetroSample volts vne currents neutrals s
  | .zxLost channel => Sys2Proof.Machine.execZxLost channel s
  | .zxRegained channel => Sys2Proof.Machine.execZxRegained channel s
  | .sealedTemperature centiC => Sys2Proof.Machine.execSealedTemperature centiC s
  | .orderAttempt eix => Sys2Proof.Machine.execOrderAttempt eix s
  | .orderResponse eix => Sys2Proof.Machine.execOrderResponse eix s
  | .controlStateRead eix result => Sys2Proof.Machine.execControlStateRead eix result s
  | .orderGetTimeout eix => Sys2Proof.Machine.execOrderGetTimeout eix s
  | .nodeSafePoint n => Sys2Proof.Machine.execNodeSafePoint n s
  | .intervalCloseWait n t => Sys2Proof.Machine.execIntervalCloseWait n t s
  | .balanceSolveDone n => Sys2Proof.Machine.execBalanceSolveDone n s
  | .memberSilent eix => Sys2Proof.Machine.execMemberSilent eix s
  | .balanceRebuildDone sec => Sys2Proof.Machine.execBalanceRebuildDone sec s
  | .plcTransmit port air => Sys2Proof.Machine.execPlcTransmit port air s
  | .plcAckTimeout port impulsive air => Sys2Proof.Machine.execPlcAckTimeout port impulsive air s
  | .plcFltFall port => Sys2Proof.Machine.execPlcFltFall port s
  | .plcFaultClear port => Sys2Proof.Machine.execPlcFaultClear port s
  | .plcFaultPersist port => Sys2Proof.Machine.execPlcFaultPersist port s
  | .plcPortWatchdog port => Sys2Proof.Machine.execPlcPortWatchdog port s
  | .rreqReceived port hop hops forDevice => Sys2Proof.Machine.execRreqReceived port hop hops forDevice s
  | .rrepReceived port dest hop cost hops => Sys2Proof.Machine.execRrepReceived port dest hop cost hops s
  | .rerrReceived port dest => Sys2Proof.Machine.execRerrReceived port dest s
  | .rlcreqReceived link => Sys2Proof.Machine.execRlcreqReceived link s
  | .rlcrepReceived port hop cost => Sys2Proof.Machine.execRlcrepReceived port hop cost s
  | .rreqWaitExpiry eix => Sys2Proof.Machine.execRreqWaitExpiry eix s
  | .repeaterWaitExpiry eix => Sys2Proof.Machine.execRepeaterWaitExpiry eix s
  | .routeExpiry port short => Sys2Proof.Machine.execRouteExpiry port short s
  | .blacklistExpiry port short => Sys2Proof.Machine.execBlacklistExpiry port short s
  | .sightingExpiry eix => Sys2Proof.Machine.execSightingExpiry eix s
  | .lbpJoin port eui what cost data stamp => Sys2Proof.Machine.execLbpJoin port eui what cost data stamp s
  | .endpointLeave eix => Sys2Proof.Machine.execEndpointLeave eix s
  | .plcTimeDelivery port eix commanded => Sys2Proof.Machine.execPlcTimeDelivery port eix commanded s
  | .rfTimeslot n asn overhead beacon energy acked => Sys2Proof.Machine.execRfTimeslot n asn overhead beacon energy acked s
  | .rfAckTimeout n => Sys2Proof.Machine.execRfAckTimeout n s
  | .sleepyMiss n eix => Sys2Proof.Machine.execSleepyMiss n eix s
  | .rescueCellEmpty n => Sys2Proof.Machine.execRescueCellEmpty n s
  | .walExhausted n eix => Sys2Proof.Machine.execWalExhausted n eix s
  | .rfWatchdog n => Sys2Proof.Machine.execRfWatchdog n s
  | .rfTimeDelivery n eix commanded => Sys2Proof.Machine.execRfTimeDelivery n eix commanded s
  | .ptpSync port t1 t2 count => Sys2Proof.Machine.execPtpSync port t1 t2 count s
  | .ptpDelayResp port t3 t4 count => Sys2Proof.Machine.execPtpDelayResp port t3 t4 count s
  | .ptpAnnounce port dataset gm utc => Sys2Proof.Machine.execPtpAnnounce port dataset gm utc s
  | .ptpAnnounceTimeout port => Sys2Proof.Machine.execPtpAnnounceTimeout port s
  | .ptpSyncLoss port => Sys2Proof.Machine.execPtpSyncLoss port s
  | .ptpLocked port => Sys2Proof.Machine.execPtpLocked port s
  | .ptpSyncTx port announce => Sys2Proof.Machine.execPtpSyncTx port announce s
  | .ptpDelayReqTx port => Sys2Proof.Machine.execPtpDelayReqTx port s
  | .ptpDelayReqReceived port seq requester t4 => Sys2Proof.Machine.execPtpDelayReqReceived port seq requester t4 s
  | .ethLinkChange port up => Sys2Proof.Machine.execEthLinkChange port up s
  | .lookup kind key port cost stamp mismatches ecc => Sys2Proof.Machine.execLookup kind key port cost stamp mismatches ecc s
  | .noticeDecision number => Sys2Proof.Machine.execNoticeDecision number s
  | .noticeTtlExpiry number => Sys2Proof.Machine.execNoticeTtlExpiry number s
  | .rehashComplete us => Sys2Proof.Machine.execRehashComplete us s
  | .tblRead inst get => Sys2Proof.Machine.execTblRead inst get s
  | .tblWrite inst kind mode => Sys2Proof.Machine.execTblWrite inst kind mode s
  | .tblDelete inst kind => Sys2Proof.Machine.execTblDelete inst kind s
  | .tblSearch inst get => Sys2Proof.Machine.execTblSearch inst get s
  | .tblNext inst get => Sys2Proof.Machine.execTblNext inst get s
  | .tblFlushPort inst mode => Sys2Proof.Machine.execTblFlushPort inst mode s
  | .queueOpen producer q c => Sys2Proof.Machine.execQueueOpen producer q c s
  | .queueClose producer q payload => Sys2Proof.Machine.execQueueClose producer q payload s
  | .consumerRead q ecc => Sys2Proof.Machine.execConsumerRead q ecc s
  | .storeRecordAccept q => Sys2Proof.Machine.execStoreRecordAccept q s
  | .pageBufferTimeout stream => Sys2Proof.Machine.execPageBufferTimeout stream s
  | .pageProgramDone ok => Sys2Proof.Machine.execPageProgramDone ok s
  | .bucketRefill src => Sys2Proof.Machine.execBucketRefill src s
  | .exposureExpiry handle => Sys2Proof.Machine.execExposureExpiry handle s
  | .protectedRecordRx header record => Sys2Proof.Machine.execProtectedRecordRx header record s
  | .uploadBatchSend n => Sys2Proof.Machine.execUploadBatchSend n s
  | .uploadAck n member => Sys2Proof.Machine.execUploadAck n member s
  | .headendCommand part => Sys2Proof.Machine.execHeadendCommand part s
  | .contentLoaded c => Sys2Proof.Machine.execContentLoaded c s
  | .multicastFrame c => Sys2Proof.Machine.execMulticastFrame c s
  | .memberResponse c eix ok nums data => Sys2Proof.Machine.execMemberResponse c eix ok nums data s
  | .memberRequestTimeout c eix => Sys2Proof.Machine.execMemberRequestTimeout c eix s
  | .activationDue c => Sys2Proof.Machine.execActivationDue c s
  | .powerFailWarning source mv => Sys2Proof.Machine.execPowerFailWarning source mv s
  | .holdupStep ms => Sys2Proof.Machine.execHoldupStep ms s
  | .vinUndervoltage mv => Sys2Proof.Machine.execVinUndervoltage mv s
  | .pfwCleared mv => Sys2Proof.Machine.execPfwCleared mv s
  | .vinStart mv => Sys2Proof.Machine.execVinStart mv s
  | .vbatLow mv => Sys2Proof.Machine.execVbatLow mv s
  | .idleWake ms => Sys2Proof.Machine.execIdleWake ms s
  | .tamperInput n level => Sys2Proof.Machine.execTamperInput n level s
  | .resetRelease ticks off mapMs diesOk pipesOk => Sys2Proof.Machine.execResetRelease ticks off mapMs diesOk pipesOk s
  | .startComplete ms => Sys2Proof.Machine.execStartComplete ms s
  | .doorbell tail written dmaFail => Sys2Proof.Machine.execDoorbell tail written dmaFail s
  | .mailboxEnable v => Sys2Proof.Machine.execMailboxEnable v s
  | .completionHeadWrite v => Sys2Proof.Machine.execCompletionHeadWrite v s
  | .notificationHeadWrite v => Sys2Proof.Machine.execNotificationHeadWrite v s
  | .notificationEnable v => Sys2Proof.Machine.execNotificationEnable v s
  | .registerWrite addr v => Sys2Proof.Machine.execRegisterWrite addr v s
  | .completionWrite dmaFail => Sys2Proof.Machine.execCompletionWrite dmaFail s
  | .commandTimeout headend tag => Sys2Proof.Machine.execCommandTimeout headend tag s
  | .pcieLinkReset kind => Sys2Proof.Machine.execPcieLinkReset kind s
  | .heartbeatReceive mac frame => Sys2Proof.Machine.execHeartbeatReceive mac frame s
  | .peerLoss m => Sys2Proof.Machine.execPeerLoss m s
  | .directoryFrame frame => Sys2Proof.Machine.execDirectoryFrame frame s
  | .batchSegmentFrame frame => Sys2Proof.Machine.execBatchSegmentFrame frame s
  | .batchAckFrame frame => Sys2Proof.Machine.execBatchAckFrame frame s
  | .subscribeFrame frame => Sys2Proof.Machine.execSubscribeFrame frame s
  | .contribFrame frame => Sys2Proof.Machine.execContribFrame frame s
  | .sysIdent c => Sys2Proof.Machine.execSysIdent c s
  | .sysEcho c => Sys2Proof.Machine.execSysEcho c s
  | .mbxStatus c => Sys2Proof.Machine.execMbxStatus c s
  | .sysPowerStatus c => Sys2Proof.Machine.execSysPowerStatus c s
  | .sysRestart c => Sys2Proof.Machine.execSysRestart c s
  | .sysShutdown c => Sys2Proof.Machine.execSysShutdown c s
  | .sysClocks c => Sys2Proof.Machine.execSysClocks c s
  | .cfgStatus c => Sys2Proof.Machine.execCfgStatus c s
  | .cfgDescribe c => Sys2Proof.Machine.execCfgDescribe c s
  | .cfgRead c => Sys2Proof.Machine.execCfgRead c s
  | .cfgBegin c => Sys2Proof.Machine.execCfgBegin c s
  | .cfgStage c => Sys2Proof.Machine.execCfgStage c s
  | .cfgValidate c => Sys2Proof.Machine.execCfgValidate c s
  | .cfgCommit c => Sys2Proof.Machine.execCfgCommit c s
  | .cfgAbort c => Sys2Proof.Machine.execCfgAbort c s
  | .cfgRevert c => Sys2Proof.Machine.execCfgRevert c s
  | .cfgProveNow c => Sys2Proof.Machine.execCfgProveNow c s
  | .cfgFactory c => Sys2Proof.Machine.execCfgFactory c s
  | .tblStatus c => Sys2Proof.Machine.execTblStatus c s
  | .tblOp c => Sys2Proof.Machine.execTblOp c s
  | .tblRehash c => Sys2Proof.Machine.execTblRehash c s
  | .tblNotices c => Sys2Proof.Machine.execTblNotices c s
  | .tblProof c => Sys2Proof.Machine.execTblProof c s
  | .ledgerRead c => Sys2Proof.Machine.execLedgerRead c s
  | .ledgerReadClose c => Sys2Proof.Machine.execLedgerReadClose c s
  | .ledgerReadSnapshots c => Sys2Proof.Machine.execLedgerReadSnapshots c s
  | .ledgerList c => Sys2Proof.Machine.execLedgerList c s
  | .ledgerSummary c => Sys2Proof.Machine.execLedgerSummary c s
  | .orderRetry c => Sys2Proof.Machine.execOrderRetry c s
  | .tariffStatus c => Sys2Proof.Machine.execTariffStatus c s
  | .tariffReadDoc c => Sys2Proof.Machine.execTariffReadDoc c s
  | .tariffEvaluate c => Sys2Proof.Machine.execTariffEvaluate c s
  | .tariffStepLog c => Sys2Proof.Machine.execTariffStepLog c s
  | .storeStatus c => Sys2Proof.Machine.execStoreStatus c s
  | .storeDies c => Sys2Proof.Machine.execStoreDies c s
  | .storeRead c => Sys2Proof.Machine.execStoreRead c s
  | .storeRefreshNow c => Sys2Proof.Machine.execStoreRefreshNow c s
  | .storeStreamInfo c => Sys2Proof.Machine.execStoreStreamInfo c s
  | .storeBatchList c => Sys2Proof.Machine.execStoreBatchList c s
  | .storeBatchRead c => Sys2Proof.Machine.execStoreBatchRead c s
  | .storeBatchAck c => Sys2Proof.Machine.execStoreBatchAck c s
  | .storeRelease c => Sys2Proof.Machine.execStoreRelease c s
  | .volCreate c => Sys2Proof.Machine.execVolCreate c s
  | .volDelete c => Sys2Proof.Machine.execVolDelete c s
  | .volWrite c => Sys2Proof.Machine.execVolWrite c s
  | .volRead c => Sys2Proof.Machine.execVolRead c s
  | .volTrim c => Sys2Proof.Machine.execVolTrim c s
  | .recStatus c => Sys2Proof.Machine.execRecStatus c s
  | .recRead c => Sys2Proof.Machine.execRecRead c s
  | .recExposeOpen c => Sys2Proof.Machine.execRecExposeOpen c s
  | .recExposeRead c => Sys2Proof.Machine.execRecExposeRead c s
  | .recExposeClose c => Sys2Proof.Machine.execRecExposeClose c s
  | .recAnchorNow c => Sys2Proof.Machine.execRecAnchorNow c s
  | .secStatus c => Sys2Proof.Machine.execSecStatus c s
  | .submitOpenDoc c => Sys2Proof.Machine.execSubmitOpenDoc c s
  | .lifecycleAdvance c => Sys2Proof.Machine.execLifecycleAdvance c s
  | .keyWrite c => Sys2Proof.Machine.execKeyWrite c s
  | .attest c => Sys2Proof.Machine.execAttest c s
  | .rngRead c => Sys2Proof.Machine.execRngRead c s
  | .certRead c => Sys2Proof.Machine.execCertRead c s
  | .transportRekey c => Sys2Proof.Machine.execTransportRekey c s
  | .fwBegin c => Sys2Proof.Machine.execFwBegin c s
  | .fwWrite c => Sys2Proof.Machine.execFwWrite c s
  | .fwVerify c => Sys2Proof.Machine.execFwVerify c s
  | .fwActivate c => Sys2Proof.Machine.execFwActivate c s
  | .fwConfirm c => Sys2Proof.Machine.execFwConfirm c s
  | .fwStatus c => Sys2Proof.Machine.execFwStatus c s
  | .distStatus c => Sys2Proof.Machine.execDistStatus c s
  | .distCreate c => Sys2Proof.Machine.execDistCreate c s
  | .distMembers c => Sys2Proof.Machine.execDistMembers c s
  | .distStart c => Sys2Proof.Machine.execDistStart c s
  | .distReadMembers c => Sys2Proof.Machine.execDistReadMembers c s
  | .distCancel c => Sys2Proof.Machine.execDistCancel c s
  | .distActivate c => Sys2Proof.Machine.execDistActivate c s
  | .timeStatus c => Sys2Proof.Machine.execTimeStatus c s
  | .timeSet c => Sys2Proof.Machine.execTimeSet c s
  | .timeGet c => Sys2Proof.Machine.execTimeGet c s
  | .timeSources c => Sys2Proof.Machine.execTimeSources c s
  | .timeOfferNow c => Sys2Proof.Machine.execTimeOfferNow c s
  | .balStatus c => Sys2Proof.Machine.execBalStatus c s
  | .balSetMembers c => Sys2Proof.Machine.execBalSetMembers c s
  | .balGetMember c => Sys2Proof.Machine.execBalGetMember c s
  | .balReadScores c => Sys2Proof.Machine.execBalReadScores c s
  | .balReadIntervals c => Sys2Proof.Machine.execBalReadIntervals c s
  | .balSolveNow c => Sys2Proof.Machine.execBalSolveNow c s
  | .balApplyPhase c => Sys2Proof.Machine.execBalApplyPhase c s
  | .plcPortStatus c => Sys2Proof.Machine.execPlcPortStatus c s
  | .plcNeighbours c => Sys2Proof.Machine.execPlcNeighbours c s
  | .plcRouteRead c => Sys2Proof.Machine.execPlcRouteRead c s
  | .plcRouteDiscover c => Sys2Proof.Machine.execPlcRouteDiscover c s
  | .plcPhaseShare c => Sys2Proof.Machine.execPlcPhaseShare c s
  | .plcSetPsk c => Sys2Proof.Machine.execPlcSetPsk c s
  | .plcGmkRotate c => Sys2Proof.Machine.execPlcGmkRotate c s
  | .plcPortReset c => Sys2Proof.Machine.execPlcPortReset c s
  | .plcTimeDeliver c => Sys2Proof.Machine.execPlcTimeDeliver c s
  | .rfStatus c => Sys2Proof.Machine.execRfStatus c s
  | .rfSyncRead c => Sys2Proof.Machine.execRfSyncRead c s
  | .rfScheduleRead c => Sys2Proof.Machine.execRfScheduleRead c s
  | .rfSetWake c => Sys2Proof.Machine.execRfSetWake c s
  | .rfAirtime c => Sys2Proof.Machine.execRfAirtime c s
  | .rfKeyRotate c => Sys2Proof.Machine.execRfKeyRotate c s
  | .rfRadioReset c => Sys2Proof.Machine.execRfRadioReset c s
  | .rfTimeDeliver c => Sys2Proof.Machine.execRfTimeDeliver c s
  | .panelStatus c => Sys2Proof.Machine.execPanelStatus c s
  | .panelWrite c => Sys2Proof.Machine.execPanelWrite c s
  | .panelUpdate c => Sys2Proof.Machine.execPanelUpdate c s
  | .panelLoad c => Sys2Proof.Machine.execPanelLoad c s
  | .panelBlink c => Sys2Proof.Machine.execPanelBlink c s
  | .panelContactSheet c => Sys2Proof.Machine.execPanelContactSheet c s
  | .panelReadLedger c => Sys2Proof.Machine.execPanelReadLedger c s
  | .panelRebalance c => Sys2Proof.Machine.execPanelRebalance c s
  | .tierStatus c => Sys2Proof.Machine.execTierStatus c s
  | .tierPeers c => Sys2Proof.Machine.execTierPeers c s
  | .tierPromote c => Sys2Proof.Machine.execTierPromote c s
  | .gateStatus c => Sys2Proof.Machine.execGateStatus c s
  | .readIdent c => Sys2Proof.Machine.execReadIdent c s
  | .closeBatch c => Sys2Proof.Machine.execCloseBatch c s
  | .submitDocument c => Sys2Proof.Machine.execSubmitDocument c s
  | .requestReport c => Sys2Proof.Machine.execRequestReport c s
  | .submitDocSegment c => Sys2Proof.Machine.execSubmitDocSegment c s
  | .metroLatest c => Sys2Proof.Machine.execMetroLatest c s
  | .metroZxStatus c => Sys2Proof.Machine.execMetroZxStatus c s
  | .metroReadObject c => Sys2Proof.Machine.execMetroReadObject c s
  | .metroVerifyMirror c => Sys2Proof.Machine.execMetroVerifyMirror c s
  | .metroReadHistory c => Sys2Proof.Machine.execMetroReadHistory c s
  | .fogStatus c => Sys2Proof.Machine.execFogStatus c s
  | .fogInject c => Sys2Proof.Machine.execFogInject c s
  | .fogLock c => Sys2Proof.Machine.execFogLock c s
  | .hostLinkUp rate width => Sys2Proof.Machine.execHostLinkUp rate width s
  | .orderResponseWindow eix => Sys2Proof.Machine.execOrderResponseWindow eix s
  | .gateTransmit => Sys2Proof.Machine.execGateTransmit s
  | .sealedApduProcess => Sys2Proof.Machine.execSealedApduProcess s
  | .batchAgeExpiry => Sys2Proof.Machine.execBatchAgeExpiry s
  | .batchTrailerReady => Sys2Proof.Machine.execBatchTrailerReady s
  | .sealedOutputResume => Sys2Proof.Machine.execSealedOutputResume s
  | .ackUnit => Sys2Proof.Machine.execAckUnit s
  | .storeResultUnit => Sys2Proof.Machine.execStoreResultUnit s
  | .responseUnit => Sys2Proof.Machine.execResponseUnit s
  | .readRequestUnit => Sys2Proof.Machine.execReadRequestUnit s
  | .readReturnUnit => Sys2Proof.Machine.execReadReturnUnit s
  | .releaseUnit => Sys2Proof.Machine.execReleaseUnit s
  | .journalPartReoffer => Sys2Proof.Machine.execJournalPartReoffer s
  | .timeOffer => Sys2Proof.Machine.execTimeOffer s
  | .tariffDoc => Sys2Proof.Machine.execTariffDoc s
  | .creditTxn => Sys2Proof.Machine.execCreditTxn s
  | .sealedConfig => Sys2Proof.Machine.execSealedConfig s
  | .sealedFirmwareSegment => Sys2Proof.Machine.execSealedFirmwareSegment s
  | .segmentTimeout => Sys2Proof.Machine.execSegmentTimeout s
  | .sealSessionExpiry => Sys2Proof.Machine.execSealSessionExpiry s
  | .sealedCheckpoint => Sys2Proof.Machine.execSealedCheckpoint s
  | .calendarExecution => Sys2Proof.Machine.execCalendarExecution s
  | .minuteEvaluation => Sys2Proof.Machine.execMinuteEvaluation s
  | .stateEmit => Sys2Proof.Machine.execStateEmit s
  | .metroPeriodEnd => Sys2Proof.Machine.execMetroPeriodEnd s
  | .zxStampsSend => Sys2Proof.Machine.execZxStampsSend s
  | .cpSealedPacket => Sys2Proof.Machine.execCpSealedPacket s
  | .balInPacket => Sys2Proof.Machine.execBalInPacket s
  | .hostSourceLost => Sys2Proof.Machine.execHostSourceLost s
  | .holdoverExpiry => Sys2Proof.Machine.execHoldoverExpiry s
  | .otTick => Sys2Proof.Machine.execOtTick s
  | .markerLost => Sys2Proof.Machine.execMarkerLost s
  | .zxInPacket => Sys2Proof.Machine.execZxInPacket s
  | .timeOfferDecision => Sys2Proof.Machine.execTimeOfferDecision s
  | .agingPass => Sys2Proof.Machine.execAgingPass s
  | .shadowCommit => Sys2Proof.Machine.execShadowCommit s
  | .openGrant => Sys2Proof.Machine.execOpenGrant s
  | .fanoutPacket => Sys2Proof.Machine.execFanoutPacket s
  | .expiryWeek => Sys2Proof.Machine.execExpiryWeek s
  | .recorderPacket => Sys2Proof.Machine.execRecorderPacket s
  | .sealedEventRecord => Sys2Proof.Machine.execSealedEventRecord s
  | .anchorPeriodic => Sys2Proof.Machine.execAnchorPeriodic s
  | .drbgReseed => Sys2Proof.Machine.execDrbgReseed s
  | .debugAttach => Sys2Proof.Machine.execDebugAttach s
  | .debugWindowExpiry => Sys2Proof.Machine.execDebugWindowExpiry s
  | .fwConfirmTimeout => Sys2Proof.Machine.execFwConfirmTimeout s
  | .fwActivateRestart => Sys2Proof.Machine.execFwActivateRestart s
  | .tcxoAbsent => Sys2Proof.Machine.execTcxoAbsent s
  | .idleEntry => Sys2Proof.Machine.execIdleEntry s
  | .holdExpiry => Sys2Proof.Machine.execHoldExpiry s
  | .resetPin => Sys2Proof.Machine.execResetPin s
  | .watchdogReset => Sys2Proof.Machine.execWatchdogReset s
  | .ntfLostRead => Sys2Proof.Machine.execNtfLostRead s
  | .queRefusedRead => Sys2Proof.Machine.execQueRefusedRead s
  | .qspiStatusRead => Sys2Proof.Machine.execQspiStatusRead s
  | .provingEnd => Sys2Proof.Machine.execProvingEnd s
  | .heartbeatSend => Sys2Proof.Machine.execHeartbeatSend s
  | .bufferAgeDay => Sys2Proof.Machine.execBufferAgeDay s
  | .panelFrame => Sys2Proof.Machine.execPanelFrame s
  | .panelRailUp => Sys2Proof.Machine.execPanelRailUp s
  | .pwrgoodTimeout => Sys2Proof.Machine.execPwrgoodTimeout s
  | .panelRailRetry => Sys2Proof.Machine.execPanelRailRetry s
  | .railHoldExpiry => Sys2Proof.Machine.execRailHoldExpiry s
  | .pwrgoodLost => Sys2Proof.Machine.execPwrgoodLost s
  | .contactSheetHold => Sys2Proof.Machine.execContactSheetHold s
  | .unlockExpiry => Sys2Proof.Machine.execUnlockExpiry s
  | .ptpManagement port seq action tlv => Sys2Proof.Machine.execPtpManagement port seq action tlv s
  | .proofingScan region group upset => Sys2Proof.Machine.execProofingScan region group upset s
  | .openTimeout producer q => Sys2Proof.Machine.execOpenTimeout producer q s
  | .headExpiry q => Sys2Proof.Machine.execHeadExpiry q s
  | .creditWaitLong q ms held => Sys2Proof.Machine.execCreditWaitLong q ms held s
  | .eraseDone ok die => Sys2Proof.Machine.execEraseDone ok die s
  | .pageReadDone stream seq edgeBad uncorrectable retry pct => Sys2Proof.Machine.execPageReadDone stream seq edgeBad uncorrectable retry pct s
  | .dieHang die => Sys2Proof.Machine.execDieHang die s
  | .dieRetry die ok => Sys2Proof.Machine.execDieRetry die ok s
  | .development pct => Sys2Proof.Machine.execDevelopment pct s
  | .garbageCollection pct => Sys2Proof.Machine.execGarbageCollection pct s
  | .refresh pct => Sys2Proof.Machine.execRefresh pct s
  | .weightedAge t0 t1 => Sys2Proof.Machine.execWeightedAge t0 t1 s
  | .mapCheckpoint ok => Sys2Proof.Machine.execMapCheckpoint ok s
  | .trngHealthFail test samples => Sys2Proof.Machine.execTrngHealthFail test samples s
  | .trngRestart ok samples => Sys2Proof.Machine.execTrngRestart ok samples s
  | .transportEpochRoll ch => Sys2Proof.Machine.execTransportEpochRoll ch s
  | .uploadAckTimeout n => Sys2Proof.Machine.execUploadAckTimeout n s
  | .verifyPoll c eix => Sys2Proof.Machine.execVerifyPoll c eix s
  | .verifyTimeout c eix => Sys2Proof.Machine.execVerifyTimeout c eix s
  | .vbatLost mv => Sys2Proof.Machine.execVbatLost mv s
  | .vioFault bank mv => Sys2Proof.Machine.execVioFault bank mv s
  | .railFault rail mv => Sys2Proof.Machine.execRailFault rail mv s
  | .thermalReading c => Sys2Proof.Machine.execThermalReading c s
  | .clockMonitor ppm crystal => Sys2Proof.Machine.execClockMonitor ppm crystal s
  | .lockstepReset pair => Sys2Proof.Machine.execLockstepReset pair s
  | .msiCoalesce vector => Sys2Proof.Machine.execMsiCoalesce vector s
  | .panelTemperature reading => Sys2Proof.Machine.execPanelTemperature reading s

end Sys2Proof.Machine
end

