-- ==== Sys2Proof/Safety.lean ====
section
/-! DEFINITION. The words in which the statements about this block are made: how a taken host command ends, what an operation
leaves alone, and the invariants that every step keeps. -/

namespace Sys2Proof.Machine
open Sys2Proof

/-- A command ends: `t` is the state its own rule leaves, `status` and `data` its completion, `final` whether it is its last one (R450). -/
def State.ends (t : State) (op : Nat) (c : HostCmd) (status : Nat) (data : Bytes) (final : Bool := true) : State :=
  t.complete c.headend op c.tag status data final

/-- `t` differs from `s` at most in the queue fabric and the event recorder: what raising events and sending packets touch. -/
def fabricOnly (s t : State) : Prop := t = { s with fabric := t.fabric, recd := t.recd }

/-- `t` differs from `s` at most in the sealed die. -/
def sealedOnly (s t : State) : Prop := t = { s with sealedDie := t.sealedDie }

/-- `t` differs from `s` at most in the queue fabric, the event recorder, and the mailbox's own lists of commands, frames and counts:
no register, no ring and no byte of ring memory. -/
def mailboxOnly (s t : State) : Prop :=
  t = { s with
    fabric := t.fabric
    recd := t.recd
    host := { s.host with
      inflight := t.host.inflight, counters := t.host.counters, headDeniedSince := t.host.headDeniedSince
      headOut := t.host.headOut, headIn := t.host.headIn, timedOut := t.host.timedOut, cmdStamp := t.host.cmdStamp } }

/-- The ring memory lists its bytes in the one canonical form: rising addresses, no byte that reads as an unlisted one. -/
def State.memoryWf (s : State) : Prop := Memory.wf s.host.ringMem = true

/-- The block idles: nothing waits in its queue. -/
def State.idle (s : State) : Prop := s.pending = []

/-- The commands that may write the rings' memory: those that write a completion or a notification into a ring, and a register write (which
reaches the rings' memory in QSPI mode). -/
def writesRings : Instr → Bool
  | .recorderPacket | .sealedEventRecord => true
  | .doorbell _ _ _ | .completionWrite _ => true
  | .notificationHeadWrite _ | .registerWrite _ _ => true
  | .holdupStep _ | .vinUndervoltage _ | .railFault _ _ | .tcxoAbsent => true
  | .resetPin | .watchdogReset | .lockstepReset _ => true
  | _ => false

end Sys2Proof.Machine
end

