-- ==== Sys2Proof/Certificates/Slice0/Obligations.lean ====
section
/-! DEFINITION. The statements about this block, for the provers. Each is one `def Obligations.<Name> : Prop`; where it joins several
clauses, each clause names its command. -/

open Sys2Proof Sys2Proof.Machine

/-- A step runs the command at the front of the queue with the queue's rest; an empty queue idles (R449, R457). -/
def Obligations.StepRunsTheFrontCommand : Prop :=
  (∀ (c : Instr) (rest : List Instr) (s : State), s.pending = c :: rest → 
    step s = exec c { s with pending := rest }) ∧
  (∀ (s : State), s.pending = [] → 
    step s = .next s)

/-- Every command completes in every state: no step ends in a fault or a refusal (R21, R22, R449). -/
def Obligations.EveryStepCompletes : Prop :=
  ∀ s : State, ∃ t : State, step s = .next t

/-- A step that answers takes exactly the command at the front off the queue (R449, R457). -/
def Obligations.StepTakesOnlyTheFront : Prop :=
  ∀ s t : State, step s = .next t → t.pending = s.pending.tail

/-- Every step keeps the rings' memory in its canonical form (R442, R447, R450, R455). -/
def Obligations.StepKeepsMemoryCanonical : Prop :=
  ∀ s t : State, step s = .next t → s.memoryWf → t.memoryWf

/-- The state at reset: an empty queue, canonical memory, and the reset values that the spec states (R444, R445, R370, R58). -/
def Obligations.ResetState : Prop :=
  State.reset.memoryWf ∧ State.reset.idle ∧
  State.reset.host.mbxCtrl = 0 ∧ State.reset.host.phase = 0 ∧ State.reset.host.mbxErr = 0 ∧ State.reset.host.crSize = 6 ∧
  State.reset.host.crTail = 0 ∧ State.reset.host.crHead = 0 ∧ State.reset.host.cprSize = 6 ∧ State.reset.host.cprHead = 0 ∧
  State.reset.host.cprTail = 0 ∧ State.reset.host.ntfSize = 6 ∧ State.reset.host.ntfLost = 0 ∧
  (∀ k < 8, State.reset.host.ntfMask.getD k 0 = 0xFFFFFFFF) ∧
  State.reset.cfg.force.number = 0 ∧ (∀ src < 256, (State.reset.recd.buckets.getD src {}).spent = 0) ∧ State.reset.gate.inExpected = 0

/-- Only commands that post into a ring, a register write and the hold-up and reset paths change the rings' memory (R442, R447,
R450, R455). -/
def Obligations.OnlyRingCommandsWriteRingMemory : Prop :=
  ∀ (i : Instr) (s t : State), writesRings i = false → exec i s = .next t → t.host.ringMem = s.host.ringMem

/-- The 52 reading commands of the host change nothing but the mailbox's lists, the fabric and the recorder (R449, R450, R453,
R458). -/
def Obligations.QueriesChangeOnlyTheMailbox : Prop :=
  ∀ (c : HostCmd) (s t : State),
    ∀ i ∈ [Instr.balStatus c, .balGetMember c, .cfgStatus c, .cfgDescribe c, .cfgRead c, .sysIdent c, .ledgerRead c, .ledgerReadClose c,
      .ledgerReadSnapshots c, .ledgerList c, .ledgerSummary c, .tariffStatus c, .tariffReadDoc c, .tariffEvaluate c, .tariffStepLog c,
      .gateStatus c, .readIdent c, .metroLatest c, .metroZxStatus c, .metroVerifyMirror c, .metroReadHistory c, .distStatus c,
      .distReadMembers c, .fogStatus c, .sysEcho c, .mbxStatus c, .panelStatus c, .panelReadLedger c, .plcPortStatus c, .plcRouteRead c,
      .plcPhaseShare c, .sysClocks c, .rfStatus c, .recStatus c, .recRead c, .fwStatus c, .attest c, .certRead c, .secStatus c,
      .storeStatus c, .storeDies c, .storeRead c, .storeStreamInfo c, .storeBatchList c, .storeBatchRead c, .tblStatus c, .tblNotices c,
      .tierStatus c, .tierPeers c, .timeStatus c, .timeGet c, .timeSources c],
      exec i s = .next t → mailboxOnly s t

/-- What raising an event, sending a packet, completing a command and emitting from the sealed die leave alone (R318, R370, R450,
R69). -/
def Obligations.SharedOperationsFrame : Prop :=
  (∀ (s : State) (src : Nat) (data : Bytes), fabricOnly s (s.raise src data)) ∧
  (∀ (s : State) (producer q : Nat) (payload : Bytes), fabricOnly s (s.send producer q payload)) ∧
  (∀ (s : State) (op status : Nat) (c : HostCmd) (data : Bytes) (final : Bool), mailboxOnly s (s.ends op c status data final)) ∧
  (∀ (s : State) (src : Nat) (data : Bytes), sealedOnly s (s.raiseSealed src data)) ∧
  (∀ (s : State) (items : List OutItem), sealedOnly s (s.emit items))

/-- A taken command that fails completes finally with its status and no data; nothing of its own rule happens (R22, R449, R451). -/
def Obligations.RefusedCommandsChangeOnlyTheMailbox : Prop :=
  ∀ (s : State) (op k : Nat) (c : HostCmd) (checks : State → List (Bool × Nat)) (body : State → State × Reply) (post : State → State),
    s.takes op c = true → s.verdict op c (checks s) = some k →
    ∃ t : State, s.serve op c checks body post = t.ends op c k [] ∧ mailboxOnly s t

/-- Of several failing checks the lowest status is returned, or the first where the rule orders them (R22). -/
def Obligations.LowestOrFirstFailingStatus : Prop :=
  (∀ l : List (Bool × Nat), firstFailure l = none ↔ ∀ x ∈ l, x.1 = false) ∧
  (∀ (l : List (Bool × Nat)) (k : Nat), firstFailure l = some k → (true, k) ∈ l ∧ ∀ x ∈ l, x.1 = true → k ≤ x.2) ∧
  (∀ (l : List (Bool × Nat)) (k : Nat), orderedFailure l = some k →
    ∃ pre post : List (Bool × Nat), l = pre ++ (true, k) :: post ∧ ∀ x ∈ pre, x.1 = false)

/-- A sent packet joins the tail of its queue or stays outside; no other queue but the recorder's changes (R318, R320). -/
def Obligations.SentPacketsJoinTheTail : Prop :=
  ∀ (s : State) (producer q : Nat) (payload : Bytes), q ≠ 71 → 
    (((s.send producer q payload).queue q).pkts = (s.queue q).pkts ∨
      ((s.send producer q payload).queue q).pkts = (s.queue q).pkts ++
        [{ producer := producer, seq := (s.queue q).nextSeq, cells := cellsFor payload.length, payload := payload }]) ∧
    ∀ x, x ≠ q → x ≠ 71 → ((s.send producer q payload).queue x).pkts = (s.queue x).pkts

/-- A consumer takes the first packet of its queue whose edge code holds; the bad ones before it leave the queue (R320, R16). -/
def Obligations.ConsumersTakePacketsInOrder : Prop :=
  ∀ (s : State) (q : Nat), q ≠ 71 → 
    ((s.takeHead q).1 = none ∧ ((s.takeHead q).2.queue q).pkts = [] ∧ ∀ p ∈ (s.queue q).pkts, p.good = false) ∨
    (∃ (p : Packet) (bad rest : List Packet), (s.takeHead q).1 = some p ∧ p.good = true ∧ (s.queue q).pkts = bad ++ p :: rest ∧
      (∀ x ∈ bad, x.good = false) ∧ ((s.takeHead q).2.queue q).pkts = rest)

/-- A record stored with its edge code passes the check and with any other code fails; numbers read back as written (R8, R15). -/
def Obligations.EdgeCodesAndNumbersRoundTrip : Prop :=
  (∀ b : Bytes, edgeOk (withEdge b) = true) ∧
  (∀ b x : Bytes, x.length = 4 → x ≠ le 4 (edgeCode b) → edgeOk (b ++ x) = false) ∧
  (∀ n v : Nat, fromLE (le n v) = v % 256 ^ n ∧ (le n v).length = n) ∧
  (∀ (n : Nat) (v : Int), 0 < n → -(2 ^ (8 * n - 1) : Int) ≤ v → v < (2 ^ (8 * n - 1) : Int) → toSigned n (fromLE (leI n v)) = v)

/-- A completion's data is cut into numbered segments that rejoin to it; all but the last carry MORE (R450, R458). -/
def Obligations.CompletionSegmentsRejoin : Prop :=
  ∀ (n op status tag : Nat) (final : Bool) (data : Bytes), 0 < n → 
    ∃ parts : List Bytes, parts ≠ [] ∧ parts.flatten = data ∧ (∀ p ∈ parts, p.length ≤ n) ∧
      completionFrames n op status tag final data = (List.range parts.length).map (fun k => withEdge
        (le 2 op ++ le 2 status ++ le 4 tag ++ le 4 (20 + (parts.getD k []).length) ++
          le 1 (if k + 1 < parts.length then 1 else if final then 2 else 0) ++ le 1 k ++ le 2 0 ++ parts.getD k []))

/-- Pricing charges every milliwatt-hour at the price of its block, and loses no part of the amount (R146, R147, R148). -/
def Obligations.PricingChargesEachUnitAtItsBlock : Prop :=
  ∀ (thr1 thr2 : Nat) (prices : List Nat) (exPrice : Option Nat) (standing : Nat) (carryE : Int) (carryS p dI dE charged : Nat), thr1 ≤ thr2 → 
    let r := priceCell thr1 thr2 prices exPrice standing carryE carryS p dI dE charged
    let units : Nat := ((List.range dI).map fun k =>
      prices.getD (if p + k < thr1 then 0 else if p + k < thr2 then 1 else 2) 0).sum
    let exported : Nat := match exPrice with
      | some x => dE * x
      | none => 0
    let owed := carryS + standing * charged
    r.1 * 1000000 + r.2.1 = carryE + units - exported + ((owed / 86400 : Nat) : Int) * 1000000 ∧ r.2.2.1 = owed % 86400 ∧
    -(2 ^ 31) ≤ r.1 ∧ r.1 < 2 ^ 31 ∧ (r.2.2.2 = 0 → 0 ≤ r.2.1 ∧ r.2.1 < 1000000)

/-- A priced cell's import, export and debit are added to its period; the debit leaves the balance except in mode NONE (R145,
R147, R174). -/
def Obligations.PricedDebitReachesTheAccount : Prop :=
  ∀ (s : State) (e : Ep) (c : CellReq) (late opening : Bool) (recents : List (Nat × Nat × Bool)),
    let r := s.priceFor e c late opening recents
    (r.ep.totals opening).imp = (e.totals opening).imp + (if c.first then 0 else c.imp - e.imp) ∧
    (r.ep.totals opening).exp = (e.totals opening).exp + (if c.first then 0 else c.exp - e.exp) ∧
    (r.ep.totals opening).debit = (e.totals opening).debit + r.debit ∧
    r.ep.ledger.balance = (if e.ledger.mode = 0 then e.ledger.balance else e.ledger.balance - r.debit) ∧
    r.ep.ledger.debited = (if e.ledger.mode = 0 then e.ledger.debited else e.ledger.debited + r.debit) ∧
    r.ep.ledger.credited = e.ledger.credited ∧ r.ep.ledger.emergency = e.ledger.emergency ∧
    r.ep.ledger.mode = e.ledger.mode ∧ r.ep.ledger.profile = e.ledger.profile ∧ r.ep.ledger.lastSeq = e.ledger.lastSeq

/-- An accepted credit transaction number is never acceptable again, and accepting it makes no used number acceptable (R173). -/
def Obligations.CreditNumbersAreUsedOnce : Prop :=
  ∀ (l : Ledger) (v : Nat), txnNumberOk l v = true → 
    txnNumberOk (l.markTxn v) v = false ∧
    ∀ w, (0 < l.txnHigh ∨ 0 < w) → txnNumberOk (l.markTxn v) w = true → txnNumberOk l w = true

/-- An event whose bucket is empty is not recorded: its code's suppressed count grows by one, up to 255 (R370, R332). -/
def Obligations.SpentBucketsSuppressEvents : Prop :=
  ∀ (s : State) (src : Nat) (data : Bytes), s.openRuns = true → 0 < s.cfgN (0xA010 + eventChannel src) 2 → s.cfgN (0xA010 + eventChannel src) 2 ≤ (s.recd.buckets.getD src {}).spent → 
    s.raise src data = (s.onRec fun r => { r with
      buckets := r.buckets.upd src {} (fun b => { b with suppressed := min 255 (b.suppressed + 1) })
      channels := r.channels.upd (eventChannel src) {} (fun c => { c with suppressed := c.suppressed + 1 }) }).poolCheck s.sharedFree

/-- An OPEN is granted at once exactly when the queue's limit and the floor of its rank allow it (R316, R317). -/
def Obligations.GrantsKeepLimitsAndFloors : Prop :=
  ∀ (s : State) (q c k : Nat), s.fogN 3 = 0 → s.fogN 0 = 0 → s.fabric.waiters.any (·.queue = q) = false → 
    (s.openAnswer q c k = .granted ↔ ∃ r, queueRow q = some r ∧ 1 ≤ c ∧ c ≤ r.maxPkt ∧ s.occ q + c ≤ s.qLimit q ∧
      s.floorOf r.rank + s.need q c ≤ s.sharedFree)

/-- A channel 0 record behind a gap is stored and event 228 names the expected and received sequence; a resend is discarded
(R369). -/
def Obligations.ChannelZeroGapsAndResends : Prop :=
  (∀ (s u : State) (p : Packet) (last : Nat) (r : Bytes), s.recorderNext = (some p, u) → p.producer = 13 → r = (p.payload.drop 12).take 32 → u.recd.sealedLast = some last → last + 1 < getLE 0 8 r → 
    let v := (((u.holdRecorder.acceptRecord 11 0x85 71 0 0 (some (s.recWeek 0 (getLE 0 8 r))) r).1.sealedSeen r).onRec
        fun x => { x with sealedLast := some (getLE 0 8 r) }).raise 228 (le 4 (last + 1) ++ le 4 (getLE 0 8 r))
    exec .sealedEventRecord s = .next (if getLE 16 2 r < 256 then v.notify (getLE 16 2 r) r else v)) ∧
  (∀ (s u : State) (p : Packet) (last : Nat), s.recorderNext = (some p, u) → p.producer = 13 → u.recd.sealedLast = some last → getLE 0 8 ((p.payload.drop 12).take 32) ≤ last → 
    exec .sealedEventRecord s = .next ((u.holdRecorder.releaseRead 71).onRec fun x => { x with resends := x.resends + 1 }))

/-- A packet open too long is voided with event 177, cause 2; after its CLOSE the expiry has no effect (R327). -/
def Obligations.OpenPacketsExpire : Prop :=
  (∀ (s : State) (producer q : Nat) (o : OpenPacket), s.fabric.opened.find? (fun o => o.queue = q ∧ o.producer = producer) = some o → 
    exec (.openTimeout producer q) s = .next ((s.onFabric fun f => { f with opened := f.opened.erase o }).raise 177 (le 1 2 ++ le 1 producer ++ le 2 q ++ le 4 o.cells))) ∧
  (∀ (s : State) (producer q : Nat) (payload : Bytes), (s.fabric.opened.filter (fun o => o.queue = q ∧ o.producer = producer)).length = 1 → 
    exec (.openTimeout producer q) (s.queueClose producer q payload) = .next (s.queueClose producer q payload))

/-- A balance node is one phase of one feeder and exists only while its object is enabled and its feeder emits records (R112). -/
def Obligations.BalanceNodesExist : Prop :=
  (∀ (s : State) (f p : Nat), f ≤ 3 → 1 ≤ p → p ≤ 3 → 
    (s.nodeExists (3 * f + (p - 1)) = true ↔ s.cfgN (0x2010 + (3 * f + (p - 1))) 0 = 1 ∧ s.feederUsed f = true)) ∧
  (∀ (s : State) (n : Nat), 12 ≤ n → 
    s.nodeExists n = false)

/-- An endpoint with no best phase matches no phase candidate; without sightings its election fails at once with zero attempts
(R216). -/
def Obligations.PhaselessElectionsFail : Prop :=
  (∀ (s : State) (port eix short : Nat), s.bestPhase port eix = 0 → short ∈ s.candidates port eix → 
    short ∈ (s.plc.sightings.getD eix []).map (·.1)) ∧
  (∀ (s : State) (eix : Nat) (d : PlcDisc), s.plc.discs.get? eix = some d → d.attempts = 0 → s.cfgN 0x4012 0 = 1 → s.bestPhase d.port eix = 0 → s.plc.sightings.getD eix [] = [] → 
    let u := ((s.onPlc fun x => { x with discs := (x.discs.set eix { d with electing := true, cands := [] }).erase eix }).dropMesh d.port eix).finish
      workRoute eix stNotFound []
    s.elect eix = (if d.frames.any (fun f => f.kind = .time) then u.finish workTime eix stPeerLost [] else u).raisePlc d.port 4 (eix3 eix ++ le 1 0))

/-- Each commit, revert and factory commit takes the highest number ever held plus one; generation 0 is in force at reset (R466). -/
def Obligations.GenerationNumbersAreFresh : Prop :=
  (∀ (s : State) (op : Nat) (c : HostCmd) (values : Tab Int) (objects origin : Nat),
    (s.commitImage op c values objects origin).cfg.force.number = s.cfg.highest + 1 ∧
    (s.commitImage op c values objects origin).cfg.highest = s.cfg.highest + 1) ∧
  (∀ (s : State) (cause : Nat) (p : Generation), s.cfg.prior = some p → 
    (s.revert cause).cfg.force.number = s.cfg.highest + 1 ∧ (s.revert cause).cfg.highest = s.cfg.highest + 1) ∧
  (∀ (s : State) (c : HostCmd), s.accepts 0x020B c = true → c.req.length = 4 → s.cfg.staging = none → getLE 0 4 c.req ≠ s.cfg.highest + 1 → 
    exec (.cfgFactory c) s = .next (((s.taken 0x020B c).ends 0x020B c stBadGeneration []).genRefused stBadGeneration (getLE 0 4 c.req))) ∧
  (State.reset.cfg.force.number = 0 ∧ State.reset.cfg.highest = 0)

/-- SYS_IDENT, SYS_ECHO, MBX_STATUS, SYS_POWER_STATUS, SYS_RESTART, SYS_SHUTDOWN and SYS_CLOCKS complete with DONE (R21, R436,
R432, R455). -/
def Obligations.SystemCommandsComplete : Prop :=
  (∀ (s : State) (c : HostCmd), s.accepts 0x0101 c = true → c.req.length = 0 → 
    exec (.sysIdent c) s = .next ((s.taken 0x0101 c).ends 0x0101 c stDone (s.taken 0x0101 c).identData)) ∧
  (∀ (s : State) (c : HostCmd), s.accepts 0x0102 c = true → c.req.length ≤ 4096 → 
    exec (.sysEcho c) s = .next ((s.taken 0x0102 c).ends 0x0102 c stDone c.req)) ∧
  (∀ (s : State) (c : HostCmd), s.accepts 0x0103 c = true → c.req.length = 0 → 
    exec (.mbxStatus c) s = .next ((s.taken 0x0103 c).ends 0x0103 c stDone (s.taken 0x0103 c).mbxStatusData)) ∧
  (∀ (s : State) (c : HostCmd), s.accepts 0x0120 c = true → c.req.length = 0 → 
    exec (.sysPowerStatus c) s = .next ((((s.taken 0x0120 c).draw 4 2).2).ends 0x0120 c stDone ((((s.taken 0x0120 c).draw 4 2).2.powerStatusData ((s.taken 0x0120 c).draw 4 2).1)))) ∧
  (∀ (s : State) (c : HostCmd), s.accepts 0x0121 c = true → c.req.length = 0 → 
    exec (.sysRestart c) s = .next (((s.taken 0x0121 c).ends 0x0121 c stDone []).orderBegin (.restart 8))) ∧
  (∀ (s : State) (c : HostCmd), s.accepts 0x0122 c = true → c.req.length = 0 → 
    exec (.sysShutdown c) s = .next (((s.taken 0x0122 c).ends 0x0122 c stDone []).orderBegin .toOff)) ∧
  (∀ (s : State) (c : HostCmd), s.accepts 0x0123 c = true → c.req.length = 0 → 
    exec (.sysClocks c) s = .next ((s.taken 0x0123 c).ends 0x0123 c stDone (s.taken 0x0123 c).clocksData))

/-- The configuration commands 0x0201 to 0x020B complete as R466 to R477 say (R463, R464, R466, R467, R468, R469, R473, R474,
R477). -/
def Obligations.ConfigurationCommandsComplete : Prop :=
  (∀ (s : State) (c : HostCmd), s.accepts 0x0201 c = true → c.req.length = 0 → 
    exec (.cfgStatus c) s = .next ((s.taken 0x0201 c).ends 0x0201 c stDone (s.taken 0x0201 c).cfgStatusData)) ∧
  (∀ (s : State) (c : HostCmd), s.accepts 0x0202 c = true → c.req.length = 4 → zeroAt 2 2 c.req = true → (describe (getLE 0 2 c.req)).isSome = true → 
    exec (.cfgDescribe c) s = .next ((s.taken 0x0202 c).ends 0x0202 c stDone (((describe (getLE 0 2 c.req)).getD [])))) ∧
  (∀ (s : State) (c : HostCmd), s.accepts 0x0203 c = true → c.req.length = 4 → getLE 0 1 c.req ≤ 3 → zeroAt 1 1 c.req = true → (s.readObject (getLE 0 1 c.req) (getLE 2 2 c.req)).isSome = true → 
    exec (.cfgRead c) s = .next ((s.taken 0x0203 c).ends 0x0203 c stDone ((((s.taken 0x0203 c).readObject (getLE 0 1 c.req) (getLE 2 2 c.req)).getD [])))) ∧
  (∀ (s : State) (c : HostCmd), s.accepts 0x0204 c = true → c.req.length = 4 → getLE 0 4 c.req = s.cfg.force.number → s.cfg.staging = none → 
    exec (.cfgBegin c) s = .next (((s.taken 0x0204 c).onCfg fun x => { x with staging := some { base := getLE 0 4 c.req, values := [] } }).ends 0x0204 c stDone [])) ∧
  (∀ (s : State) (c : HostCmd) (vs : Tab Int), s.accepts 0x0205 c = true → s.stageResult c.req = .inr vs → 
    exec (.cfgStage c) s = .next (((s.taken 0x0205 c).onCfg fun x => { x with staging := x.staging.map fun g => { g with values := vs } }).ends
      0x0205 c stDone [])) ∧
  (∀ (s : State) (c : HostCmd), s.accepts 0x0206 c = true → c.req.length = 0 → ((s.taken 0x0206 c).cfg.staging.map (s.taken 0x0206 c).stagingFailure) = some none → 
    exec (.cfgValidate c) s = .next (((s.taken 0x0206 c).ends 0x0206 c stDone []).raise 24 (le 4 (((s.taken 0x0206 c).ends 0x0206 c stDone []).nextGen) ++ le 4 ((((s.taken 0x0206 c).ends 0x0206 c stDone []).cfg.staging.map fun g => stagedObjects g.values).getD 0)))) ∧
  (∀ (s : State) (c : HostCmd) (g : Staging), s.accepts 0x0207 c = true → c.req.length = 4 → s.cfg.staging = some g → g.base = s.cfg.force.number → getLE 0 4 c.req = s.nextGen → s.cfg.genState = .proven → (s.taken 0x0207 c).validate (overImage (s.baseImage g) g.values) g.values = none → 
    exec (.cfgCommit c) s = .next ((s.taken 0x0207 c).commitImage 0x0207 c (overImage (s.baseImage g) g.values) (stagedObjects g.values) 1)) ∧
  (∀ (s : State) (c : HostCmd), s.accepts 0x0208 c = true → c.req.length = 0 → s.cfg.staging.isSome = true → 
    exec (.cfgAbort c) s = .next (((s.taken 0x0208 c).onCfg fun x => { x with staging := none }).ends 0x0208 c stDone [])) ∧
  (∀ (s : State) (c : HostCmd) (p : Generation), s.accepts 0x0209 c = true → c.req.length = 0 → s.cfg.prior = some p → 
    exec (.cfgRevert c) s = .next (((((s.taken 0x0209 c).defer workRevert (s.taken 0x0209 c).nextGen 0x0209 c).ends 0x0209 c stAccepted [] false)).revert 2)) ∧
  (∀ (s : State) (c : HostCmd), s.accepts 0x020A c = true → c.req.length = 0 → s.cfg.genState = .proving → s.cfg.adopting = [] → 
    exec (.cfgProveNow c) s = .next ((s.taken 0x020A c).endProving.ends 0x020A c stDone ((if (s.taken 0x020A c).endProving.cfg.force.number = (s.taken 0x020A c).cfg.force.number then [] else le 4 (s.taken 0x020A c).endProving.cfg.force.number)))) ∧
  (∀ (s : State) (c : HostCmd), s.accepts 0x020B c = true → c.req.length = 4 → s.cfg.staging = none → getLE 0 4 c.req = s.nextGen → s.cfg.genState = .proven → (s.taken 0x020B c).validate [] [] = none → 
    exec (.cfgFactory c) s = .next ((s.taken 0x020B c).commitImage 0x020B c [] openObjects.length 4))

/-- TBL_STATUS, TBL_OP, TBL_REHASH, TBL_NOTICES and TBL_PROOF complete as R300, R303, R306 and R311 say (R300, R303, R306, R311). -/
def Obligations.TableCommandsComplete : Prop :=
  (∀ (s : State) (c : HostCmd), s.accepts 0x0301 c = true → c.req.length = 0 → 
    exec (.tblStatus c) s = .next ((s.taken 0x0301 c).ends 0x0301 c stDone (s.taken 0x0301 c).tblStatusData)) ∧
  (∀ (s : State) (c : HostCmd) (r : TblRegs), s.accepts 0x0302 c = true → c.req.length = 44 → r = { s.tbl.cpRegs with
      cmd := getLE 0 4 c.req % 512, key := getLE 4 4 c.req, cursor := getLE 8 4 c.req % 2 ^ 20, data := padTo 32 (c.req.drop 12), count := 0 } → tblReserved (getLE 0 4 c.req) (getLE 4 4 c.req) (getLE 8 4 c.req) = false → 
    exec (.tblOp c) s = .next (((((s.taken 0x0302 c).tblOperateEcc r 0).1.onTbl fun t => { t with cpRegs := ((s.taken 0x0302 c).tblOperateEcc r 0).2 }).ends 0x0302 c
      ((s.taken 0x0302 c).tblOperateEcc r 0).2.status
      (le 4 ((s.taken 0x0302 c).tblOperateEcc r 0).2.key ++ le 4 ((s.taken 0x0302 c).tblOperateEcc r 0).2.cursor ++
        le 4 ((s.taken 0x0302 c).tblOperateEcc r 0).2.count ++ padTo 32 ((s.taken 0x0302 c).tblOperateEcc r 0).2.data)))) ∧
  (∀ (s : State) (c : HostCmd), s.accepts 0x0303 c = true → c.req.length = 12 → s.tbl.rebuild = none → getLE 0 1 c.req ≤ 1 → zeroAt 1 3 c.req = true → (getLE 0 1 c.req = 1 → getLE 8 4 c.req = 0) → 
    exec (.tblRehash c) s = .next ((((s.taken 0x0303 c).onTbl fun x => { x with rebuild := some { table := getLE 0 1 c.req, seed0 := getLE 4 4 c.req, seed1 := getLE 8 4 c.req } }).defer
      workRehash (getLE 0 1 c.req) 0x0303 c).ends 0x0303 c stAccepted [] false)) ∧
  (∀ (s : State) (c : HostCmd), s.accepts 0x0304 c = true → c.req.length = 8 → getLE 0 4 c.req < 4096 → 1 ≤ getLE 4 4 c.req → getLE 4 4 c.req ≤ 64 → 
    exec (.tblNotices c) s = .next ((s.taken 0x0304 c).ends 0x0304 c stDone ((s.taken 0x0304 c).hostNotices (getLE 0 4 c.req) (getLE 4 4 c.req)))) ∧
  (∀ (s : State) (c : HostCmd), s.accepts 0x0305 c = true → (c.req.length = 12 ∨ c.req.length = 12 + 4 * getLE 8 4 c.req) → zeroAt 1 3 c.req = true → 1 ≤ getLE 8 4 c.req → getLE 8 4 c.req ≤ 256 → getLE 4 4 c.req + getLE 8 4 c.req ≤ proofGroups (getLE 0 1 c.req) → 
    exec (.tblProof c) s = .next ((s.taken 0x0305 c).ends 0x0305 c stDone ((s.taken 0x0305 c).proofData c.req)))

/-- The ledger, order and tariff commands 0x0401 to 0x0504 complete with what the open die or the sealed die holds (R171, R182,
R177, R188, R160). -/
def Obligations.LedgerAndTariffCommandsComplete : Prop :=
  (∀ (s : State) (c : HostCmd) (r : Bytes), s.accepts 0x0401 c = true → c.req.length = 4 → getLE 0 4 c.req < 2 ^ 18 → s.cp.current.get? (getLE 0 4 c.req) = some r → 
    exec (.ledgerRead c) s = .next ((s.taken 0x0401 c).ends 0x0401 c stDone (r ++ (s.taken 0x0401 c).orderBytes (getLE 0 4 c.req)))) ∧
  (∀ (s : State) (c : HostCmd) (r : StoreRec), s.accepts 0x0402 c = true → c.req.length = 8 → getLE 0 4 c.req < 2 ^ 18 → (s.meetsOffline 6 fun r => r.kind = 0x82 && getLE 0 4 r.data = getLE 0 4 c.req && getLE 4 1 r.data = 1 && getLE 56 4 r.data = getLE 4 4 c.req) = false → (((s.images (getLE 0 4 c.req) 1).filter (fun r => getLE 56 4 r.data = getLE 4 4 c.req))).getLast? = some r → 
    exec (.ledgerReadClose c) s = .next ((s.taken 0x0402 c).ends 0x0402 c stDone r.data)) ∧
  (∀ (s : State) (c : HostCmd), s.accepts 0x0403 c = true → c.req.length = 16 → getLE 0 4 c.req < 2 ^ 18 → 1 ≤ getLE 12 4 c.req → getLE 12 4 c.req ≤ 64 → (s.meetsOffline 6 fun r => r.kind = 0x82 && getLE 0 4 r.data = getLE 0 4 c.req && getLE 4 1 r.data = 2 &&
      decide (getLE 4 8 c.req + s.power.ot ≤ s.time.nt.sec + r.ot)) = false → 
    exec (.ledgerReadSnapshots c) s = .next ((s.taken 0x0403 c).ends 0x0403 c stDone (((((((s.taken 0x0403 c).images (getLE 0 4 c.req) 2).filter (fun r => decide (getLE 4 8 c.req + (s.taken 0x0403 c).power.ot ≤ (s.taken 0x0403 c).time.nt.sec + r.ot))).take (getLE 12 4 c.req)).map
      (·.data)).flatten)))) ∧
  (∀ (s : State) (c : HostCmd), s.accepts 0x0404 c = true → c.req.length = 12 → getLE 1 1 c.req ≤ 2 → zeroAt 3 1 c.req = true → getLE 4 4 c.req < 2 ^ 18 → 1 ≤ getLE 8 4 c.req → getLE 8 4 c.req ≤ 1024 → 
    exec (.ledgerList c) s = .next ((s.taken 0x0404 c).ends 0x0404 c stDone (((((s.taken 0x0404 c).cp.current.filter (fun p => decide (getLE 4 4 c.req ≤ p.1) && ledgerMatches c.req p.2)).take (getLE 8 4 c.req)).map (fun p => le 4 p.1)).flatten))) ∧
  (∀ (s : State) (c : HostCmd), s.accepts 0x0405 c = true → c.req.length = 0 → 
    exec (.ledgerSummary c) s = .next ((s.taken 0x0405 c).ends 0x0405 c stDone (s.taken 0x0405 c).ledgerSummary)) ∧
  (∀ (s : State) (c : HostCmd), s.accepts 0x0406 c = true → c.req.length = 4 → getLE 0 4 c.req < 2 ^ 18 → s.orderRetryable (getLE 0 4 c.req) = true → 
    exec (.orderRetry c) s = .next (((s.taken 0x0406 c).onCp fun x => { x with orders := x.orders.adj (getLE 0 4 c.req) fun o => { o with
      attempts := 0, startOt := (s.taken 0x0406 c).power.ot, nextOt := (s.taken 0x0406 c).power.ot, outcome := 0xFF, awaiting := false, getSent := false, undelivered := false, finished := false } }).ends 0x0406 c stDone [])) ∧
  (∀ (s : State) (c : HostCmd), s.accepts 0x0501 c = true → c.req.length = 0 → 
    exec (.tariffStatus c) s = .next ((s.taken 0x0501 c).ends 0x0501 c stDone (s.taken 0x0501 c).tariffStatus)) ∧
  (∀ (s : State) (c : HostCmd) (b : Bytes), s.accepts 0x0502 c = true → c.req.length = 4 → getLE 0 1 c.req ≤ 2 → zeroAt 1 3 c.req = true → s.heldDoc (getLE 0 1 c.req) = some b → 
    exec (.tariffReadDoc c) s = .next ((s.taken 0x0502 c).ends 0x0502 c stDone b)) ∧
  (∀ (s : State) (c : HostCmd) (d : TDoc) (w : Bool), s.accepts 0x0503 c = true → c.req.length = 12 → 1 ≤ getLE 8 4 c.req → getLE 8 4 c.req ≤ getLE 0 8 c.req → s.tariffView.docFor ((getLE 0 8 c.req : Int) - (getLE 8 4 c.req : Nat)) = some (d, w) → 
    exec (.tariffEvaluate c) s = .next ((s.taken 0x0503 c).ends 0x0503 c stDone
      ((s.taken 0x0503 c).tariffAt d ((getLE 0 8 c.req : Int) - (getLE 8 4 c.req : Nat))))) ∧
  (∀ (s : State) (c : HostCmd), s.accepts 0x0504 c = true → c.req.length = 0 → 
    exec (.tariffStepLog c) s = .next ((s.taken 0x0504 c).ends 0x0504 c stDone (padTo 256 (((s.taken 0x0504 c).tariffView.stepLog.take 16).map (fun e => leI 8 e.1 ++ leI 8 e.2)).flatten)))

/-- STORE_STATUS to STORE_RELEASE complete as R360 says (R360, R359, R336, R352). -/
def Obligations.StorageCommandsComplete : Prop :=
  (∀ (s : State) (c : HostCmd), s.accepts 0x0601 c = true → c.req.length = 0 → 
    exec (.storeStatus c) s = .next ((s.taken 0x0601 c).ends 0x0601 c stDone (s.taken 0x0601 c).storeStatusData)) ∧
  (∀ (s : State) (c : HostCmd), s.accepts 0x0602 c = true → c.req.length = 0 → 
    exec (.storeDies c) s = .next ((s.taken 0x0602 c).ends 0x0602 c stDone (s.taken 0x0602 c).storeDiesData)) ∧
  (∀ (s : State) (c : HostCmd), s.accepts 0x0603 c = true → c.req.length = 16 → streamExists (getLE 0 1 c.req) = true → (getLE 0 1 c.req = 1 ∨ 6 ≤ getLE 0 1 c.req) → 1 ≤ getLE 12 4 c.req → getLE 12 4 c.req ≤ 1024 → zeroAt 1 3 c.req = true → ((((s.validRecs (getLE 0 1 c.req)).filter (fun r => decide (getLE 4 8 c.req ≤ r.seq))).take (getLE 12 4 c.req)).any fun r => !s.readable r) = false → 
    exec (.storeRead c) s = .next ((s.taken 0x0603 c).ends 0x0603 c stDone ((((((s.taken 0x0603 c).streamRecs (getLE 0 1 c.req)).filter (fun r => decide (getLE 4 8 c.req ≤ r.seq))).take (getLE 12 4 c.req)).map storedBytes).flatten))) ∧
  (∀ (s : State) (c : HostCmd), s.accepts 0x0604 c = true → c.req.length = 4 → getLE 0 2 c.req ≤ 959 → zeroAt 2 2 c.req = true → ((s.sb (getLE 0 2 c.req)).phase = .closed ∨ (s.sb (getLE 0 2 c.req)).phase = .verified ∨ (s.sb (getLE 0 2 c.req)).phase = .full) → 
    exec (.storeRefreshNow c) s = .next ((((s.taken 0x0604 c).queueRefresh (getLE 0 2 c.req) 0).defer workRefresh (getLE 0 2 c.req) 0x0604 c).ends 0x0604 c stAccepted [] false)) ∧
  (∀ (s : State) (c : HostCmd), s.accepts 0x0605 c = true → c.req.length = 4 → streamExists (getLE 0 1 c.req) = true → zeroAt 1 3 c.req = true → 
    exec (.storeStreamInfo c) s = .next ((s.taken 0x0605 c).ends 0x0605 c stDone ((le 8 ((((s.taken 0x0605 c).streamRecs (getLE 0 1 c.req)).head?.map (·.seq)).getD 0) ++ le 8 ((((s.taken 0x0605 c).streamRecs (getLE 0 1 c.req)).getLast?.map (·.seq)).getD 0) ++
      le 2 ((((s.taken 0x0605 c).streamRecs (getLE 0 1 c.req)).head?.map (·.week)).getD 0xFFFF))))) ∧
  (∀ (s : State) (c : HostCmd), s.accepts 0x0606 c = true → c.req.length = 12 → 1 ≤ getLE 8 4 c.req → getLE 8 4 c.req ≤ 256 → 
    exec (.storeBatchList c) s = .next ((s.taken 0x0606 c).ends 0x0606 c stDone (((((s.taken 0x0606 c).store.batches.filter (fun p => decide (getLE 0 8 c.req ≤ p.1))).take (getLE 8 4 c.req)).map fun p => batchEntryBytes p.1 p.2).flatten))) ∧
  (∀ (s : State) (c : HostCmd) (b : Bytes), s.accepts 0x0607 c = true → c.req.length = 16 → s.batchBytes (getLE 0 8 c.req) = some b → (s.taken 0x0607 c).batchBytes (getLE 0 8 c.req) = some b → getLE 8 4 c.req < b.length → 1 ≤ getLE 12 4 c.req → getLE 12 4 c.req ≤ 262144 → s.batchOffline (getLE 0 8 c.req) = false → 
    exec (.storeBatchRead c) s = .next ((s.taken 0x0607 c).ends 0x0607 c stDone (slice (getLE 8 4 c.req) (getLE 12 4 c.req) b))) ∧
  (∀ (s : State) (c : HostCmd), s.accepts 0x0608 c = true → c.req.length = 8 → 
    exec (.storeBatchAck c) s = .next (((s.taken 0x0608 c).onStore fun st => { st with
      batches := st.batches.mapVals fun k b => if k ≤ getLE 0 8 c.req ∧ b.complete then { b with delivered := true } else b }).ends 0x0608 c stDone [])) ∧
  (∀ (s : State) (c : HostCmd) (b : BatchEntry), s.accepts 0x0609 c = true → c.req.length = 8 → s.store.batches.get? (getLE 0 8 c.req) = some b → b.delivered = true → 
    exec (.storeRelease c) s = .next (((s.taken 0x0609 c).onStore fun st => { st with
      recs := st.recs.mapVals fun _ r => if r.stream = 1 ∧ r.seq ≤ b.trailer then { r with invalid := true } else r }).ends 0x0609 c stDone []))

/-- VOL_CREATE, VOL_DELETE, VOL_WRITE, VOL_READ and VOL_TRIM complete as R361 says (R361, R360). -/
def Obligations.VolumeCommandsComplete : Prop :=
  (∀ (s : State) (c : HostCmd), s.accepts 0x0610 c = true → c.req.length = 12 → getLE 0 1 c.req ≤ 15 → zeroAt 1 3 c.req = true → s.store.vols.has (getLE 0 1 c.req) = false → (s.store.vols.vals.map (·.sizeMib)).sum + getLE 4 4 c.req ≤ s.cfgN 0x9000 14 → 
    exec (.volCreate c) s = .next (((s.taken 0x0610 c).onStore fun st => { st with vols := st.vols.set (getLE 0 1 c.req) { sizeMib := getLE 4 4 c.req, days := getLE 8 4 c.req } }).ends 0x0610 c stDone [])) ∧
  (∀ (s : State) (c : HostCmd), s.accepts 0x0611 c = true → c.req.length = 4 → getLE 0 1 c.req ≤ 15 → zeroAt 1 3 c.req = true → s.store.vols.has (getLE 0 1 c.req) = true → 
    exec (.volDelete c) s = .next (((s.taken 0x0611 c).dropVolume (getLE 0 1 c.req)).ends 0x0611 c stDone [])) ∧
  (∀ (s : State) (c : HostCmd), s.accepts 0x0612 c = true → (c.req.drop 8).length % 4096 = 0 → 1 ≤ (c.req.drop 8).length / 4096 → (c.req.drop 8).length / 4096 ≤ 64 → getLE 0 1 c.req ≤ 15 → zeroAt 1 3 c.req = true → s.store.vols.has (getLE 0 1 c.req) = true → getLE 4 4 c.req + (c.req.drop 8).length / 4096 ≤ s.volBlocks (getLE 0 1 c.req) → s.store.state = .normal → (pushVolume (s.taken 0x0612 c) (getLE 0 1 c.req) (getLE 4 4 c.req) (c.req.drop 8)).2 = ((volPackets 6 (getLE 0 1 c.req) (getLE 4 4 c.req) (c.req.drop 8)).length, true) → 
    let n := (volPackets 6 (getLE 0 1 c.req) (getLE 4 4 c.req) (c.req.drop 8)).length
    exec (.volWrite c) s = .next ((pushVolume (s.taken 0x0612 c) (getLE 0 1 c.req) (getLE 4 4 c.req) (c.req.drop 8)).1.onStore fun st => { st with
      volPushed := st.volPushed + n
      volWrites := if n = 0 then st.volWrites else st.volWrites ++ [{ headend := c.headend, tag := c.tag, first := st.volPushed, total := n, left := n }] })) ∧
  (∀ (s : State) (c : HostCmd), s.accepts 0x0613 c = true → c.req.length = 12 → getLE 0 1 c.req ≤ 15 → zeroAt 1 3 c.req = true → s.store.vols.has (getLE 0 1 c.req) = true → 1 ≤ getLE 8 4 c.req → getLE 8 4 c.req ≤ 64 → getLE 4 4 c.req + getLE 8 4 c.req ≤ s.volBlocks (getLE 0 1 c.req) → (List.range (getLE 8 4 c.req)).any (fun k => (s.taken 0x0613 c).volOffline (getLE 0 1 c.req) (getLE 4 4 c.req + k)) = false → 
    exec (.volRead c) s = .next ((s.taken 0x0613 c).ends 0x0613 c (if (List.range (getLE 8 4 c.req)).any (fun k => (s.taken 0x0613 c).volExpired (getLE 0 1 c.req) (getLE 4 4 c.req + k)) then stNotFound else stDone) (((List.range (getLE 8 4 c.req)).map fun k => (s.taken 0x0613 c).volBlock (getLE 0 1 c.req) (getLE 4 4 c.req + k)).flatten))) ∧
  (∀ (s : State) (c : HostCmd), s.accepts 0x0614 c = true → c.req.length = 12 → getLE 0 1 c.req ≤ 15 → zeroAt 1 3 c.req = true → s.store.vols.has (getLE 0 1 c.req) = true → getLE 4 4 c.req + getLE 8 4 c.req ≤ s.volBlocks (getLE 0 1 c.req) → 
    exec (.volTrim c) s = .next ((((s.taken 0x0614 c).onStore fun st => { st with vols := st.vols.adj (getLE 0 1 c.req) fun x =>
      { x with blocks := x.blocks.filter (fun p => !(decide (getLE 4 4 c.req ≤ p.1) && decide (p.1 < getLE 4 4 c.req + getLE 8 4 c.req))) } }).dropReplaced (getLE 0 1 c.req)).ends 0x0614 c stDone []))

/-- REC_STATUS, REC_READ, the exposure commands and REC_ANCHOR_NOW complete as R371, R376 and R377 say (R371, R376, R377). -/
def Obligations.RecorderCommandsComplete : Prop :=
  (∀ (s : State) (c : HostCmd), s.accepts 0x0701 c = true → c.req.length = 0 → 
    exec (.recStatus c) s = .next ((s.taken 0x0701 c).ends 0x0701 c stDone (s.taken 0x0701 c).recStatusData)) ∧
  (∀ (s : State) (c : HostCmd), s.accepts 0x0702 c = true → c.req.length = 16 → getLE 0 1 c.req ≤ 15 → zeroAt 1 3 c.req = true → 1 ≤ getLE 12 4 c.req → getLE 12 4 c.req ≤ 256 → (((s.channelRecs (getLE 0 1 c.req)).filter (fun r => decide (getLE 4 8 c.req ≤ recSeqOf r.data))).take (getLE 12 4 c.req)).any (fun r => !s.readable r) = false → 
    exec (.recRead c) s = .next ((s.taken 0x0702 c).ends 0x0702 c stDone ((le 8 ((s.taken 0x0702 c).rollLow (getLE 0 1 c.req)) ++ (s.taken 0x0702 c).channelHigh (getLE 0 1 c.req) ++
      (((((s.taken 0x0702 c).channelRecs (getLE 0 1 c.req)).filter (fun r => decide (getLE 4 8 c.req ≤ recSeqOf r.data))).take (getLE 12 4 c.req)).map (·.data)).flatten)))) ∧
  (∀ (s : State) (c : HostCmd), s.accepts 0x0703 c = true → c.req.length = 4 → recPrivileged (getLE 0 1 c.req) = true → zeroAt 1 3 c.req = true → s.recd.exposures.length < 4 → (s.taken 0x0703 c).recd.exposures = s.recd.exposures → 
    exec (.recExposeOpen c) s = .next (((s.taken 0x0703 c).onRec fun r => { r with
      exposures := r.exposures ++ [{ handle := (s.taken 0x0703 c).recd.nextHandle, channel := getLE 0 1 c.req, low := (s.taken 0x0703 c).rollLow (getLE 0 1 c.req)
                                     stop := (s.taken 0x0703 c).channelStop (getLE 0 1 c.req), lastOt := (s.taken 0x0703 c).power.ot }]
      nextHandle := ((s.taken 0x0703 c).recd.nextHandle + 1) % 2 ^ 32 }).ends 0x0703 c stDone ((le 4 (s.taken 0x0703 c).recd.nextHandle ++ le 8 (min (recNegative (getLE 0 1 c.req)) ((s.taken 0x0703 c).channelStop (getLE 0 1 c.req))) ++ le 8 ((s.taken 0x0703 c).rollLow (getLE 0 1 c.req)) ++
      (s.taken 0x0703 c).channelHigh (getLE 0 1 c.req))))) ∧
  (∀ (s : State) (c : HostCmd) (e : Exposure), s.accepts 0x0704 c = true → c.req.length = 16 → 1 ≤ getLE 12 4 c.req → getLE 12 4 c.req ≤ 256 → s.recd.exposures.find? (·.handle = getLE 0 4 c.req) = some e → (s.taken 0x0704 c).recd.exposures.find? (·.handle = getLE 0 4 c.req) = some e → e.shows (getLE 4 8 c.req) = true → (((s.channelRecs e.channel).filter (fun r => decide (getLE 4 8 c.req ≤ recSeqOf r.data) && e.shows (recSeqOf r.data))).take
      (getLE 12 4 c.req)).any (fun r => !s.readable r) = false → 
    exec (.recExposeRead c) s = .next (((s.taken 0x0704 c).exposureUsed (getLE 0 4 c.req)).ends 0x0704 c stDone
      (((((s.taken 0x0704 c).channelRecs e.channel).filter (fun r => decide (getLE 4 8 c.req ≤ recSeqOf r.data) && e.shows (recSeqOf r.data))).take
        (getLE 12 4 c.req)).map (·.data)).flatten)) ∧
  (∀ (s : State) (c : HostCmd) (e : Exposure), s.accepts 0x0705 c = true → c.req.length = 4 → s.recd.exposures.find? (·.handle = getLE 0 4 c.req) = some e → (s.taken 0x0705 c).recd.exposures.find? (·.handle = getLE 0 4 c.req) = some e → 
    exec (.recExposeClose c) s = .next ((((s.taken 0x0705 c).onRec fun r => { r with exposures := r.exposures.filter (·.handle ≠ e.handle) }).trimRoll
      e.channel).ends 0x0705 c stDone [])) ∧
  (∀ (s : State) (c : HostCmd), s.accepts 0x0706 c = true → c.req.length = 0 → 2 ≤ s.time.level → 
    exec (.recAnchorNow c) s = .next (((s.taken 0x0706 c).anchorDue 4).defer workAnchor 0 0x0706 c))

/-- SEC_STATUS, SUBMIT_OPEN_DOC, LIFECYCLE_ADVANCE, KEY_WRITE, ATTEST, RNG_READ, CERT_READ and TRANSPORT_REKEY complete as R399
says (R399, R384, R392, R380, R394, R396). -/
def Obligations.SecurityCommandsComplete : Prop :=
  (∀ (s : State) (c : HostCmd), s.accepts 0x0801 c = true → c.req.length = 0 → 
    exec (.secStatus c) s = .next ((s.taken 0x0801 c).ends 0x0801 c stDone (s.taken 0x0801 c).secStatusData)) ∧
  (∀ (s : State) (c : HostCmd), s.accepts 0x0802 c = true → 3368 ≤ c.req.length → 
    exec (.submitOpenDoc c) s = .next (match (s.taken 0x0802 c).openDocFailure c.req with
      | some st => ((s.taken 0x0802 c).raise 213 (le 2 (getLE 4 2 c.req) ++ le 2 st ++ le 4 (getLE 12 4 c.req))).ends 0x0802 c st []
      | none => ((((s.taken 0x0802 c).onSec fun x => { x with docVersions := x.docVersions.set (getLE 4 2 c.req) (getLE 12 4 c.req) }).raise 212
          (le 2 (getLE 4 2 c.req) ++ le 2 0 ++ le 4 (getLE 12 4 c.req))).openDocEffect (getLE 4 2 c.req) (getLE 12 4 c.req)
            (slice 56 (getLE 8 4 c.req) c.req)).ends 0x0802 c stDone [])) ∧
  (∀ (s : State) (c : HostCmd), s.accepts 0x0803 c = true → c.req.length = 4 → getLE 0 1 c.req = 2 → zeroAt 1 3 c.req = true → s.sec.lifecycle = 1 → (s.sec.slot 1).content.isSome = true → (s.sec.slot 2).content.isSome = true → 
    exec (.lifecycleAdvance c) s = .next (((s.taken 0x0803 c).lifecycleTo 2).ends 0x0803 c stDone [])) ∧
  (∀ (s : State) (c : HostCmd), s.accepts 0x0804 c = true → s.keyWriteFailure c.req = none → 
    exec (.keyWrite c) s = .next (match (if getLE 1 1 c.req = 0 then some (c.req.drop 8) else
          (s.taken 0x0804 c).unwrapSlot (padTo 16 Config.openIdentity ++ le 1 (getLE 0 1 c.req) ++
            le 1 ((((s.taken 0x0804 c).sec.slot (getLE 0 1 c.req)).epoch + 1) % 256)) (c.req.drop 8)) with
      | none => (s.taken 0x0804 c).ends 0x0804 c stSignatureBad []
      | some k => (((s.taken 0x0804 c).onSec fun x => x.writeSlot (getLE 0 1 c.req) (padTo (slotKeyLength (getLE 0 1 c.req)) k)).raise 214
          (le 1 (getLE 0 1 c.req) ++ le 1 ((((s.taken 0x0804 c).sec.slot (getLE 0 1 c.req)).epoch + 1) % 256) ++
            le 1 (getLE 1 1 c.req))).ends 0x0804 c stDone [])) ∧
  (∀ (s : State) (c : HostCmd), s.accepts 0x0805 c = true → c.req.length = 32 → s.sec.debugSeen = false → 
    let r := if (s.taken 0x0805 c).sec.trngStopped then (zeros 32, s.taken 0x0805 c) else (s.taken 0x0805 c).random 32
    exec (.attest c) s = .next (r.2.ends 0x0805 c stDone ((s.taken 0x0805 c).attestReport c.req r.1))) ∧
  (∀ (s : State) (c : HostCmd), s.accepts 0x0806 c = true → c.req.length = 4 → 1 ≤ getLE 0 4 c.req → getLE 0 4 c.req ≤ 4096 → s.sec.trngStopped = false → 
    exec (.rngRead c) s = .next (((s.taken 0x0806 c).onSec fun x => { x with requests := x.requests + 1, drbgIndex := x.drbgIndex + 1 }).ends 0x0806 c stDone (padTo (getLE 0 4 c.req) (Config.drbg (s.taken 0x0806 c).sec.drbgIndex)))) ∧
  (∀ (s : State) (c : HostCmd), s.accepts 0x0807 c = true → c.req.length = 4 → 1 ≤ getLE 0 1 c.req → getLE 0 1 c.req ≤ 2 → zeroAt 1 3 c.req = true → 
    exec (.certRead c) s = .next ((s.taken 0x0807 c).ends 0x0807 c stDone (padTo 5320 (Config.certificate (getLE 0 1 c.req - 1))))) ∧
  (∀ (s : State) (c : HostCmd), s.accepts 0x0809 c = true → c.req.length = 4 → 1 ≤ getLE 0 1 c.req → getLE 0 1 c.req ≤ 3 → zeroAt 1 3 c.req = true → s.sec.debugSeen = false → 
    exec (.transportRekey c) s = .next (((s.taken 0x0809 c).onChan (getLE 0 1 c.req) fun x => { x with sendEpoch := x.sendEpoch + 1, sendNum := 0 }).ends 0x0809 c stDone []))

/-- FW_BEGIN, FW_WRITE, FW_VERIFY, FW_ACTIVATE, FW_CONFIRM and FW_STATUS complete as R390 says (R390, R388, R391, R399). -/
def Obligations.FirmwareCommandsComplete : Prop :=
  (∀ (s : State) (c : HostCmd), s.accepts 0x0810 c = true → c.req.length = 4 → 5393 ≤ getLE 0 4 c.req → getLE 0 4 c.req ≤ 16777216 → s.sec.trial = none → s.sec.lifecycle ≠ 4 → 
    exec (.fwBegin c) s = .next (((s.taken 0x0810 c).onFw (s.taken 0x0810 c).idleSlot fun _ => { length := getLE 0 4 c.req }).ends 0x0810 c stDone [])) ∧
  (∀ (s : State) (c : HostCmd), s.accepts 0x0811 c = true → c.req.length = 8 + getLE 4 4 c.req → 1 ≤ getLE 4 4 c.req → getLE 4 4 c.req ≤ 65536 → s.sec.trial = none → s.sec.lifecycle ≠ 4 → (s.sec.fw.getD s.idleSlot {}).valid = false → getLE 0 4 c.req = (s.sec.fw.getD s.idleSlot {}).data.length → (s.sec.fw.getD s.idleSlot {}).data.length + getLE 4 4 c.req ≤ (s.sec.fw.getD s.idleSlot {}).length → 
    exec (.fwWrite c) s = .next (((s.taken 0x0811 c).onFw (s.taken 0x0811 c).idleSlot fun f => { f with data := f.data ++ c.req.drop 8 }).ends 0x0811 c stDone [])) ∧
  (∀ (s : State) (c : HostCmd), s.accepts 0x0812 c = true → c.req.length = 0 → s.sec.lifecycle ≠ 4 → 
    exec (.fwVerify c) s = .next (match (if ((s.taken 0x0812 c).sec.fw.getD (s.taken 0x0812 c).idleSlot {}).factory then
          (s.taken 0x0812 c).slotFailure (s.taken 0x0812 c).idleSlot
        else if ((s.taken 0x0812 c).sec.fw.getD (s.taken 0x0812 c).idleSlot {}).data.length ≠
            ((s.taken 0x0812 c).sec.fw.getD (s.taken 0x0812 c).idleSlot {}).length then some 1
        else (s.taken 0x0812 c).imageFailure ((s.taken 0x0812 c).sec.fw.getD (s.taken 0x0812 c).idleSlot {}).data) with
      | none => (((s.taken 0x0812 c).onFw (s.taken 0x0812 c).idleSlot fun x => { x with
          valid := true
          image := if x.factory then x.image else getLE 8 4 x.data
          security := if x.factory then x.security else getLE 12 4 x.data }).rollbackRaise).ends 0x0812 c stDone []
      | some k => (if k = 6 then (s.taken 0x0812 c).raise 215 (le 1 4 ++ le 1 (s.taken 0x0812 c).idleSlot ++ zeros 2 ++ le 4 1) else
          s.taken 0x0812 c).ends 0x0812 c (if 5 ≤ k then stDeniedAuth else stSignatureBad) [])) ∧
  (∀ (s : State) (c : HostCmd), s.accepts 0x0813 c = true → c.req.length = 0 → s.sec.trial = none → s.sec.lifecycle ≠ 4 → (s.sec.fw.getD s.idleSlot {}).valid = true → 
    exec (.fwActivate c) s = .next (((s.taken 0x0813 c).onSec fun x => { x with trial := some (1 - x.active), attempts := 0, activateDue := true, trialConfirm := (s.taken 0x0813 c).cfgN 0xB000 0, trialMax := (s.taken 0x0813 c).cfgN 0xB000 1 }).ends 0x0813 c stDone [])) ∧
  (∀ (s : State) (c : HostCmd), s.accepts 0x0814 c = true → c.req.length = 0 → s.sec.lifecycle ≠ 4 → s.sec.trial = some s.sec.running → 
    exec (.fwConfirm c) s = .next ((((s.taken 0x0814 c).onSec fun x => { x with active := x.running, trial := none, attempts := 0 }).rollbackRaise).ends 0x0814 c stDone [])) ∧
  (∀ (s : State) (c : HostCmd), s.accepts 0x0815 c = true → c.req.length = 0 → 
    exec (.fwStatus c) s = .next ((s.taken 0x0815 c).ends 0x0815 c stDone (s.taken 0x0815 c).fwStatusData))

/-- DIST_STATUS, DIST_CREATE, DIST_MEMBERS, DIST_START, DIST_READ_MEMBERS, DIST_CANCEL and DIST_ACTIVATE complete as R415 says
(R415, R402, R411). -/
def Obligations.DistributionCommandsComplete : Prop :=
  (∀ (s : State) (c : HostCmd), s.accepts 0x0901 c = true → c.req.length = 4 → getLE 0 1 c.req ≤ 7 → zeroAt 1 3 c.req = true → s.camps.has (getLE 0 1 c.req) = true → 
    exec (.distStatus c) s = .next ((s.taken 0x0901 c).ends 0x0901 c stDone ((s.taken 0x0901 c).distStatus (getLE 0 1 c.req)))) ∧
  (∀ (s : State) (c : HostCmd) (k : Nat), s.accepts 0x0902 c = true → c.req.length = 96 + getLE 92 1 c.req → s.badCreate c.req = false → s.freeCampaign = some k → ((getLE 0 1 c.req = 1 → (s.camps.filter (fun x => x.2.kind = 1 && x.2.phase ≠ .ended)).length < 4)) → 
    exec (.distCreate c) s = .next (((s.taken 0x0902 c).putCampaign k {
      kind := getLE 0 1 c.req, volume := getLE 1 1 c.req, first := getLE 4 4 c.req, length := getLE 8 4 c.req, digest := slice 12 64 c.req
      obis := slice 76 6 c.req, actNt := getLE 84 8 c.req, ident := slice 96 (getLE 92 1 c.req) c.req }).ends 0x0902 c stDone (le 1 k ++ zeros 3))) ∧
  (∀ (s : State) (c : HostCmd), s.accepts 0x0903 c = true → c.req.length = 8 + 8 * getLE 4 4 c.req → getLE 0 1 c.req ≤ 7 → zeroAt 1 3 c.req = true → s.camps.has (getLE 0 1 c.req) = true → 1 ≤ getLE 4 4 c.req → getLE 4 4 c.req ≤ 512 → ((distEntries c.req).map (·.1)).eraseDups.length = (distEntries c.req).length → (distEntries c.req).all (fun e => decide (e.1 < 2 ^ 18) && (decide (e.2.1 ≤ 2) || e.2.1 == 0xFF) && e.2.2) = true → (distEntries c.req).any (fun e => e.2.1 ≠ 0 && e.2.1 ≠ 0xFF && s.isSleepy e.1) = false → (s.camps.get? (getLE 0 1 c.req)).any (fun x => x.phase = .ended || (distEntries c.req).any (fun e => e.2.1 = 0xFF && !x.members.has e.1)) = false → (s.camps.get? (getLE 0 1 c.req)).any (fun x => (distEntries c.req).any (fun e => e.2.1 ≠ 0xFF && (s.inOther (getLE 0 1 c.req) x.kind e.1 || (x.phase ≠ .defined && (x.members.get? e.1).any (fun m => m.state ≠ .cancelled))))) = false → 
    exec (.distMembers c) s = .next (((distEntries c.req).foldl (fun u e => u.distMember (getLE 0 1 c.req) e.1 e.2.1) (s.taken 0x0903 c)).ends 0x0903 c stDone [])) ∧
  (∀ (s : State) (c : HostCmd), s.accepts 0x0904 c = true → c.req.length = 4 → getLE 0 1 c.req ≤ 7 → zeroAt 1 3 c.req = true → (s.camps.get? (getLE 0 1 c.req)).map (fun x => x.phase) = some CampPhase.defined → 
    exec (.distStart c) s = .next ((((s.taken 0x0904 c).onCamp (getLE 0 1 c.req) fun x => { x with phase := .loading }).defer workDist (getLE 0 1 c.req) 0x0904 c).ends 0x0904 c stAccepted [] false)) ∧
  (∀ (s : State) (c : HostCmd), s.accepts 0x0905 c = true → c.req.length = 12 → 1 ≤ getLE 8 4 c.req → getLE 8 4 c.req ≤ 256 → getLE 0 1 c.req ≤ 7 → zeroAt 1 3 c.req = true → s.camps.has (getLE 0 1 c.req) = true → 
    exec (.distReadMembers c) s = .next ((s.taken 0x0905 c).ends 0x0905 c stDone (match s.camps.get? (getLE 0 1 c.req) with
      | some x => (((x.members.filter (fun m => decide (getLE 4 4 c.req ≤ m.1))).take (getLE 8 4 c.req)).map (fun m => distMemberBytes m.1 m.2)).flatten
      | none => []))) ∧
  (∀ (s : State) (c : HostCmd), s.accepts 0x0906 c = true → c.req.length = 4 → getLE 0 1 c.req ≤ 7 → zeroAt 1 3 c.req = true → s.camps.has (getLE 0 1 c.req) = true → 
    exec (.distCancel c) s = .next (((s.taken 0x0906 c).distCancel (getLE 0 1 c.req)).ends 0x0906 c stDone [])) ∧
  (∀ (s : State) (c : HostCmd) (x : Campaign), s.accepts 0x0907 c = true → c.req.length = 4 → getLE 0 1 c.req ≤ 7 → zeroAt 1 3 c.req = true → s.camps.get? (getLE 0 1 c.req) = some x → x.actNt = 0 → 
    exec (.distActivate c) s = .next ((if x.phase = .ended then s.taken 0x0907 c else
      ((s.taken 0x0907 c).onCamp (getLE 0 1 c.req) fun y => { y with due := true }).activateReady (getLE 0 1 c.req)).ends 0x0907 c stDone []))

/-- TIME_STATUS, TIME_SET, TIME_GET, TIME_SOURCES and TIME_OFFER_NOW complete as R278 says (R278, R260, R266, R272). -/
def Obligations.TimeCommandsComplete : Prop :=
  (∀ (s : State) (c : HostCmd), s.accepts 0x0A01 c = true → c.req.length = 0 → 
    exec (.timeStatus c) s = .next ((s.taken 0x0A01 c).ends 0x0A01 c stDone (s.taken 0x0A01 c).timeStatus)) ∧
  (∀ (s : State) (c : HostCmd), s.accepts 0x0A02 c = true → c.req.length = 16 → getLE 12 4 c.req ≤ 2000 → getLE 8 4 c.req ≤ 999999999 → s.strongSource = false → 
    exec (.timeSet c) s = .next (((s.taken 0x0A02 c).timeSet (getLE 0 8 c.req) (getLE 8 4 c.req) (getLE 12 4 c.req)).ends 0x0A02 c stDone [])) ∧
  (∀ (s : State) (c : HostCmd), s.accepts 0x0A03 c = true → c.req.length = 0 → 
    exec (.timeGet c) s = .next ((s.taken 0x0A03 c).ends 0x0A03 c stDone (le 8 (s.taken 0x0A03 c).host.cmdStamp.1 ++ le 4 (s.taken 0x0A03 c).host.cmdStamp.2 ++ le 8 (s.taken 0x0A03 c).time.nt.sec ++ le 4 (s.taken 0x0A03 c).time.nt.ns ++ le 1 (s.taken 0x0A03 c).time.level))) ∧
  (∀ (s : State) (c : HostCmd), s.accepts 0x0A04 c = true → c.req.length = 0 → 
    exec (.timeSources c) s = .next ((s.taken 0x0A04 c).ends 0x0A04 c stDone (((List.range 3).map (s.taken 0x0A04 c).candBytes).flatten))) ∧
  (∀ (s : State) (c : HostCmd), s.accepts 0x0A05 c = true → c.req.length = 0 → s.offerAllowed = true → s.offerFits = true → 
    exec (.timeOfferNow c) s = .next (((s.taken 0x0A05 c).defer workOffer ((s.taken 0x0A05 c).nextSeqOn 18) 0x0A05 c).sendOffer))

/-- BAL_STATUS, BAL_SET_MEMBERS, BAL_GET_MEMBER, BAL_READ_SCORES, BAL_READ_INTERVALS, BAL_SOLVE_NOW and BAL_APPLY_PHASE complete
as R136 says (R136, R113). -/
def Obligations.BalanceCommandsComplete : Prop :=
  (∀ (s : State) (c : HostCmd), s.accepts 0x0B01 c = true → c.req.length = 0 → 
    exec (.balStatus c) s = .next ((s.taken 0x0B01 c).ends 0x0B01 c stDone (s.taken 0x0B01 c).balStatus)) ∧
  (∀ (s : State) (c : HostCmd), s.accepts 0x0B02 c = true → c.req.length = 4 + 8 * getLE 0 2 c.req → s.badMembers c.req = false → 
    exec (.balSetMembers c) s = .next (((s.taken 0x0B02 c).onBal fun b => { b with staged := b.staged ++ (memberEntries c.req).map (fun e => (e.1, e.2.1, e.2.2.1, e.2.2.2.1)) }).ends 0x0B02 c stDone [])) ∧
  (∀ (s : State) (c : HostCmd) (m : Member), s.accepts 0x0B03 c = true → c.req.length = 4 → reqEix c < 2 ^ 18 → s.bal.members.get? (reqEix c) = some m → 
    exec (.balGetMember c) s = .next ((s.taken 0x0B03 c).ends 0x0B03 c stDone ((s.taken 0x0B03 c).memberBytes (reqEix c) m))) ∧
  (∀ (s : State) (c : HostCmd), s.accepts 0x0B04 c = true → c.req.length = 12 → getLE 0 1 c.req ≤ 11 → zeroAt 1 3 c.req = true → 1 ≤ getLE 8 4 c.req → getLE 8 4 c.req ≤ 256 → s.bal.rebuilding = false → 
    exec (.balReadScores c) s = .next ((s.taken 0x0B04 c).ends 0x0B04 c stDone ((((((s.taken 0x0B04 c).node (getLE 0 1 c.req)).scores.drop (getLE 4 4 c.req)).take (getLE 8 4 c.req)).map (Score.bytes (getLE 0 1 c.req))).flatten))) ∧
  (∀ (s : State) (c : HostCmd), s.accepts 0x0B05 c = true → c.req.length = 16 → getLE 0 1 c.req ≤ 11 → zeroAt 1 3 c.req = true → 1 ≤ getLE 12 4 c.req → getLE 12 4 c.req ≤ 256 → s.bal.rebuilding = false → 
    exec (.balReadIntervals c) s = .next ((s.taken 0x0B05 c).ends 0x0B05 c stDone ((((((s.taken 0x0B05 c).node (getLE 0 1 c.req)).ints.filter (fun p => decide (getLE 4 8 c.req ≤ p.1))).take (getLE 12 4 c.req)).map (fun p => intervalRecord (getLE 0 1 c.req) p.1 p.2)).flatten))) ∧
  (∀ (s : State) (c : HostCmd) (ns : List Nat), s.accepts 0x0B06 c = true → c.req.length = 4 → 1 ≤ getLE 0 4 c.req → getLE 0 4 c.req < 4096 → s.bal.rebuilding = false → ns = (s.taken 0x0B06 c).solveNodes c → 
    let u := s.taken 0x0B06 c
    let v := ((ns.foldl (fun t n => t.onNode n fun x => { x with want := true }) (u.onBal fun b => { b with
        commands := if ns.isEmpty then b.commands else b.commands ++ [(u.bal.nextCommand, ns.map fun n => (n, (u.node n).starts + 1))]
        nextCommand := u.bal.nextCommand + 1 })).defer workSolve u.bal.nextCommand 0x0B06 c).ends 0x0B06 c stAccepted [] false
    exec (.balSolveNow c) s = .next (if ns.isEmpty then v.finish workSolve u.bal.nextCommand stDone [] else v)) ∧
  (∀ (s : State) (c : HostCmd) (m : Member) (p : Nat), s.accepts 0x0B07 c = true → c.req.length = 4 → reqEix c < 2 ^ 18 → s.bal.members.get? (reqEix c) = some m → m.result = some p → s.overfull [(reqEix c, m.feeder, 2 ^ (p - 1), m.flags)] = false → 
    exec (.balApplyPhase c) s = .next (((s.taken 0x0B07 c).onBal fun b => { b with staged := b.staged ++ [(reqEix c, m.feeder, 2 ^ (p - 1), m.flags)] }).ends 0x0B07 c stDone []))

/-- The PLC commands complete as R227 says (R227, R217, R384). -/
def Obligations.PowerLineCommandsComplete : Prop :=
  (∀ (s : State) (c : HostCmd), s.accepts 0x0C01 c = true → c.req.length = 4 → getLE 0 1 c.req ≤ 3 → zeroAt 1 3 c.req = true → 
    exec (.plcPortStatus c) s = .next ((s.taken 0x0C01 c).ends 0x0C01 c stDone ((s.taken 0x0C01 c).plcStatus (getLE 0 1 c.req)))) ∧
  (∀ (s : State) (c : HostCmd), s.accepts 0x0C02 c = true → c.req.length = 12 → getLE 0 1 c.req ≤ 3 → zeroAt 1 3 c.req = true → 1 ≤ getLE 8 4 c.req → getLE 8 4 c.req ≤ 256 → 
    exec (.plcNeighbours c) s = .next ((s.taken 0x0C02 c).ends 0x0C02 c stDone ((((((s.taken 0x0C02 c).port (getLE 0 1 c.req)).neighs.drop (getLE 4 4 c.req)).take (getLE 8 4 c.req)).map (fun n => (s.taken 0x0C02 c).neighBytes (getLE 0 1 c.req) n.1 n.2)).flatten))) ∧
  (∀ (s : State) (c : HostCmd), s.accepts 0x0C03 c = true → c.req.length = 4 → reqEix c < 2 ^ 18 → (s.routeOf (reqEix c)).isSome = true → 
    exec (.plcRouteRead c) s = .next ((s.taken 0x0C03 c).ends 0x0C03 c stDone ((((s.taken 0x0C03 c).routeOf (reqEix c)).map (s.taken 0x0C03 c).routeBytes).getD []))) ∧
  (∀ (s : State) (c : HostCmd), s.accepts 0x0C04 c = true → c.req.length = 4 → reqEix c < 2 ^ 18 → s.plcUp (s.portOfEix (reqEix c)) = true → 
    exec (.plcRouteDiscover c) s = .next ((((s.taken 0x0C04 c).discover ((s.taken 0x0C04 c).portOfEix (reqEix c)) (reqEix c) none none).defer workRoute (reqEix c) 0x0C04 c).ends 0x0C04 c stAccepted [] false)) ∧
  (∀ (s : State) (c : HostCmd), s.accepts 0x0C05 c = true → c.req.length = 4 → reqEix c < 2 ^ 18 → s.tbl.dir.has (reqEix c) = true → 
    exec (.plcPhaseShare c) s = .next ((s.taken 0x0C05 c).ends 0x0C05 c stDone ((s.taken 0x0C05 c).phaseShareBytes (reqEix c)))) ∧
  (∀ (s : State) (c : HostCmd), s.accepts 0x0C06 c = true → c.req.length = 52 → s.sec.lifecycle < 3 → (s.sec.slot 2).content.isSome = true → s.sec.debugSeen = false → ((s.sec.psks.length < 16384 ∨ s.sec.psks.has (getLE 0 8 c.req) = true)) → 
    exec (.plcSetPsk c) s = .next (match (s.taken 0x0C06 c).unwrapSlot (padTo 16 Config.openIdentity ++ le 1 0xFE ++ slice 0 8 c.req) (c.req.drop 8) with
      | none => (s.taken 0x0C06 c).ends 0x0C06 c stSignatureBad []
      | some k => (((s.taken 0x0C06 c).onSec fun x => { x with psks := x.psks.set (getLE 0 8 c.req) (padTo 16 k) }).raise 214
          (le 1 0xFE ++ zeros 1 ++ le 1 1)).ends 0x0C06 c stDone [])) ∧
  (∀ (s : State) (c : HostCmd) (js : List Nat), s.accepts 0x0C07 c = true → c.req.length = 4 → getLE 0 1 c.req ≤ 3 → zeroAt 1 3 c.req = true → (s.port (getLE 0 1 c.req)).gmkPending = [] → s.sec.trngStopped = false → js = ((s.taken 0x0C07 c).plc.joined.filter (fun j => j.2 = getLE 0 1 c.req)).map (·.1) → 
    let p := getLE 0 1 c.req
    let r := (s.taken 0x0C07 c).random 16
    let w := (r.2.onSec fun x => x.writeSlot (8 + p) r.1).onPort p fun y => { y with gmk := y.gmk + 1, gmkPending := js }
    let v := ((js.foldl (fun t e => t.enqueue p { kind := .lbp, bytes := w.keyFrame e (w.port p).gmk r.1, eix := e, dest := .route }) w).defer
      workGmk p 0x0C07 c).ends 0x0C07 c stAccepted [] false
    exec (.plcGmkRotate c) s = .next (if (v.port p).gmkPending.isEmpty then v.finish workGmk p stDone [] else v)) ∧
  (∀ (s : State) (c : HostCmd), s.accepts 0x0C08 c = true → c.req.length = 4 → getLE 0 1 c.req ≤ 3 → zeroAt 1 3 c.req = true → 
    exec (.plcPortReset c) s = .next (((s.taken 0x0C08 c).plcReset (getLE 0 1 c.req) 2).ends 0x0C08 c stDone [])) ∧
  (∀ (s : State) (c : HostCmd), s.accepts 0x0C09 c = true → c.req.length = 4 → reqEix c < 2 ^ 18 → s.plcUp (s.portOfEix (reqEix c)) = true → 
    exec (.plcTimeDeliver c) s = .next (((s.taken 0x0C09 c).defer workTime (reqEix c) 0x0C09 c).ends 0x0C09 c stAccepted [] false))

/-- The RF commands complete as R257 says (R257, R245, R232). -/
def Obligations.RadioCommandsComplete : Prop :=
  (∀ (s : State) (c : HostCmd), s.accepts 0x0D01 c = true → c.req.length = 4 → getLE 0 1 c.req ≤ 3 → zeroAt 1 3 c.req = true → 
    exec (.rfStatus c) s = .next ((s.taken 0x0D01 c).ends 0x0D01 c stDone ((s.taken 0x0D01 c).rfStatus (getLE 0 1 c.req)))) ∧
  (∀ (s : State) (c : HostCmd), s.accepts 0x0D02 c = true → c.req.length = 12 → getLE 0 1 c.req ≤ 3 → zeroAt 1 3 c.req = true → 1 ≤ getLE 8 4 c.req → getLE 8 4 c.req ≤ 256 → 
    exec (.rfSyncRead c) s = .next ((s.taken 0x0D02 c).ends 0x0D02 c stDone ((((((s.taken 0x0D02 c).syncEixs (getLE 0 1 c.req)).drop (getLE 4 4 c.req)).take (getLE 8 4 c.req)).map ((s.taken 0x0D02 c).syncBytes (getLE 0 1 c.req))).flatten))) ∧
  (∀ (s : State) (c : HostCmd), s.accepts 0x0D03 c = true → c.req.length = 12 → getLE 0 1 c.req ≤ 3 → getLE 1 1 c.req ≤ 3 → zeroAt 2 2 c.req = true → 1 ≤ getLE 8 4 c.req → getLE 8 4 c.req ≤ 1024 → 
    exec (.rfScheduleRead c) s = .next ((s.taken 0x0D03 c).ends 0x0D03 c stDone (((((List.range ((s.taken 0x0D03 c).sfLen (getLE 0 1 c.req) (getLE 1 1 c.req))).drop (getLE 4 4 c.req)).filterMap ((s.taken 0x0D03 c).scheduleCell (getLE 0 1 c.req) (getLE 1 1 c.req))).take (getLE 8 4 c.req)).flatten))) ∧
  (∀ (s : State) (c : HostCmd), s.accepts 0x0D04 c = true → c.req.length = 8 → reqEix c < 2 ^ 18 → getLE 4 1 c.req = 0 → zeroAt 6 2 c.req = true → 4 ≤ s.portOfEix (reqEix c) → s.portOfEix (reqEix c) ≤ 7 → (s.radio (s.portOfEix (reqEix c) - 4)).macq.any (fun f => f.wake.isSome && f.eix = some (reqEix c)) = false → 
    exec (.rfSetWake c) s = .next (((((s.taken 0x0D04 c).onRadio ((s.taken 0x0D04 c).portOfEix (reqEix c) - 4) fun x => { x with sleepy := x.sleepy.erase (reqEix c) }).defer workWake (reqEix c) 0x0D04 c).ends 0x0D04 c stAccepted [] false).finish workWake (reqEix c) stDone [])) ∧
  (∀ (s : State) (c : HostCmd) (n sf ep k : Nat), s.accepts 0x0D04 c = true → c.req.length = 8 → reqEix c < 2 ^ 18 → getLE 4 1 c.req = sf → ((sf = 2 ∨ sf = 3)) → zeroAt 6 2 c.req = true → s.portOfEix (reqEix c) = 4 + n → n ≤ 3 → ep = (if getLE 5 1 c.req = 0 then s.cfgN 0x5020 2 else getLE 5 1 c.req) → s.guardFor n sf ep ≤ 2000 → (s.radio n).macq.any (fun f => f.wake.isSome && f.eix = some (reqEix c)) = false → s.freePair n sf (reqEix c) = some k → 
    exec (.rfSetWake c) s = .next ((((s.taken 0x0D04 c).setWake n (reqEix c) sf ep k).defer workWake (reqEix c) 0x0D04 c).ends 0x0D04 c stAccepted [] false)) ∧
  (∀ (s : State) (c : HostCmd), s.accepts 0x0D05 c = true → c.req.length = 4 → rfModeValid (getLE 0 1 c.req) = true → zeroAt 1 1 c.req = true → 
    exec (.rfAirtime c) s = .next ((s.taken 0x0D05 c).ends 0x0D05 c stDone (le 4 (airtime (getLE 0 1 c.req) ((s.taken 0x0D05 c).rfN 0 10) (getLE 2 2 c.req)) ++
      le 1 (b2n (decide (airtime (getLE 0 1 c.req) ((s.taken 0x0D05 c).rfN 0 10) (getLE 2 2 c.req) ≤ (s.taken 0x0D05 c).tmplN 0 10))) ++
      le 1 (b2n (decide (airtime (getLE 0 1 c.req) ((s.taken 0x0D05 c).rfN 0 10) (getLE 2 2 c.req) ≤ (s.taken 0x0D05 c).regN 0 7 * 1000)))))) ∧
  (∀ (s : State) (c : HostCmd) (js : List Nat), s.accepts 0x0D06 c = true → c.req.length = 4 → getLE 0 1 c.req ≤ 3 → zeroAt 1 3 c.req = true → (s.radio (getLE 0 1 c.req)).keyPending = [] → s.sec.trngStopped = false → js = ((s.taken 0x0D06 c).plc.joined.filter (fun j => j.2 = 4 + getLE 0 1 c.req)).map (·.1) → 
    let n := getLE 0 1 c.req
    let r := (s.taken 0x0D06 c).random 16
    let w := (r.2.onSec fun x => x.writeSlot (12 + n) r.1).onRadio n fun x => { x with key := x.key + 1, keyPending := js }
    let v := ((js.foldl (fun t e => t.sendLbp (4 + n) e (w.keyFrame e (w.radio n).key r.1)) w).defer workRfKey n 0x0D06 c).ends
      0x0D06 c stAccepted [] false
    exec (.rfKeyRotate c) s = .next (if (v.radio n).keyPending.isEmpty then v.finish workRfKey n stDone [] else v)) ∧
  (∀ (s : State) (c : HostCmd), s.accepts 0x0D07 c = true → c.req.length = 4 → getLE 0 1 c.req ≤ 3 → zeroAt 1 3 c.req = true → 
    exec (.rfRadioReset c) s = .next (((s.taken 0x0D07 c).radioReset (getLE 0 1 c.req) 2).ends 0x0D07 c stDone [])) ∧
  (∀ (s : State) (c : HostCmd), s.accepts 0x0D08 c = true → c.req.length = 4 → reqEix c < 2 ^ 18 → 4 ≤ s.portOfEix (reqEix c) → s.radioUp (s.portOfEix (reqEix c) - 4) = true → 
    exec (.rfTimeDeliver c) s = .next (((s.taken 0x0D08 c).defer workRfTime (reqEix c) 0x0D08 c).ends 0x0D08 c stAccepted [] false))

/-- The panel commands and the tier commands complete as R512 and R492 say (R512, R492, R490, R497, R507). -/
def Obligations.PanelAndTierCommandsComplete : Prop :=
  (∀ (s : State) (c : HostCmd), s.accepts 0x0E01 c = true → c.req.length = 0 → 
    exec (.panelStatus c) s = .next ((s.taken 0x0E01 c).ends 0x0E01 c stDone (s.taken 0x0E01 c).panelStatusData)) ∧
  (∀ (s : State) (c : HostCmd) (r : Rect), s.accepts 0x0E02 c = true → r = rectOf c.req → s.panelN 0 ≠ 0 → c.req.length = 8 + r.w * r.h / 2 → r.w * r.h / 2 ≤ 65536 → s.rectBad r = false → 
    exec (.panelWrite c) s = .next (((s.taken 0x0E02 c).onPanel fun p => { p with
      staging := (r.pixels.zip (unpackNibbles (c.req.drop 8))).foldl (fun m x => setPixel m x.1 x.2) p.staging }).ends 0x0E02 c stDone [])) ∧
  (∀ (s : State) (c : HostCmd) (r : Rect), s.accepts 0x0E03 c = true → r = rectOf c.req → c.req.length = 12 → getLE 8 1 c.req ≤ 3 → zeroAt 9 3 c.req = true → s.panelN 0 ≠ 0 → s.rectBad r = false → s.panel.table.isSome = true → s.panel.rails ≠ .failed → s.panel.queue.length < 16 → s.panel.blinks.vals.any (fun b => b.rect.overlaps r) = false → 
    let t := (s.taken 0x0E03 c).onPanel (fun p => { p with target := r.pixels.foldl (fun m k => setPixel m k (levelAt p.staging k)) p.target })
    exec (.panelUpdate c) s = .next ((((((((r.pixels.map tileOf).eraseDups).map t.targetTile).foldl (fun u b => u.send 11 68 b) t).queueJob .update [r]
      (getLE 8 1 c.req) (((r.pixels.map tileOf).eraseDups).map t.targetTile)).defer workUpdate
        ((((r.pixels.map tileOf).eraseDups).map t.targetTile).foldl (fun u b => u.send 11 68 b) t).panel.nextNumber 0x0E03 c).panelWake).ends 0x0E03 c stAccepted
          (le 2 ((((r.pixels.map tileOf).eraseDups).map t.targetTile).foldl (fun u b => u.send 11 68 b) t).panel.nextNumber) false)) ∧
  (∀ (s : State) (c : HostCmd), s.accepts 0x0E04 c = true → 13 ≤ c.req.length → c.req.length ≤ 65548 → getLE 0 1 c.req ≤ 1 → getLE 1 1 c.req ≤ 7 → zeroAt 2 2 c.req = true → getLE 8 4 c.req = 0 → c.req.length - 12 < getLE 4 4 c.req → 
    exec (.panelLoad c) s = .next ((((s.taken 0x0E04 c).onPanel fun p => { p with
      loading := some (getLE 0 1 c.req, getLE 1 1 c.req, getLE 4 4 c.req, c.req.drop 12) }).ends 0x0E04 c stDone []).panelWake)) ∧
  (∀ (s : State) (c : HostCmd) (r : Rect), s.accepts 0x0E05 c = true → c.req.length = 16 → s.panelN 0 ≠ 0 → getLE 0 1 c.req ≤ 7 → zeroAt 5 3 c.req = true → getLE 1 1 c.req = 1 → getLE 2 1 c.req ≤ 15 → getLE 3 1 c.req ≤ 15 → getLE 4 1 c.req ≠ 0 → r = rectOf (c.req.drop 8) → s.rectBad r = false → s.panel.active.any (fun j => j.rects.any r.overlaps) = false → s.panel.blinks.vals.any (fun b => b.rect.overlaps r) = false → s.panel.blinks.has (getLE 0 1 c.req) = false → 
    exec (.panelBlink c) s = .next ((((s.taken 0x0E05 c).onPanel fun p => { p with
      blinks := p.blinks.set (getLE 0 1 c.req) { rect := r, a := getLE 2 1 c.req, b := getLE 3 1 c.req, half := getLE 4 1 c.req } }).panelWake).ends 0x0E05 c stDone [])) ∧
  (∀ (s : State) (c : HostCmd), s.accepts 0x0E06 c = true → c.req.length = 4 → s.panelN 0 ≠ 0 → getLE 0 4 c.req ≤ 3600 → s.panel.table.isSome = true → s.panel.rails ≠ .failed → s.panel.active = [] → s.panel.blinks = [] → 
    exec (.panelContactSheet c) s = .next (((((s.taken 0x0E06 c).queueJob (.sheet (getLE 0 4 c.req)) [(s.taken 0x0E06 c).wholePanel] 1 []).defer workSheet (s.taken 0x0E06 c).panel.nextNumber 0x0E06 c).panelWake).ends 0x0E06 c stAccepted [] false)) ∧
  (∀ (s : State) (c : HostCmd) (r : Rect), s.accepts 0x0E07 c = true → c.req.length = 8 → s.panelN 0 ≠ 0 → r = rectOf c.req → s.rectBad r = false → r.w * r.h ≤ 65536 → 
    exec (.panelReadLedger c) s = .next ((s.taken 0x0E07 c).ends 0x0E07 c stDone (r.pixels.flatMap fun k => leI 1 (ledgerAt (s.taken 0x0E07 c).panel.ledger k)))) ∧
  (∀ (s : State) (c : HostCmd) (r : Rect), s.accepts 0x0E08 c = true → r = rectOf c.req → c.req.length = 8 → s.panelN 0 ≠ 0 → s.rectBad r = false → s.panel.table.isSome = true → s.panel.rails ≠ .failed → s.panel.queue.length < 16 → s.panel.blinks.vals.any (fun b => b.rect.overlaps r) = false → 
    exec (.panelRebalance c) s = .next ((((s.taken 0x0E08 c).queueJob .rebalance [r] 0 []).defer workRebalance
      (s.taken 0x0E08 c).panel.nextNumber 0x0E08 c).panelWake.ends 0x0E08 c stAccepted [] false)) ∧
  (∀ (s : State) (c : HostCmd), s.accepts 0x0F01 c = true → c.req.length = 0 → 
    exec (.tierStatus c) s = .next ((s.taken 0x0F01 c).ends 0x0F01 c stDone (s.taken 0x0F01 c).tierStatus)) ∧
  (∀ (s : State) (c : HostCmd), s.accepts 0x0F02 c = true → c.req.length = 0 → 
    exec (.tierPeers c) s = .next ((s.taken 0x0F02 c).ends 0x0F02 c stDone (s.taken 0x0F02 c).tierPeers)) ∧
  (∀ (s : State) (c : HostCmd), s.accepts 0x0F03 c = true → c.headend = true → c.req.length = 4 → getLE 0 1 c.req ≤ 15 → zeroAt 1 3 c.req = true → s.cfgN 0xE000 0 ≠ 0 → s.role = 3 → s.memberHeard (getLE 0 1 c.req) = false → 
    exec (.tierPromote c) s = .next (((((s.taken 0x0F03 c).promote (getLE 0 1 c.req)).ends 0x0F03 c stDone [])).orderBegin (.restart 8)))

/-- The gate commands, the metrology commands and the fog commands complete as R81, R111 and R522 say (R81, R111, R522, R519). -/
def Obligations.GateMetrologyAndFogCommandsComplete : Prop :=
  (∀ (s : State) (c : HostCmd), s.accepts 0x1001 c = true → c.req.length = 0 → 
    exec (.gateStatus c) s = .next ((s.taken 0x1001 c).ends 0x1001 c stDone (s.taken 0x1001 c).gateStatus)) ∧
  (∀ (s : State) (c : HostCmd), s.accepts 0x1002 c = true → c.req.length = 0 → s.cp.ident ≠ [] → 
    exec (.readIdent c) s = .next ((s.taken 0x1002 c).ends 0x1002 c stDone ((s.taken 0x1002 c).cp.ident))) ∧
  (∀ (s : State) (c : HostCmd), s.accepts 0x1003 c = true → c.req.length = 0 → 
    let t := s.taken 0x1003 c
    exec (.closeBatch c) s = .next ((t.defer workOffer (t.nextSeqOn 18) 0x1003 c).send 14 18 (offerMsg t.time.utcOffset t.time.level 2))) ∧
  (∀ (s : State) (c : HostCmd), s.accepts 0x1004 c = true → 2 ≤ c.req.length → ((getLE 0 1 c.req = 2 ∨ getLE 0 1 c.req = 3 ∨ getLE 0 1 c.req = 5)) → getLE 4 2 (c.req.drop 1) ≠ 0x15 → 
    let t := s.taken 0x1004 c
    exec (.submitDocument c) s = .next (((t.defer workDoc (t.nextSeqOn 17) 0x1004 c).send 11 17 (gateMsg (getLE 0 1 c.req) 0 (c.req.drop 1))).ends 0x1004 c stAccepted [] false)) ∧
  (∀ (s : State) (c : HostCmd), s.accepts 0x1005 c = true → c.req.length = 0 → 
    let t := s.taken 0x1005 c
    exec (.requestReport c) s = .next ((t.defer workOffer (t.nextSeqOn 18) 0x1005 c).send 14 18 (offerMsg t.time.utcOffset t.time.level 4))) ∧
  (∀ (s : State) (c : HostCmd), s.accepts 0x1006 c = true → 17 ≤ c.req.length → 
    let t := s.taken 0x1006 c
    exec (.submitDocSegment c) s = .next (((t.defer workDoc (t.nextSeqOn 17) 0x1006 c).send 11 17 (gateMsg 5 0 c.req)).ends 0x1006 c stAccepted [] false)) ∧
  (∀ (s : State) (c : HostCmd), s.accepts 0x1020 c = true → c.req.length = 4 → getLE 0 1 c.req ≤ 15 → zeroAt 1 3 c.req = true → ((List.range 12).any fun i => bit (getLE 0 1 c.req) (i / 3) &&
      (((s.validRecs 7).filter (fun r => getLE 0 1 r.data = i / 3 && getLE 1 1 r.data = i % 3 + 1)).getLast?.map (fun r => !s.readable r)).getD false) = false → 
    exec (.metroLatest c) s = .next ((s.taken 0x1020 c).ends 0x1020 c stDone ((((List.range 4).filter (bit (getLE 0 1 c.req))).map (fun f => ((List.range 3).map (fun p => (((s.taken 0x1020 c).feederRecs f (p + 1)).getLast?).getD [])).flatten)).flatten))) ∧
  (∀ (s : State) (c : HostCmd), s.accepts 0x1021 c = true → c.req.length = 0 → 
    exec (.metroZxStatus c) s = .next ((s.taken 0x1021 c).ends 0x1021 c stDone (((List.range 3).map (fun p => (s.taken 0x1021 c).zxStatus (p + 1))).flatten))) ∧
  (∀ (s : State) (c : HostCmd), s.accepts 0x1022 c = true → c.req.length = 4 → getLE 0 2 c.req / 4096 = 1 → zeroAt 2 2 c.req = true → (s.mirrored (getLE 0 2 c.req)).isSome = true → 
    let t := s.taken 0x1022 c
    exec (.metroReadObject c) s = .next (t.ends 0x1022 c stDone (le 1 (b2n (getLE 0 2 c.req / 256 = 0x12 && t.mirrorVerified)) ++
      le 2 ((t.mirrored (getLE 0 2 c.req)).getD []).length ++ (t.mirrored (getLE 0 2 c.req)).getD []))) ∧
  (∀ (s : State) (c : HostCmd), s.accepts 0x1023 c = true → c.req.length = 0 → 
    exec (.metroVerifyMirror c) s = .next ((s.taken 0x1023 c).ends 0x1023 c (if s.mirrorVerified = true then stDone else stDeniedSeal) [])) ∧
  (∀ (s : State) (c : HostCmd), s.accepts 0x1024 c = true → c.req.length = 16 → getLE 0 1 c.req ≤ 3 → 1 ≤ getLE 1 1 c.req → getLE 1 1 c.req ≤ 3 → zeroAt 2 2 c.req = true → 1 ≤ getLE 12 4 c.req → getLE 12 4 c.req ≤ 256 → (s.meetsOffline 7 fun r => getLE 0 1 r.data = getLE 0 1 c.req && getLE 1 1 r.data = getLE 1 1 c.req && decide (getLE 4 8 c.req ≤ getLE 8 8 r.data)) = false → 
    exec (.metroReadHistory c) s = .next ((s.taken 0x1024 c).ends 0x1024 c stDone (((((s.taken 0x1024 c).feederRecs (getLE 0 1 c.req) (getLE 1 1 c.req)).filter (fun d => decide (getLE 4 8 c.req ≤ getLE 8 8 d))).take (getLE 12 4 c.req)).flatten))) ∧
  (∀ (s : State) (c : HostCmd), s.accepts 0x1F01 c = true → c.req.length = 0 → 
    exec (.fogStatus c) s = .next ((s.taken 0x1F01 c).ends 0x1F01 c stDone (s.taken 0x1F01 c).fogStatusData)) ∧
  (∀ (s : State) (c : HostCmd), s.accepts 0x1F02 c = true → c.req.length = 8 → badInjection c.req = false → s.fogActs (if getLE 0 1 c.req = 3 then 5 else 2) = true → 
    exec (.fogInject c) s = .next (((s.taken 0x1F02 c).fogInject c.req).ends 0x1F02 c stDone [])) ∧
  (∀ (s : State) (c : HostCmd), s.accepts 0x1F03 c = true → c.req.length = 0 → s.fog.unlock.isSome = true → 
    exec (.fogLock c) s = .next (((s.taken 0x1F03 c).fogLock 2).ends 0x1F03 c stDone []))

/-- OPEN, CLOSE, reads, grants, the fan-out unit and the fabric's timeouts run as R316 to R332 say (R316, R317, R318, R320, R321,
R324, R327, R332). -/
def Obligations.FabricEventsComplete : Prop :=
  (∀ (s : State) (producer q n : Nat), (s.countOpen q).openAnswer q n (s.countOpen q).fabric.bpCount = .granted → 
    exec (.queueOpen producer q n) s = .next (((s.countOpen q).onFabric fun f => { f with
      opened := f.opened ++ [{ queue := q, producer := producer, cells := n }] }).poolCheck s.sharedFree)) ∧
  (∀ (s : State) (producer q : Nat) (payload : Bytes) (o : OpenPacket), s.fabric.opened.find? (fun o => o.queue = q ∧ o.producer = producer) = some o → cellsFor payload.length ≤ o.cells → edgeOk payload = true → 
    exec (.queueClose producer q payload) s = .next (((s.endOpen o).closeOn q producer payload).poolCheck s.sharedFree)) ∧
  (∀ (s : State) (producer q : Nat) (payload : Bytes) (o : OpenPacket), s.fabric.opened.find? (fun o => o.queue = q ∧ o.producer = producer) = some o → o.cells < cellsFor payload.length → 
    exec (.queueClose producer q payload) s = .next ((s.endOpen o).raise 177 (le 1 1 ++ le 1 producer ++ le 2 q ++ le 4 o.cells))) ∧
  (∀ (s : State) (q : Nat), 
    exec (.consumerRead q 0) s = .next (s.takeHead q).2) ∧
  (∀ (s : State) (q : Nat), 
    exec (.consumerRead q 2) s = .next ((s.onQueue q fun x => { x with pkts := match x.pkts with
      | p :: ps => { p with eccBad := true } :: ps
      | [] => [] }).takeHead q).2) ∧
  (∀ (s : State) (w : Waiter), s.fabric.waiters = [w] → s.nextWaiter = some w → 
    exec .openGrant s = .next (s.grantWaiter w)) ∧
  (∀ (s : State) (p : Packet) (qs : List Nat), s.peekHead 48 = some p → qs = fanoutQueues (getLE 0 1 p.payload) (getLE 12 4 p.payload / 2 ^ 18 % 16) → qs.all (fun q => ((queueRow q).map (·.lossy)).getD false || (s.grantable q p.cells && !s.fabric.waiters.any (·.queue = q))) = true → 
    exec .fanoutPacket s = .next (qs.foldl (fun t q => t.send 13 q p.payload) (s.takeHead 48).2)) ∧
  (∀ (s : State) (producer q : Nat) (o : OpenPacket), s.fabric.opened.find? (fun o => o.queue = q ∧ o.producer = producer) = some o → 
    exec (.openTimeout producer q) s = .next ((s.endOpen o).raise 177 (le 1 2 ++ le 1 producer ++ le 2 q ++ le 4 o.cells))) ∧
  (∀ (s : State) (q r : Nat), (queueRow q).map (·.rank) = some r → ((r = 3 ∨ r = 4)) → (s.queue q).pkts ≠ [] → 
    let u := s.onQueue q fun x => { x with pkts := x.pkts.drop 1, headReleased := x.headReleased + 1 }
    exec (.headExpiry q) s = .next (if u.eventDue 60 180 q then
      (u.raiseEvery 60 180 q (le 2 q ++ le 2 0 ++ le 4 (u.queue q).headReleased)).onQueue q fun x => { x with headReleased := 0 } else u)) ∧
  (∀ (s : State) (q ms : Nat), s.cfgN 0x8000 3 ≤ ms → s.fabric.waiters.any (·.queue = q) = true → 
    exec (.creditWaitLong q ms none) s = .next (s.raiseEvery 60 184 q (le 1 0xFF ++ le 1 0 ++ le 2 q ++ le 4 ms)))

/-- Record acceptance, programming, reading back and superblock maintenance run as R338 to R357 say (R338, R342, R343, R344, R345,
R346, R347, R350, R351, R352, R354, R336). -/
def Obligations.StorageEventsComplete : Prop :=
  (∀ (s : State) (q st kind flags sq : Nat) (p : Packet) (d : Bytes), s.store.mapReady = true → [64, 66, 67, 68, 69].contains q = true → (s.nextUnread q).1 = some p → storeTarget q p.body = some (st, kind, flags, sq, d) → 
    exec (.storeRecordAccept q) s = .next (((s.nextUnread q).2.onStore fun t => { t with held := t.held.upd q 0 (· + 1) }).acceptRecord st kind q sq flags none d).1) ∧
  (∀ (s : State) (stream i : Nat), s.store.buffers.getD stream [] ≠ [] → s.store.state ≠ .frozen → (s.latentFor (streamHot stream) (streamCritical stream)).1 = some i → 
    let u := (s.latentFor (streamHot stream) (streamCritical stream)).2
    let page := u.posFrom ((u.sb i).used / pageBytes)
    let cut := cutPage (s.store.buffers.getD stream []) pageBytes
    let v := u.onSb i fun b => { b with used := (page + 1) * pageBytes }
    exec (.pageBufferTimeout stream) s = .next ((if sbPositions i ≤ u.posFrom (page + 1) then v.closeSb i .full else v).onStore fun t => { t with
      buffers := if cut.2.isEmpty then t.buffers.erase stream else t.buffers.set stream cut.2
      programs := t.programs ++ [{ stream := stream, parts := cut.1, sb := i, page := page }]
      recs := cut.1.foldl (fun m p => m.adj p.1 fun r => r.addPage i page) t.recs })) ∧
  (∀ (s : State) (p : PageProgram) (rest : List PageProgram), s.store.programs = p :: rest → (s.takeInjection 1 (p.page % 8)).1 = false → 
    exec (.pageProgramDone true) s = .next (((((s.takeInjection 1 (p.page % 8)).2.onStore fun t => { t with programs := rest }).onStore fun t => { t with
      pagesSince := if p.stream = 0 then 0 else t.pagesSince + 1
      recs := p.parts.foldl (fun m q => if q.2 then m.adj q.1 fun r => { r with programmed := true } else m) t.recs })).commitAll.storeEval false)) ∧
  (∀ (s : State), 
    let due := (s.store.sbs.filter (fun p => decide (34 ≤ p.1) && s.weekPassed p.2.week &&
      (p.2.phase = .opened || p.2.phase = .full || p.2.phase = .closed || p.2.phase = .verified) && (s.idsIn p.1).isEmpty)).map (·.1)
    exec .expiryWeek s = .next (((due.foldl (fun t i => t.onSb i fun b => { b with phase := .erasing, copying := false }) s).onStore
      fun t => { t with eraseQ := due ++ t.eraseQ }).storeEval false)) ∧
  (∀ (s : State) (d i : Nat) (rest : List Nat), s.store.eraseQ = i :: rest → s.eraseInjected = [] → 
    exec (.eraseDone true d) s = .next (((List.range 8).foldl (fun t k => t.onDie k fun x => { x with injected := x.injected.erase (t.blockOf k i) })
      ((s.onStore fun t => { t with
        eraseQ := rest
        recs := t.recs.filter (fun p => match p.2.place with
          | .flash b _ _ => decide (b ≠ i)
          | _ => true) }).onSb i fun b => { pe := b.pe + 1 })).storeEval false)) ∧
  (∀ (s : State) (st sq retry pct id i f l : Nat) (r : StoreRec), s.recId st sq = some id → s.store.recs.get? id = some r → r.place = .flash i f l → 
    exec (.pageReadDone st sq false false retry pct) s = .next (if s.cfgN 0x9000 9 ≤ retry then s.queueRefresh i 2
      else if 75 < pct then s.queueRefresh i 3 else s)) ∧
  (∀ (s : State) (d : Nat), 
    exec (.dieHang d) s = .next ((((s.reclaim 15).2.raise 200 (le 1 (d % 8 / 2) ++ le 1 (d % 8) ++
      le 1 ((s.store.dies.getD (d % 8) {}).retries + 1))).onDie (d % 8) fun y => { y with hangs := y.hangs + 1, hung := true }).reissue (d % 8))) ∧
  (∀ (s : State) (d : Nat), (s.store.dies.getD (d % 8) {}).hung = true → 
    exec (.dieRetry d true) s = .next (s.onDie (d % 8) fun y => { y with hung := false, retries := 0 })) ∧
  (∀ (s : State) (d : Nat), (s.store.dies.getD (d % 8) {}).hung = true → 2 ≤ (s.store.dies.getD (d % 8) {}).retries → 
    let u := (s.onDie (d % 8) fun y => { y with retries := y.retries + 1 }).dieHang d
    exec (.dieRetry d false) s = .next (((u.onDie (d % 8) fun y => { y with hung := false, retries := 0, online := false }).raise 201
      (le 1 (d % 8) ++ le 1 0)).offlineRelocate (d % 8))) ∧
  (∀ (s : State) (d : Nat), (s.store.dies.getD (d % 8) {}).hung = true → (s.store.dies.getD (d % 8) {}).retries < 2 → 
    exec (.dieRetry d false) s = .next ((s.onDie (d % 8) fun y => { y with retries := y.retries + 1 }).dieHang d)) ∧
  (∀ (s : State) (pct i : Nat), s.store.stopped = false → s.store.state ≠ .frozen → 0 < s.freeTlc → ([28, 29, 30, 31] : List Nat).find? (fun i => ((s.sb i).phase = .full || (s.sb i).phase = .opened) && !(s.sb i).copying && !(s.idsIn i).isEmpty) = some i → 
    let n := ((s.latentIn .full).filter (fun i => !(s.sb i).copying)).length
    exec (.development pct) s = .next ((((s.onStore fun t => { t with
      devActive := if t.devActive then decide (s.cfgN 0x9000 3 < n) else decide (s.cfgN 0x9000 2 ≤ n) }).closeSb i .full).copyOut i false pct).storeEval false)) ∧
  (∀ (s : State) (pct : Nat), s.store.stopped = false → s.store.state ≠ .frozen → 
    let u := s.eraseEmpty
    let active := decide (u.freeTlc < s.cfgN 0x9000 (if s.store.gcActive then 5 else 4))
    let v := u.onStore fun t => { t with gcActive := active }
    exec (.garbageCollection pct) s = .next (if !active ∨ (2 ≤ s.power.thermalLevel ∧ s.store.state ≠ .full) then v.storeEval false
      else match v.gcBest with
        | some i => (v.copyOut i (decide (s.store.state ≠ .full)) pct).storeEval false
        | none => v.storeEval true)) ∧
  (∀ (s : State) (i : Nat), s.gcBest = some i → 
    i ∈ s.gcVictims ∧ ∀ j ∈ s.gcVictims, s.gcScore j ≤ s.gcScore i) ∧
  (∀ (s : State) (pct i cause : Nat) (rest : List (Nat × Nat)), s.store.stopped = false → s.store.state ≠ .frozen → s.store.refreshQ = (i, cause) :: rest → cause ≠ 0 → ((s.sb i).phase = .full ∨ (s.sb i).phase = .closed ∨ (s.sb i).phase = .verified) → 
    exec (.refresh pct) s = .next (((((s.onStore fun t => { t with refreshQ := t.refreshQ.filter (·.1 ≠ i) }).raise 203
      (le 2 i ++ le 1 cause)).copyOut i true pct).storeEval false).finish workRefresh i stDone [])) ∧
  (∀ (s : State) (pct i cause : Nat) (rest : List (Nat × Nat)), s.store.stopped = false → s.store.state ≠ .frozen → s.store.refreshQ = (i, cause) :: rest → (s.sb i).phase ≠ .full → (s.sb i).phase ≠ .closed → (s.sb i).phase ≠ .verified → 
    exec (.refresh pct) s = .next ((s.onStore fun t => { t with refreshQ := t.refreshQ.filter (·.1 ≠ i) }).finish workRefresh i stDone [])) ∧
  (∀ (s : State) (t0 t1 : Int), 
    exec (.weightedAge t0 t1) s = .next (s.onStore fun t => { t with
      tempC := [t0, t1]
      ageA := [t.ageA.getD 0 0 + 60 * afOf t0, t.ageA.getD 1 0 + 60 * afOf t1] })) ∧
  (∀ (s : State), s.store.state ≠ .frozen → 
    let u := s.onStore fun t => { t with lastCkptOt := s.power.ot }
    exec (.mapCheckpoint true) s = .next (((u.storeRecord 0 2 none (withEdge (le 8 s.store.nextId ++ le 5 s.power.ot))).issueProgram 0).storeEval false))

/-- The recorder's own events run as R366 to R376 say (R370, R376, R368, R369, R371, R455). -/
def Obligations.RecorderEventsComplete : Prop :=
  (∀ (s : State) (src : Nat), 
    exec (.bucketRefill src) s = .next (s.onRec fun r => { r with buckets := r.buckets.adj src fun b => { b with spent := b.spent - 1 } })) ∧
  (∀ (s : State) (handle : Nat) (e : Exposure), s.recd.exposures.find? (·.handle = handle) = some e → e.lastOt + s.cfgN 0xA000 1 ≤ s.power.ot → 
    exec (.exposureExpiry handle) s = .next (((s.onRec fun r => { r with exposures := r.exposures.filter (·.handle ≠ e.handle) }).trimRoll e.channel).raise 227
      (le 1 e.channel ++ zeros 3 ++ le 4 handle))) ∧
  (∀ (s : State) (p : Packet), s.recorderNext.1 = some p → p.producer ≠ 13 → 
    let u := s.recorderNext.2
    exec .recorderPacket s = .next ((u.holdRecorder.recordOpen (getLE 18 1 p.payload) 71 p.payload).1.notify (getLE 16 2 p.payload)
      (u.holdRecorder.recordOpen (getLE 18 1 p.payload) 71 p.payload).2)) ∧
  (∀ (s : State) (p : Packet) (last : Nat) (r : Bytes), s.recorderNext.1 = some p → p.producer = 13 → r = (p.payload.drop 12).take 32 → s.recorderNext.2.holdRecorder.recd.sealedLast = some last → getLE 0 8 r = last + 1 → 
    let v := ((s.recorderNext.2.holdRecorder.acceptRecord 11 0x85 71 0 0 (some (s.recWeek 0 (last + 1))) r).1.sealedSeen r).onRec fun x => { x with sealedLast := some (last + 1) }
    exec .sealedEventRecord s = .next (if getLE 16 2 r < 256 then v.notify (getLE 16 2 r) r else v)) ∧
  (∀ (s : State), s.recd.lastAnchorOt + s.cfgN 0xA000 0 ≤ s.power.ot → 2 ≤ s.time.level → 
    exec .anchorPeriodic s = .next (s.anchorDue 3))

/-- Power-fail warning, hold-up, undervoltage, recovery and the supply monitors run as R420 to R426 say (R420, R421, R422, R424,
R425, R426, R427, R418). -/
def Obligations.PowerFailureEventsComplete : Prop :=
  (∀ (s : State) (mv : Nat), s.cfgN 0x0000 1 ≠ 1 → mv ≤ s.cfgN 0x0000 0 → s.alive = true → s.power.pfw = false → 
    let u := s.onPower fun p => { p with vinMv := mv }
    exec (.powerFailWarning 0 mv) s = .next (((u.raise 2 (le 1 0 ++ le 1 0 ++ le 2 mv ++ le 1 s.power.state.code ++ zeros 3)).holdupBegin .byVbat).onPower
      fun p => { p with pfwSource := 0 })) ∧
  (∀ (s : State) (ms k : Nat), s.power.holdup = some k → k < 6 → 
    exec (.holdupStep ms) s = .next ((s.holdupAction k).onPower fun p => { p with
      holdupLast := k
      holdupTimings := p.holdupTimings ++ [ms]
      holdup := some (k + 1) })) ∧
  (∀ (s : State) (mv : Nat), mv < 2600 → s.power.state = .run → 
    let u := s.onPower fun p => { p with
        vinMv := mv
        vinEndMv := if p.holdupStarted then mv else p.vinEndMv }
    exec (.vinUndervoltage mv) s = .next ((u.onPower fun p => { p with cause := 2, lossKind := 1, holdupDone := false }).loseVin
      (if s.power.pfw then s.power.stateBefore else s.power.state.code))) ∧
  (∀ (s : State) (mv : Nat), s.power.pfw = true → s.power.holdup.isSome = true → s.cfgN 0x0000 0 + 200 < mv → s.power.vinRecovered = false → 
    exec (.pfwCleared mv) s = .next (((s.onPower fun p => { p with vinMv := mv, pfailN := true }).onPower fun p =>
      { p with vinRecovered := true }).raise 12 (le 2 mv ++ le 1 (s.power.holdup.getD 0)))) ∧
  (∀ (s : State) (mv : Nat), ((s.power.state = .hold ∨ s.power.state = .off ∨ s.power.state = .unpowered)) → 2900 ≤ mv → s.power.vioHUp = true → s.power.vioPUp = true → s.power.thermalShutdown = false → 
    exec (.vinStart mv) s = .next ((s.onPower fun p => { p with vinMv := mv }).onPower fun p => { p with state := .starting, stage := .resetHeld })) ∧
  (∀ (s : State) (mv : Nat), s.vbatStateAt mv ≠ s.power.vbatState → s.power.state = .run → 
    let u := (s.onPower fun p => { p with vbatMv := mv, vbatState := s.vbatStateAt mv }).raise 4 (le 1 (s.vbatStateAt mv) ++ le 1 0 ++ le 2 mv)
    exec (.vbatLow mv) s = .next u ∧ exec (.vbatLost mv) s = .next u) ∧
  (∀ (s : State) (mv : Nat), s.power.vioHUp = true → mv < 1620 → 
    exec (.vioFault 0 mv) s = .next ((s.onPower fun p => { p with vioHMv := mv, vioHUp := false }).raise 9 (le 1 0 ++ le 1 1 ++ le 2 mv))) ∧
  (∀ (s : State) (mv : Nat), s.power.vioPUp = true → mv < 1620 → 
    exec (.vioFault 1 mv) s = .next (((s.onPower fun p => { p with vioPMv := mv, vioPUp := false }).enablesLow).raise 9 (le 1 1 ++ le 1 1 ++ le 2 mv))) ∧
  (∀ (s : State) (rail mv : Nat), s.alive = true → 
    exec (.railFault rail mv) s = .next ((s.resetWith 6 1).onPower fun p => { p with owed := p.owed ++ [(10, le 1 rail ++ le 1 0 ++ le 2 mv)] })) ∧
  (∀ (s : State), s.power.state = .hold → s.power.holdSince + s.cfgN 0x0000 3 ≤ s.power.ot → 
    exec .holdExpiry s = .next (s.onPower fun p => { p with
      state := .off
      transitions := p.transitions ++ [{ old := 2, new := 3, ot := p.ot }] })) ∧
  (∀ (s : State), s.power.state = .run → s.power.pfw = false → s.cfgN 0x0000 4 = 1 → s.fabric.queues.all (fun q => q.2.pkts.isEmpty) = true → s.host.crHead = s.host.crTail → s.store.programs = [] → s.store.eraseQ = [] → 
    exec .idleEntry s = .next (s.onPower fun p => { p with state := .idle })) ∧
  (∀ (s : State) (ms : Nat), s.power.state = .idle → 
    exec (.idleWake ms) s = .next (s.onPower fun p => { p with
      state := .run
      idleLog := (p.idleLog.filter fun x => decide (p.ot < x.1 + 60)) ++ [(p.ot, ms)] })) ∧
  (∀ (s : State) (n : Nat) (level : Bool), n < 6 → s.power.state ≠ .unpowered → s.power.tampLevel.getD n true ≠ level → 
    exec (.tamperInput n level) s = .next (s.onPower fun p => { p with
      tampLevel := p.tampLevel.set n level
      tampLatch := if s.power.state = .hold ∨ s.power.state = .off then p.tampLatch.set n (match p.tampLatch.getD n none with
        | some t => some t
        | none => some p.ot) else p.tampLatch }))

/-- Reset release, the start's end, the resets, the thermal and clock monitors and the OT tick run as R429 to R435 say (R433,
R432, R431, R430, R274, R390). -/
def Obligations.ResetAndStartEventsComplete : Prop :=
  (∀ (s : State) (ticks mapMs : Nat) (off : Option Nat) (diesOk pipesOk : List Bool), s.power.state = .starting → s.power.stage = .resetHeld → s.power.pfw = false → s.power.tcxoPresent = true → s.power.vioHUp = true → s.power.vioPUp = true → s.host.phase ≠ 3 → 
    let u := s.onPower fun p => { p with
        pcc := min (p.pcc + 1) 0xFFFFFF
        coreMhz := if p.thermalLevel = 0 then 1200 else if p.thermalLevel = 1 then 900 else if p.thermalLevel = 2 then 600 else 300
        fabMhz := if p.thermalLevel ≤ 1 then 500 else 250 }
    let v : State := { u with straps := { u.straps with hif := u.straps.pinHif, tier := u.straps.pinTier } }
    let started : State → Option (Nat × Nat × Nat) → State := fun w boot =>
      let x := (w.onPower fun p => { p with stage := .booted }).onHost fun h => { h with phase := 1 }
      let y := match x.sec.revertCause with
        | some (slot, n, c) => (x.raise 209 (le 1 slot ++ le 1 n ++ le 1 c)).onSec fun z => { z with revertCause := none }
        | none => x
      let z := (((y.raise 0 (le 1 s.power.cause ++ le 1 s.power.lossKind ++ zeros 2 ++ le 4 y.power.pcc)).cfgStart s.power.cause).startReports boot).timeStart ticks
      let q := z.storeStart mapMs off diesOk (decide (s.power.lossKind = 0))
      let r := (q.loadTables.selfTest pipesOk).onSec fun k => { k with runStartOt := q.power.ot }
      if r.sealedDie.running then r.sealedThaw.linkReset 1 else r
    exec (.resetRelease ticks off mapMs diesOk pipesOk) s = .next (match v.bootRom with
      | (w, boot, true) => started w boot
      | (w, _, false) => w.onHost fun h => { h with phase := 3 })) ∧
  (∀ (s : State) (ms : Nat), s.power.state = .starting → s.power.stage = .booted → s.power.pfw = false → s.sealedDie.running = true → s.sealedDie.started = true → 
    let u := ((((s.onPower fun p => { p with stage := .running, state := .run, tampLatch := List.replicate 6 none }).raise 1
        (le 4 ms ++ le 1 s.power.thermalLevel ++ zeros 3)).onHost fun h => { h with phase := 2 }).onCfg fun c => { c with paused := false }).onTier
          fun t => { t with startOt := s.power.ot }
    exec (.startComplete ms) s = .next ((u.onCp fun c => { c with
      portsEnabled := true
      orders := c.orders.mapVals fun _ o => if o.finished then o else { o with
        attempts := 0
        startOt := s.power.ot
        nextOt := s.power.ot
        awaiting := false
        getSent := false
        undelivered := false } }).firstKeys.radiosEnable.distRestart.panelStart)) ∧
  (∀ (s : State), s.sec.trial = some s.sec.running → s.sec.runStartOt + s.sec.trialConfirm ≤ s.power.ot → s.power.pfw = false → s.openRuns = true → 
    exec .fwConfirmTimeout s = .next (s.holdupBegin (.restart 8))) ∧
  (∀ (s : State), s.sec.activateDue = true → s.power.pfw = false → s.openRuns = true → 
    exec .fwActivateRestart s = .next (s.holdupBegin (.restart 8))) ∧
  (∀ (s : State), s.alive = true → 
    exec .tcxoAbsent s = .next ((s.resetWith 7 1).onPower fun p => { p with tcxoPresent := false })) ∧
  (∀ (s : State), s.alive = true → s.power.holdup = none → 
    exec .resetPin s = .next (s.resetWith 3 1)) ∧
  (∀ (s : State), s.openRuns = true → s.power.holdup = none → 
    exec .watchdogReset s = .next (s.resetWith 4 1)) ∧
  (∀ (s : State) (c : Int), s.power.thermalShutdown = false → s.alive = true → c < 11000 → thermalStep s.power.thermalLevel c ≠ s.power.thermalLevel → 
    let l := thermalStep s.power.thermalLevel c
    exec (.thermalReading c) s = .next (((s.onPower fun p => { p with packageCentiC := c }).onPower fun p => { p with
      thermalLevel := l
      coreMhz := if p.pfw then p.coreMhz else if l = 0 then 1200 else if l = 1 then 900 else if l = 2 then 600 else 300
      fabMhz := if l ≤ 1 then 500 else 250 }).raise 6 (le 1 s.power.thermalLevel ++ le 1 l ++ zeros 2 ++ leI 4 c))) ∧
  (∀ (s : State) (ppm : Int), s.power.tcxoDeviating = false → 100 < ppm.natAbs → s.power.aonCrystal = true → 
    exec (.clockMonitor ppm true) s = .next ((s.onPower fun p => { p with
      tcxoPresent := true
      tcxoPpm := ppm
      tcxoDeviating := true
      aonCrystal := true }).raise 5 (le 1 0 ++ le 1 1 ++ zeros 2 ++ leI 4 ppm))) ∧
  (∀ (s : State) (pair : Nat), s.openRuns = true → s.store.mapReady = false → 
    exec (.lockstepReset pair) s = .next (((s.onPower fun p => { p with lockstepMismatches := s.power.lockstepMismatches + 1 }).raise 11
      (le 1 pair ++ le 1 0 ++ le 2 (min (s.power.lockstepMismatches + 1) 0xFFFF))).resetWith 5 1)) ∧
  (∀ (s : State), s.power.state = .hold → 
    exec .otTick s = .next (s.onPower fun p => { p with
      ot := (p.ot + 1) % 2 ^ 40
      aonNt := p.aonNt.map (· + 32768) })) ∧
  (∀ (s : State), s.openRuns = true → 
    exec .otTick s = .next ((s.onPower fun p => { p with
      ot := (p.ot + 1) % 2 ^ 40
      aonNt := p.aonNt.map (· + 32768) }).openTick))

/-- Doorbells, ring registers, completion writes, timeouts, interrupts and the host link run as R444 to R461 say (R444, R445,
R446, R449, R450, R452, R454, R455, R456, R458, R440, R6). -/
def Obligations.MailboxEventsComplete : Prop :=
  (∀ (s : State) (tail : Nat) (written : Bytes), tail < s.crSlots → 
    let room := (s.crSlots - s.host.crTail.toNat) * 64
    exec (.doorbell tail written false) s = .next ((s.onHost fun h => { h with
      ringMem := Memory.writeBytes (Memory.writeBytes h.ringMem (s.crBase + h.crTail.toNat * 64) (written.take room)) s.crBase (written.drop room)
      crTail := BitVec.ofNat 32 tail
      doorbellStamp := s.ntStamp }).fetch s.crSlots)) ∧
  (∀ (s : State) (tail : Nat) (written : Bytes) (dmaFail : Bool), s.crSlots ≤ tail → 
    exec (.doorbell tail written dmaFail) s = .next (((s.onHost fun h => { h with
      mbxErr := h.mbxErr ||| 2
      counters := { h.counters with ringErrors := h.counters.ringErrors + 1 } }).raise 22 (le 1 0 ++ le 1 3 ++ zeros 2 ++ le 4 tail)).criterionFails 1)) ∧
  (∀ (s : State) (v : Nat), v % 2 = 1 → s.mbxEnabled = false → 
    exec (.mailboxEnable v) s = .next (s.onHost fun h => { h with
      mbxCtrl := 1
      crTail := 0
      crHead := 0
      cprHead := 0
      cprTail := 0
      cprPhase := true })) ∧
  (∀ (s : State) (v : Nat), v % 2 = 0 → 
    exec (.mailboxEnable v) s = .next (s.clearEnable 1)) ∧
  (∀ (s : State) (v : Nat), v < s.cprSlots → 
    exec (.completionHeadWrite v) s = .next (s.onHost fun h => { h with cprHead := BitVec.ofNat 32 v })) ∧
  (∀ (s : State) (v : Nat), v < s.ntfEntries → 
    exec (.notificationHeadWrite v) s = .next ((s.onHost fun h => { h with ntfHead := BitVec.ofNat 32 v }).payLost)) ∧
  (∀ (s : State) (v : Nat), v % 2 = 1 → s.ntfEnabled = false → 
    exec (.notificationEnable v) s = .next (s.onHost fun h => { h with ntfCtrl := 1, ntfHead := 0, ntfTail := 0, ntfPhase := true })) ∧
  (∀ (s : State) (v : Nat), v % 2 = 0 → 
    exec (.notificationEnable v) s = .next (s.onHost fun h => { h with ntfCtrl := 0 })) ∧
  (∀ (s : State) (p : Packet) (rest : List Packet), (s.queue 40).pkts = p :: rest → s.mbxEnabled = true → p.good = true → s.fabric.hostPackets.contains p.seq = false → s.cprRoom p.payload.length = true → 
    let u := ((s.onQueue 40 fun x => { x with pkts := rest }).onFabric fun f => { f with hostPackets := f.hostPackets.erase p.seq }).putCompletion p.payload
    let v := if bit (getLE 12 1 p.payload) 1 = true then u.dropInflight false (getLE 4 4 p.payload) else u
    exec (.completionWrite false) s = .next (v.fetch v.crSlots).turnAway) ∧
  (∀ (s : State) (hd : Bool) (tag : Nat) (i : Inflight), s.inflightOf hd tag = some i → i.first = false → 
    exec (.commandTimeout hd tag) s = .next ((((s.complete hd i.opcode tag stInternalFault [] true).onHost fun h => { h with
      timedOut := h.timedOut ++ [(hd, i.opcode, tag)]
      counters := { h.counters with timeouts := h.counters.timeouts + 1 } }).raise 19 (le 2 i.opcode ++ le 2 0 ++ le 4 tag)).criterionFails 1)) ∧
  (∀ (s : State) (kind : Nat), s.qspi = false → s.host.linkUp = true → 
    exec (.pcieLinkReset kind) s = .next ((((s.onHost fun h => { h with linkUp := false, linkRate := 0, linkWidth := 0 }).clearEnable 2).onPower
      fun p => { p with perstN := if kind = 1 then false else p.perstN }).raise 16 (le 1 0 ++ le 1 0 ++ le 1 0 ++ le 1 0))) ∧
  (∀ (s : State) (rate width : Nat), 
    exec (.hostLinkUp rate width) s = .next (((s.onHost fun h => { h with linkUp := true, linkRate := rate, linkWidth := width }).onPower
      fun p => { p with perstN := true }).raise 16
        (le 1 (b2n ((s.onHost fun h => { h with linkUp := true, linkRate := rate, linkWidth := width }).onPower fun p => { p with perstN := true }).qspi) ++
          le 1 1 ++ le 1 rate ++ le 1 width))) ∧
  (∀ (s : State), 
    exec .ntfLostRead s = .next (s.onHost fun h => { h with lastRead := h.ntfLost, ntfLost := 0 })) ∧
  (∀ (s : State), 
    let q := s.host.queSel.toNat % 512
    exec .queRefusedRead s = .next ((s.onHost fun h => { h with lastRead := BitVec.ofNat 32 (s.queue q).refused }).onQueue q fun x => { x with refused := 0 })) ∧
  (∀ (s : State), 
    exec .qspiStatusRead s = .next (s.onHost fun h => { h with lastRead := BitVec.ofNat 32 s.qspiStatus, qspiErr := false })) ∧
  (∀ (s : State) (vector : Nat), s.host.vecPending.contains vector = true → 
    exec (.msiCoalesce vector) s = .next ((s.onHost fun h => { h with vecPending := h.vecPending.erase vector }).sendMsi vector)) ∧
  (∀ (s : State) (addr v : Nat), s.openRuns = true → addr % 4 = 0 → 
    exec (.registerWrite addr v) s = .next (s.windowWrite addr (v % 2 ^ 32))) ∧
  (∀ (s : State) (part : Bytes), s.host.phase = 2 → s.cfgN 0x0010 2 ≠ 0 → s.host.headPartial = [] → getLE 8 4 part = part.length → 20 ≤ part.length → part.length ≤ 262192 → edgeOk part = true → opcodeAssigned (getLE 0 2 part) = true → 
    exec (.headendCommand part) s = .next ((s.onHost fun h => { h with headPartial := [] }).onHost fun h => { h with headIn := h.headIn ++ [part] }))

/-- Protected records, reseeding, the debug port, the TRNG's failures and the packet-number limit run as R381 to R396 say (R396,
R386, R381, R515). -/
def Obligations.SecurityEventsComplete : Prop :=
  (∀ (s : State) (header record : Bytes), 
    exec (.protectedRecordRx header record) s = .next (match s.unprotect header record with
      | (t, some pt) => t.onSec fun x => { x with lastPlain := (getLE 0 1 record, pt) }
      | (t, none) => t)) ∧
  (∀ (s : State), 2 ^ 20 ≤ s.sec.requests → s.sec.trngStopped = false → 
    exec .drbgReseed s = .next (s.onSec fun x => { x with requests := 0 })) ∧
  (∀ (s : State), ((s.sec.lifecycle ≤ 1 ∨ (s.sec.lifecycle = 3 ∧ s.sec.debugSince.isSome = true))) → 
    exec .debugAttach s = .next ((s.onSec fun x => { x with debugSeen := true }).raise 215 (le 1 2 ++ zeros 3 ++ le 4 1))) ∧
  (∀ (s : State) (t d : Nat), s.sec.debugSince = some (t, d) → t + d ≤ s.power.ot → 
    exec .debugWindowExpiry s = .next (s.onSec fun x => { x with debugSince := none })) ∧
  (∀ (s : State) (test samples : Nat), s.sec.trngStopped = false → 
    exec (.trngHealthFail test samples) s = .next (if s.sec.trngFailures = 0 then
        s.onSec fun x => { x with trngFailures := 1, trngRestarting := true, samples := samples }
      else (s.onSec fun x => { x with trngFailures := 2, trngRestarting := false, trngStopped := true, samples := samples }).raise 210
        (le 1 test ++ zeros 3 ++ le 4 samples))) ∧
  (∀ (s : State) (samples : Nat), s.sec.trngRestarting = true → 
    exec (.trngRestart true samples) s = .next (s.onSec fun x => { x with trngRestarting := false, samples := samples })) ∧
  (∀ (s : State) (ch : Nat), 1 ≤ ch → ch ≤ 3 → 2 ^ 32 ≤ (s.chan ch).sendNum → 
    exec (.transportEpochRoll ch) s = .next (s.onChan ch fun x => { x with sendEpoch := x.sendEpoch + 1, sendNum := 0 })) ∧
  (∀ (s : State) (u : Unlock), s.fog.unlock = some u → u.since + u.duration ≤ s.power.ot → 
    exec .unlockExpiry s = .next (((s.onFog fun f => { f with unlock := none }).onCfg fun c => { c with paused := !c.adopting.isEmpty }).raise 249
      (le 1 1 ++ zeros 3 ++ le 4 (s.power.ot - u.since))))

/-- Gate messages, link control units, link resets and segment and time-out events run as R61 to R81 say (R61, R66, R67, R81, R30,
R74). -/
def Obligations.GateEventsComplete : Prop :=
  (∀ (s : State) (q : Nat) (p : Packet), s.gate.up = true → s.openRuns = true → s.gate.unanswered = [] → s.gateHead = some (q, p) → 
    let b := s.inboundBytes p.body
    exec .gateTransmit s = .next (((if getLE 0 1 b = 4 then s.onTime fun t => { t with offerStamp := some s.linkStamp } else s).noteSubmitted
      (getLE 0 1 b) ((b.drop 12).take (b.length - 16))).onGate fun g => { g with
        unanswered := [{ seq := g.inNext, kind := getLE 0 1 b, bytes := b, origin := q, key := p.seq }]
        wire := some b })) ∧
  (∀ (s : State) (b : Bytes), s.gate.wire = some b → s.sealedDie.running = true → (s.onGate fun g => { g with wire := none }).inboundRefusal b = none → 
    exec (.gateInboundMessage none) s = .next ((s.onGate fun g => { g with wire := none }).onGate fun g => { g with
      inExpected := (g.inExpected + 1) % 2 ^ 32
      admitted := g.admitted ++ [{ seq := getLE 8 4 b, kind := getLE 0 1 b, bytes := b, origin := 0, key := 0 }] })) ∧
  (∀ (s : State) (b : Bytes) (k st : Nat), s.gate.wire = some b → s.sealedDie.running = true → (s.onGate fun g => { g with wire := none }).inboundRefusal b = some (k, st) → 
    let u := (s.onGate fun g => { g with wire := none }).onGate fun g => { g with
        units := g.units ++ [.response (getLE 8 4 b) st]
        refusals := g.refusals.upd st 0 (· + 1)
        noCreditRefused := if k = 5 then g.noCreditRefused + 1 else g.noCreditRefused }
    exec (.gateInboundMessage none) s = .next (if k ≤ 3 then u.raiseSealed 32 (le 1 (getLE 0 1 b) ++ le 2 st ++ le 4 (getLE 8 4 b))
      else if k = 4 then (u.raiseSealed 33 (le 1 0 ++ le 1 (getLE 0 1 b) ++ le 4 (getLE 8 4 b))).quarantineRecord b else u)) ∧
  (∀ (s : State) (m : OutMsg), s.settlePlaced = s → s.gate.up = true → s.openRuns = true → s.sealedDie.running = true → s.gate.outPlaced = none → s.sealedDie.outBuf.find? (fun m => !m.sent) = some m → s.gate.ackRegister = none → 
    let u := s.onSealed fun x => { x with outBuf := x.outBuf.map fun q => if q.seq = m.seq then { q with sent := true } else q }
    exec (.gateOutboundReceive false) s = .next (((u.send 12 (outboundQueue m.kind) (gateMsg m.kind m.seq m.payload)).onGate
      fun g => { g with outPlaced := some m.seq }).settlePlaced) ∧
    exec (.gateOutboundReceive true) s = .next ((u.raise 33 (le 1 1 ++ le 1 m.kind ++ le 4 m.seq)).quarantineRecord (gateMsg m.kind m.seq m.payload))) ∧
  (∀ (s : State) (cause : Nat), s.sealedDie.running = true → s.cfg.genState ≠ .proving → 
    let r := s.sealedDie.afterReport s.gate.ackRegister
    let u : State := { s with sealedDie := r.1 }
    let d := le 1 cause ++ zeros 3 ++ le 4 r.2
    let v := (u.onGate fun g => { g with
      up := s.openRuns && s.host.phase ≠ 3
      inExpected := 0
      inNext := 0
      unanswered := []
      admitted := []
      wire := none
      units := g.units.filter (fun u => match u with
        | .release _ _ => true
        | _ => false)
      storeResults := []
      acks := []
      readReturns := []
      outPlaced := none
      resetsSeen := g.resetsSeen + 1 }).onFabric fun f => { f with waiters := f.waiters.filter (fun w => w.producer ≠ 12) }
    exec (.gateLinkReset cause) s = .next (((v.requestAgain.raiseSealed 34 d).drainOut).raise 34 d)) ∧
  (∀ (s : State) (sq st : Nat) (m : InboundMsg) (rest : List InboundMsg) (us : List GateUnit), s.gate.units = .response sq st :: us → s.gate.unanswered = m :: rest → st = stNoCredit → 
    exec .responseUnit s = .next ((s.onGate fun g => { g with units := g.units.erase (.response sq st) }).onGate fun g => { g with unanswered := [], inNext := g.inExpected })) ∧
  (∀ (s : State) (sq st : Nat) (m : InboundMsg) (rest : List InboundMsg) (us : List GateUnit), s.gate.units = .response sq st :: us → s.gate.unanswered = m :: rest → m.kind = 3 → m.origin = 17 → st ≠ stNoCredit → 
    exec .responseUnit s = .next (((((s.onGate fun g => { g with units := g.units.erase (.response sq st) }).onGate fun g => { g with
      unanswered := []
      inNext := g.inExpected }).takeHead 17).2).finish workDoc m.key st [])) ∧
  (∀ (s : State) (a : Nat) (rest : List Nat), s.gate.acks = a :: rest → 
    exec .ackUnit s = .next ((s.onGate fun g => { g with acks := rest }).ackOut a)) ∧
  (∀ (s : State) (r : StoreResult) (rest : List StoreResult), s.gate.storeResults = r :: rest → 
    exec .storeResultUnit s = .next ((s.onGate fun g => { g with storeResults := rest }).takeResult r)) ∧
  (∀ (s : State) (st e r c : Nat) (us : List GateUnit), s.gate.units = .readRequest st e r c :: us → s.store.mapReady = true → s.openRuns = true → 
    exec .readRequestUnit s = .next (s.onGate fun g => { g with
      units := g.units.erase (.readRequest st e r c)
      readReturns := g.readReturns ++ ((((s.streamRecs (st + 1)).map (·.data)).dropWhile (fun d => !sealedFrom e r d)).take c) ++ [[]] })) ∧
  (∀ (s : State) (b : Bytes) (rest : List Bytes) (q : ReadReq), s.gate.readReturns = b :: rest → s.gate.readOpen = some q → b.take 4 = ascii "SLSR" → getLE 4 2 b = q.stream → getLE 24 4 b + 48 = b.length → 0 < q.left → 
    exec .readReturnUnit s = .next (((s.onGate fun g => { g with readReturns := rest }).onGate fun g => { g with
      readOpen := some { q with left := q.left - 1 } }).replayRecord q.stream b)) ∧
  (∀ (s : State) (st e : Nat) (us : List GateUnit), s.gate.units = .release st e :: us → s.openRuns = true → 
    exec .releaseUnit s = .next ((s.onGate fun g => { g with units := g.units.erase (.release st e) }).releaseEpoch st e)) ∧
  (∀ (s : State) (eix : Nat) (r : Reasm), s.sealedDie.reasm.find? (fun r => r.eix = eix) = some r → r.at_ + 60000000000 ≤ s.sealedDie.elapsed → 
    exec (.reassemblyTimeout eix) s = .next (s.dropReasm eix 2))

/-- Sealed-die messages, seal sessions, documents and the sealed start run as R63 to R82 say (R541, R70, R63, R74, R77, R80, R82,
R87, R50, R52, R185, R421). -/
def Obligations.SealedDocumentEventsComplete : Prop :=
  (∀ (s : State) (m : InboundMsg), s.admittedOf 1 = some m → s.corePaused = false → 
    exec .sealedApduProcess s = .next (match s.apduRefusal m.payload m.bytes.length with
      | some st => s.respond m st
      | none => (s.respond m stDone).processApdu (getLE 0 4 m.payload) (getLE 4 1 m.payload) (m.payload.drop 20))) ∧
  (∀ (s : State) (m : InboundMsg), s.admittedOf 4 = some m → s.sealedDie.pfw = false → s.corePaused = false → 
    exec .timeOffer s = .next ((s.timeOffer m.payload).1.respond m (s.timeOffer m.payload).2)) ∧
  (∀ (s : State) (m : InboundMsg), s.admittedOf 2 = some m → s.sealedDie.pfw = false → s.corePaused = false → 
    exec .tariffDoc s = .next (if s.sealedDie.storeFault = true then s.respond m stDeniedSeal else
      (s.judgeDoc (typeAllowed 2 (getLE 4 2 m.payload)) m.payload).1.respond m (s.judgeDoc (typeAllowed 2 (getLE 4 2 m.payload)) m.payload).2)) ∧
  (∀ (s : State) (m : InboundMsg), s.admittedOf 3 = some m → s.sealedDie.pfw = false → s.corePaused = false → 
    exec .creditTxn s = .next (if s.sealedDie.storeFault = true then s.respond m stDeniedSeal else if s.journalHeld = true then s.respond m stBusy else
      (s.judgeDoc (typeAllowed 3 (getLE 4 2 m.payload)) m.payload).1.respond m (s.judgeDoc (typeAllowed 3 (getLE 4 2 m.payload)) m.payload).2)) ∧
  (∀ (s : State) (m : InboundMsg), s.admittedOf 5 = some m → s.sealedDie.pfw = false → s.corePaused = false → 
    (s.segmentLike m.payload = false → exec .sealedConfig s = .next ((s.judgeDoc (typeAllowed 5 (getLE 4 2 m.payload)) m.payload).1.respond m
      (s.judgeDoc (typeAllowed 5 (getLE 4 2 m.payload)) m.payload).2)) ∧
    (s.segmentLike m.payload = true → exec .sealedFirmwareSegment s = .next ((s.segment m.payload).1.respond m (s.segment m.payload).2))) ∧
  (∀ (s : State), s.sealedDie.running = true → 
    exec (.sealNChange true) s = .next ((s.onSealed fun x => { x with
      sealN := true
      sealLowSince := if x.sealN then x.elapsed else x.sealLowSince }).closeSession 2)) ∧
  (∀ (s : State) (input : Nat) (level : Bool), input ≤ 1 → s.sealedDie.stamps.getD input true ≠ level → s.sealedDie.running = true → s.sealedDie.started = true → 
    let u := (s.onSealed fun x => { x with stamps := x.stamps.set input level }).onSealed fun x => x.countStamp input
    exec (.stampChange input level) s = .next (u.reportStamp input level (u.sealedDie.stampCount.getD input 0))) ∧
  (∀ (s : State) (input : Nat) (level : Bool), input ≤ 1 → s.sealedDie.stamps.getD input true ≠ level → s.sealedDie.running = false → 
    let u := s.onSealed fun x => { x with stamps := x.stamps.set input level }
    let v := u.onSealed fun x => x.countStamp input
    exec (.stampChange input level) s = .next (if s.power.state = .hold
      then v.onSealed fun x => { x with stampOwed := x.stampOwed ++ [(input, level, v.sealedDie.stampCount.getD input 0)] }
      else if s.power.state = .unpowered then u else u.onSealed fun x => { x with stampOff := x.stampOff.set input true })) ∧
  (∀ (s : State) (f : FwPartial), s.sealedDie.fwPartial = some f → f.at_ + 600000000000 ≤ s.sealedDie.elapsed → 
    exec .segmentTimeout s = .next (s.onSealed fun x => { x with fwPartial := none })) ∧
  (∀ (s : State) (q : SealSession), s.sealedDie.session = some q → q.openedElapsed + q.maxS * 1000000000 ≤ s.sealedDie.elapsed → 
    exec .sealSessionExpiry s = .next (s.closeSession 3)) ∧
  (∀ (s : State) (offNs : Nat), s.sealedDie.running = false → s.sealedFed = true → 
    let x := s.sealedDie
    let a := s.onSealed fun y => { y with
        running := true
        started := false
        elapsed := y.elapsed + offNs
        tempReads := 0
        pcc := y.pcc + 1
        pfw := false
        storeFault := false
        temps := []
        outSeq := 0
        outBuf := []
        readingQ := []
        recordQ := []
        imageQ := []
        batch := {}
        signing := []
        txns := []
        reasm := []
        fwPartial := none
        refusedRecs := []
        ckptLeft := 0
        bucketSpent := []
        bucketSuppressed := []
        graceSince := some (y.elapsed + offNs)
        discNext := none
        lastOffer := none
        calFrozen := false
        lastCkptElapsed := y.elapsed + offNs
        noEndpoint := []
        markClose := y.norMarks.getD 0 none
        markSnapshot := y.norMarks.getD 1 none
        markActivation := y.norMarks.getD 2 none
        eps := y.eps.mapVals fun _ e => e.nor y.period }
    let c := a.applyMetroStaged.latchOffStamps
    let b := c.onGate fun g => { g with
        up := s.openRuns && s.host.phase ≠ 3
        inExpected := 0
        inNext := 0
        unanswered := []
        admitted := []
        units := []
        storeResults := []
        acks := []
        readReturns := []
        ackRegister := none
        outPlaced := none }
    let m := b.onMetro fun m => { m with
        startElapsed := x.elapsed + offNs
        firstAfterStart := true
        powerInterrupted := m.powerInterrupted || decide (0 < x.pcc)
        samples := 0
        phases := [{}, {}, {}]
        feeders := List.replicate 12 {}
        zxMsg := []
        nextEnd := none
        nominalHz := c.ms 1
        filters := List.replicate 20 {}
        owed := []
        testSeen := false
        residualSum := [0, 0, 0, 0]
        vneSum := 0
        neutralCycles := 0
        peaks := List.replicate 20 0 }
    let d := le 1 2 ++ zeros 3 ++ le 4 0
    let u := ((((m.raise 34 d).raiseSealed 34 d).beginRead [2, 1, 3, 4] 0).closeSession 4).onCp fun c => { c with
        replaceNext := Tab.keys c.current
        preStart := ((s.queue 48).pkts ++ (s.queue 58).pkts).map Packet.body }
    exec (.sealedDieStart offNs) s = .next (if x.timeState = .invalid then u.raiseSealed 44 (le 8 x.lastRecorded) else u.metroTimeSet)) ∧
  (∀ (s : State) (centiC : Int), s.sealedDie.running = true → 
    exec (.sealedTemperature centiC) s = .next ((s.sealedAdvance (s.metro.startElapsed + (s.sealedDie.tempReads + 1) * 1000000000)).onSealed fun x => { x with
      tempReads := s.sealedDie.tempReads + 1
      tempCentiC := centiC
      temps := (centiC :: x.temps).take 600 })) ∧
  (∀ (s : State), 0 < s.sealedDie.batch.count → s.sealedDie.batch.openedElapsed + s.sealedDie.batch.ageS * 1000000000 ≤ s.sealedDie.elapsed → 
    exec .batchAgeExpiry s = .next (s.closeBatch 2)) ∧
  (∀ (s : State) (g : Signing) (rest : List Signing), s.sealedDie.signing = g :: rest → 
    let r := s.draw 10 32
    exec .batchTrailerReady s = .next ((r.2.onSealed fun x => { x with
      signing := rest
      readingQ := { kind := 0x86, payload := g.header } ::
        { kind := 0x87, payload := withEdge (shake 64 (g.cells ++ g.header) ++ signOver (Config.factoryKey 2) "STOLRID-UPLOAD-1" (g.cells ++ g.header) (le 32 r.1) ++ zeros 3) } ::
        x.readingQ }).drainOut)) ∧
  (∀ (s : State), 
    exec .sealedOutputResume s = .next s.drainOut.pumpJournal) ∧
  (∀ (s : State) (r : Bytes) (t : Txn) (rest : List Txn), s.sealedDie.txns = t :: rest → t.refused = true → t.offered = false → t.record = some r → 
    exec .journalPartReoffer s = .next (((s.onSealed fun x => { x with txns := { t with offered := true } :: rest }).emit
      [{ kind := 0x8A, payload := r, txn := some t.number }]).reofferRecords)) ∧
  (∀ (s : State), s.checkpointDue = true → 
    let u := s.writeAnchors_.onSealed fun y => { y with
        streams := y.streams.map fun st => { st with
          epoch := st.epoch + 1
          next := 0
          writing := { epoch := st.aEpoch, next := st.aNext, tag := st.aTag } }
        lastCkptElapsed := y.elapsed
        txnSinceCkpt := 0 }
    let bodies := packParts (65472 - 16) (jItem 0x11 (le 4 s.sealedDie.period) :: s.sealedDie.eps.map (fun p => ckptItem p.1 p.2))
    let parts := bodies.zipIdx.map (fun p => le 8 s.sealedDie.txnNext ++ le 2 p.2 ++ le 2 bodies.length ++ zeros 4 ++ p.1)
    exec .sealedCheckpoint s = .next (parts.foldl (fun t p => t.writeSealed 2 p) (u.onSealed fun y => { y with ckptLeft := y.ckptLeft + parts.length })))

/-- Samples, zero crossings, metrology periods, calendar executions and minute evaluations run as R86 to R187 say (R86, R101, R93,
R102, R186, R179, R170). -/
def Obligations.MetrologyAndLedgerEventsComplete : Prop :=
  (∀ (s : State) (volts : List Int) (vne : Int) (currents neutrals : List Int), s.sealedDie.running = true → 
    let codes := channelCodes volts vne currents neutrals
    let u := (List.range 20).foldl (fun t ch => t.overload ch (codes.getD ch 0)) (s.sealedAdvance (s.sealedDie.elapsed + 125000))
    let f := (List.range 20).map (fun ch => u.filterSample ch (codes.getD ch 0))
    let y := f.zipIdx.map (fun q => u.scaleSample q.2 q.1.1)
    exec (.metroSample volts vne currents neutrals) s = .next (((List.range 3).foldl (fun t p => t.phaseSample p y)
      (u.onMetro fun m => { m with filters := f.map (·.2) })).onMetro fun m => { m with samples := m.samples + 1 })) ∧
  (∀ (s : State) (channel : Nat), 1 ≤ channel → channel ≤ 3 → (s.zx (channel - 1)).lost = false → 8 ≤ (s.zx (channel - 1)).missed → 
    exec (.zxLost channel) s = .next ((s.onZx (channel - 1) fun x => { x with lost := true, regain := 0 }).raiseSealed 46
      (le 1 channel ++ le 1 0))) ∧
  (∀ (s : State) (channel : Nat), 1 ≤ channel → channel ≤ 3 → (s.zx (channel - 1)).lost = true → 5 ≤ (s.zx (channel - 1)).regain → 
    exec (.zxRegained channel) s = .next ((s.onZx (channel - 1) fun x => { x with
      lost := false
      regain := 0
      missed := 0
      regained := true }).raiseSealed 46 (le 1 channel ++ le 1 1))) ∧
  (∀ (s : State) (e : Nat), s.metro.nextEnd = some e → s.sealedDie.running = true → s.sealedDie.started = true → e ≤ s.sealedSec → 
    let u := (s.closePeriod (fun _ => e) []).applyMetroStaged
    exec .metroPeriodEnd s = .next (u.onMetro fun m => { m with nextEnd := some (u.periodAfter e) })) ∧
  (∀ (s : State), 32 ≤ s.metro.zxMsg.length → 
    exec .zxStampsSend s = .next s.flushZx) ∧
  (∀ (s : State) (d : Due), s.calendarRuns = true → s.corePaused = false → firstDue s.calendarDue = some d → 
    exec .calendarExecution s = .next (s.executeDue d false)) ∧
  (∀ (s : State), s.sealedDie.running = true → s.sealedDie.started = true → s.sealedDie.pfw = false → s.sealedDie.timeState ≠ .invalid → s.sealedDie.storeFault = false → s.corePaused = false → s.sealedDie.lastMinute < s.sealedSec / 60 → 
    let a := s.onSealed fun x => { x with lastMinute := s.sealedSec / 60, heat := s.heatNow }
    let rot := match a.sealedDie.discNext with
      | some k => a.visited.filter (fun e => decide (k ≤ e)) ++ a.visited.filter (fun e => decide (e < k))
      | none => a.visited
    let due := if a.inGrace then [] else rot.filter a.wouldDisconnect
    let chosen := due.take (a.svN 0x3001 9)
    let r := a.visited.foldl (State.visitEndpoint chosen) (a, [], [], [])
    let u := r.1.onSealed fun x => { x with discNext := if due.length ≤ chosen.length then none else chosen.getLast?.map (· + 1) }
    exec .minuteEvaluation s = .next (if r.2.2.2.isEmpty then u else u.transact 4 0 r.2.1 r.2.2.1 r.2.2.2)) ∧
  (∀ (s : State), s.sealedDie.running = true → s.sealedDie.started = true → s.corePaused = false → 
    exec .stateEmit s = .next (((s.sealedDie.eps.filter (fun p => p.2.unemitted && decide (p.2.lastEmit + s.svN 0x3001 3 * 1000000000 ≤ s.sealedDie.elapsed))).map (·.1)).foldl
      (fun t e => (t.markEmitted e).emitAfter [t.currentItem e]) s))

/-- Profile reads, meter orders and the CP_SEALED copies run as R24 to R28 and R182 say (R24, R26, R27, R28, R182). -/
def Obligations.ReadingAndOrderEventsComplete : Prop :=
  (∀ (s : State) (q : Nat) (p : Packet), q ≤ 7 → s.openRuns = true → (s.takeHead q).1 = some p → ((s.takeHead q).2.resolveFrame p.body).2 = none → 
    exec (.receivedFrameHandle q) s = .next ((s.takeHead q).2.resolveFrame p.body).1) ∧
  (∀ (s : State) (q e : Nat) (p : Packet), q ≤ 7 → s.openRuns = true → (s.takeHead q).1 = some p → ((s.takeHead q).2.resolveFrame p.body).2 = some e → ((s.takeHead q).2.resolveFrame p.body).1.tbl.last.isBlocked = false → ((s.takeHead q).2.resolveFrame p.body).1.tbl.pendingNotice (getLE 0 1 p.body) (frameKey p.body) = false → getLE 24 2 p.body = 4059 → getBE 0 2 (p.body.drop 28) = 1 → 9 ≤ (p.body.drop 28).length → getLE 0 1 ((p.body.drop 28).drop 8) = 0xDB → 
    let u := ((s.takeHead q).2.resolveFrame p.body).1
    exec (.receivedFrameHandle q) s = .next (if getBE 4 2 (p.body.drop 28) = clientPort then
      u.candidateReading e (getLE 1 1 p.body) (getLE 12 8 p.body) (getLE 20 4 p.body) ((p.body.drop 28).drop 8) else u)) ∧
  (∀ (s : State) (q : Nat), q ≤ 7 → s.openRuns = true → (s.takeHead q).1 = none → 
    exec (.receivedFrameHandle q) s = .next (s.takeHead q).2) ∧
  (∀ (s : State) (eix : Nat) (e : DirEntry), s.tbl.dir.get? eix = some e → e.port ≤ 7 → s.openRuns = true → (s.cp.profileReads.filter (fun r => decide (r.1 = e.port) && decide (r.2 ≠ eix))).length < 4 → 
    exec (.profileRead eix) s = .next ((s.onCp fun c => { c with
      profileReads := c.profileReads.filter (fun r => r.2 ≠ eix) ++ [(e.port, eix)]
      profileWait := c.profileWait.filter (· ≠ eix) }).sendEndpoint eix (profileGet Config.profileObis
        (cosemDate s.time.utcOffset (s.lastCellEnd eix : Int)) (cosemDate s.time.utcOffset (s.time.nt.sec : Int))))) ∧
  (∀ (s : State) (eix : Nat) (o : Order), s.cp.orders.get? eix = some o → o.finished = false → o.getSent = false → o.nextOt ≤ s.power.ot → s.openRuns = true → s.power.pfw = false → 
    exec (.orderAttempt eix) s = .next ((s.onCp fun c => { c with orders := c.orders.set eix { o with
      attempts := o.attempts + 1
      lastOt := s.power.ot
      nextOt := attemptOt o.startOt (o.attempts + 1)
      awaiting := true } }).sendEndpoint eix o.apdu)) ∧
  (∀ (s : State) (eix : Nat) (o : Order), s.cp.orders.get? eix = some o → o.finished = false → o.awaiting = true → s.power.ot ≤ o.lastOt + 10 → 
    exec (.orderResponse eix) s = .next ((s.onCp fun c => { c with orders := c.orders.set eix { o with
      awaiting := false
      getSent := true } }).sendEndpoint eix (controlStateGet (s.dcObis eix)))) ∧
  (∀ (s : State) (eix : Nat) (o : Order) (result : Option Nat), s.cp.orders.get? eix = some o → o.finished = false → o.getSent = true → 
    let ended : Nat → State := fun outcome => (s.onCp fun c => { c with orders := c.orders.set eix { o with
        finished := true
        outcome := outcome
        awaiting := false
        getSent := false
        lastDone := o.number } }).orderOutcome eix outcome o.number
    exec (.controlStateRead eix result) s = .next (ended (controlOutcome o.kind result)) ∧ exec (.orderGetTimeout eix) s = .next (ended 1)) ∧
  (∀ (s : State) (eix : Nat) (o : Order), s.cp.orders.get? eix = some o → o.finished = false → o.awaiting = true → o.lastOt + 10 ≤ s.power.ot → 4 ≤ o.attempts → o.undelivered = false → 
    exec (.orderResponseWindow eix) s = .next ((s.onCp fun c => { c with orders := c.orders.set eix { o with
      awaiting := false
      undelivered := true
      outcome := 3 } }).orderOutcome eix 3 o.number)) ∧
  (∀ (s : State) (p : Packet), s.openRuns = true → (s.takeHead 58).1 = some p → 
    let u := (s.takeHead 58).2
    let post := !u.cp.preStart.contains p.body
    exec .cpSealedPacket s = .next (((u.onCp fun c => { c with preStart := c.preStart.erase p.body }).rereadLedger
      (getLE 0 1 p.body, p.body.drop 12) post).sealedCopy (getLE 0 1 p.body) (p.body.drop 12) post))

/-- Power-line frames, acknowledgements, driver faults, routes, joins and deliveries run as R195 to R227 say (R197, R199, R206,
R209, R210, R211, R215, R217, R219, R223, R227). -/
def Obligations.PowerLineEventsComplete : Prop :=
  (∀ (s : State) (p : Nat) (f : PlcRx), s.plcUp p = true → f.overlap = false → 100 * s.erasedSymbols p f ≤ s.plcN p 13 * f.symbols → f.fcsOk = true → f.pan = s.plcN p 2 → 
    let g := s.energies p f
    let snr := snrOfFrame g (s.tonesInUse p f.map).length
    let u := ((((((s.mediumFree p).onPort p fun y => { y with dsp := s.dspOf p f }).silentPaths p (f.paths.map (·.silent))).onPort p fun y => { y with
      rx := y.rx + 1
      impulsive := y.impulsive + b2n (s.frameImpulsive p f)
      ackPhases := s.phasesOfAck p g }).countRx p).heardNeigh p f snr).frameRecords p f g
    let cost := u.lcRx p (((u.port p).neighs.get? f.hop).getD { mod := f.mod, groupsOff := s.offGroups p f.map, snr := snr })
    exec (.plcFrameReceive p f) s = .next (u.send p p (rxPacket f.kind p cost f.src f.stamp f.udp f.payload))) ∧
  (∀ (s : State) (p : Nat) (f : PlcRx), s.plcUp p = true → f.overlap = false → f.fcsOk = false → 
    exec (.plcFrameReceive p f) s = .next (((s.mediumFree p).onPort p fun y => { y with dsp := s.dspOf p f }).rxLost p (s.frameImpulsive p f))) ∧
  (∀ (s : State) (p k : Nat) (air : PlcAir), ((s.mediumFree p).portSafePoint p).plcPrio p = some k → ((s.mediumFree p).portSafePoint p).mediumTaken p k = false → 
    exec (.plcTransmit p air) s = .next (((s.mediumFree p).portSafePoint p).plcSendNext p air)) ∧
  (∀ (s : State) (p h : Nat) (imp : Bool) (air : PlcAir) (t : PlcTx), (s.port p).tx = some t → t.dest = .hop h → 
    let u := ((s.attempt p h true imp).plcIdle p).onPort p fun y => { y with lost := y.lost + 1, impulsive := y.impulsive + b2n imp }
    let v := if imp = true then u.impulsiveLoss p else u
    exec (.plcAckTimeout p imp air) s = .next (if t.tries ≤ s.plcN p 14
      then v.plcStart p { t with tries := t.tries + 1 } air else v.plcGiveUp p t h)) ∧
  (∀ (s : State) (p : Nat), p ≤ 3 → 
    exec (.plcFltFall p) s = .next ((s.onPort p fun z => { z with
      fault := some (z.fault.getD s.power.ot)
      aborted := if z.tx.isSome then z.tx else z.aborted
      tx := none
      txen := 0 }).raisePlc p 0 (le 1 (s.port p).txen ++ le 1 (b2n (s.port p).tx.isSome)))) ∧
  (∀ (s : State) (p : Nat), 
    exec (.plcFaultClear p) s = .next (s.onPort p fun y => { y with fault := none })) ∧
  (∀ (s : State) (p t : Nat), p ≤ 3 → (s.port p).fault = some t → t + 10 < s.power.ot → 
    let y := s.port p
    let sets := ((y.tx.toList ++ y.aborted.toList ++ y.ready).filter (fun t => t.kind = .time)).map (·.eix)
    let u := sets.foldl (fun t e => t.finish workTime e stPeerLost []) (((s.plc.discs.filter (fun d => d.2.port = p)).map (·.1)).foldl
      (fun t e => t.routeFailed e false) ((s.plcIdle p).onPort p fun z => { z with aborted := none, ready := [] }))
    exec (.plcFaultPersist p) s = .next ((u.reclaim p).2.raisePlc p 1 (le 1 3 ++ zeros 3 ++ le 4 (u.reclaim p).1)) ∧
    exec (.plcPortWatchdog p) s = .next ((u.reclaim p).2.raisePlc p 1 (le 1 1 ++ zeros 3 ++ le 4 (u.reclaim p).1))) ∧
  (∀ (s : State) (p hop hops : Nat), s.plcUp p = true → hops ≤ s.cfgN 0x4011 0 → (s.port p).blacklist.has hop = false → 
    exec (.rreqReceived p hop hops true) s = .next (s.enqueue p { kind := .rrep, dest := .hop hop, cost := s.costTo p hop })) ∧
  (∀ (s : State) (p dest hop cost hops : Nat), s.plcUp p = true → hops ≤ s.cfgN 0x4011 0 → (s.port p).blacklist.has hop = false → s.tbl.direct.get? (p * 65536 + dest) = none → 
    exec (.rrepReceived p dest hop cost hops) s = .next (s.putRoute p dest { hop := hop, cost := min 255 cost, hops := hops, expiry := s.power.ot + s.cfgN 0x4011 3 })) ∧
  (∀ (s : State) (p dest : Nat), s.plcUp p = true → 
    exec (.rerrReceived p dest) s = .next (s.onPlc fun x => { x with routes := x.routes.erase (p * 65536 + dest) })) ∧
  (∀ (s : State) (p hop cost : Nat), s.plcUp p = true → s.cfgN 0x4011 4 = 1 → 
    exec (.rlcreqReceived { port := p, hop := hop }) s = .next (s.enqueue p { kind := .rlcrep, dest := .hop hop, cost := (((s.port p).neighs.get? hop).map (s.lcRx p)).getD 255 }) ∧
    exec (.rlcrepReceived p hop cost) s = .next (s.onPort p fun y => { y with neighs := y.neighs.adj hop fun n => { n with lcReply := some (min 255 cost) } })) ∧
  (∀ (s : State) (eix : Nat) (d : PlcDisc), s.plc.discs.get? eix = some d → d.electing = false → d.sinceOt * 1000 + s.cfgN 0x4011 2 ≤ s.power.ot * 1000 → d.rreqs ≤ s.cfgN 0x4011 1 → 
    exec (.rreqWaitExpiry eix) s = .next ((s.onPlc fun x => { x with discs := x.discs.set eix { d with
      rreqs := d.rreqs + 1
      sinceOt := s.power.ot } }).enqueue d.port { kind := .rreq, eix := eix, dest := .all })) ∧
  (∀ (s : State) (eix : Nat) (d : PlcDisc), s.plc.discs.get? eix = some d → d.electing = true → d.sinceOt * 1000 + s.cfgN 0x4012 5 ≤ s.power.ot * 1000 → 
    exec (.repeaterWaitExpiry eix) s = .next ((s.onPlc fun x => { x with discs := x.discs.set eix { d with current := none } }).nextRepeater eix)) ∧
  (∀ (s : State) (p short : Nat) (r : PlcRoute), s.plc.routes.get? (p * 65536 + short) = some r → r.expiry ≤ s.power.ot → 
    exec (.routeExpiry p short) s = .next (s.onPlc fun x => { x with routes := x.routes.erase (p * 65536 + short) })) ∧
  (∀ (s : State) (p short t : Nat), (s.port p).blacklist.get? short = some t → t + s.cfgN 0x4011 6 ≤ s.power.ot → 
    exec (.blacklistExpiry p short) s = .next (s.onPort p fun y => { y with blacklist := y.blacklist.erase short })) ∧
  (∀ (s : State) (eix : Nat), 
    exec (.sightingExpiry eix) s = .next (s.onPlc fun x => { x with sightings := x.sightings.adj eix fun l => l.filter (fun q => decide (s.power.ot < q.2 + s.cfgN 0x4012 1)) })) ∧
  (∀ (s : State) (p what cost e : Nat) (eui data psk : Bytes) (st : Stamp), s.portUp p = true → what ≠ 4 → (s.lookupSource 0 (padTo 8 eui) p cost (st.sec * 1000000000 + st.ns)).2 = some e → s.tbl.findEui (padTo 8 eui) = some e → bit (((s.tbl.dir.get? e).map (·.flags)).getD 0) 4 = false → s.sec.psks.get? (fromLE (padTo 8 eui)) = some psk → 
    let u := (s.lookupSource 0 (padTo 8 eui) p cost (st.sec * 1000000000 + st.ns)).1.joinStep p e eui psk what data
    exec (.lbpJoin p eui what cost data st) s =
    .next (if what = 2 ∧ u.plc.joined.get? e = some p ∧ s.joinVerified p eui psk data = true then u.distRejoin e else u)) ∧
  (∀ (s : State) (p what cost : Nat) (eui data : Bytes) (st : Stamp), s.portUp p = true → what ≠ 4 → (s.lookupSource 0 (padTo 8 eui) p cost (st.sec * 1000000000 + st.ns)).2 = none → s.tbl.findEui (padTo 8 eui) = none → 
    exec (.lbpJoin p eui what cost data st) s =
    .next ((s.lookupSource 0 (padTo 8 eui) p cost (st.sec * 1000000000 + st.ns)).1.joinDecline p noEix eui)) ∧
  (∀ (s : State) (eix p : Nat), s.plc.joined.get? eix = some p → 
    exec (.endpointLeave eix) s = .next (s.unjoin p eix 0)) ∧
  (∀ (s : State) (p eix : Nat) (c : Bool) (e : DirEntry), s.tbl.dir.get? eix = some e → e.port = p → s.plcUp p = true → s.timeDue c workTime eix (s.cfgN 0x4013 0) (s.cfgN 0x4013 1) = true → s.setQueued p eix = false → 
    exec (.plcTimeDelivery p eix c) s = .next (if s.time.level < s.cfgN 0x4013 2 then s.finish workTime eix stTimeInvalid []
      else (s.onPlc fun x => { x with timeOt := x.timeOt.set eix s.power.ot }).enqueue p { kind := .time, eix := eix }))

/-- Radio frames, timeslots, misses, wide endpoints and deliveries run as R240 to R257 say (R247, R235, R240, R243, R244, R246,
R253, R257). -/
def Obligations.RadioEventsComplete : Prop :=
  (∀ (s : State) (n : Nat) (f : RfRx) (c : RfCell) (off : Int), s.rxCell n f.offset = some (c, off) → s.radioUp n = true → (s.radio n).s0.isSome = true → f.pan = s.rfN n 1 → s.rfAirtime n f.ackOctets ≤ s.maxAirtime n → s.dutyAllows n (s.rfAirtime n f.ackOctets) false = true → c = .shared → f.relay = none → 
    let u := ((s.rfAcknowledge n (s.rfAirtime n f.ackOctets) .shared off).countRx (4 + n)).onRadio n fun y => { y with rx := y.rx + 1 }
    let cost := min 255 (2 * (s.cfgI 0x7000 5 - f.rssi)).toNat
    let v := match s.eixOf (4 + n) f.kind f.src with
      | none => u
      | some e => u.onRadio n fun y => { y with heard := y.heard.set e f.stamp.sec, costs := y.costs.set e cost }
    exec (.rfFrameReceive n f) s = .next (if f.payload.isEmpty = true then v else v.send (4 + n) (4 + n)
      (rxPacket f.kind (4 + n) cost f.src f.stamp f.udp f.payload))) ∧
  (∀ (s : State) (n asn overhead beacon : Nat) (energy : List Int) (acked : Bool), s.radioUp n = true → (s.radio n).s0.isSome = true → (s.radio n).asn ≤ asn → 
    let w : RfSlot := { overhead := overhead, beacon := beacon, energy := energy, acked := acked }
    let r := s.radioSafePoint n
    let u := r.onRadio n fun y => { y with
        asn := asn + 1
        channel := r.cellChannel n asn
        sentSlot := false
        lnaen := decide (r.rfN n 5 = 1) }
    ((u.radio n).waiting.isSome = true → exec (.rfTimeslot n asn overhead beacon energy acked) s = .next u) ∧
    ((u.radio n).waiting = none → u.cellAt n asn = .beacon → exec (.rfTimeslot n asn overhead beacon energy acked) s = .next ((u.rfBeacon n w).rfPull n w.overhead)) ∧
    ((u.radio n).waiting = none → u.cellAt n asn = .shared → exec (.rfTimeslot n asn overhead beacon energy acked) s = .next (u.rfShared n .shared w)) ∧
    ((u.radio n).waiting = none → u.cellAt n asn = .rescue → exec (.rfTimeslot n asn overhead beacon energy acked) s = .next (u.rfShared n .rescue w)) ∧
    ((u.radio n).waiting = none → u.cellAt n asn = .idle → exec (.rfTimeslot n asn overhead beacon energy acked) s = .next (u.rfPull n w.overhead))) ∧
  (∀ (s : State) (n i : Nat), (s.radio n).waiting = some i → 
    let u := s.onRadio n fun x => { x with waiting := none, lost := x.lost + 1 }
    let v := if (s.radio n).waitShared = true then u.backOff n else u
    exec (.rfAckTimeout n) s = .next (if (((s.radio n).macq[i]?).map (·.tries)).getD 0 ≤ s.rfN n 12 then v else v.rfDrop n i)) ∧
  (∀ (s : State) (n eix : Nat) (z : Sleepy), (s.radio n).sleepy.get? eix = some z → z.state = .synced → 
    exec (.sleepyMiss n eix) s = .next ((s.onSleepy n eix fun y => { y with misses := min 255 (y.misses + 1) }).onSleepy n eix fun y => { y with
      g := min (2 * s.nominalGuard n z) 4000
      c := 0
      state := .widening })) ∧
  (∀ (s : State) (n : Nat), n ≤ 3 → 
    exec (.rescueCellEmpty n) s = .next (s.onRadio n fun x => { x with
      sleepy := x.sleepy.mapVals fun _ z => if z.state = .wide then { z with c := min (z.c + 1) 8 } else z })) ∧
  (∀ (s : State) (n eix : Nat) (z : Sleepy), (s.radio n).sleepy.get? eix = some z → n ≤ 3 → z.state = .wide → s.cfgN 0x5020 5 ≤ z.c → 
    exec (.walExhausted n eix) s = .next (s.unjoin (4 + n) eix 2)) ∧
  (∀ (s : State) (n : Nat), n ≤ 3 → 
    let r := ((s.onRadio n fun x => { x with paen := false, lnaen := false, be := 1, bw := 0 }).rfDiscard n).reclaim (4 + n)
    exec (.rfWatchdog n) s = .next (r.2.raiseRf n 1 (le 1 1 ++ zeros 3 ++ le 4 r.1))) ∧
  (∀ (s : State) (n eix : Nat) (c : Bool), s.portOfEix eix = n + 4 → s.radioUp n = true → s.timeDue c workRfTime eix (s.cfgN 0x5020 6) (s.cfgN 0x5020 7) = true → (s.radio n).macq.any (fun f => f.kind = .time && f.eix = some eix) = false → 
    exec (.rfTimeDelivery n eix c) s = .next (if s.time.level < s.cfgN 0x5020 8 then s.finish workRfTime eix stTimeInvalid []
      else (s.onPlc fun y => { y with timeOt := y.timeOt.set eix s.power.ot }).onRadio n fun x => { x with
        macq := x.macq ++ [{ kind := .time, bytes := s.endpointBody eix (s.rfSet n), eix := some eix }] }))

/-- Markers, stamps, offers, PTP messages and source losses run as R262 to R273 say (R270, R271, R272, R264, R265, R263, R268). -/
def Obligations.TimeEventsComplete : Prop :=
  (∀ (s : State) (capture : Int) (c sec : Nat) (us : List GateUnit), s.gate.units = .marker c sec :: us → 
    exec (.secondMarker capture) s = .next ((s.onGate fun g => { g with units := g.units.erase (.marker c sec) }).markerArrives sec c capture)) ∧
  (∀ (s : State), s.openRuns = true → s.time.markerLost = false → s.time.markerOt.getD s.sec.runStartOt + 3 ≤ s.power.ot → 
    exec .markerLost s = .next (((s.onTime fun x => { x with markerLost := true, zxHeld := [] }).raise 154
      (le 4 (s.power.ot - s.time.markerOt.getD s.sec.runStartOt))).zxReference s.phasesHeld 0)) ∧
  (∀ (s : State) (p : Packet), s.openRuns = true → (s.takeHead 59).1 = some p → 
    let u := (s.takeHead 59).2
    let b := p.payload.drop 12
    let zs := (List.range (getLE 0 1 b)).map fun k => ({
      z := getLE (4 + 16 * k) 8 b * 1000000000 + getLE (4 + 16 * k + 8) 4 b
      channel := getLE (4 + 16 * k + 12) 1 b
      flags := getLE (4 + 16 * k + 13) 1 b
      half := getLE (4 + 16 * k + 14) 2 b } : ZxStamp)
    exec .zxInPacket s = .next ((u.onTime fun t => { t with
      zxHeld := if t.markerLost then t.zxHeld else t.zxHeld ++ zs
      zxSkipped := t.zxSkipped + ((u.fabric.lastNotice.get? 59).map (·.skipped)).getD 0 }).translateHeld)) ∧
  (∀ (s : State), s.offerAllowed = true → s.offerFits = true → s.offerWanted = true → 
    exec .timeOfferDecision s = .next ((s.onTime fun t => { t with
      lastSent := some s.power.ot
      outstanding := some s.deltaMs
      firstOffer := false }).send 14 18 (offerMsg s.time.utcOffset s.time.level 1))) ∧
  (∀ (s : State) (port : Nat) (t1 t2 : Int) (count : Nat), port ≤ 1 → s.cfgN (0x6010 + port) 0 = 1 → (s.time.ports.getD port {}).role = .slave → (((s.adopt 6).cand port).delays.isEmpty = true ∨ count ≠ s.time.stepCount % 256) → 
    exec (.ptpSync port t1 t2 count) s = .next (((s.adopt 6).onCand port fun x => { x with
      t1 := t1
      t2 := t2 - (s.adopt 6).rxLat port
      syncCount := count
      haveSync := true
      up := true }).selectBest)) ∧
  (∀ (s : State) (port : Nat) (t1 t2 : Int), port ≤ 1 → s.cfgN (0x6010 + port) 0 = 1 → (s.time.ports.getD port {}).role = .slave → ((s.adopt 6).cand port).delays.isEmpty = false → 
    let r := s.adopt 6
    let c := r.cand port
    let off := t2 - r.rxLat port - t1 - c.delay
    let offs := (c.offsets ++ [off]).drop (c.offsets.length + 1 - 4)
    let filt := fdivI offs.sum offs.length
    let within := decide (filt.natAbs ≤ 1000)
    let u := ((r.onCand port fun x => { x with
        t1 := t1
        t2 := t2 - r.rxLat port
        syncCount := s.time.stepCount % 256
        haveSync := true
        up := true }).onCand port fun x => { x with
          offsets := offs
          locked := x.locked && within
          windowSince := if within then some (x.windowSince.getD s.power.ot) else none }).selectBest
    exec (.ptpSync port t1 t2 (s.time.stepCount % 256)) s = .next (if u.time.source = some port then
      (u.onTime fun t => { t with filtered := filt, utcOffset := (c.utc.map fun u => -u).getD (s.cfgI 0x6000 8) }).ntUpdate s.time.level port (-off) else u)) ∧
  (∀ (s : State) (port : Nat) (t3 t4 : Int) (count : Nat), port ≤ 1 → (s.cand port).haveSync = true → (s.cand port).syncCount = count → 
    exec (.ptpDelayResp port t3 t4 count) s = .next (s.onCand port fun x => { x with
      delays := (x.delays ++ [fdivI (((s.cand port).t2 - (s.cand port).t1) + (t4 - (t3 + s.txLat port))) 2]).drop (x.delays.length + 1 - 5) })) ∧
  (∀ (s : State) (port : Nat) (dataset : List Nat) (gm : Bytes) (utc : Option Int), port ≤ 1 → s.cfgN (0x6010 + port) 0 = 1 → (s.cand port).best = [] → s.cfgN (0x6010 + port) 1 = 0 → 
    exec (.ptpAnnounce port dataset gm utc) s = .next ((((s.onCand port fun x => { x with
      best := dataset
      gm := gm
      clockClass := dataset.getD 1 248
      utc := utc }).onPtp port fun p => { p with role := .slave }).onCand port fun x => { x with up := true }).selectBest)) ∧
  (∀ (s : State) (port : Nat), port ≤ 1 → s.cfgN (0x6010 + port) 1 = 0 → 
    exec (.ptpAnnounceTimeout port) s = .next (((s.onPtp port fun p => { p with role := .listening }).onCand port fun c => { c with best := [], gm := [] }).loseSource port)) ∧
  (∀ (s : State) (port : Nat), port ≤ 1 → s.time.source ≠ some port → 
    exec (.ptpSyncLoss port) s = .next (s.onCand port fun c => { c with
      up := false
      locked := false
      windowSince := none
      offsets := []
      delays := []
      big := []
      haveSync := false })) ∧
  (∀ (s : State) (port : Nat), port ≤ 1 → s.time.source = some port → 
    let u := ((s.onCand port fun c => { c with
        up := false
        locked := false
        windowSince := none
        offsets := []
        delays := []
        big := []
        haveSync := false }).onTime fun t => { t with
          source := none
          lostSource := some port
          holdoverSince := some (t.holdoverSince.getD s.power.ot)
          freqPpb := meanRate s.time.rates
          phasePpb := 0 }).raise 148 (le 1 port ++ zeros 3 ++ leI 4 (meanRate s.time.rates))
    let v := if s.time.level ≤ 1 then u else u.setLevel (if 4 ≤ s.time.level then 4 else 2)
    exec (.ptpSyncLoss port) s = .next ((v.raise 146 (le 1 port ++ le 1 0xFF ++ le 1 v.time.level)).selectBest)) ∧
  (∀ (s : State) (port t : Nat), (s.cand port).windowSince = some t → port ≤ 1 → t + s.cfgN 0x6000 1 ≤ s.power.ot → (s.cand port).up = true → 
    exec (.ptpLocked port) s = .next ((s.onCand port fun c => { c with locked := true, lockedOt := if c.locked then c.lockedOt else s.power.ot }).selectBest)) ∧
  (∀ (s : State) (port : Nat), port ≤ 1 → s.cfg.adopting = [] → (s.time.ports.getD port {}).role = .master → (s.time.ports.getD port {}).link = true → 2 ≤ s.time.level → s.cfgN (0x6010 + port) 4 = 1 → 
    exec (.ptpSyncTx port false) s = .next ((s.onPtp port fun x => { x with syncSeq := (x.syncSeq + 1) % 65536 }).send 11 (32 + port)
      (withEdge (ptpHeader 0x00 44 (s.cfgN (0x6010 + port) 3) 0 (s.time.ports.getD port {}).syncSeq (s.cfgI (0x6010 + port) 5 % 256).toNat port ++ ptpStamp (s.time.nt.addNs (s.txLat port)))))) ∧
  (∀ (s : State) (port : Nat), port ≤ 1 → (s.time.ports.getD port {}).role = .slave → (s.time.ports.getD port {}).link = true → 
    exec (.ptpDelayReqTx port) s = .next ((s.onPtp port fun x => { x with delaySeq := (x.delaySeq + 1) % 65536 }).send 11 (32 + port)
      (withEdge (ptpHeader 0x01 44 (s.cfgN (0x6010 + port) 3) 0 (s.time.ports.getD port {}).delaySeq 0x7F port ++ ptpStamp s.time.nt)))) ∧
  (∀ (s : State) (port seq t4 : Nat) (requester : Bytes), port ≤ 1 → (s.time.ports.getD port {}).role = .master → 2 ≤ s.time.level → 
    let t := ((t4 : Int) - s.rxLat port).toNat
    exec (.ptpDelayReqReceived port seq requester t4) s = .next (s.send 11 (32 + port) (withEdge
      (ptpHeader 0x09 54 (s.cfgN (0x6010 + port) 3) 0 seq (s.cfgI (0x6010 + port) 6 % 256).toNat port ++ be 6 (t / 1000000000) ++ be 4 (t % 1000000000) ++
        padTo 10 requester)))) ∧
  (∀ (s : State) (port : Nat), port ≤ 1 → 
    exec (.ethLinkChange port true) s = .next (s.onPtp port fun p => { p with link := true }) ∧
    exec (.ethLinkChange port false) s = .next (((s.onPtp port fun p => { p with link := false, role := .listening }).onCand port fun c => { c with
      best := []
      gm := [] }).loseSource port)) ∧
  (∀ (s : State) (t : Nat), s.time.hostSetOt = some t → t + s.cfgN 0x6000 6 ≤ s.power.ot → (s.cand 2).up = true → 
    exec .hostSourceLost s = .next (s.loseSource 2)) ∧
  (∀ (s : State) (t : Nat), s.time.holdoverSince = some t → s.time.holdoverOver = false → t + s.cfgN 0x6000 4 ≤ s.power.ot → 
    exec .holdoverExpiry s = .next (((if s.time.level = 4 then s.setLevel 2 else s).onTime fun x => { x with holdoverOver := true }).raise 149 (le 1 (sourceCode s.time.lostSource)))) ∧
  (∀ (s : State) (port seq action : Nat) (tlv : Bytes), port ≤ 1 → s.cfgN (0x6010 + port) 0 = 1 → 
    let status : Bytes := if action = 1 then be 2 2 ++ be 2 8 ++ be 2 0x0004 ++ padTo 2 (tlv.drop 4) ++ zeros 4
      else be 2 1 ++ be 2 (tlv.length - 2) ++ tlv.drop 4
    exec (.ptpManagement port seq action tlv) s = .next (s.send 11 (32 + port) (withEdge (ptpHeader 0x0D (48 + status.length)
      (s.cfgN (0x6010 + port) 3) 0 seq 0x7F port ++ zeros 10 ++ zeros 2 ++ le 1 2 ++ le 1 0 ++ status))))

/-- Lookups, notices, table operations, rehashes, aging, shadow commits and proofing scans run as R291 to R306 say (R291, R292,
R295, R296, R297, R300, R301, R302, R305, R306). -/
def Obligations.TableEventsComplete : Prop :=
  (∀ (s : State) (kind port cost stamp mismatches ecc : Nat) (key : Bytes), s.fogN 4 = 0 → s.tbl.pipes.any id = true → (s.tbl.pipes.all id = true ∨ mismatches < 2) → 
    let pipe := if s.tbl.pipes.all id = true then s.tbl.turn else s.tbl.pipes.idxOf true
    let u := (s.onFog fun f => { f with lookups := s.fog.lookups + 1 }).onTbl fun t => { t with turn := if s.tbl.pipes.all id = true then 1 - t.turn else t.turn }
    let v := if mismatches = 0 then u else u.raise 160 (le 1 pipe ++ le 1 kind ++ le 1 1)
    exec (.lookup kind key port cost stamp mismatches ecc) s = .next (if mismatches < 2 then v.lookupAnswer kind key port cost stamp ecc
      else (((v.raise 160 (le 1 pipe ++ le 1 kind ++ le 1 2)).onTbl fun t => { t with pipes := t.pipes.set pipe false }).raise 163
        (le 1 pipe ++ le 1 1)).lookupAnswer kind key port cost stamp ecc)) ∧
  (∀ (s : State) (number slot : Nat) (n : LearnNotice), s.tbl.notices.find? (fun p => p.2.number = number) = some (slot, n) → s.openRuns = true → n.eix = noEix → n.raised = false → 
    exec (.noticeDecision number) s = .next ((s.onTbl fun t => { t with notices := t.notices.set slot { n with raised := true } }).raise 161
      (le 2 n.number ++ le 1 n.kind ++ le 1 ((n.sightings.head?.map (·.port)).getD 0xF) ++ le 1 n.sightings.length ++ eix3 noEix))) ∧
  (∀ (s : State) (number slot : Nat) (n : LearnNotice) (e : DirEntry) (g : Sighting) (gs : List Sighting), s.tbl.notices.find? (fun p => p.2.number = number) = some (slot, n) → s.openRuns = true → n.eix ≠ noEix → s.tbl.dir.get? n.eix = some e → n.sightings = g :: gs → s.tbl.rebuild = none → e.port = 0xF → 
    let best := gs.foldl (fun b x => if x.cost < b.cost then x else b) g
    exec (.noticeDecision number) s = .next ((s.writeDir true n.eix (padTo 8 e.eui ++ le 2 e.short ++ le 1 best.port ++
      le 1 (setBit e.flags 5 false) ++ zeros 12)).1.onTbl fun t => t.release slot)) ∧
  (∀ (s : State) (number slot : Nat) (n : LearnNotice), s.tbl.notices.find? (fun p => p.2.number = number) = some (slot, n) → n.eix = noEix → n.otSince + s.cfgN 0x7000 4 ≤ s.power.ot → 
    exec (.noticeTtlExpiry number) s = .next (s.onTbl fun t => t.release slot)) ∧
  (∀ (s : State) (us : Nat) (r : Rebuild) (t : Tbl), s.tbl.rebuild = some r → s.rebuilt r = some t → 
    exec (.rehashComplete us) s = .next (((s.onTbl fun _ => { t with rebuild := none }).raise 167 (le 1 r.table ++ le 1 0 ++ le 2 stDone ++ le 4 us)).finish workRehash r.table stDone [])) ∧
  (∀ (s : State) (kind mode ecc : Nat), 
    let host : Nat → Nat → State := fun cmd e => (s.tblOperateEcc { s.tbl.hostRegs with cmd := cmd % 512 } e).1.onTbl fun t => { t with
        hostRegs := (s.tblOperateEcc { s.tbl.hostRegs with cmd := cmd % 512 } e).2 }
    let cp : Nat → Nat → State := fun cmd e => (s.tblOperateEcc { s.tbl.cpRegs with cmd := cmd % 512 } e).1.onTbl fun t => { t with
        cpRegs := (s.tblOperateEcc { s.tbl.cpRegs with cmd := cmd % 512 } e).2 }
    exec (.tblRead 0 { kind := kind, ecc := ecc }) s = .next (host (tblCmd 1 kind 0) ecc) ∧ exec (.tblWrite 0 kind mode) s = .next (host (tblCmd 2 kind mode) 0) ∧
    exec (.tblDelete 0 kind) s = .next (host (tblCmd 3 kind 0) 0) ∧ exec (.tblSearch 0 { kind := kind, ecc := ecc }) s = .next (host (tblCmd 4 kind 0) ecc) ∧
    exec (.tblNext 0 { kind := kind, ecc := ecc }) s = .next (host (tblCmd 5 kind 0) ecc) ∧ exec (.tblFlushPort 0 mode) s = .next (host (tblCmd 6 0 mode) 0) ∧
    exec (.tblRead 1 { kind := kind, ecc := ecc }) s = .next (cp (tblCmd 1 kind 0) ecc) ∧ exec (.tblWrite 1 kind mode) s = .next (cp (tblCmd 2 kind mode) 0) ∧
    exec (.tblDelete 1 kind) s = .next (cp (tblCmd 3 kind 0) 0) ∧ exec (.tblSearch 1 { kind := kind, ecc := ecc }) s = .next (cp (tblCmd 4 kind 0) ecc) ∧
    exec (.tblNext 1 { kind := kind, ecc := ecc }) s = .next (cp (tblCmd 5 kind 0) ecc) ∧ exec (.tblFlushPort 1 mode) s = .next (cp (tblCmd 6 0 mode) 0)) ∧
  (∀ (s : State), s.cfgN 0x7000 0 = 1 → s.tbl.lastPassOt + s.cfgN 0x7000 1 ≤ s.power.ot → 
    exec .agingPass s = .next ((s.onTbl fun _ => { s.tbl.agePass.1 with
      lastPassOt := s.power.ot
      lastPass := (s.tbl.agePass.2.1, s.tbl.agePass.2.2) }).raise 169 (le 4 s.tbl.agePass.2.1 ++ le 4 s.tbl.agePass.2.2))) ∧
  (∀ (s : State), 
    exec .shadowCommit s = .next ((s.tbl.dirty.foldl (fun t d => t.send 11 68 (tablePacket d.1 d.2 (t.shadowImage d.1 d.2))) s).onTbl fun t => { t with dirty := [] })) ∧
  (∀ (s : State) (region group : Nat) (upset : List Nat), region ≠ 5 → 
    let known := (s.tbl.damaged.filter (fun d => d.1 = region ∧ s.tbl.groupOf region d.2 = group)).map (·.2)
    exec (.proofingScan region group upset) s = .next (((upset ++ known).eraseDups).foldl (fun t p => t.proofMismatch region p)
      (s.onTbl fun t => { t with roundRepair := some (t.roundRepair.getD (s.cfgN 0x7000 7)) }))) ∧
  (∀ (s : State) (group : Nat), s.tbl.damaged = [] → 
    let u := s.onTbl fun t => { t with roundRepair := some (t.roundRepair.getD (s.cfgN 0x7000 7)) }
    exec (.proofingScan 5 group []) s = .next (u.onTbl fun t => { t with
      filter := (t.pfx.vals.filterMap (fun e => (u.pfxSlotOf e.len).map (fun i => filterRange i e.len e.pfx))).eraseDups
      lastRound := (u.power.ot, t.proofErrors)
      proofErrors := 0
      roundRepair := none }))

/-- Uploads, heartbeats and the tier's frames run as R397 and R484 to R489 say (R397, R484, R485, R486, R487, R488, R489). -/
def Obligations.TierAndUploadEventsComplete : Prop :=
  (∀ (s : State) (n : Nat) (b : BatchEntry) (d : Bytes), s.role ≠ 2 → s.headendAddr ≠ zeros 16 → s.store.batches.get? n = some b → b.complete = true → b.delivered = false → s.sec.uploads.any (·.batch = n) = false → s.sec.uploads.length < s.cfgN 0xB000 5 → s.batchBytes n = some d → 
    exec (.uploadBatchSend n) s = .next ((segmentsOf (le 1 1 ++ zeros 3) n d).foldl State.sendUpload
      (s.onSec fun x => { x with uploads := x.uploads ++ [{ batch := n, attempts := 0 }] }))) ∧
  (∀ (s : State) (n : Nat), s.sec.uploads.any (·.batch = n) = true → 
    exec (.uploadAck n none) s = .next ((s.onSec fun x => { x with uploads := x.uploads.filter (·.batch ≠ n) }).batchDelivered n)) ∧
  (∀ (s : State) (n m : Nat), (s.tier.relay.getD m []).contains n = true → 
    exec (.uploadAck n (some m)) s = .next ((s.onTier fun t => { t with
      relay := t.relay.set m ((t.relay.getD m []).erase n) }).tierTo m 4 (le 8 n))) ∧
  (∀ (s : State) (n : Nat) (u : Upload) (d : Bytes), s.role ≠ 2 → s.sec.uploads.find? (·.batch = n) = some u → u.attempts < s.cfgN 0xB000 7 → s.batchBytes n = some d → 
    exec (.uploadAckTimeout n) s = .next ((segmentsOf (le 1 1 ++ zeros 3) n d).foldl State.sendUpload (s.onSec fun x => { x with
      uploads := x.uploads.map (fun v => if v.batch = n then { v with attempts := v.attempts + 1 } else v) }))) ∧
  (∀ (s : State) (mac frame : Bytes), 
    let conflict : State → Nat → Bytes → Bool := fun t src b => t.role = 1 && (decide (some src = t.member) || (match t.tier.peers.get? src with
      | some p => p.live && p.identity ≠ slice 4 16 b
      | none => false))
    let heard : State → Nat → Bytes → State := fun t src b =>
      let old := t.tier.peers.get? src
      let p := old.getD {}
      let q : Peer := {
        role := getLE 0 1 b
        identity := slice 4 16 b
        mac := padTo 6 mac
        ntLevel := getLE 1 1 b
        lastNt := (s.time.nt.sec, s.time.nt.ns)
        lastOt := s.power.ot
        live := true
        frames := p.frames + (if old.isNone then 1 else 0)
        silent := 0
        bitmap := getLE 20 2 b
        lostOt := 0 }
      let own := t.member.getD 16
      let u := t.onTier fun x => { x with peers := x.peers.set src q }
      let v := if decide (0 < p.lostOt) && !p.live then u.regained src (p.lostOt - 1)
        else if (old.isNone || (!bit p.bitmap own && bit q.bitmap own)) ∧ s.role = 2 ∧ src = 0 then
          (u.onTbl fun x => { x with bindChanged := Tab.keys x.dir }).sendDirectory
        else u
      let w := v.takeAcks src b
      let held := (w.tier.peers.get? own).map (·.identity)
      if w.role = 2 ∧ src = 0 ∧ bit (getLE 20 2 b) own ∧ held.isSome ∧ held ≠ some (padTo 16 Config.openIdentity) then w.isolate own (held.getD []) else w
    exec (.heartbeatReceive mac frame) s = .next (match s.tierReceive 1 frame with
      | (t, none) => t
      | (t, some (src, b)) =>
        if b.length < 24 then t
        else if conflict t src b = true then t.raise 242 (le 1 src ++ zeros 3 ++ (slice 4 16 b).take 4)
        else heard t src b)) ∧
  (∀ (s : State) (m : Nat) (p : Peer), s.tierOn = true → s.tier.peers.get? m = some p → p.live = true → p.lastOt + 5 ≤ s.power.ot → 
    exec (.peerLoss m) s = .next ((s.onTier fun t => { t with
      peers := t.peers.set m { p with live := false, lostOt := s.power.ot + 1 }
      managerLostOt := if s.role = 2 ∧ m = 0 then some s.power.ot else t.managerLostOt
      batchSent := if m = 0 then [] else t.batchSent }).raise 240 (le 1 m ++ le 1 p.role ++ zeros 2 ++ padTo 4 p.identity))) ∧
  (∀ (s : State) (frame : Bytes), 
    exec (.directoryFrame frame) s = .next (match s.tierReceive 2 frame with
      | (t, some (src, b)) => if t.role ≠ 1 ∨ b.length % 16 ≠ 0 ∨ b.isEmpty ∨ 512 < b.length then t else (chunks 16 b).foldl (fun u e => u.remoteEntry src e) t
      | (t, none) => t)) ∧
  (∀ (s : State) (frame : Bytes), 
    exec (.batchSegmentFrame frame) s = .next (match s.tierReceive 3 frame with
      | (t, none) => t
      | (t, some (src, b)) =>
        if t.role ≠ 1 ∨ b.length < 17 ∨ (¬ (t.tier.relay.getD src []).contains (getLE 0 8 b) ∧ t.cfgN 0xE000 4 ≤ (t.tier.relay.getD src []).length) ∨
          t.headendAddr = zeros 16 then t
        else (t.onTier fun x => { x with relay := x.relay.set src (if (t.tier.relay.getD src []).contains (getLE 0 8 b) then t.tier.relay.getD src []
          else t.tier.relay.getD src [] ++ [getLE 0 8 b]) }).sendUpload (le 1 3 ++ le 1 src ++ zeros 2 ++ b))) ∧
  (∀ (s : State) (frame : Bytes), 
    exec (.batchAckFrame frame) s = .next (match s.tierReceive 4 frame with
      | (t, none) => t
      | (t, some (src, b)) => if t.role ≠ 2 ∨ src ≠ 0 ∨ b.length ≠ 8 then t
        else (t.onTier fun x => { x with batchSent := x.batchSent.erase (getLE 0 8 b) }).batchDelivered (getLE 0 8 b))) ∧
  (∀ (s : State) (frame : Bytes), 
    exec (.subscribeFrame frame) s = .next (match s.tierReceive 5 frame with
      | (t, some (src, b)) =>
        if b.length ≠ 8 ∨ some (getLE 0 4 b / 16384) ≠ t.member ∨ 1 < getLE 4 1 b then t
        else if getLE 4 1 b = 1 then
          let u := t.onTier fun x => { x with served := x.served.upd src [] fun l => if l.contains (getLE 0 4 b) then l else l ++ [getLE 0 4 b] }
          let back := (t.cellsOf [getLE 0 4 b]).filter fun r => (t.tier.contribSent.get? src).any fun k => decide (r.seq ≤ k)
          if t.peerLive src = true then (back.foldl (fun y r => y.sendContrib src r) u).sendContribs src
          else u.onTier fun x => { x with contribSent := x.contribSent.erase src }
        else t.onTier fun x => { x with served := x.served.adj src fun l => l.erase (getLE 0 4 b) }
      | (t, none) => t)) ∧
  (∀ (s : State) (frame : Bytes), 
    exec (.contribFrame frame) s = .next (match s.tierReceive 6 frame with
      | (t, some (src, b)) =>
        if b.length ≠ 76 ∨ (getLE 0 4 (b.drop 12) % 2 ^ 18) / 16384 ≠ src then t
        else
          let u := t.onTier fun x => { x with contribHigh := x.contribHigh.upd src 0 fun h => max h (getLE 0 8 b) }
          if (u.bal.cells.getD (getLE 0 4 (b.drop 12) % 2 ^ 18) []).has (getLE 4 4 (b.drop 12)) then u
          else (u.judgeLength (getLE 0 4 (b.drop 12) % 2 ^ 18) (some (getLE 8 4 b))).balInput 0x81 (b.drop 12)
      | (t, none) => t)) ∧
  (∀ (s : State), s.tierOn = true → 
    let acks := (s.tier.contribHigh.map (fun p => le 1 p.1 ++ zeros 3 ++ le 8 p.2)).flatten
    let u := s.tierSend (leI 6 (s.cfgI 0xE000 3)) 1 0xFF
      (le 1 s.role ++ le 1 s.time.level ++ zeros 2 ++ padTo 16 Config.openIdentity ++ le 2 s.liveBitmap ++ zeros 2 ++ acks)
    exec .heartbeatSend s = .next ((Tab.keys u.tier.served).foldl (fun t m => t.sendContribs m) (u.sendDirectory.sendSubscribes))) ∧
  (∀ (s : State) (t : Nat), s.tier.managerLostOt = some t → s.tier.lossDays < (s.power.ot - t) / 86400 → s.cfgN 0xE000 5 < (s.power.ot - t) / 86400 → 
    exec .bufferAgeDay s = .next ((s.onTier fun x => { x with lossDays := (s.power.ot - t) / 86400 }).raise 244 (le 2 ((s.power.ot - t) / 86400) ++ zeros 2 ++
      le 4 (s.store.batches.filter (fun b => b.2.complete && !b.2.delivered)).length)))

/-- Node safe points, interval waits, solves, silent members, rebuilds and balance inputs run as R114 to R131 say (R124, R115,
R125, R114, R130, R321). -/
def Obligations.BalanceEventsComplete : Prop :=
  (∀ (s : State) (n : Nat), n ≤ 11 → s.openRuns = true → (s.node n).solving = none → s.nodeExists n = true → s.cfgN 0x2000 0 ≠ 0 → 
    let u := ((s.mergeInputs n).applyStaged).adoptNode n
    let v := (u.dueIntervals n).foldl (fun t x => t.closeInterval n x) u
    let w := ((s.node n).touched ++ u.dueIntervals n).foldl (fun t x => t.reverseFlow n x) ((v.nodeResidual n).neutralDetector (n / 3))
    exec (.nodeSafePoint n) s = .next (((w.dailyStep n).startSolve n).sendSubscribes)) ∧
  (∀ (s : State) (n t : Nat), s.nodeExists n = true → s.cfgN 0x2000 0 = 1 → s.openRuns = true → t % s.balLen = 0 → (s.node n).ints.has t = false → s.time.nt.sec < t + thirtyDays → ((t + s.cfgN 0x2000 4 : Nat) : Int) * 1000000000 < s.alignedNt → (s.node n).due.contains t = false → 
    exec (.intervalCloseWait n t) s = .next (s.onNode n fun x => { x with due := x.due ++ [t] })) ∧
  (∀ (s : State) (n : Nat) (i : SolveIn), (s.node n).solving = some i → s.openRuns = true → 
    exec (.balanceSolveDone n) s = .next (s.publish n i)) ∧
  (∀ (s : State) (eix : Nat) (m : Member), s.bal.members.get? eix = some m → s.openRuns = true → s.cfgN 0x2000 0 = 1 → m.silent = false → m.lastOt + s.cfgN 0x2000 5 ≤ s.power.ot → 
    exec (.memberSilent eix) s = .next ((s.onBal fun b => { b with members := b.members.set eix { m with silent := true } }).raise 89 (eix3 eix ++ le 1 m.node ++ le 1 0))) ∧
  (∀ (s : State) (sec : Nat), s.bal.rebuilding = true → s.openRuns = true → s.store.mapReady = true → 
    let u := ((List.range 12).filter s.nodeExists).foldl (fun t n => t.rebuildNode n)
        (s.storedInputs.foldl (fun t r => t.balInput r.kind r.data false) s)
    exec (.balanceRebuildDone sec) s = .next ((u.onBal fun b => { b with rebuilding := false }).raise 94
      (le 4 (u.bal.nodes.map (fun x => x.ints.length)).sum ++ le 4 sec))) ∧
  (∀ (s : State) (p : Packet), s.openRuns = true → (s.takeHead 56).1 = some p → (((s.takeHead 56).2.fabric.lastNotice.get? 56).map (·.skipped)).getD 0 = 0 → s.cfgN 0x2000 0 = 1 → 
    exec .balInPacket s = .next ((s.takeHead 56).2.balInput (getLE 0 1 p.body) (p.body.drop 12)))

/-- Campaign loading, rounds, member responses, activation and verification run as R401 to R412 say (R401, R404, R408, R410,
R411). -/
def Obligations.DistributionEventsComplete : Prop :=
  (∀ (s : State) (c : Nat) (x : Campaign), s.camps.get? c = some x → x.phase = .loading → s.openRuns = true → ((x.kind ≠ 1 ∨ s.sec.trngStopped = false)) → 
    let b := s.campContent x
    let r : Bytes × State := if x.kind = 1 then s.random 4 else ([], s)
    let u := (r.2.onCamp c fun y => { y with
        phase := .preparing
        content := b
        seed := if x.kind = 1 then max 1 (fromLE r.1) else 0 }).raise 216 (le 1 c ++ le 1 x.kind ++ zeros 2 ++ le 4 x.members.length)
    let v := (Tab.keys x.members).foldl (fun t e => (t.onDist c e fun m => { m with state := .prepare }).distAsk c e x.firstRequest) u
    exec (.contentLoaded c) s = .next (if shake 64 b ≠ x.digest ∨ (x.kind = 2 ∧ (calEntries b).isNone = true)
      then (s.badContent c).finish workDist c stSignatureBad [] else (v.finish workDist c stDone []).distSettle c)) ∧
  (∀ (s : State) (c : Nat) (f : DistFrame) (rest : List DistFrame) (x : Campaign), s.camps.get? c = some x → x.phase = .round → s.openRuns = true → s.power.thermalLevel = 0 → x.left = f :: rest → 
    let pkt := match f with
      | .source i => txPacket noEix 2 [] (wrapper clientPort 1 (x.action 0x81#8 2 (blockData i (x.symbol i))))
      | .repair n e => txPacketTo (s.cfgN 0xC000 0) noEix 2 [] (x.repairFrame c n e)
    let n := x.repairs + b2n (x.round ≠ 0)
    let u := ((s.roundPorts x).foldl (fun t p => t.send 17 (24 + p) pkt) s).onCamp c fun y => { y with
      left := rest
      sent := y.sent + 1
      repairs := n }
    exec (.multicastFrame c) s = .next (if rest.isEmpty = true
      then ((u.raise 217 (le 1 c ++ le 1 x.round ++ zeros 2 ++ le 4 n)).queryRound c).distSettle c else u)) ∧
  (∀ (s : State) (c eix : Nat) (nums : List Nat) (data : Bytes) (x : Campaign) (m : DistMember) (r : DistReq), s.camps.get? c = some x → x.members.get? eix = some m → m.request = some r → s.openRuns = true → 
    exec (.memberResponse c eix true nums data) s = .next ((s.distAnswer c eix x m r nums data).distSettle c) ∧
    exec (.memberResponse c eix false nums data) s = .next ((s.distRetry c eix r.cause).distSettle c)) ∧
  (∀ (s : State) (c eix : Nat) (m : DistMember), (s.camps.get? c).bind (fun x => x.members.get? eix) = some m → m.request.isSome = true → s.openRuns = true → 
    exec (.memberRequestTimeout c eix) s = .next ((if m.attempts ≤ s.cfgN 0xC000 6 then s.distTransmit c eix else s.distFail c eix 1).distSettle c)) ∧
  (∀ (s : State) (c : Nat) (x : Campaign), s.camps.get? c = some x → x.phase ≠ .defined → x.phase ≠ .loading → x.phase ≠ .ended → s.openRuns = true → x.due = false → x.actNt ≠ 0 → x.actNt ≤ s.time.nt.sec → 2 ≤ s.time.level → 
    exec (.activationDue c) s = .next ((s.onCamp c fun y => { y with due := true }).activateReady c)) ∧
  (∀ (s : State) (c eix : Nat) (x : Campaign) (m : DistMember), s.camps.get? c = some x → x.members.get? eix = some m → x.kind = 1 → ((m.state = .verify ∨ m.state = .activate)) → m.request = none → s.openRuns = true → 
    exec (.verifyPoll c eix) s = .next (s.distAsk c eix .attribute6)) ∧
  (∀ (s : State) (c eix : Nat) (x : Campaign) (m : DistMember), s.camps.get? c = some x → x.members.get? eix = some m → x.kind = 1 → ((m.state = .verify ∨ m.state = .activate)) → m.since + s.cfgN 0xC000 8 ≤ s.power.ot → s.openRuns = true → 
    exec (.verifyTimeout c eix) s = .next ((s.distFail c eix (if m.state = .verify then 4 else 6)).distSettle c))

/-- Panel frames, rails, holds and temperatures run as R496 to R510 say, and a proving period ends as R473 says (R496, R497, R500,
R501, R508, R510, R473). -/
def Obligations.PanelAndProvingEventsComplete : Prop :=
  (∀ (s : State), s.panelUp = true → s.panel.rails = .on → s.panelSafePoint.panelUp = true → s.panelSafePoint.panel.rails = .on → 
    let u := s.panelSafePoint
    let v := if u.cfg.adopting.contains 13 ∨ u.panel.table.isNone then u else (State.startJobs u.panel.queue [] u).startToggles
    let drawing := !v.panel.active.isEmpty || !v.panel.blinks.isEmpty
    let w := (Tab.keys v.panel.blinks).foldl (fun t i => t.blinkFrame i) (v.panel.active.foldl (fun t j => t.jobFrame j.number) v)
    exec .panelFrame s = .next ((w.onPanel fun p => { p with
      scanning := drawing
      lastFrameOt := if v.panel.scanning || drawing then s.power.ot else p.lastFrameOt }).panelWake)) ∧
  (∀ (s : State), s.panelUp = true → 
    (s.panel.rails = .waking → exec .panelRailUp s = .next (s.onPanel fun p => { p.setRails .on with attempts := 0, lastFrameOt := s.power.ot })) ∧
    (s.panel.rails = .retry → exec .panelRailRetry s = .next (s.onPanel fun p => p.setRails .waking))) ∧
  (∀ (s : State), s.panelUp = true → s.panel.rails = .waking → s.panel.attempts < 2 → 
    exec .pwrgoodTimeout s = .next ((s.onPanel fun p => { p.setRails .retry with attempts := s.panel.attempts + 1 }).raise 232 (le 1 1 ++ le 1 (s.panel.attempts + 1)))) ∧
  (∀ (s : State), s.panelUp = true → s.panel.rails = .waking → 2 ≤ s.panel.attempts → 
    exec .pwrgoodTimeout s = .next (((s.onPanel fun p => { p.setRails .failed with attempts := s.panel.attempts + 1 }).raise 232
      (le 1 1 ++ le 1 (s.panel.attempts + 1))).failUpdates)) ∧
  (∀ (s : State), s.panel.rails = .on → s.panel.scanning = false → s.panel.active = [] → s.panel.queue = [] → s.panel.blinks = [] → s.panel.lastFrameOt * 1000 + s.panelN 12 < (s.power.ot + 1) * 1000 → 
    exec .railHoldExpiry s = .next (s.onPanel fun p => p.setRails .off)) ∧
  (∀ (s : State), s.panel.rails = .on → s.panel.scanning = true → 
    let cut := s.panel.cutShort
    let u := (s.abortEvents 2).raise 232 (le 1 2 ++ le 1 s.panel.attempts)
    let v := u.panel.active.foldl (fun t j => match j.kind with
      | .update => t.finish workUpdate j.number stInternalFault []
      | .rebalance => t.finish workRebalance j.number stInternalFault []
      | .sheet _ => t.finish workSheet j.number stInternalFault []
      | _ => t) u
    let rec0 : PanelJob := { number := s.panel.nextNumber, kind := .recovery 2 false, rects := cut.map (·.1), mode := 0 }
    exec .pwrgoodLost s = .next ((v.commitLedger.onPanel fun p => { p.setRails .off with
      faulted := cut
      active := []
      blinks := []
      scanning := false
      nextNumber := if cut.isEmpty then s.panel.nextNumber else (s.panel.nextNumber + 1) % 65536
      queue := if cut.isEmpty then p.queue else rec0 :: p.queue.filter fun j => match j.kind with
        | .recovery _ _ => false
        | _ => true }).panelWake)) ∧
  (∀ (s : State) (t h : Nat), s.panel.sheetHold = some (t, h) → s.openRuns = true → t + h ≤ s.power.ot → 
    exec .contactSheetHold s = .next (((s.onPanel fun p => { p with sheetHold := none }).queueJob .redraw [s.wholePanel] 1 []).panelWake)) ∧
  (∀ (s : State) (t : Int), s.openRuns = true → s.panelN 0 = 1 → s.panelN 4 = 0 → s.panel.packageSource = false → 
    exec (.panelTemperature (some t)) s = .next ((s.onPanel fun p => { p with temp := t, packageSource := false, failedReads := 0 }).reband)) ∧
  (∀ (s : State), s.openRuns = true → s.panelN 0 = 1 → s.panelN 4 = 0 → s.panel.packageSource = false → 2 ≤ s.panel.failedReads → 
    let n := s.panel.failedReads + 1
    exec (.panelTemperature none) s = .next ((((s.onPanel fun p => { p with failedReads := n }).onPanel fun p => { p with
      packageSource := true
      temp := s.power.packageCentiC / 100 - s.cfgI 0xD000 7 }).raise 239 (le 1 1 ++ zeros 3 ++ le 4 n)).reband)) ∧
  (∀ (s : State), s.beingProved = true → s.cfg.paused = false → s.cfg.remaining = 0 → bit (s.proveCfg 1) 2 = false → 
    exec .provingEnd s = .next ((s.onCfg fun c => { c with genState := .proven, remaining := 0 }).raise 26 (le 4 s.cfg.force.number)))
end

