-- ==== Sys2Proof/Laws/Memory.lean ====
section
/-! SUPPORT. The ring memory: every operation keeps its canonical form; a byte read back is the byte written, and a write leaves every
other address alone. -/

namespace Sys2Proof.Laws
open Sys2Proof Sys2Proof.Machine

theorem wfFrom_mono {lo hi : Nat} (h : lo ≤ hi) : ∀ m, Memory.wfFrom hi m = true → Memory.wfFrom lo m = true
  | [], _ => rfl
  | (j, b) :: t, hm => by
    simp only [Memory.wfFrom, Bool.and_eq_true, decide_eq_true_eq] at hm ⊢
    exact ⟨⟨Nat.le_trans h hm.1.1, hm.1.2⟩, hm.2⟩

theorem clear_wfFrom (a : Nat) : ∀ (lo : Nat) (m : Memory), Memory.wfFrom lo m = true → Memory.wfFrom lo (m.clear a) = true
  | _, [], _ => rfl
  | lo, (j, b) :: t, hm => by
    simp only [Memory.wfFrom, Bool.and_eq_true, decide_eq_true_eq] at hm
    simp only [Memory.clear]
    split
    · exact wfFrom_mono (by omega) _ hm.2
    · simp only [Memory.wfFrom, Bool.and_eq_true, decide_eq_true_eq]
      exact ⟨hm.1, clear_wfFrom a _ _ hm.2⟩

theorem insert_wfFrom (a : Nat) (b : Byte) (hb : b ≠ 0#8) :
    ∀ (lo : Nat) (m : Memory), lo ≤ a → Memory.wfFrom lo m = true → Memory.wfFrom lo (m.insert a b) = true
  | lo, [], ha, _ => by simp [Memory.insert, Memory.wfFrom, ha, hb]
  | lo, (j, c) :: t, ha, hm => by
    simp only [Memory.wfFrom, Bool.and_eq_true, decide_eq_true_eq] at hm
    simp only [Memory.insert]
    split
    · simp only [Memory.wfFrom, Bool.and_eq_true, decide_eq_true_eq]
      exact ⟨⟨ha, hb⟩, ⟨by omega, hm.1.2⟩, hm.2⟩
    · split
      · subst_vars
        simp only [Memory.wfFrom, Bool.and_eq_true, decide_eq_true_eq]
        exact ⟨⟨ha, hb⟩, hm.2⟩
      · simp only [Memory.wfFrom, Bool.and_eq_true, decide_eq_true_eq]
        exact ⟨hm.1, insert_wfFrom a b hb _ _ (by omega) hm.2⟩

theorem write_wf (m : Memory) (a : Nat) (b : Byte) (h : m.wf = true) : (m.write a b).wf = true := by
  unfold Memory.write
  split
  · exact clear_wfFrom _ _ _ h
  · exact insert_wfFrom _ _ (by assumption) _ _ (Nat.zero_le _) h

theorem writeBytes_wf (m : Memory) (a : Nat) (bs : Bytes) (h : m.wf = true) : (m.writeBytes a bs).wf = true := by
  induction bs generalizing m a with
  | nil => exact h
  | cons b t ih => exact ih _ _ (write_wf _ _ _ h)

theorem read_below {lo a : Nat} (h : a < lo) : ∀ m, Memory.wfFrom lo m = true → m.read a = 0#8
  | [], _ => rfl
  | (j, b) :: t, hm => by
    simp only [Memory.wfFrom, Bool.and_eq_true, decide_eq_true_eq] at hm
    rw [Memory.read, if_neg (by omega)]
    exact read_below (by omega) t hm.2

theorem read_clear_same (a : Nat) : ∀ (lo : Nat) (m : Memory), Memory.wfFrom lo m = true → (m.clear a).read a = 0#8
  | _, [], _ => rfl
  | lo, (j, b) :: t, hm => by
    simp only [Memory.wfFrom, Bool.and_eq_true, decide_eq_true_eq] at hm
    simp only [Memory.clear]
    split
    · subst_vars
      exact read_below (Nat.lt_succ_self _) t hm.2
    · rw [Memory.read, if_neg (by assumption)]
      exact read_clear_same a _ t hm.2

theorem read_clear_other {a x : Nat} (h : x ≠ a) : ∀ m : Memory, (m.clear a).read x = m.read x
  | [] => rfl
  | (j, b) :: t => by
    simp only [Memory.clear, Memory.read]
    split
    · rw [if_neg (by omega)]
    · rw [Memory.read, read_clear_other h t]

theorem read_insert_same (a : Nat) (b : Byte) : ∀ m : Memory, (m.insert a b).read a = b
  | [] => by simp [Memory.insert, Memory.read]
  | (j, c) :: t => by
    simp only [Memory.insert]
    split
    · simp [Memory.read]
    · split
      · simp [Memory.read]
      · rw [Memory.read, if_neg (by omega)]
        exact read_insert_same a b t

theorem read_insert_other {a x : Nat} (b : Byte) (h : x ≠ a) : ∀ m : Memory, (m.insert a b).read x = m.read x
  | [] => by simp [Memory.insert, Memory.read]; omega
  | (j, c) :: t => by
    simp only [Memory.insert]
    split
    · rw [Memory.read, if_neg (by omega)]
    · split
      · subst_vars
        simp only [Memory.read, if_neg (Ne.symm h)]
      · simp only [Memory.read, read_insert_other b h t]

theorem read_write_same (m : Memory) (a : Nat) (b : Byte) (h : m.wf = true) : (m.write a b).read a = b := by
  unfold Memory.write
  split
  · subst_vars
    exact read_clear_same a 0 m h
  · exact read_insert_same a b m

theorem read_write_other (m : Memory) (a x : Nat) (b : Byte) (h : x ≠ a) : (m.write a b).read x = m.read x := by
  unfold Memory.write
  split
  · exact read_clear_other h m
  · exact read_insert_other b h m

end Sys2Proof.Laws
end

