-- ==== Sys2Proof/Laws/Kept.lean ====
section
/-! SUPPORT. No operation touches the queue of waiting commands, and none but the writers of the rings touches the ring memory, which
those keep canonical: one lemma per operation, in the order of the model's files. -/

namespace Sys2Proof.Laws
open Sys2Proof Sys2Proof.Machine

/-- The part of the state that only the queue and the writers of the rings touch. -/
structure Kept where
  queue : List Instr
  mem : Memory
/-- That part of a state. -/
def kept (s : State) : Kept := ⟨s.pending, s.host.ringMem⟩

theorem kept_queue (s : State) : s.pending = (kept s).queue := rfl

theorem kept_mem (s : State) : s.host.ringMem = (kept s).mem := rfl

@[simp] theorem kept_mk (a b h c d e f g i j k l m n o p q r t u v w x) :
  kept ⟨a, b, h, c, d, e, f, g, i, j, k, l, m, n, o, p, q, r, t, u, v, w, x⟩ = ⟨w, h.ringMem⟩ := rfl

@[simp] theorem kept_eta (k : Kept) : (⟨k.queue, k.mem⟩ : Kept) = k := rfl

theorem foldl_kept {α : Type} (f : State → α → State) (h : ∀ t x, kept (f t x) = kept t) (l : List α) (s : State) :
    kept (l.foldl f s) = kept s := by
  induction l generalizing s with
  | nil => rfl
  | cons x l ih => simp [ih, h]

theorem foldl_kept_fst {α β : Type} (f : State × β → α → State × β) (h : ∀ a x, kept (f a x).1 = kept a.1) (l : List α) (a : State × β) :
    kept (l.foldl f a).1 = kept a.1 := by
  induction l generalizing a with
  | nil => rfl
  | cons x l ih => simp [ih, h]

theorem kept_ite {c : Prop} [d : Decidable c] {a b : State} (k : Kept) (ha : kept a = k) (hb : kept b = k) : kept (if c then a else b) = k := by
  split <;> assumption

theorem kept_ite_fst {α : Type} {c : Prop} [d : Decidable c] {a b : State × α} (k : Kept) (ha : kept a.1 = k) (hb : kept b.1 = k) :
    kept (if c then a else b).1 = k := by
  split <;> assumption

theorem snd_kept {α : Type} {p : α × State} {t : State} {a : α} {k : Kept} (h : p = (a, t)) (hp : kept p.2 = k) : kept t = k := by
  subst h; exact hp

theorem fst_kept {α : Type} {p : State × α} {t : State} {a : α} {k : Kept} (h : p = (t, a)) (hp : kept p.1 = k) : kept t = k := by
  subst h; exact hp

@[simp] theorem onPower_kept (s : State) (f : Power → Power) :
    kept (State.onPower s f) = kept s := by
  rfl

@[simp] theorem onHost_kept (s : State) (f : HostIf → HostIf) : kept (s.onHost f) = ⟨(kept s).queue, (f s.host).ringMem⟩ := rfl

@[simp] theorem onFabric_kept (s : State) (f : Fabric → Fabric) :
    kept (State.onFabric s f) = kept s := by
  rfl

@[simp] theorem onRec_kept (s : State) (f : Rec → Rec) :
    kept (State.onRec s f) = kept s := by
  rfl

@[simp] theorem onCfg_kept (s : State) (f : Cfg → Cfg) :
    kept (State.onCfg s f) = kept s := by
  rfl

@[simp] theorem onGate_kept (s : State) (f : Gate → Gate) :
    kept (State.onGate s f) = kept s := by
  rfl

@[simp] theorem onStore_kept (s : State) (f : Store → Store) :
    kept (State.onStore s f) = kept s := by
  rfl

@[simp] theorem onPlc_kept (s : State) (f : Plc → Plc) :
    kept (State.onPlc s f) = kept s := by
  rfl

@[simp] theorem onTier_kept (s : State) (f : Tier → Tier) :
    kept (State.onTier s f) = kept s := by
  rfl

@[simp] theorem onFog_kept (s : State) (f : Fog → Fog) :
    kept (State.onFog s f) = kept s := by
  rfl

@[simp] theorem draw_kept (s : State) (kind : Nat) (n : Nat) :
    kept (State.draw s kind n).2 = kept s := by
  rfl

@[simp] theorem onQueue_kept (s : State) (q : Nat) (f : Queue → Queue) :
    kept (State.onQueue s q f) = kept s := by
  rfl

@[simp] theorem countOpen_kept (s : State) (q : Nat) :
    kept (State.countOpen s q) = kept s := by
  simp [State.countOpen, apply_ite kept]

@[simp] theorem closeOn_kept (s : State) (q : Nat) (producer : Nat) (payload : Bytes) :
    kept (State.closeOn s q producer payload) = kept s := by
  rfl

@[simp] theorem suppress_kept (s : State) (src : Nat) :
    kept (State.suppress s src) = kept s := by
  rfl

@[simp] theorem raiseCore_kept (s : State) (src : Nat) (data : Bytes) :
    kept (State.raiseCore s src data) = kept s := by
  simp only [State.raiseCore]
  (repeat' split) <;> simp_all

@[simp] theorem poolCheck_kept (s : State) (before : Nat) :
    kept (State.poolCheck s before) = kept s := by
  simp [State.poolCheck, foldl_kept]

@[simp] theorem raise_kept (s : State) (src : Nat) (data : Bytes) :
    kept (State.raise s src data) = kept s := by
  simp [State.raise, apply_ite kept]

@[simp] theorem raiseEvery_kept (s : State) (period : Nat) (src : Nat) (inst : Nat) (data : Bytes) :
    kept (State.raiseEvery s period src inst data) = kept s := by
  simp [State.raiseEvery, apply_ite kept]

@[simp] theorem refuseOpen_kept (s : State) (producer : Nat) (q : Nat) (c : Nat) :
    kept (State.refuseOpen s producer q c) = kept s := by
  simp [State.refuseOpen]

@[simp] theorem limitRefusal_kept (s : State) (q : Nat) :
    kept (State.limitRefusal s q) = kept s := by
  simp [State.limitRefusal, apply_ite kept]

@[simp] theorem skipCopy_kept (s : State) (q : Nat) :
    kept (State.skipCopy s q) = kept s := by
  simp [State.skipCopy, apply_ite kept]

@[simp] theorem notGranted_kept (s : State) (producer : Nat) (q : Nat) (c : Nat) (payload : Option Bytes) (atLimit : Bool) (refused : Bool) :
    kept (State.notGranted s producer q c payload atLimit refused) = kept s := by
  simp [State.notGranted, apply_ite kept]

@[simp] theorem push_kept (s : State) (producer : Nat) (q : Nat) (payload : Bytes) :
    kept (State.push s producer q payload).1 = kept s := by
  simp only [State.push]
  (repeat' split) <;> simp_all

@[simp] theorem send_kept (s : State) (producer : Nat) (q : Nat) (payload : Bytes) :
    kept (State.send s producer q payload) = kept s := by
  simp [State.send]

@[simp] theorem enablesLow_kept (s : State) :
    kept (State.enablesLow s) = kept s := by
  rfl

@[simp] theorem airStop_kept (s : State) :
    kept (State.airStop s) = kept s := by
  rfl

@[simp] theorem raisePlc_kept (s : State) (p : Nat) (k : Nat) (d : Bytes) :
    kept (State.raisePlc s p k d) = kept s := by
  simp [State.raisePlc]

@[simp] theorem quarantinePacket_kept (s : State) (q : Nat) (p : Packet) :
    kept (State.quarantinePacket s q p) = kept s := by
  simp [State.quarantinePacket, apply_ite kept]

@[simp] theorem edgeFailure_kept (s : State) (stage : Nat) (q : Nat) (p : Packet) :
    kept (State.edgeFailure s stage q p) = kept s := by
  simp [State.edgeFailure, apply_ite kept]

@[simp] theorem takeHead_kept (s : State) (q : Nat) :
    kept (State.takeHead s q).2 = kept s := by
  simp [State.takeHead, foldl_kept]

@[simp] theorem takeEgress_kept (s : State) (e : Nat) :
    kept (State.takeEgress s e).2 = kept s := by
  simp [State.takeEgress]

@[simp] theorem reclaim_kept (s : State) (producer : Nat) :
    kept (State.reclaim s producer).2 = kept s := by
  simp [State.reclaim]

@[simp] theorem clearQueue_kept (s : State) (q : Nat) :
    kept (State.clearQueue s q) = kept s := by
  rfl

@[simp] theorem dropInflight_kept (s : State) (hd : Bool) (tag : Nat) :
    kept (State.dropInflight s hd tag) = kept s := by
  rfl

@[simp] theorem markInflight_kept (s : State) (hd : Bool) (tag : Nat) (final : Bool) :
    kept (State.markInflight s hd tag final) = kept s := by
  rfl

@[simp] theorem sendCompletion_kept (s : State) (hd : Bool) (op : Nat) (tag : Nat) (status : Nat) (data : Bytes) (final : Bool) :
    kept (State.sendCompletion s hd op tag status data final) = kept s := by
  simp [State.sendCompletion, kept_mem, apply_ite kept, foldl_kept]

@[simp] theorem complete_kept (s : State) (hd : Bool) (op : Nat) (tag : Nat) (status : Nat) (data : Bytes) (final : Bool) :
    kept (State.complete s hd op tag status data final) = kept s := by
  simp [State.complete, kept_mem, apply_ite kept]

@[simp] theorem headendDenied_kept (s : State) (op : Nat) :
    kept (State.headendDenied s op) = kept s := by
  simp [State.headendDenied, kept_mem]

@[simp] theorem releaseFrame_kept (s : State) (op : Nat) (c : HostCmd) :
    kept (State.releaseFrame s op c) = kept s := by
  unfold State.releaseFrame
  (repeat' split) <;> simp [kept_mem]

@[simp] theorem taken_kept (s : State) (op : Nat) (c : HostCmd) :
    kept (State.taken s op c) = kept s := by
  simp [State.taken, kept_mem]

theorem serve_kept (s : State) (op : Nat) (c : HostCmd) (checks : State → List (Bool × Nat)) (body : State → State × Reply)
    (post : State → State) (hb : ∀ t, kept (body t).1 = kept t) (hp : ∀ t, kept (post t) = kept t) :
    kept (s.serve op c checks body post) = kept s := by
  unfold State.serve
  split
  · rfl
  split
  · simp [kept_mem]
  split
  · rfl
  dsimp only
  have h := hb (if headendDenies op c then (s.taken op c).headendDenied op else s.taken op c)
  simp only [apply_ite kept, taken_kept, headendDenied_kept, ite_self] at h
  split
  · simp [apply_ite kept]
  · split <;> simp_all

@[simp] theorem defer_kept (s : State) (kind : Nat) (key : Nat) (op : Nat) (c : HostCmd) :
    kept (State.defer s kind key op c) = kept s := by
  rfl

@[simp] theorem finish_kept (s : State) (kind : Nat) (key : Nat) (status : Nat) (data : Bytes) :
    kept (State.finish s kind key status data) = kept s := by
  simp [State.finish, kept_mem, foldl_kept]

@[simp] theorem serveQuery_kept (s : State) (op : Nat) (c : HostCmd) (n : Nat) (bad : State → Bool) (data : State → Bytes) :
    kept (s.serveQuery op c n bad data) = kept s := serve_kept _ _ _ _ _ _ (fun _ => rfl) (fun _ => rfl)

@[simp] theorem countRx_kept (s : State) (port : Nat) :
    kept (State.countRx s port) = kept s := by
  rfl

@[simp] theorem genDone_kept (s : State) :
    kept (State.genDone s) = kept s := by
  simp [State.genDone]

@[simp] theorem adoptObjs_kept (s : State) (want : Nat → Bool) :
    kept (State.adoptObjs s want) = kept s := by
  simp [State.adoptObjs, apply_ite kept]

@[simp] theorem adopt_kept (s : State) (nibble : Nat) :
    kept (State.adopt s nibble) = kept s := by
  simp [State.adopt]

@[simp] theorem bringInForce_kept (s : State) (values : Tab Int) (origin : Nat) :
    kept (State.bringInForce s values origin) = kept s := by
  simp [State.bringInForce, apply_ite kept]

@[simp] theorem revert_kept (s : State) (cause : Nat) :
    kept (State.revert s cause) = kept s := by
  unfold State.revert
  (repeat' split) <;> simp

@[simp] theorem criterionFails_kept (s : State) (b : Nat) :
    kept (State.criterionFails s b) = kept s := by
  simp [State.criterionFails, apply_ite kept]

@[simp] theorem endProving_kept (s : State) :
    kept (State.endProving s) = kept s := by
  simp [State.endProving, apply_ite kept]

@[simp] theorem onSb_kept (s : State) (i : Nat) (f : Sb → Sb) :
    kept (State.onSb s i f) = kept s := by
  rfl

@[simp] theorem closeSb_kept (s : State) (i : Nat) (p : SbPhase) :
    kept (State.closeSb s i p) = kept s := by
  rfl

@[simp] theorem trimRoll_kept (s : State) (ch : Nat) :
    kept (State.trimRoll s ch) = kept s := by
  unfold State.trimRoll
  (repeat' split) <;> simp

@[simp] theorem recorderCommitted_kept (s : State) (d : Bytes) :
    kept (State.recorderCommitted s d) = kept s := by
  simp [State.recorderCommitted, apply_ite kept]

@[simp] theorem recorderLost_kept (s : State) (d : Bytes) :
    kept (State.recorderLost s d) = kept s := by
  rfl

@[simp] theorem reportLost_kept (s : State) (ch : Nat) :
    kept (State.reportLost s ch) = kept s := by
  simp [State.reportLost, apply_ite kept]

@[simp] theorem markUnsigned_kept (s : State) (ids : List Nat) :
    kept (State.markUnsigned s ids) = kept s := by
  rfl

@[simp] theorem readingCommitted_kept (s : State) (id : Nat) (r : StoreRec) :
    kept (State.readingCommitted s id r) = kept s := by
  unfold State.readingCommitted
  (repeat' split) <;> simp [apply_ite kept]

@[simp] theorem readingRefused_kept (s : State) (kind : Nat) :
    kept (State.readingRefused s kind) = kept s := by
  unfold State.readingRefused
  (repeat' split) <;> simp

@[simp] theorem startMark_kept (s : State) :
    kept (State.startMark s) = kept s := by
  rfl

@[simp] theorem volPacketEnds_kept (s : State) (n : Nat) (status : Nat) :
    kept (State.volPacketEnds s n status) = kept s := by
  unfold State.volPacketEnds
  (repeat' split) <;> simp [apply_ite kept]

@[simp] theorem dropReplaced_kept (s : State) (vol : Nat) :
    kept (State.dropReplaced s vol) = kept s := by
  rfl

@[simp] theorem volCommitted_kept (s : State) (id : Nat) (r : StoreRec) :
    kept (State.volCommitted s id r) = kept s := by
  simp [State.volCommitted]

@[simp] theorem storeResult_kept (s : State) (outSeq : Nat) (refused : Bool) (status : Nat) :
    kept (State.storeResult s outSeq refused status) = kept s := by
  rfl

@[simp] theorem releaseHeld_kept (s : State) (q : Nat) :
    kept (State.releaseHeld s q) = kept s := by
  simp [State.releaseHeld, apply_ite kept]

@[simp] theorem releaseRead_kept (s : State) (q : Nat) :
    kept (State.releaseRead s q) = kept s := by
  simp [State.releaseRead, apply_ite kept]

@[simp] theorem supersede_kept (s : State) (st : Nat) (sq : Nat) :
    kept (State.supersede s st sq) = kept s := by
  rfl

@[simp] theorem onCommitted_kept (s : State) (id : Nat) (r : StoreRec) :
    kept (State.onCommitted s id r) = kept s := by
  simp [State.onCommitted, apply_ite kept]

@[simp] theorem refusedFor_kept (s : State) (st : Nat) (kind : Nat) (outSeq : Nat) (status : Nat) (d : Bytes) :
    kept (State.refusedFor s st kind outSeq status d) = kept s := by
  simp [State.refusedFor, apply_ite kept]

@[simp] theorem sweep_kept (n : Nat) (s : State) : kept (State.sweep n s) = kept s := by
  induction n generalizing s with
  | zero => rfl
  | succ n ih => unfold State.sweep; (repeat' split) <;> simp [ih]

@[simp] theorem commitAll_kept (s : State) :
    kept (State.commitAll s) = kept s := by
  simp [State.commitAll]

@[simp] theorem refuseRecord_kept (s : State) (st : Nat) (kind : Nat) (q : Nat) (outSeq : Nat) (status : Nat) (d : Bytes) :
    kept (State.refuseRecord s st kind q outSeq status d) = kept s := by
  simp [State.refuseRecord, apply_ite kept]

@[simp] theorem latentFor_kept (s : State) (hot : Bool) (critical : Bool) :
    kept (State.latentFor s hot critical).2 = kept s := by
  unfold State.latentFor
  (repeat' split) <;> simp

@[simp] theorem takePage_kept (s : State) (i : Nat) :
    kept (State.takePage s i).2 = kept s := by
  simp [State.takePage, apply_ite kept]

@[simp] theorem issueProgram_kept (s : State) (st : Nat) : kept (State.issueProgram s st) = kept s := by
  have h := latentFor_kept s (streamHot st) (streamCritical st)
  unfold State.issueProgram
  dsimp only
  split
  · rfl
  split
  · simp_all
  · rename_i hh
    rw [hh] at h
    simpa using h

@[simp] theorem acceptRecord_kept (s : State) (st : Nat) (kind : Nat) (q : Nat) (outSeq : Nat) (flags : Nat) (week : Option Nat) (d : Bytes) :
    kept (State.acceptRecord s st kind q outSeq flags week d).1 = kept s := by
  simp only [State.acceptRecord]
  (repeat' split) <;> simp_all

@[simp] theorem storeRecord_kept (s : State) (st : Nat) (flags : Nat) (week : Option Nat) (d : Bytes) :
    kept (State.storeRecord s st flags week d) = kept s := by
  simp [State.storeRecord]

@[simp] theorem quarantineRecord_kept (s : State) (d : Bytes) :
    kept (State.quarantineRecord s d) = kept s := by
  simp [State.quarantineRecord]

@[simp] theorem emptyBuffers_kept (s : State) : kept (State.emptyBuffers s) = kept s := by
  unfold State.emptyBuffers
  dsimp only
  rw [commitAll_kept, foldl_kept _ (fun t x => by (repeat' split) <;> simp), onStore_kept]

@[simp] theorem freeze_kept (s : State) (cause : Nat) :
    kept (State.freeze s cause) = kept s := by
  simp [State.freeze]

@[simp] theorem storeEval_kept (s : State) (noVictim : Bool) :
    kept (State.storeEval s noVictim) = kept s := by
  unfold State.storeEval
  (repeat' split) <;> simp [apply_ite kept]

@[simp] theorem onDie_kept (s : State) (d : Nat) (f : Die → Die) :
    kept (State.onDie s d f) = kept s := by
  rfl

@[simp] theorem retireBlock_kept (s : State) (d : Nat) (i : Nat) :
    kept (State.retireBlock s d i) = kept s := by
  unfold State.retireBlock
  (repeat' split) <;> simp [apply_ite kept, foldl_kept]

@[simp] theorem takeInjection_kept (s : State) (kind : Nat) (d : Nat) :
    kept (State.takeInjection s kind d).2 = kept s := by
  simp only [State.takeInjection]
  (repeat' split) <;> simp_all

@[simp] theorem programFailed_kept (s : State) (d : Nat) (i : Nat) (injected : Bool) :
    kept (State.programFailed s d i injected) = kept s := by
  simp [State.programFailed, apply_ite kept]

@[simp] theorem targetFor_kept (s : State) (hot : Bool) (week : Nat) (reserve : Bool) :
    kept (State.targetFor s hot week reserve).2 = kept s := by
  simp only [State.targetFor]
  (repeat' split) <;> simp_all

@[simp] theorem copyPage_kept (s : State) (i : Nat) (page : Nat) :
    kept (State.copyPage s i page) = kept s := by
  simp [State.copyPage, apply_ite kept]

@[simp] theorem copyRecord_kept (s : State) (reserve : Bool) (id : Nat) : kept (State.copyRecord s reserve id) = kept s := by
  unfold State.copyRecord
  split
  · rfl
  split
  · split
    · rfl
    split
    · rename_i h
      exact snd_kept h (targetFor_kept ..)
    · rename_i h
      simpa [apply_ite kept, foldl_kept] using snd_kept h (targetFor_kept ..)
  · rfl

@[simp] theorem freeSources_kept (s : State) :
    kept (State.freeSources s) = kept s := by
  simp [State.freeSources, apply_ite kept, foldl_kept]

@[simp] theorem resumeCopies_kept (s : State) :
    kept (State.resumeCopies s) = kept s := by
  simp [State.resumeCopies, foldl_kept]

@[simp] theorem verifyTargets_kept (s0 : State) (pct : Nat) :
    kept (State.verifyTargets s0 pct) = kept s0 := by
  simp [State.verifyTargets, apply_ite kept, foldl_kept]

@[simp] theorem copyOut_kept (s : State) (i : Nat) (reserve : Bool) (pct : Nat) :
    kept (State.copyOut s i reserve pct) = kept s := by
  simp [State.copyOut, apply_ite kept, foldl_kept]

@[simp] theorem nextUnread_kept (s : State) (q : Nat) :
    kept (State.nextUnread s q).2 = kept s := by
  simp [State.nextUnread, foldl_kept]

@[simp] theorem storeAccept_kept (s : State) (q : Nat) : kept (State.storeAccept s q) = kept s := by
  have h := nextUnread_kept s q
  have e : ∀ u : State, kept u = kept s → ∀ (l : List Nat) (k x : Nat), kept (l.foldl (fun t j => t.volPacketEnds (k + j) x) u) = kept s :=
    fun u hu l k x => by rw [foldl_kept _ (fun t j => by simp)]; exact hu
  unfold State.storeAccept
  split
  · rfl
  split
  · split <;> simp
  split
  · rfl
  dsimp only
  split
  · split
    · exact e _ (by simpa using h) ..
    · exact h
  · have g : ∀ u : State, kept u = kept s → kept (u.onStore fun t => { t with held := t.held.upd q 0 (· + 1) }) = kept s :=
      fun u hu => by simpa using hu
    split
    · simp only [storeResult_kept, quarantineRecord_kept, releaseRead_kept]
      apply g
      split
      · exact e _ (by simpa using h) ..
      · exact h
    · simp only [apply_ite kept, storeResult_kept, refuseRecord_kept, acceptRecord_kept, releaseRead_kept, ite_self, onStore_kept]
      split
      · exact e _ (by simpa using h) ..
      · exact h

@[simp] theorem reprogram_kept (s : State) (p : PageProgram) (i : Nat) :
    kept (State.reprogram s p i).2 = kept s := by
  simp [State.reprogram]

@[simp] theorem programEnds_kept (s : State) (ok : Bool) : kept (State.programEnds s ok) = kept s := by
  unfold State.programEnds
  split
  · rfl
  rename_i p rest _
  have h := takeInjection_kept s 1 (p.page % 8)
  dsimp only
  split
  · simp_all
  · have h2 := latentFor_kept (((s.takeInjection 1 (p.page % 8)).2.onStore fun t => { t with programs := rest }).programFailed (p.page % 8) p.sb
      (s.takeInjection 1 (p.page % 8)).1) (streamHot p.stream) (streamCritical p.stream)
    split <;> simp_all

@[simp] theorem programDone_kept (s : State) (ok : Bool) : kept (State.programDone s ok) = kept s := by
  simp [State.programDone]

@[simp] theorem flushStream_kept (n st : Nat) (s : State) : kept (State.flushStream n st s) = kept s := by
  induction n generalizing s with
  | zero => rfl
  | succ n ih => unfold State.flushStream; split <;> simp [ih]

@[simp] theorem flushAll_kept (s : State) (want : Nat → Bool) :
    kept (State.flushAll s want) = kept s := by
  simp [State.flushAll, foldl_kept]

@[simp] theorem eraseDone_kept (s : State) (ok : Bool) (d : Nat) :
    kept (State.eraseDone s ok d) = kept s := by
  unfold State.eraseDone
  (repeat' split) <;> simp [apply_ite kept, foldl_kept]

@[simp] theorem queueRefresh_kept (s : State) (i : Nat) (cause : Nat) :
    kept (State.queueRefresh s i cause) = kept s := by
  simp [State.queueRefresh, apply_ite kept]

@[simp] theorem pageReadDone_kept (s : State) (st : Nat) (sq : Nat) (edgeBad : Bool) (uncorrectable : Bool) (retry : Nat) (pct : Nat) :
    kept (State.pageReadDone s st sq edgeBad uncorrectable retry pct) = kept s := by
  unfold State.pageReadDone
  (repeat' split) <;> simp [apply_ite kept]

@[simp] theorem reissue_kept (s : State) (d : Nat) : kept (State.reissue s d) = kept s := by
  have f : ∀ (l : List PageProgram) (a : List PageProgram × State), kept (l.foldl (fun (acc : List PageProgram × State) p =>
    if p.page % 8 ≠ d then (acc.1 ++ [p], acc.2)
    else
      let (i, t) := if (acc.2.sb p.sb).phase = .opened then (some p.sb, acc.2) else acc.2.latentFor (streamHot p.stream) (streamCritical p.stream)
      match i with
      | some i => let (p1, t1) := t.reprogram p i; (acc.1 ++ [p1], t1)
      | none => (acc.1 ++ [p], t)) a).2 = kept a.2 := by
    intro l
    induction l with
    | nil => exact fun a => rfl
    | cons x l ih =>
      intro a
      rw [List.foldl_cons, ih]
      dsimp only
      split
      · rfl
      · split <;> split <;> simp
  unfold State.reissue
  dsimp only
  rw [onStore_kept]
  exact f _ _

@[simp] theorem dieHang_kept (s : State) (d : Nat) :
    kept (State.dieHang s d) = kept s := by
  simp [State.dieHang]

@[simp] theorem offlineRelocate_kept (s : State) (d : Nat) :
    kept (State.offlineRelocate s d) = kept s := by
  simp [State.offlineRelocate, apply_ite kept, foldl_kept]

@[simp] theorem dieRetry_kept (s : State) (d : Nat) (ok : Bool) :
    kept (State.dieRetry s d ok) = kept s := by
  simp [State.dieRetry, apply_ite kept]

@[simp] theorem expiryWeek_kept (s : State) :
    kept (State.expiryWeek s) = kept s := by
  simp [State.expiryWeek, foldl_kept]

@[simp] theorem developOne_kept (s : State) (pct : Nat) :
    kept (State.developOne s pct) = kept s := by
  simp only [State.developOne]
  (repeat' split) <;> simp_all

@[simp] theorem development_kept (s : State) (pct : Nat) :
    kept (State.development s pct) = kept s := by
  simp only [State.development]
  (repeat' split) <;> simp_all

@[simp] theorem eraseEmpty_kept (s : State) :
    kept (State.eraseEmpty s) = kept s := by
  simp [State.eraseEmpty, foldl_kept]

@[simp] theorem garbageCollect_kept (s : State) (pct : Nat) :
    kept (State.garbageCollect s pct) = kept s := by
  simp only [State.garbageCollect]
  (repeat' split) <;> simp_all

@[simp] theorem refresh_kept (s : State) (pct : Nat) :
    kept (State.refresh s pct) = kept s := by
  simp only [State.refresh]
  (repeat' split) <;> simp_all

@[simp] theorem weightedAge_kept (s : State) (t0 : Int) (t1 : Int) :
    kept (State.weightedAge s t0 t1) = kept s := by
  rfl

@[simp] theorem unfreeze_kept (s : State) : kept (State.unfreeze s) = kept s := by
  unfold State.unfreeze
  simp only [raise_kept, flushAll_kept, resumeCopies_kept]
  rw [foldl_kept _ (fun t x => by split <;> simp)]
  simp

@[simp] theorem mapCheckpoint_kept (s : State) (ok : Bool) :
    kept (State.mapCheckpoint s ok) = kept s := by
  simp [State.mapCheckpoint, apply_ite kept]

@[simp] theorem storeHoldup1_kept (s : State) :
    kept (State.storeHoldup1 s) = kept s := by
  simp [State.storeHoldup1]

@[simp] theorem storeHoldup3_kept (s : State) :
    kept (State.storeHoldup3 s) = kept s := by
  simp [State.storeHoldup3]

@[simp] theorem commitProgrammed_kept (s : State) : kept (State.commitProgrammed s) = kept s := by
  unfold State.commitProgrammed
  exact foldl_kept _ (fun t x => by dsimp only; (repeat' split) <;> simp) _ _

@[simp] theorem storePowerLoss_kept (s0 : State) :
    kept (State.storePowerLoss s0) = kept s0 := by
  simp [State.storePowerLoss]

@[simp] theorem storeResume_kept (s : State) :
    kept (State.storeResume s) = kept s := by
  simp [State.storeResume, apply_ite kept, foldl_kept]

@[simp] theorem readScan_kept (s : State) :
    kept (State.readScan s) = kept s := by
  simp [State.readScan, foldl_kept]

@[simp] theorem storeStart_kept (s : State) (durationMs : Nat) (offSeconds : Option Nat) (diesOk : List Bool) (clean : Bool) :
    kept (State.storeStart s durationMs offSeconds diesOk clean) = kept s := by
  simp [State.storeStart, apply_ite kept, foldl_kept]

@[simp] theorem serveRead_kept (s : State) (op : Nat) (c : HostCmd) (n : Nat) (bad offline : State → Bool) (data : State → Bytes) :
    kept (s.serveRead op c n bad offline data) = kept s := by
  unfold State.serveRead
  exact serve_kept _ _ _ _ _ _ (fun t => rfl) (fun t => rfl)

@[simp] theorem dropVolume_kept (s : State) (v : Nat) :
    kept (State.dropVolume s v) = kept s := by
  rfl

@[simp] theorem pushVolume_kept (s : State) (v first : Nat) (d : Bytes) : kept (pushVolume s v first d).1 = kept s :=
  foldl_kept_fst _ (fun a x => by split <;> simp) _ _

@[simp] theorem releaseEpoch_kept (s : State) (sealedStream : Nat) (epoch : Nat) :
    kept (State.releaseEpoch s sealedStream epoch) = kept s := by
  rfl

@[simp] theorem sendMsi_kept (s : State) (v : Nat) :
    kept (State.sendMsi s v) = kept s := by
  simp [State.sendMsi, kept_mem, apply_ite kept]

@[simp] theorem signal_kept (s : State) (v : Nat) :
    kept (State.signal s v) = kept s := by
  simp [State.signal, kept_mem, apply_ite kept]

@[simp] theorem coalesceEnd_kept (s : State) (v : Nat) :
    kept (State.coalesceEnd s v) = kept s := by
  simp [State.coalesceEnd, kept_mem, apply_ite kept]

@[simp] theorem putNtf_queue (s : State) (typ src v : Nat) (d : Bytes) : (kept (s.putNtf typ src v d)).queue = (kept s).queue := by
  simp [State.putNtf]

@[simp] theorem putNtf_wf (s : State) (typ src v : Nat) (d : Bytes) (h : (kept s).mem.wf = true) : (kept (s.putNtf typ src v d)).mem.wf = true := by
  simpa [State.putNtf, kept_mem] using writeBytes_wf _ _ _ h

@[simp] theorem payLost_queue (s : State) : (kept s.payLost).queue = (kept s).queue := by
  unfold State.payLost
  split <;> simp

@[simp] theorem payLost_wf (s : State) (h : (kept s).mem.wf = true) : (kept s.payLost).mem.wf = true := by
  unfold State.payLost
  split <;> simp [h, kept_mem]

@[simp] theorem notify_queue (s : State) (src : Nat) (r : Bytes) : (kept (s.notify src r)).queue = (kept s).queue := by
  unfold State.notify
  dsimp only
  (repeat' split) <;> simp

@[simp] theorem notify_wf (s : State) (src : Nat) (r : Bytes) (h : (kept s).mem.wf = true) : (kept (s.notify src r)).mem.wf = true := by
  unfold State.notify
  dsimp only
  (repeat' split) <;> simp [h, kept_mem]

@[simp] theorem clearEnable_kept (s : State) (cause : Nat) :
    kept (State.clearEnable s cause) = kept s := by
  simp [State.clearEnable, kept_mem, apply_ite kept]

@[simp] theorem ringError_kept (s : State) (ring : Nat) (cause : Nat) (slot : Nat) :
    kept (State.ringError s ring cause slot) = kept s := by
  simp [State.ringError, kept_mem]

@[simp] theorem doorbellError_kept (s : State) (ring : Nat) (value : Nat) :
    kept (State.doorbellError s ring value) = kept s := by
  simp [State.doorbellError, kept_mem]

@[simp] theorem recordOpen_kept (s : State) (ch : Nat) (q : Nat) (body : Bytes) :
    kept (State.recordOpen s ch q body).1 = kept s := by
  simp [State.recordOpen]

@[simp] theorem recorderNext_kept (s : State) :
    kept (State.recorderNext s).2 = kept s := by
  simp [State.recorderNext, foldl_kept]

@[simp] theorem holdRecorder_kept (s : State) :
    kept (State.holdRecorder s) = kept s := by
  rfl

@[simp] theorem recorderPacket_queue (s : State) : (kept s.recorderPacket).queue = (kept s).queue := by
  have k := recorderNext_kept s
  unfold State.recorderPacket
  split
  · simp_all
  · split <;> simp_all

@[simp] theorem recorderPacket_wf (s : State) (h : (kept s).mem.wf = true) : (kept s.recorderPacket).mem.wf = true := by
  have k := recorderNext_kept s
  unfold State.recorderPacket
  split
  · simp_all
  · split <;> simp_all

@[simp] theorem bucketRefill_kept (s : State) (src : Nat) :
    kept (State.bucketRefill s src) = kept s := by
  rfl

@[simp] theorem writeAnchors_kept (s : State) (cause : Nat) :
    kept (State.writeAnchors s cause) = kept s := by
  simp [State.writeAnchors, apply_ite kept, foldl_kept]

@[simp] theorem anchorDue_kept (s : State) (cause : Nat) :
    kept (State.anchorDue s cause) = kept s := by
  rfl

@[simp] theorem takeAnchors_kept (s : State) :
    kept (State.takeAnchors s) = kept s := by
  simp [State.takeAnchors, apply_ite kept, foldl_kept]

@[simp] theorem anchorPeriodic_kept (s : State) :
    kept (State.anchorPeriodic s) = kept s := by
  simp [State.anchorPeriodic, apply_ite kept]

@[simp] theorem endExposure_kept (s : State) (e : Exposure) :
    kept (State.endExposure s e) = kept s := by
  simp [State.endExposure]

@[simp] theorem exposureExpiry_kept (s : State) (handle : Nat) :
    kept (State.exposureExpiry s handle) = kept s := by
  unfold State.exposureExpiry
  (repeat' split) <;> simp

@[simp] theorem exposureUsed_kept (s : State) (h : Nat) :
    kept (State.exposureUsed s h) = kept s := by
  rfl

@[simp] theorem onTime_kept (s : State) (f : Time → Time) :
    kept (State.onTime s f) = kept s := by
  rfl

@[simp] theorem onCand_kept (s : State) (i : Nat) (f : Cand → Cand) :
    kept (State.onCand s i f) = kept s := by
  rfl

@[simp] theorem onPtp_kept (s : State) (i : Nat) (f : PtpPort → PtpPort) :
    kept (State.onPtp s i f) = kept s := by
  rfl

@[simp] theorem setLevel_kept (s : State) (l : Nat) :
    kept (State.setLevel s l) = kept s := by
  simp [State.setLevel, apply_ite kept]

@[simp] theorem selectSource_kept (s : State) (i : Nat) :
    kept (State.selectSource s i) = kept s := by
  simp [State.selectSource, apply_ite kept]

@[simp] theorem sourceLevel_kept (s : State) (i : Nat) (l : Nat) :
    kept (State.sourceLevel s i l) = kept s := by
  simp [State.sourceLevel, apply_ite kept]

@[simp] theorem selectBest_kept (s : State) :
    kept (State.selectBest s) = kept s := by
  simp only [State.selectBest]
  (repeat' split) <;> simp_all

@[simp] theorem loseSource_kept (s : State) (i : Nat) :
    kept (State.loseSource s i) = kept s := by
  simp [State.loseSource, apply_ite kept]

@[simp] theorem slew_kept (s : State) :
    kept (State.slew s) = kept s := by
  rfl

@[simp] theorem ntUpdate_kept (s : State) (before : Nat) (i : Nat) (d : Int) :
    kept (State.ntUpdate s before i d) = kept s := by
  simp [State.ntUpdate, apply_ite kept]

@[simp] theorem applyStep_kept (s : State) :
    kept (State.applyStep s) = kept s := by
  unfold State.applyStep
  (repeat' split) <;> simp [kept_queue, kept_mem]

@[simp] theorem ntSecond_kept (s : State) :
    kept (State.ntSecond s) = kept s := by
  rfl

@[simp] theorem ptpSync_kept (s : State) (port : Nat) (t1 : Int) (t2raw : Int) (count : Nat) :
    kept (State.ptpSync s port t1 t2raw count) = kept s := by
  simp [State.ptpSync, apply_ite kept]

@[simp] theorem ptpDelayResp_kept (s : State) (port : Nat) (t3 : Int) (t4 : Int) (count : Nat) :
    kept (State.ptpDelayResp s port t3 t4 count) = kept s := by
  simp [State.ptpDelayResp, apply_ite kept]

@[simp] theorem ptpAnnounce_kept (s : State) (port : Nat) (dataset : List Nat) (gm : Bytes) (utc : Option Int) :
    kept (State.ptpAnnounce s port dataset gm utc) = kept s := by
  simp [State.ptpAnnounce, apply_ite kept]

@[simp] theorem ptpAnnounceTimeout_kept (s : State) (port : Nat) :
    kept (State.ptpAnnounceTimeout s port) = kept s := by
  simp [State.ptpAnnounceTimeout, apply_ite kept]

@[simp] theorem ptpLocked_kept (s : State) (port : Nat) :
    kept (State.ptpLocked s port) = kept s := by
  unfold State.ptpLocked
  (repeat' split) <;> simp

@[simp] theorem ptpSyncTx_kept (s : State) (port : Nat) (announce : Bool) :
    kept (State.ptpSyncTx s port announce) = kept s := by
  simp [State.ptpSyncTx, apply_ite kept]

@[simp] theorem ptpDelayReqTx_kept (s : State) (port : Nat) :
    kept (State.ptpDelayReqTx s port) = kept s := by
  simp [State.ptpDelayReqTx, apply_ite kept]

@[simp] theorem ptpDelayReqReceived_kept (s : State) (port : Nat) (seq : Nat) (requester : Bytes) (t4raw : Nat) :
    kept (State.ptpDelayReqReceived s port seq requester t4raw) = kept s := by
  simp [State.ptpDelayReqReceived, apply_ite kept]

@[simp] theorem ptpManagement_kept (s : State) (port : Nat) (seq : Nat) (action : Nat) (tlv : Bytes) :
    kept (State.ptpManagement s port seq action tlv) = kept s := by
  simp [State.ptpManagement, apply_ite kept]

@[simp] theorem ethLinkChange_kept (s : State) (port : Nat) (up : Bool) :
    kept (State.ethLinkChange s port up) = kept s := by
  simp [State.ethLinkChange, apply_ite kept]

@[simp] theorem hostSourceLost_kept (s : State) :
    kept (State.hostSourceLost s) = kept s := by
  unfold State.hostSourceLost
  (repeat' split) <;> simp

@[simp] theorem holdoverExpiry_kept (s : State) :
    kept (State.holdoverExpiry s) = kept s := by
  unfold State.holdoverExpiry
  (repeat' split) <;> simp

@[simp] theorem translateHeld_kept (s : State) :
    kept (State.translateHeld s) = kept s := by
  rfl

@[simp] theorem zxReference_kept (s : State) (phases : List Nat) (st : Nat) :
    kept (State.zxReference s phases st) = kept s := by
  simp [State.zxReference, apply_ite kept, foldl_kept]

@[simp] theorem markerArrives_kept (s : State) (sec : Nat) (count : Nat) (capture : Int) :
    kept (State.markerArrives s sec count capture) = kept s := by
  simp [State.markerArrives]

@[simp] theorem zxInPacket_kept (s : State) :
    kept (State.zxInPacket s) = kept s := by
  simp only [State.zxInPacket]
  (repeat' split) <;> simp_all

@[simp] theorem fogUnlock_kept (s : State) (duration : Nat) (classes : Nat) (version : Nat) :
    kept (State.fogUnlock s duration classes version) = kept s := by
  simp [State.fogUnlock]

@[simp] theorem fogLock_kept (s : State) (cause : Nat) :
    kept (State.fogLock s cause) = kept s := by
  unfold State.fogLock
  (repeat' split) <;> simp

@[simp] theorem fogInject_kept (s : State) (req : Bytes) :
    kept (State.fogInject s req) = kept s := by
  simp [State.fogInject]

@[simp] theorem onTbl_kept (s : State) (f : Tbl → Tbl) :
    kept (State.onTbl s f) = kept s := by
  rfl

@[simp] theorem rehashNeeded_kept (s : State) (table : Nat) (len : Nat) :
    kept (State.rehashNeeded s table len) = kept s := by
  simp [State.rehashNeeded]

@[simp] theorem writeDir_kept (s : State) (replace : Bool) (eix : Nat) (img : Bytes) :
    kept (State.writeDir s replace eix img).1 = kept s := by
  simp only [State.writeDir]
  (repeat' split) <;> simp_all

@[simp] theorem writePfx_kept (s : State) (replace : Bool) (img : Bytes) :
    kept (State.writePfx s replace img).1 = kept s := by
  simp only [State.writePfx]
  (repeat' split) <;> simp_all

@[simp] theorem learn_kept (s : State) (kind : Nat) (key : Bytes) (eix : Nat) (port : Nat) (cost : Nat) (stamp : Nat) :
    kept (State.learn s kind key eix port cost stamp) = kept s := by
  unfold State.learn
  (repeat' split) <;> simp [apply_ite kept]

@[simp] theorem hitDir_kept (s : State) (eix : Nat) :
    kept (State.hitDir s eix) = kept s := by
  simp [State.hitDir, apply_ite kept]

@[simp] theorem resolve_kept (s : State) (kind : Nat) (key : Bytes) (port : Nat) (cost : Nat) (stamp : Nat) :
    kept (State.resolve s kind key port cost stamp).1 = kept s := by
  simp only [State.resolve]
  (repeat' split) <;> simp_all

@[simp] theorem lookupPrefix_kept (s : State) (a : Bytes) (port : Nat) :
    kept (State.lookupPrefix s a port).1 = kept s := by
  simp only [State.lookupPrefix]
  (repeat' split) <;> simp_all

@[simp] theorem onSec_kept (s : State) (f : Sec → Sec) :
    kept (State.onSec s f) = kept s := by
  rfl

@[simp] theorem onCp_kept (s : State) (f : Cp → Cp) :
    kept (State.onCp s f) = kept s := by
  rfl

@[simp] theorem lifecycleTo_kept (s : State) (target : Nat) :
    kept (State.lifecycleTo s target) = kept s := by
  simp [State.lifecycleTo, apply_ite kept]

@[simp] theorem debugAttach_kept (s : State) :
    kept (State.debugAttach s) = kept s := by
  simp [State.debugAttach, apply_ite kept]

@[simp] theorem trngFail_kept (s : State) (test : Nat) (samples : Nat) :
    kept (State.trngFail s test samples) = kept s := by
  simp [State.trngFail, apply_ite kept]

@[simp] theorem trngRestart_kept (s : State) (ok : Bool) (samples : Nat) :
    kept (State.trngRestart s ok samples) = kept s := by
  simp [State.trngRestart, apply_ite kept]

@[simp] theorem random_kept (s : State) (n : Nat) :
    kept (State.random s n).2 = kept s := by
  rfl

@[simp] theorem firstKeys_kept (s : State) : kept (State.firstKeys s) = kept s := by
  unfold State.firstKeys
  refine foldl_kept _ (fun t x => ?_) _ _
  dsimp only
  refine kept_ite _ ?_ rfl
  rw [onSec_kept]
  exact random_kept ..

@[simp] theorem keyWrite_kept (s : State) (req : Bytes) :
    kept (State.keyWrite s req).1 = kept s := by
  simp only [State.keyWrite]
  (repeat' split) <;> simp_all

@[simp] theorem onFw_kept (s : State) (i : Nat) (f : FwSlot → FwSlot) :
    kept (State.onFw s i f) = kept s := by
  rfl

@[simp] theorem rollbackRaise_kept (s : State) :
    kept (State.rollbackRaise s) = kept s := by
  simp [State.rollbackRaise, apply_ite kept]

@[simp] theorem fwVerify_kept (s : State) :
    kept (State.fwVerify s).1 = kept s := by
  simp only [State.fwVerify]
  (repeat' split) <;> simp_all

@[simp] theorem openDocEffect_kept (s : State) (typ : Nat) (version : Nat) (body : Bytes) :
    kept (State.openDocEffect s typ version body) = kept s := by
  unfold State.openDocEffect
  (repeat' split) <;> simp

@[simp] theorem submitOpenDoc_kept (s : State) (d : Bytes) :
    kept (State.submitOpenDoc s d).1 = kept s := by
  unfold State.submitOpenDoc
  (repeat' split) <;> simp

@[simp] theorem onChan_kept (s : State) (ch : Nat) (f : Chan → Chan) :
    kept (State.onChan s ch f) = kept s := by
  rfl

@[simp] theorem rekey_kept (s : State) (ch : Nat) :
    kept (State.rekey s ch) = kept s := by
  rfl

@[simp] theorem protect_kept (s : State) (ch : Nat) (header : Bytes) (pt : Bytes) :
    kept (State.protect s ch header pt).1 = kept s := by
  unfold State.protect
  (repeat' split) <;> simp

@[simp] theorem onRxChan_kept (s : State) (ch : Nat) (src : Nat) (f : Chan → Chan) :
    kept (State.onRxChan s ch src f) = kept s := by
  simp [State.onRxChan, apply_ite kept]

@[simp] theorem discardRecord_kept (s : State) (ch : Nat) (tag : Bool) :
    kept (State.discardRecord s ch tag) = kept s := by
  simp [State.discardRecord, apply_ite kept]

@[simp] theorem unprotect_kept (s : State) (header : Bytes) (r : Bytes) :
    kept (State.unprotect s header r).1 = kept s := by
  simp only [State.unprotect]
  (repeat' split) <;> simp_all

@[simp] theorem protectedRecord_kept (s : State) (header record : Bytes) : kept (State.protectedRecord s header record) = kept s := by
  have h := unprotect_kept s header record
  unfold State.protectedRecord
  split <;> simp_all

@[simp] theorem sendUpload_kept (s : State) (pt : Bytes) : kept (State.sendUpload s pt) = kept s := by
  have h := protect_kept s 1 [] pt
  unfold State.sendUpload
  split <;> simp_all

@[simp] theorem uploadSend_kept (s : State) (n : Nat) :
    kept (State.uploadSend s n) = kept s := by
  unfold State.uploadSend
  (repeat' split) <;> simp [apply_ite kept, foldl_kept]

@[simp] theorem batchDelivered_kept (s : State) (n : Nat) :
    kept (State.batchDelivered s n) = kept s := by
  rfl

@[simp] theorem uploadTimeout_kept (s : State) (n : Nat) :
    kept (State.uploadTimeout s n) = kept s := by
  unfold State.uploadTimeout
  (repeat' split) <;> simp [foldl_kept]

@[simp] theorem onSealed_kept (s : State) (f : Sealed → Sealed) :
    kept (State.onSealed s f) = kept s := by
  rfl

@[simp] theorem onEp_kept (s : State) (eix : Nat) (f : Ep → Ep) :
    kept (State.onEp s eix f) = kept s := by
  rfl

@[simp] theorem pushOut_kept (s : State) (i : OutItem) :
    kept (State.pushOut s i) = kept s := by
  rfl

@[simp] theorem closeBatch_kept (s : State) (reason : Nat) :
    kept (State.closeBatch s reason) = kept s := by
  simp [State.closeBatch, apply_ite kept]

@[simp] theorem joinBatch_kept (s : State) (i : OutItem) :
    kept (State.joinBatch s i) = kept s := by
  simp [State.joinBatch, apply_ite kept]

@[simp] theorem drainReading_kept (n : Nat) (s : State) : kept (State.drainReading n s) = kept s := by
  induction n generalizing s with
  | zero => rfl
  | succ n ih => unfold State.drainReading; (repeat' split) <;> simp [ih]

@[simp] theorem drainRecord_kept (n : Nat) (s : State) : kept (State.drainRecord n s) = kept s := by
  induction n generalizing s with
  | zero => rfl
  | succ n ih => unfold State.drainRecord; (repeat' split) <;> simp [ih]

@[simp] theorem drainImages_kept (n : Nat) (s : State) : kept (State.drainImages n s) = kept s := by
  induction n generalizing s with
  | zero => rfl
  | succ n ih => unfold State.drainImages; (repeat' split) <;> simp [ih]

@[simp] theorem drainOut_kept (s : State) :
    kept (State.drainOut s) = kept s := by
  simp [State.drainOut]

@[simp] theorem emit_kept (s : State) (is : List OutItem) :
    kept (State.emit s is) = kept s := by
  simp [State.emit]

@[simp] theorem sealedRecordMsg_kept (s : State) (code : Nat) (b19 : Nat) (data : Bytes) :
    kept (State.sealedRecordMsg s code b19 data) = kept s := by
  simp [State.sealedRecordMsg]

@[simp] theorem raiseSealed_kept (s : State) (src : Nat) (data : Bytes) :
    kept (State.raiseSealed s src data) = kept s := by
  simp [State.raiseSealed, apply_ite kept]

@[simp] theorem sealedAnchor_kept (s : State) (code : Nat) :
    kept (State.sealedAnchor s code) = kept s := by
  simp [State.sealedAnchor]

@[simp] theorem sealedSeconds_kept (s : State) (to_ : Nat) :
    kept (State.sealedSeconds s to_) = kept s := by
  simp [State.sealedSeconds, apply_ite kept]

@[simp] theorem sealedAdvance_kept (s : State) (to_ : Nat) :
    kept (State.sealedAdvance s to_) = kept s := by
  simp [State.sealedAdvance, apply_ite kept]

@[simp] theorem sealRecord_kept (s : State) (stream : Nat) (plain : Bytes) :
    kept (State.sealRecord s stream plain).1 = kept s := by
  rfl

@[simp] theorem writeSealed_kept (s : State) (stream : Nat) (plain : Bytes) :
    kept (State.writeSealed s stream plain) = kept s := by
  simp [State.writeSealed, apply_ite kept]

@[simp] theorem emitAfter_kept (s : State) (is : List OutItem) :
    kept (State.emitAfter s is) = kept s := by
  unfold State.emitAfter
  (repeat' split) <;> simp

@[simp] theorem pumpJournal_kept (s : State) :
    kept (State.pumpJournal s) = kept s := by
  simp only [State.pumpJournal]
  (repeat' split) <;> simp_all

@[simp] theorem transact_kept (s : State) (kind : Nat) (flags : Nat) (items : List Bytes) (outputs : List OutItem) (images : List Nat) (mark : optParam (Option (Nat × Nat)) none) :
    kept (State.transact s kind flags items outputs images mark) = kept s := by
  simp [State.transact, apply_ite kept]

@[simp] theorem txnDone_kept (s : State) (t : Txn) :
    kept (State.txnDone s t) = kept s := by
  simp [State.txnDone]

@[simp] theorem partResult_kept (s : State) (refused : Bool) :
    kept (State.partResult s refused) = kept s := by
  unfold State.partResult
  (repeat' split) <;> simp

@[simp] theorem reofferPart_kept (s : State) :
    kept (State.reofferPart s) = kept s := by
  unfold State.reofferPart
  (repeat' split) <;> simp

@[simp] theorem reofferRecords_kept (s : State) :
    kept (State.reofferRecords s) = kept s := by
  simp [State.reofferRecords]

@[simp] theorem batchAge_kept (s : State) :
    kept (State.batchAge s) = kept s := by
  simp [State.batchAge, apply_ite kept]

@[simp] theorem trailerReady_kept (s : State) :
    kept (State.trailerReady s) = kept s := by
  simp only [State.trailerReady]
  (repeat' split) <;> simp_all

@[simp] theorem markEmitted_kept (s : State) (eix : Nat) :
    kept (State.markEmitted s eix) = kept s := by
  rfl

@[simp] theorem reWarn_kept (s : State) (eix : Nat) :
    kept (State.reWarn s eix) = kept s := by
  simp [State.reWarn, apply_ite kept]

@[simp] theorem grant_kept (s : State) (eix : Nat) :
    kept (State.grant s eix) = kept s := by
  simp [State.grant]

@[simp] theorem raiseOnce_kept (s : State) (eix : Nat) (src : Nat) (data : Bytes) :
    kept (State.raiseOnce s eix src data) = kept s := by
  simp [State.raiseOnce, apply_ite kept]

@[simp] theorem buildOrder_kept (s : State) (eix : Nat) (kind : Nat) (cause : Nat) :
    kept (State.buildOrder s eix kind cause) = kept s := by
  simp [State.buildOrder, apply_ite kept]

@[simp] theorem evaluate_kept (s : State) (eix : Nat) (minute : Bool) (may : Bool) (granted : Bool) :
    kept (State.evaluate s eix minute may granted) = kept s := by
  simp [State.evaluate, apply_ite kept]

@[simp] theorem settle_kept (s : State) (eix : Nat) (before : Ledger) (credit : Bool) :
    kept (State.settle s eix before credit).1 = kept s := by
  simp only [State.settle]
  (repeat' split) <;> simp_all

theorem visitEndpoint_kept (l : List Nat) (a : State × List Bytes × List OutItem × List Nat) (e : Nat) :
    kept (State.visitEndpoint l a e).1 = kept a.1 := by
  obtain ⟨t, i, o, g⟩ := a
  dsimp only [State.visitEndpoint]
  split <;> simp

@[simp] theorem minuteEvaluation_kept (s : State) : kept (State.minuteEvaluation s) = kept s := by
  simp [State.minuteEvaluation, apply_ite kept, foldl_kept_fst _ (visitEndpoint_kept _)]

@[simp] theorem stateEmit_kept (s : State) :
    kept (State.stateEmit s) = kept s := by
  simp [State.stateEmit, apply_ite kept, foldl_kept]

@[simp] theorem creditEffect_kept (s : State) (eix : Nat) (kind : Nat) (b : Bytes) :
    kept (State.creditEffect s eix kind b) = kept s := by
  unfold State.creditEffect
  (repeat' split) <;> simp

@[simp] theorem applyCredit_kept (s : State) (v : Nat) (b : Bytes) : kept (State.applyCredit s v b) = kept s := by
  simp only [State.applyCredit, transact_kept, settle_kept, apply_ite kept, evaluate_kept, raiseSealed_kept, creditEffect_kept, onEp_kept, ite_self]

@[simp] theorem formCell_kept (s : State) (eix desc : Nat) (c : CellReq) : kept (State.formCell s eix desc c).1 = kept s := by
  unfold State.formCell
  dsimp only
  simp only [apply_ite kept, raiseSealed_kept]
  cases (s.priceFor (s.ep eix) c _ _ _).oldest <;> simp only [raiseSealed_kept, onEp_kept, ite_self]

@[simp] theorem respond_kept (s : State) (m : InboundMsg) (status : Nat) :
    kept (State.respond s m status) = kept s := by
  rfl

@[simp] theorem refuseApdu_kept (s : State) (eix : Nat) (ev : Nat) (data : Bytes) :
    kept (State.refuseApdu s eix ev data) = kept s := by
  simp [State.refuseApdu, apply_ite kept]

@[simp] theorem dropReasm_kept (s : State) (eix : Nat) (cause : Nat) :
    kept (State.dropReasm s eix cause) = kept s := by
  simp [State.dropReasm]

@[simp] theorem startReasm_kept (s : State) (eix : Nat) (port : Nat) (raw : Bytes) :
    kept (State.startReasm s eix port raw) = kept s := by
  unfold State.startReasm
  (repeat' split) <;> simp

@[simp] theorem tookBlock_kept (s : State) (eix : Nat) (last : Bool) :
    kept (State.tookBlock s eix last).1 = kept s := by
  unfold State.tookBlock
  (repeat' split) <;> simp

@[simp] theorem reassemble_kept (s : State) (eix : Nat) (port : Nat) (last : Bool) (number : Nat) (raw : Bytes) :
    kept (State.reassemble s eix port last number raw).1 = kept s := by
  unfold State.reassemble
  (repeat' split) <;> simp

@[simp] theorem reasmTimeout_kept (s : State) (eix : Nat) :
    kept (State.reasmTimeout s eix) = kept s := by
  unfold State.reasmTimeout
  (repeat' split) <;> simp

@[simp] theorem rejectEntry_kept (s : State) (j : Judge) (reason : Nat) (x : Entry) : kept (State.rejectEntry s j reason x) = kept s := by
  simp only [State.rejectEntry, emitAfter_kept]

@[simp] theorem acceptCells_kept (s : State) (j : Judge) (reqs : List CellReq) : kept (State.acceptCells s j reqs) = kept s := by
  simp only [State.acceptCells, transact_kept, settle_kept]
  rw [foldl_kept_fst]
  intro a x
  simp only [formCell_kept]

@[simp] theorem judgeLater_kept (s : State) (j : Judge) (fills : Nat) (x : Entry) :
    kept (State.judgeLater s j fills x).1 = kept s := by
  simp only [State.judgeLater]
  (repeat' split) <;> simp_all

@[simp] theorem judgeReentered_kept (s : State) (j : Judge) (fills : Nat) (x : Entry) :
    kept (State.judgeReentered s j fills x).1 = kept s := by
  simp only [State.judgeReentered]
  (repeat' split) <;> simp_all

@[simp] theorem judgeBackward_kept (s : State) (j : Judge) (x : Entry) :
    kept (State.judgeBackward s j x) = kept s := by
  simp only [State.judgeBackward]
  (repeat' split) <;> simp_all

theorem judge_kept (j : Judge) (a : State × Nat) (x : Entry) : kept (State.judge j a x).1 = kept a.1 := by
  simp [State.judge, apply_ite Prod.fst, apply_ite kept]

@[simp] theorem judgeData_kept (s : State) (eix : Nat) (descr : Bytes) (meter : Option Bytes) (data : Bytes) :
    kept (State.judgeData s eix descr meter data) = kept s := by
  unfold State.judgeData
  dsimp only
  split
  · exact foldl_kept_fst _ (judge_kept _) _ _
  · simp

@[simp] theorem processApdu_kept (s : State) (eix port : Nat) (apdu : Bytes) : kept (State.processApdu s eix port apdu) = kept s := by
  unfold State.processApdu
  split
  · simp
  split
  · simp
  split
  · simp
  dsimp only
  split
  · simp
  split
  · simp
  split
  · simp
  split
  · simp [apply_ite kept]
  · simp [apply_ite kept]
  · split
    · rename_i h
      simpa [apply_ite kept] using fst_kept h (reassemble_kept ..)
    · rename_i h
      simpa [apply_ite kept] using fst_kept h (reassemble_kept ..)

@[simp] theorem sealedApdu_kept (s : State) :
    kept (State.sealedApdu s) = kept s := by
  unfold State.sealedApdu
  (repeat' split) <;> simp

@[simp] theorem onMetro_kept (s : State) (f : Metro → Metro) :
    kept (State.onMetro s f) = kept s := by
  rfl

@[simp] theorem closeCycle_kept (s : State) (p : Nat) (noZx : Bool) :
    kept (State.closeCycle s p noZx) = kept s := by
  simp [State.closeCycle, apply_ite kept]

@[simp] theorem onZx_kept (s : State) (p : Nat) (f : ZxPhase → ZxPhase) :
    kept (State.onZx s p f) = kept s := by
  rfl

@[simp] theorem flushZx_kept (s : State) :
    kept (State.flushZx s) = kept s := by
  simp [State.flushZx, apply_ite kept]

@[simp] theorem stampZx_kept (s : State) (p : Nat) (t : Int) (falling : Bool) :
    kept (State.stampZx s p t falling) = kept s := by
  simp [State.stampZx, apply_ite kept]

@[simp] theorem acceptZx_kept (s : State) (p : Nat) (t : Int) (falling : Bool) :
    kept (State.acceptZx s p t falling) = kept s := by
  simp [State.acceptZx]

@[simp] theorem missZx_kept (s : State) (p : Nat) (now : Int) :
    kept (State.missZx s p now) = kept s := by
  simp only [State.missZx]
  (repeat' split) <;> simp_all

@[simp] theorem zxLost_kept (s : State) (channel : Nat) :
    kept (State.zxLost s channel) = kept s := by
  simp [State.zxLost, apply_ite kept]

@[simp] theorem zxRegained_kept (s : State) (channel : Nat) :
    kept (State.zxRegained s channel) = kept s := by
  simp [State.zxRegained, apply_ite kept]

@[simp] theorem zxStampsSend_kept (s : State) :
    kept (State.zxStampsSend s) = kept s := by
  simp [State.zxStampsSend, apply_ite kept]

@[simp] theorem regainZx_kept (s : State) (p : Nat) (t : Int) :
    kept (State.regainZx s p t) = kept s := by
  simp [State.regainZx, apply_ite kept]

@[simp] theorem zxSample_kept (s : State) (p : Nat) (fund : Int) :
    kept (State.zxSample s p fund).1 = kept s := by
  simp only [State.zxSample]
  (repeat' split) <;> simp_all

@[simp] theorem overload_kept (s : State) (ch : Nat) (x : Int) :
    kept (State.overload s ch x) = kept s := by
  simp [State.overload, apply_ite kept]

@[simp] theorem phaseSample_kept (s : State) (p : Nat) (y : List Int) :
    kept (State.phaseSample s p y) = kept s := by
  simp [State.phaseSample, apply_ite kept]

@[simp] theorem metroSample_kept (s : State) (codes : List Int) :
    kept (State.metroSample s codes) = kept s := by
  simp [State.metroSample, apply_ite kept, foldl_kept]

@[simp] theorem applyMetroStaged_kept (s : State) :
    kept (State.applyMetroStaged s) = kept s := by
  simp [State.applyMetroStaged, apply_ite kept]

@[simp] theorem overloadEvents_kept (s : State) :
    kept (State.overloadEvents s) = kept s := by
  simp [State.overloadEvents, foldl_kept]

@[simp] theorem periodReset_kept (s : State) (fin : Option Nat → Nat) :
    kept (State.periodReset s fin) = kept s := by
  rfl

@[simp] theorem closePeriod_kept (s : State) (fin : Option Nat → Nat) (causes : List Nat) :
    kept (State.closePeriod s fin causes) = kept s := by
  simp [State.closePeriod, apply_ite kept]

@[simp] theorem metroPeriodEnd_kept (s : State) :
    kept (State.metroPeriodEnd s) = kept s := by
  unfold State.metroPeriodEnd
  (repeat' split) <;> simp

@[simp] theorem metroCorrection_kept (s0 : State) (dMs : Int) (secAfter : Nat) :
    kept (State.metroCorrection s0 dMs secAfter) = kept s0 := by
  simp [State.metroCorrection, apply_ite kept]

@[simp] theorem metroTimeSet_kept (s : State) :
    kept (State.metroTimeSet s) = kept s := by
  rfl

@[simp] theorem metroPowerFail_kept (s0 : State) :
    kept (State.metroPowerFail s0) = kept s0 := by
  simp [State.metroPowerFail, apply_ite kept]

@[simp] theorem metroHoldup_kept (s : State) :
    kept (State.metroHoldup s) = kept s := by
  simp [State.metroHoldup]

@[simp] theorem activatePending_kept (s : State) :
    kept (State.activatePending s) = kept s := by
  unfold State.activatePending
  (repeat' split) <;> simp

@[simp] theorem executeDue_kept (s : State) (d : Due) (interrupted : Bool) :
    kept (State.executeDue s d interrupted) = kept s := by
  simp [State.executeDue, apply_ite kept]

@[simp] theorem runCalendar_kept (b : Bool) (n : Nat) (s : State) (k : Nat) : kept (State.runCalendar b n s k).1 = kept s := by
  induction n generalizing s k with
  | zero => rfl
  | succ n ih => unfold State.runCalendar; split <;> simp [ih]

@[simp] theorem catchUp_kept (s : State) (interrupted : Bool) :
    kept (State.catchUp s interrupted).1 = kept s := by
  simp [State.catchUp]

@[simp] theorem calendarExecution_kept (s : State) :
    kept (State.calendarExecution s) = kept s := by
  unfold State.calendarExecution
  (repeat' split) <;> simp

@[simp] theorem openReentry_kept (s : State) (backTo : Int) :
    kept (State.openReentry s backTo) = kept s := by
  simp [State.openReentry, foldl_kept]

@[simp] theorem adjustClock_kept (s : State) (d : Int) : kept (State.adjustClock s d) = kept s := by
  unfold State.adjustClock
  simp only [apply_ite kept, raiseSealed_kept, catchUp_kept, transact_kept, openReentry_kept, onSealed_kept, metroCorrection_kept, ite_self]

@[simp] theorem setClock_kept (s : State) (ns : Int) (st : TimeState) :
    kept (State.setClock s ns st) = kept s := by
  rfl

@[simp] theorem identify_kept (s : State) :
    kept (State.identify s) = kept s := by
  simp [State.identify]

@[simp] theorem offerRefused_kept (s : State) (dMs : Int) (status : Nat) :
    kept (State.offerRefused s dMs status) = kept s := by
  simp [State.offerRefused]

@[simp] theorem offerTime_kept (s : State) (ns : Int) (utc : Int) (quality : Nat) :
    kept (State.offerTime s ns utc quality).1 = kept s := by
  simp only [State.offerTime]
  (repeat' split) <;> simp_all

@[simp] theorem timeOffer_kept (s : State) (p : Bytes) :
    kept (State.timeOffer s p).1 = kept s := by
  simp only [State.timeOffer]
  (repeat' split) <;> simp_all

theorem answer_kept (s : State) (kind : Nat) (f : State → Bytes → State × Nat) (h : ∀ t b, kept (f t b).1 = kept t) :
    kept (State.answer s kind f) = kept s := by
  unfold State.answer
  split
  · split
    · rfl
    split
    · simp
    · simp [h]
  · rfl

@[simp] theorem closeSession_kept (s : State) (reason : Nat) :
    kept (State.closeSession s reason) = kept s := by
  unfold State.closeSession
  (repeat' split) <;> simp [apply_ite kept]

@[simp] theorem sealNChange_kept (s : State) (level : Bool) :
    kept (State.sealNChange s level) = kept s := by
  simp [State.sealNChange, apply_ite kept]

@[simp] theorem sessionExpiry_kept (s : State) :
    kept (State.sessionExpiry s) = kept s := by
  unfold State.sessionExpiry
  (repeat' split) <;> simp

@[simp] theorem reportStamp_kept (s : State) (input : Nat) (level : Bool) (n : Nat) :
    kept (State.reportStamp s input level n) = kept s := by
  simp [State.reportStamp]

@[simp] theorem stampChange_kept (s : State) (input : Nat) (level : Bool) :
    kept (State.stampChange s input level) = kept s := by
  simp [State.stampChange, apply_ite kept]

@[simp] theorem requestRead_kept (s : State) (stream : Nat) (epoch : Nat) (rec_ : Nat) :
    kept (State.requestRead s stream epoch rec_) = kept s := by
  rfl

@[simp] theorem adoptCheckpoint_kept (s : State) (epoch : Nat) :
    kept (State.adoptCheckpoint s epoch) = kept s := by
  simp [State.adoptCheckpoint, apply_ite kept]

@[simp] theorem writeObject_kept (s : State) (o : Nat) (d : Bytes) :
    kept (State.writeObject s o d) = kept s := by
  simp [State.writeObject, apply_ite kept]

@[simp] theorem acceptTariff_kept (s : State) (version : Nat) (body : Bytes) :
    kept (State.acceptTariff s version body) = kept s := by
  simp only [State.acceptTariff]
  (repeat' split) <;> simp_all

@[simp] theorem provision_kept (s : State) (version : Nat) (body : Bytes) :
    kept (State.provision s version body) = kept s := by
  simp [State.provision]

@[simp] theorem timeStep_kept (s : State) (body : Bytes) :
    kept (State.timeStep s body) = kept s := by
  simp [State.timeStep, apply_ite kept]

@[simp] theorem openSession_kept (s : State) (body : Bytes) :
    kept (State.openSession s body) = kept s := by
  simp [State.openSession]

@[simp] theorem docEffect_kept (s : State) (typ : Nat) (version : Nat) (body : Bytes) :
    kept (State.docEffect s typ version body) = kept s := by
  simp [State.docEffect, apply_ite kept, foldl_kept]

@[simp] theorem docRefused_kept (s : State) (d : Bytes) (status : Nat) :
    kept (State.docRefused s d status) = kept s := by
  simp [State.docRefused]

@[simp] theorem judgeDoc_kept (s : State) (allowed : Bool) (d : Bytes) :
    kept (State.judgeDoc s allowed d).1 = kept s := by
  unfold State.judgeDoc
  (repeat' split) <;> simp [apply_ite kept]

@[simp] theorem segment_kept (s : State) (p : Bytes) :
    kept (State.segment s p).1 = kept s := by
  simp only [State.segment]
  (repeat' split) <;> simp_all

@[simp] theorem segmentTimeout_kept (s : State) :
    kept (State.segmentTimeout s) = kept s := by
  unfold State.segmentTimeout
  (repeat' split) <;> simp

@[simp] theorem replayCell_kept (s : State) (c : Bytes) :
    kept (State.replayCell s c) = kept s := by
  simp [State.replayCell, apply_ite kept]

@[simp] theorem applyItem_kept (s : State) (typ : Nat) (d : Bytes) :
    kept (State.applyItem s typ d) = kept s := by
  unfold State.applyItem
  (repeat' split) <;> simp [apply_ite kept]

@[simp] theorem applyBody_kept (s : State) (stream : Nat) (n : Nat) (body : Bytes) :
    kept (State.applyBody s stream n body) = kept s := by
  simp [State.applyBody, apply_ite kept, foldl_kept]

@[simp] theorem replayPart_kept (s : State) (stream : Nat) (plain : Bytes) :
    kept (State.replayPart s stream plain) = kept s := by
  unfold State.replayPart
  (repeat' split) <;> simp [apply_ite kept]

@[simp] theorem beginRead_kept (s : State) (streams : List Nat) (ckptTxn : Nat) (adopt : optParam (Option Nat) none) :
    kept (State.beginRead s streams ckptTxn adopt) = kept s := by
  rfl

@[simp] theorem latchOffStamps_kept (s : State) :
    kept (State.latchOffStamps s) = kept s := by
  simp [State.latchOffStamps, foldl_kept]

@[simp] theorem sealedStart_kept (s : State) (offNs : Nat) :
    kept (State.sealedStart s offNs) = kept s := by
  simp [State.sealedStart, apply_ite kept]

@[simp] theorem replayDone_kept (s : State) : kept (State.replayDone s) = kept s := by
  unfold State.replayDone
  simp [apply_ite kept, foldl_kept]

@[simp] theorem replayRecord_kept (s : State) (stream : Nat) (b : Bytes) :
    kept (State.replayRecord s stream b) = kept s := by
  simp only [State.replayRecord]
  (repeat' split) <;> simp_all

@[simp] theorem replayRing_kept (s : State) (stream : Nat) : kept (State.replayRing s stream) = kept s := by
  unfold State.replayRing
  exact foldl_kept _ (fun t x => by split <;> simp [apply_ite kept]) _ _

@[simp] theorem streamEnd_kept (s0 : State) (stream : Nat) :
    kept (State.streamEnd s0 stream) = kept s0 := by
  simp only [State.streamEnd]
  (repeat' split) <;> simp_all

@[simp] theorem readReturn_kept (s : State) :
    kept (State.readReturn s) = kept s := by
  simp only [State.readReturn]
  (repeat' split) <;> simp_all

@[simp] theorem writeAnchors__kept (s : State) :
    kept (State.writeAnchors_ s) = kept s := by
  rfl

@[simp] theorem checkpoint_kept (s : State) :
    kept (State.checkpoint s) = kept s := by
  simp [State.checkpoint, foldl_kept]

@[simp] theorem checkpointCommitted_kept (s : State) :
    kept (State.checkpointCommitted s) = kept s := by
  rfl

@[simp] theorem freeOut_kept (s : State) (sq : Nat) :
    kept (State.freeOut s sq) = kept s := by
  rfl

@[simp] theorem ackOut_kept (s : State) (sq : Nat) :
    kept (State.ackOut s sq) = kept s := by
  unfold State.ackOut
  (repeat' split) <;> simp

@[simp] theorem takeResult_kept (s : State) (r : StoreResult) :
    kept (State.takeResult s r) = kept s := by
  unfold State.takeResult
  (repeat' split) <;> simp [apply_ite kept]

@[simp] theorem sealedTemperature_kept (s : State) (centiC : Int) :
    kept (State.sealedTemperature s centiC) = kept s := by
  simp [State.sealedTemperature, apply_ite kept]

@[simp] theorem noteSubmitted_kept (s : State) (kind : Nat) (d : Bytes) :
    kept (State.noteSubmitted s kind d) = kept s := by
  simp [State.noteSubmitted, apply_ite kept]

@[simp] theorem gateTransmit_kept (s : State) :
    kept (State.gateTransmit s) = kept s := by
  unfold State.gateTransmit
  (repeat' split) <;> simp [apply_ite kept]

@[simp] theorem gateInbound_kept (s : State) (received : Option Bytes) :
    kept (State.gateInbound s received) = kept s := by
  simp only [State.gateInbound]
  (repeat' split) <;> simp_all

@[simp] theorem offerAnswered_kept (s : State) (status : Nat) :
    kept (State.offerAnswered s status) = kept s := by
  simp [State.offerAnswered, apply_ite kept]

@[simp] theorem responseUnit_kept (s : State) :
    kept (State.responseUnit s) = kept s := by
  simp only [State.responseUnit]
  (repeat' split) <;> simp_all

@[simp] theorem ackOutbound_kept (s : State) (sq : Nat) :
    kept (State.ackOutbound s sq) = kept s := by
  rfl

@[simp] theorem settlePlaced_kept (s : State) :
    kept (State.settlePlaced s) = kept s := by
  unfold State.settlePlaced
  (repeat' split) <;> simp

@[simp] theorem gateOutbound_kept (s0 : State) (damaged : Bool) :
    kept (State.gateOutbound s0 damaged) = kept s0 := by
  simp only [State.gateOutbound]
  (repeat' split) <;> simp_all

@[simp] theorem readRequest_kept (s : State) :
    kept (State.readRequest s) = kept s := by
  unfold State.readRequest
  (repeat' split) <;> simp

@[simp] theorem releaseUnit_kept (s : State) :
    kept (State.releaseUnit s) = kept s := by
  unfold State.releaseUnit
  (repeat' split) <;> simp

@[simp] theorem requestAgain_kept (s : State) :
    kept (State.requestAgain s) = kept s := by
  unfold State.requestAgain
  (repeat' split) <;> simp

@[simp] theorem linkReset_kept (s : State) (cause : Nat) :
    kept (State.linkReset s cause) = kept s := by
  simp [State.linkReset, kept_queue, kept_mem, apply_ite kept]

@[simp] theorem tblCorrected_kept (s : State) :
    kept (State.tblCorrected s) = kept s := by
  simp [State.tblCorrected, apply_ite kept]

@[simp] theorem wordFault_kept (s : State) (region : Nat) (pos : Nat) :
    kept (State.wordFault s region pos) = kept s := by
  simp [State.wordFault]

@[simp] theorem tblFault_kept (s : State) (region : Nat) (pos : Nat) :
    kept (State.tblFault s region pos) = kept s := by
  simp [State.tblFault]

@[simp] theorem lookupAnswer_kept (s : State) (kind : Nat) (key : Bytes) (port : Nat) (cost : Nat) (stamp : Nat) (ecc : Nat) :
    kept (State.lookupAnswer s kind key port cost stamp ecc) = kept s := by
  simp [State.lookupAnswer, apply_ite kept]

@[simp] theorem lookup_kept (s : State) (kind : Nat) (key : Bytes) (port : Nat) (cost : Nat) (stamp : Nat) (mismatches : Nat) (ecc : Nat) :
    kept (State.lookup s kind key port cost stamp mismatches ecc) = kept s := by
  simp [State.lookup, apply_ite kept]

@[simp] theorem lookupSource_kept (s : State) (kind : Nat) (key : Bytes) (port : Nat) (cost : Nat) (stamp : Nat) :
    kept (State.lookupSource s kind key port cost stamp).1 = kept s := by
  simp [State.lookupSource]

@[simp] theorem noticeTtl_kept (s : State) (number : Nat) :
    kept (State.noticeTtl s number) = kept s := by
  unfold State.noticeTtl
  (repeat' split) <;> simp

@[simp] theorem agingPass_kept (s : State) :
    kept (State.agingPass s) = kept s := by
  simp [State.agingPass, apply_ite kept]

@[simp] theorem proofMismatch_kept (s : State) (region : Nat) (pos : Nat) :
    kept (State.proofMismatch s region pos) = kept s := by
  simp [State.proofMismatch]

@[simp] theorem proofingScan_kept (s : State) (region : Nat) (group : Nat) (upset : List Nat) :
    kept (State.proofingScan s region group upset) = kept s := by
  simp [State.proofingScan, apply_ite kept, foldl_kept]

@[simp] theorem shadowCommit_kept (s : State) :
    kept (State.shadowCommit s) = kept s := by
  simp [State.shadowCommit, foldl_kept]

@[simp] theorem rehashComplete_kept (s : State) (us : Nat) :
    kept (State.rehashComplete s us) = kept s := by
  unfold State.rehashComplete
  (repeat' split) <;> simp

@[simp] theorem opRead_kept (s : State) (r : TblRegs) (kind : Nat) :
    kept (State.opRead s r kind).1 = kept s := by
  simp only [State.opRead]
  (repeat' split) <;> simp_all

@[simp] theorem opWrite_kept (s : State) (r : TblRegs) (kind : Nat) (replace : Bool) :
    kept (State.opWrite s r kind replace).1 = kept s := by
  simp only [State.opWrite]
  (repeat' split) <;> simp_all

@[simp] theorem opDelete_kept (s : State) (r : TblRegs) (kind : Nat) :
    kept (State.opDelete s r kind).1 = kept s := by
  unfold State.opDelete
  (repeat' split) <;> simp

@[simp] theorem opSearch_kept (s : State) (r : TblRegs) (kind : Nat) (from0 : Nat) :
    kept (State.opSearch s r kind from0).1 = kept s := by
  simp only [State.opSearch]
  (repeat' split) <;> simp_all

@[simp] theorem opFlush_kept (s : State) (r : TblRegs) (all : Bool) :
    kept (State.opFlush s r all).1 = kept s := by
  unfold State.opFlush
  (repeat' split) <;> simp

@[simp] theorem tblOperate_kept (s : State) (r : TblRegs) :
    kept (State.tblOperate s r).1 = kept s := by
  simp only [State.tblOperate]
  (repeat' split) <;> simp_all

@[simp] theorem tblOperateEcc_kept (s : State) (r : TblRegs) (ecc : Nat) :
    kept (State.tblOperateEcc s r ecc).1 = kept s := by
  simp only [State.tblOperateEcc]
  (repeat' split) <;> simp_all

@[simp] theorem tblGo_kept (s : State) (inst : Nat) (cmd : Nat) (ecc : Nat) :
    kept (State.tblGo s inst cmd ecc) = kept s := by
  simp [State.tblGo]

@[simp] theorem tblOpReply_kept (s : State) (c : HostCmd) :
    kept (State.tblOpReply s c).1 = kept s := by
  simp only [State.tblOpReply]
  (repeat' split) <;> simp_all

@[simp] theorem sendEndpoint_kept (s : State) (eix : Nat) (apdu : Bytes) :
    kept (State.sendEndpoint s eix apdu) = kept s := by
  unfold State.sendEndpoint
  (repeat' split) <;> simp

@[simp] theorem windowPut_kept (s : State) (eix : Nat) (ic : Nat) :
    kept (State.windowPut s eix ic) = kept s := by
  rfl

@[simp] theorem profileRead_kept (s : State) (eix : Nat) :
    kept (State.profileRead s eix) = kept s := by
  unfold State.profileRead
  (repeat' split) <;> simp [apply_ite kept]

@[simp] theorem profileEnd_kept (s : State) (port : Nat) (eix : Nat) :
    kept (State.profileEnd s port eix) = kept s := by
  simp only [State.profileEnd]
  (repeat' split) <;> simp_all

@[simp] theorem ackAgain_kept (s : State) (eix : Nat) :
    kept (State.ackAgain s eix) = kept s := by
  rfl

@[simp] theorem candidateReading_kept (s : State) (eix : Nat) (port : Nat) (sec : Nat) (ns : Nat) (apdu : Bytes) :
    kept (State.candidateReading s eix port sec ns apdu) = kept s := by
  unfold State.candidateReading
  (repeat' split) <;> simp [apply_ite kept]

@[simp] theorem resolveFrame_kept (s : State) (b : Bytes) :
    kept (State.resolveFrame s b).1 = kept s := by
  simp [State.resolveFrame]

@[simp] theorem receivedFrame_kept (s : State) (q : Nat) : kept (State.receivedFrame s q) = kept s := by
  unfold State.receivedFrame
  split
  · rfl
  split
  · rename_i h
    exact snd_kept h (takeHead_kept ..)
  · rename_i p s1 h
    have k := snd_kept h (takeHead_kept ..)
    have r := resolveFrame_kept s1 p.body
    dsimp only
    split
    · exact r.trans k
    · simp only [apply_ite kept, candidateReading_kept, onTbl_kept, profileEnd_kept, ite_self, r, k]

@[simp] theorem orderOutcome_kept (s : State) (eix : Nat) (outcome : Nat) (number : Nat) :
    kept (State.orderOutcome s eix outcome number) = kept s := by
  simp [State.orderOutcome]

@[simp] theorem finishOrder_kept (s : State) (eix : Nat) (outcome : Nat) :
    kept (State.finishOrder s eix outcome) = kept s := by
  unfold State.finishOrder
  (repeat' split) <;> simp

@[simp] theorem orderCarry_kept (s : State) (eix : Nat) (r : Bytes) :
    kept (State.orderCarry s eix r) = kept s := by
  simp [State.orderCarry, apply_ite kept]

@[simp] theorem orderAttempt_kept (s : State) (eix : Nat) :
    kept (State.orderAttempt s eix) = kept s := by
  unfold State.orderAttempt
  (repeat' split) <;> simp

@[simp] theorem orderResponse_kept (s : State) (eix : Nat) :
    kept (State.orderResponse s eix) = kept s := by
  unfold State.orderResponse
  (repeat' split) <;> simp

@[simp] theorem controlStateRead_kept (s : State) (eix : Nat) (result : Option Nat) :
    kept (State.controlStateRead s eix result) = kept s := by
  unfold State.controlStateRead
  (repeat' split) <;> simp

@[simp] theorem orderWindow_kept (s : State) (eix : Nat) :
    kept (State.orderWindow s eix) = kept s := by
  unfold State.orderWindow
  (repeat' split) <;> simp [apply_ite kept]

@[simp] theorem currentRecord_kept (s : State) (r : Bytes) (post : Bool) :
    kept (State.currentRecord s r post) = kept s := by
  simp [State.currentRecord, apply_ite kept]

@[simp] theorem sealedCopy_kept (s : State) (kind : Nat) (d : Bytes) (post : Bool) :
    kept (State.sealedCopy s kind d post) = kept s := by
  simp [State.sealedCopy, apply_ite kept]

@[simp] theorem rereadLedger_kept (s : State) (m : Nat × Bytes) (post : Bool) :
    kept (State.rereadLedger s m post) = kept s := by
  simp [State.rereadLedger, apply_ite kept, foldl_kept]

@[simp] theorem cpSealed_kept (s : State) : kept (State.cpSealed s) = kept s := by
  have h := takeHead_kept s 58
  unfold State.cpSealed
  split
  · rfl
  split <;> simp_all

@[simp] theorem docAccepted_kept (s : State) (d : Bytes) :
    kept (State.docAccepted s d) = kept s := by
  simp [State.docAccepted, apply_ite kept]

@[simp] theorem tariffEvent_kept (s : State) (code : Nat) (d : Bytes) :
    kept (State.tariffEvent s code d) = kept s := by
  simp only [State.tariffEvent]
  (repeat' split) <;> simp_all

@[simp] theorem docJudged_kept (s : State) (accepted : Bool) (typ : Nat) (version : Nat) :
    kept (State.docJudged s accepted typ version) = kept s := by
  unfold State.docJudged
  (repeat' split) <;> simp

@[simp] theorem sealedSeen_kept (s : State) (r : Bytes) :
    kept (State.sealedSeen s r) = kept s := by
  unfold State.sealedSeen
  (repeat' split) <;> simp [kept_queue, kept_mem]

@[simp] theorem sealedEventRecord_queue (s : State) : (kept s.sealedEventRecord).queue = (kept s).queue := by
  have k := recorderNext_kept s
  unfold State.sealedEventRecord
  split
  · simp_all
  · split
    · simp_all
    · simp_all only
      (repeat' split) <;> simp_all

@[simp] theorem sealedEventRecord_wf (s : State) (h : (kept s).mem.wf = true) : (kept s.sealedEventRecord).mem.wf = true := by
  have k := recorderNext_kept s
  unfold State.sealedEventRecord
  split
  · simp_all
  · split
    · simp_all
    · simp_all only
      (repeat' split) <;> simp_all

@[simp] theorem stampFrame_kept (s : State) :
    kept (State.stampFrame s) = kept s := by
  rfl

@[simp] theorem turnAway_kept (s : State) :
    kept (State.turnAway s) = kept s := by
  unfold State.turnAway
  (repeat' split) <;> simp [kept_mem]

@[simp] theorem takeFrame_kept (s : State) (frame : Bytes) :
    kept (State.takeFrame s frame) = kept s := by
  simp only [State.takeFrame]
  (repeat' split) <;> simp_all [kept_mem]

@[simp] theorem fetch_kept (n : Nat) (s : State) : kept (State.fetch n s) = kept s := by
  induction n generalizing s with
  | zero => rfl
  | succ n ih =>
    unfold State.fetch
    dsimp only
    (repeat' split) <;> simp [ih, kept_mem]

@[simp] theorem dmaError_kept (s : State) (ring : Nat) (slot : Nat) :
    kept (State.dmaError s ring slot) = kept s := by
  simp [State.dmaError, kept_mem]

@[simp] theorem doorbell_queue (s : State) (t : Nat) (w : Bytes) (f : Bool) : (kept (s.doorbell t w f)).queue = (kept s).queue := by
  unfold State.doorbell
  dsimp only
  (repeat' split) <;> simp

@[simp] theorem doorbell_wf (s : State) (t : Nat) (w : Bytes) (f : Bool) (h : (kept s).mem.wf = true) : (kept (s.doorbell t w f)).mem.wf = true := by
  have k := writeBytes_wf _ s.crBase (w.drop ((s.crSlots - s.host.crTail.toNat) * 64))
    (writeBytes_wf _ (s.crBase + s.host.crTail.toNat * 64) (w.take ((s.crSlots - s.host.crTail.toNat) * 64)) h)
  unfold State.doorbell
  dsimp only
  (repeat' split) <;> simp [h, kept_mem, k]

@[simp] theorem mailboxEnable_kept (s : State) (v : Nat) :
    kept (State.mailboxEnable s v) = kept s := by
  simp [State.mailboxEnable, kept_mem, apply_ite kept]

@[simp] theorem completionHead_kept (s : State) (v : Nat) :
    kept (State.completionHead s v) = kept s := by
  simp [State.completionHead, kept_mem, apply_ite kept]

@[simp] theorem notificationHead_queue (s : State) (v : Nat) : (kept (s.notificationHead v)).queue = (kept s).queue := by
  unfold State.notificationHead
  split <;> simp

@[simp] theorem notificationHead_wf (s : State) (v : Nat) (h : (kept s).mem.wf = true) : (kept (s.notificationHead v)).mem.wf = true := by
  unfold State.notificationHead
  split <;> simp [h, kept_mem]

@[simp] theorem notificationEnable_kept (s : State) (v : Nat) :
    kept (State.notificationEnable s v) = kept s := by
  simp [State.notificationEnable, kept_mem, apply_ite kept]

@[simp] theorem putCompletion_queue (s : State) (f : Bytes) : (kept (s.putCompletion f)).queue = (kept s).queue := by
  simp [State.putCompletion]

@[simp] theorem putCompletion_wf (s : State) (f : Bytes) (h : (kept s).mem.wf = true) : (kept (s.putCompletion f)).mem.wf = true := by
  unfold State.putCompletion
  simp only [signal_kept, onHost_kept]
  refine writeBytes_wf _ _ _ ?_
  split
  · exact writeBytes_wf _ _ _ h
  · exact h

@[simp] theorem completionWrite_queue (s : State) (f : Bool) : (kept (s.completionWrite f)).queue = (kept s).queue := by
  unfold State.completionWrite
  dsimp only
  (repeat' split) <;> simp

@[simp] theorem completionWrite_wf (s : State) (f : Bool) (h : (kept s).mem.wf = true) : (kept (s.completionWrite f)).mem.wf = true := by
  unfold State.completionWrite
  dsimp only
  (repeat' split) <;> simp [h]

@[simp] theorem commandTimeout_kept (s : State) (hd : Bool) (tag : Nat) :
    kept (State.commandTimeout s hd tag) = kept s := by
  unfold State.commandTimeout
  (repeat' split) <;> simp [kept_mem]

@[simp] theorem pcieLinkReset_kept (s : State) (kind : Nat) :
    kept (State.pcieLinkReset s kind) = kept s := by
  simp [State.pcieLinkReset, kept_mem, apply_ite kept]

@[simp] theorem hostLinkUp_kept (s : State) (rate : Nat) (width : Nat) :
    kept (State.hostLinkUp s rate width) = kept s := by
  simp [State.hostLinkUp, kept_mem]

@[simp] theorem headendCommand_kept (s : State) (part : Bytes) :
    kept (State.headendCommand s part) = kept s := by
  simp [State.headendCommand, kept_mem, apply_ite kept]

@[simp] theorem offerFor_kept (s : State) (op : Nat) (flags : Nat) (c : HostCmd) :
    kept (State.offerFor s op flags c).1 = kept s := by
  simp [State.offerFor]

@[simp] theorem submitTo_kept (s : State) (op : Nat) (kind : Nat) (payload : Bytes) (c : HostCmd) :
    kept (State.submitTo s op kind payload c).1 = kept s := by
  simp [State.submitTo]

@[simp] theorem secondMarker_kept (s : State) (capture : Int) :
    kept (State.secondMarker s capture) = kept s := by
  unfold State.secondMarker
  (repeat' split) <;> simp

@[simp] theorem markerLost_kept (s : State) : kept (State.markerLost s) = kept s := by
  simp [State.markerLost, apply_ite kept]

@[simp] theorem sendOffer_kept (s : State) :
    kept (State.sendOffer s) = kept s := by
  simp [State.sendOffer]

@[simp] theorem offsetLarge_kept (s : State) :
    kept (State.offsetLarge s) = kept s := by
  simp [State.offsetLarge, apply_ite kept]

@[simp] theorem offerDecision_kept (s : State) :
    kept (State.offerDecision s) = kept s := by
  simp [State.offerDecision, apply_ite kept]

@[simp] theorem timeSet_kept (s : State) (sec : Nat) (ns : Nat) (unc : Nat) :
    kept (State.timeSet s sec ns unc) = kept s := by
  simp [State.timeSet, apply_ite kept]

@[simp] theorem onPort_kept (s : State) (p : Nat) (f : PlcPort → PlcPort) :
    kept (State.onPort s p f) = kept s := by
  rfl

@[simp] theorem putNeigh_kept (s : State) (p : Nat) (short : Nat) (f : PlcNeigh → PlcNeigh) :
    kept (State.putNeigh s p short f) = kept s := by
  simp only [State.putNeigh]
  (repeat' split) <;> simp_all

@[simp] theorem attempt_kept (s : State) (p : Nat) (short : Nat) (lost : Bool) (imp : Bool) :
    kept (State.attempt s p short lost imp) = kept s := by
  rfl

@[simp] theorem impulsiveLoss_kept (s : State) (p : Nat) :
    kept (State.impulsiveLoss s p) = kept s := by
  simp [State.impulsiveLoss, apply_ite kept]

@[simp] theorem frameForm_kept (s : State) (p : Nat) (t : PlcTx) : kept (State.frameForm s p t).2.2 = kept s := by
  unfold State.frameForm
  dsimp only
  (repeat' split) <;> simp

@[simp] theorem drive_kept (s : State) (p : Nat) (t : PlcTx) (air : PlcAir) : kept (State.drive s p t air) = kept s := by
  unfold State.drive
  dsimp only
  rw [onPlc_kept, onPort_kept]
  exact frameForm_kept ..

@[simp] theorem plcIdle_kept (s : State) (p : Nat) :
    kept (State.plcIdle s p) = kept s := by
  rfl

@[simp] theorem plcAcked_kept (s : State) (p : Nat) :
    kept (State.plcAcked s p) = kept s := by
  unfold State.plcAcked
  (repeat' split) <;> simp

@[simp] theorem plcStart_kept (s : State) (p : Nat) (t : PlcTx) (air : PlcAir) :
    kept (State.plcStart s p t air) = kept s := by
  simp [State.plcStart, apply_ite kept]

@[simp] theorem enqueue_kept (s : State) (p : Nat) (t : PlcTx) :
    kept (State.enqueue s p t) = kept s := by
  rfl

@[simp] theorem putRoute_kept (s : State) (p : Nat) (short : Nat) (r : PlcRoute) :
    kept (State.putRoute s p short r) = kept s := by
  rfl

@[simp] theorem dropMesh_kept (s : State) (p : Nat) (eix : Nat) :
    kept (State.dropMesh s p eix) = kept s := by
  rfl

@[simp] theorem routeFound_kept (s : State) (eix : Nat) (r : PlcRoute) :
    kept (State.routeFound s eix r) = kept s := by
  unfold State.routeFound
  (repeat' split) <;> simp

@[simp] theorem routeFailed_kept (s : State) (eix : Nat) (event : Bool) :
    kept (State.routeFailed s eix event) = kept s := by
  unfold State.routeFailed
  (repeat' split) <;> simp

@[simp] theorem nextRepeater_kept (s : State) (eix : Nat) :
    kept (State.nextRepeater s eix) = kept s := by
  unfold State.nextRepeater
  (repeat' split) <;> simp

@[simp] theorem elect_kept (s : State) (eix : Nat) :
    kept (State.elect s eix) = kept s := by
  unfold State.elect
  (repeat' split) <;> simp

@[simp] theorem discover_kept (s : State) (p : Nat) (eix : Nat) (frame : Option PlcTx) (via : Option Nat) :
    kept (State.discover s p eix frame via) = kept s := by
  unfold State.discover
  (repeat' split) <;> simp

@[simp] theorem electionSeen_kept (s : State) (p : Nat) (eix : Nat) :
    kept (State.electionSeen s p eix) = kept s := by
  unfold State.electionSeen
  (repeat' split) <;> simp

@[simp] theorem mediumFree_kept (s : State) (p : Nat) :
    kept (State.mediumFree s p) = kept s := by
  simp [State.mediumFree, apply_ite kept, foldl_kept]

@[simp] theorem portSafePoint_kept (s : State) (p : Nat) :
    kept (State.portSafePoint s p) = kept s := by
  simp [State.portSafePoint, apply_ite kept]

@[simp] theorem silentPaths_kept (s : State) (p : Nat) (silent : List Bool) :
    kept (State.silentPaths s p silent) = kept s := by
  simp [State.silentPaths, apply_ite kept, foldl_kept]

@[simp] theorem rxLost_kept (s : State) (p : Nat) (imp : Bool) :
    kept (State.rxLost s p imp) = kept s := by
  simp [State.rxLost, apply_ite kept]

@[simp] theorem heardNeigh_kept (s : State) (p : Nat) (f : PlcRx) (snr : Int) :
    kept (State.heardNeigh s p f snr) = kept s := by
  simp [State.heardNeigh, apply_ite kept]

@[simp] theorem frameRecords_kept (s : State) (p : Nat) (f : PlcRx) (g : F32 × F32 × F32) :
    kept (State.frameRecords s p f g) = kept s := by
  simp only [State.frameRecords]
  (repeat' split) <;> simp_all

@[simp] theorem plcReceive_kept (s : State) (p : Nat) (f : PlcRx) :
    kept (State.plcReceive s p f) = kept s := by
  simp [State.plcReceive, apply_ite kept]

@[simp] theorem plcDispatch_kept (s : State) (p : Nat) (t : PlcTx) (air : PlcAir) :
    kept (State.plcDispatch s p t air) = kept s := by
  unfold State.plcDispatch
  (repeat' split) <;> simp

@[simp] theorem plcSendNext_kept (s : State) (p : Nat) (air : PlcAir) : kept (State.plcSendNext s p air) = kept s := by
  have h := takeEgress_kept s p
  unfold State.plcSendNext
  dsimp only
  (repeat' split) <;> simp_all

@[simp] theorem plcTransmit_kept (s : State) (p : Nat) (air : PlcAir) : kept (State.plcTransmit s p air) = kept s := by
  unfold State.plcTransmit
  dsimp only
  (repeat' split) <;> simp

@[simp] theorem plcGiveUp_kept (s : State) (p : Nat) (t : PlcTx) (hop : Nat) :
    kept (State.plcGiveUp s p t hop) = kept s := by
  unfold State.plcGiveUp
  (repeat' split) <;> simp

@[simp] theorem plcAckTimeout_kept (s : State) (p : Nat) (imp : Bool) (air : PlcAir) :
    kept (State.plcAckTimeout s p imp air) = kept s := by
  unfold State.plcAckTimeout
  (repeat' split) <;> simp

@[simp] theorem plcFltFall_kept (s : State) (p : Nat) :
    kept (State.plcFltFall s p) = kept s := by
  simp [State.plcFltFall, apply_ite kept]

@[simp] theorem plcReset_kept (s : State) (p : Nat) (cause : Nat) :
    kept (State.plcReset s p cause) = kept s := by
  simp [State.plcReset, apply_ite kept, foldl_kept]

@[simp] theorem rreqReceived_kept (s : State) (p : Nat) (hop : Nat) (hops : Nat) (forDevice : Bool) :
    kept (State.rreqReceived s p hop hops forDevice) = kept s := by
  simp [State.rreqReceived, apply_ite kept]

@[simp] theorem rrepReceived_kept (s : State) (p : Nat) (dest : Nat) (hop : Nat) (cost : Nat) (hops : Nat) :
    kept (State.rrepReceived s p dest hop cost hops) = kept s := by
  unfold State.rrepReceived
  (repeat' split) <;> simp

@[simp] theorem rlcreqReceived_kept (s : State) (l : PlcLink) :
    kept (State.rlcreqReceived s l) = kept s := by
  simp [State.rlcreqReceived, apply_ite kept]

@[simp] theorem rreqWait_kept (s : State) (eix : Nat) :
    kept (State.rreqWait s eix) = kept s := by
  unfold State.rreqWait
  (repeat' split) <;> simp

@[simp] theorem repeaterWait_kept (s : State) (eix : Nat) :
    kept (State.repeaterWait s eix) = kept s := by
  unfold State.repeaterWait
  (repeat' split) <;> simp

@[simp] theorem plcTimeDelivery_kept (s : State) (p : Nat) (eix : Nat) (commanded : Bool) :
    kept (State.plcTimeDelivery s p eix commanded) = kept s := by
  unfold State.plcTimeDelivery
  (repeat' split) <;> simp

@[simp] theorem gmkRotate_kept (s : State) (p : Nat) :
    kept (State.gmkRotate s p) = kept s := by
  simp [State.gmkRotate, foldl_kept]

@[simp] theorem onRadio_kept (s : State) (n : Nat) (f : Radio → Radio) :
    kept (State.onRadio s n f) = kept s := by
  rfl

@[simp] theorem raiseRf_kept (s : State) (n : Nat) (k : Nat) (d : Bytes) :
    kept (State.raiseRf s n k d) = kept s := by
  simp [State.raiseRf]

@[simp] theorem spendAir_kept (s : State) (n : Nat) (air : Nat) :
    kept (State.spendAir s n air) = kept s := by
  rfl

@[simp] theorem regLimit_kept (s : State) (n : Nat) (cause : Nat) :
    kept (State.regLimit s n cause) = kept s := by
  simp [State.regLimit, apply_ite kept]

@[simp] theorem radiosEnable_kept (s : State) :
    kept (State.radiosEnable s) = kept s := by
  simp [State.radiosEnable, kept_queue, kept_mem, apply_ite kept]

@[simp] theorem radioSafePoint_kept (s : State) (n : Nat) :
    kept (State.radioSafePoint s n) = kept s := by
  simp [State.radioSafePoint, apply_ite kept]

@[simp] theorem rfPull_kept (s : State) (n overhead : Nat) : kept (State.rfPull s n overhead) = kept s := by
  have h := takeEgress_kept s (4 + n)
  unfold State.rfPull
  split <;> simp_all

@[simp] theorem rfLost_kept (s : State) (f : RfFrame) :
    kept (State.rfLost s f) = kept s := by
  unfold State.rfLost
  (repeat' split) <;> simp

@[simp] theorem rfTake_kept (s : State) (n : Nat) (i : Nat) :
    kept (State.rfTake s n i) = kept s := by
  rfl

@[simp] theorem rfDrop_kept (s : State) (n : Nat) (i : Nat) :
    kept (State.rfDrop s n i) = kept s := by
  simp only [State.rfDrop]
  (repeat' split) <;> simp_all

@[simp] theorem rfDelivered_kept (s : State) (n : Nat) (i : Nat) :
    kept (State.rfDelivered s n i) = kept s := by
  simp only [State.rfDelivered]
  (repeat' split) <;> simp_all

@[simp] theorem fogBusy_kept (s : State) (n : Nat) :
    kept (State.fogBusy s n).2 = kept s := by
  unfold State.fogBusy
  (repeat' split) <;> simp

@[simp] theorem rfTransmit_kept (s : State) (n : Nat) (psdu : Nat) (air : Nat) (i : Nat) (f : RfFrame) (shared : Bool) (acked : Bool) :
    kept (State.rfTransmit s n psdu air i f shared acked) = kept s := by
  simp [State.rfTransmit, apply_ite kept]

@[simp] theorem rfAttempt_kept (s : State) (n : Nat) (i : Nat) (shared : Bool) (w : RfSlot) :
    kept (State.rfAttempt s n i shared w) = kept s := by
  simp only [State.rfAttempt]
  (repeat' split) <;> simp_all

@[simp] theorem rfBeacon_kept (s : State) (n : Nat) (w : RfSlot) :
    kept (State.rfBeacon s n w) = kept s := by
  simp only [State.rfBeacon]
  (repeat' split) <;> simp_all

@[simp] theorem rfShared_kept (s : State) (n : Nat) (c : RfCell) (w : RfSlot) : kept (State.rfShared s n c w) = kept s := by
  unfold State.rfShared
  (repeat' split) <;> simp

@[simp] theorem rfTimeslot_kept (s : State) (n asn : Nat) (w : RfSlot) : kept (State.rfTimeslot s n asn w) = kept s := by
  unfold State.rfTimeslot
  dsimp only
  (repeat' split) <;> simp

@[simp] theorem backOff_kept (s : State) (n : Nat) :
    kept (State.backOff s n) = kept s := by
  rfl

@[simp] theorem rfAckTimeout_kept (s : State) (n : Nat) :
    kept (State.rfAckTimeout s n) = kept s := by
  unfold State.rfAckTimeout
  (repeat' split) <;> simp

@[simp] theorem onSleepy_kept (s : State) (n : Nat) (eix : Nat) (f : Sleepy → Sleepy) :
    kept (State.onSleepy s n eix f) = kept s := by
  rfl

@[simp] theorem driftEvent_kept (s : State) (n : Nat) (eix : Nat) (state : Nat) (offset : Int) :
    kept (State.driftEvent s n eix state offset) = kept s := by
  simp [State.driftEvent]

@[simp] theorem usable_kept (s : State) (n : Nat) (eix : Nat) (off : Int) :
    kept (State.usable s n eix off) = kept s := by
  unfold State.usable
  (repeat' split) <;> simp [apply_ite kept]

@[simp] theorem miss_kept (s : State) (n : Nat) (eix : Nat) :
    kept (State.miss s n eix) = kept s := by
  unfold State.miss
  (repeat' split) <;> simp

@[simp] theorem rescueEmpty_kept (s : State) (n : Nat) :
    kept (State.rescueEmpty s n) = kept s := by
  rfl

@[simp] theorem memberEvent_kept (s : State) (p : Nat) (eix : Nat) (state : Nat) :
    kept (State.memberEvent s p eix state) = kept s := by
  simp [State.memberEvent, apply_ite kept]

@[simp] theorem keyHeld_kept (s : State) (p : Nat) (eix : Nat) :
    kept (State.keyHeld s p eix) = kept s := by
  simp [State.keyHeld, apply_ite kept]

@[simp] theorem unjoin_kept (s : State) (p : Nat) (eix : Nat) (state : Nat) :
    kept (State.unjoin s p eix state) = kept s := by
  simp [State.unjoin, apply_ite kept]

@[simp] theorem walExhausted_kept (s : State) (n : Nat) (eix : Nat) :
    kept (State.walExhausted s n eix) = kept s := by
  unfold State.walExhausted
  (repeat' split) <;> simp

@[simp] theorem rfAcknowledge_kept (s : State) (n : Nat) (air : Nat) (c : RfCell) (off : Int) :
    kept (State.rfAcknowledge s n air c off) = kept s := by
  unfold State.rfAcknowledge
  (repeat' split) <;> simp

@[simp] theorem rfReceive_kept (s : State) (n : Nat) (f : RfRx) :
    kept (State.rfReceive s n f) = kept s := by
  simp only [State.rfReceive]
  (repeat' split) <;> simp_all

@[simp] theorem rfTimeDelivery_kept (s : State) (n : Nat) (eix : Nat) (commanded : Bool) :
    kept (State.rfTimeDelivery s n eix commanded) = kept s := by
  simp [State.rfTimeDelivery, apply_ite kept]

@[simp] theorem rfDiscard_kept (s : State) (n : Nat) :
    kept (State.rfDiscard s n) = kept s := by
  simp [State.rfDiscard, foldl_kept]

@[simp] theorem radioReset_kept (s : State) (n : Nat) (cause : Nat) :
    kept (State.radioReset s n cause) = kept s := by
  simp [State.radioReset, apply_ite kept]

@[simp] theorem sendLbp_kept (s : State) (p : Nat) (eix : Nat) (b : Bytes) :
    kept (State.sendLbp s p eix b) = kept s := by
  simp [State.sendLbp, apply_ite kept]

@[simp] theorem joinDecline_kept (s : State) (p : Nat) (eix : Nat) (eui : Bytes) :
    kept (State.joinDecline s p eix eui) = kept s := by
  simp [State.joinDecline]

@[simp] theorem joinStep_kept (s : State) (p : Nat) (eix : Nat) (eui : Bytes) (psk : Bytes) (what : Nat) (data : Bytes) :
    kept (State.joinStep s p eix eui psk what data) = kept s := by
  simp only [State.joinStep]
  (repeat' split) <;> simp_all

@[simp] theorem lbpJoin_kept (s : State) (p : Nat) (eui : Bytes) (what : Nat) (cost : Nat) (data : Bytes) (st : Stamp) :
    kept (State.lbpJoin s p eui what cost data st) = kept s := by
  simp only [State.lbpJoin]
  (repeat' split) <;> simp_all

@[simp] theorem endpointLeave_kept (s : State) (eix : Nat) :
    kept (State.endpointLeave s eix) = kept s := by
  unfold State.endpointLeave
  (repeat' split) <;> simp

@[simp] theorem setWake_kept (s : State) (n : Nat) (eix : Nat) (sf : Nat) (ep : Nat) (t : Nat) :
    kept (State.setWake s n eix sf ep t) = kept s := by
  rfl

@[simp] theorem rfKeyRotate_kept (s : State) (n : Nat) :
    kept (State.rfKeyRotate s n) = kept s := by
  simp [State.rfKeyRotate, foldl_kept]

@[simp] theorem onBal_kept (s : State) (f : Bal → Bal) :
    kept (State.onBal s f) = kept s := by
  rfl

@[simp] theorem onNode_kept (s : State) (n : Nat) (f : BalNode → BalNode) :
    kept (State.onNode s n f) = kept s := by
  rfl

@[simp] theorem judgeLength_kept (s : State) (eix : Nat) (len : Option Nat) :
    kept (State.judgeLength s eix len) = kept s := by
  unfold State.judgeLength
  (repeat' split) <;> simp [apply_ite kept]

@[simp] theorem touch_kept (s : State) (n : Nat) (ts : List Nat) :
    kept (State.touch s n ts) = kept s := by
  rfl

@[simp] theorem balCell_kept (s : State) (d : Bytes) (live : Bool) : kept (State.balCell s d live) = kept s := by
  unfold State.balCell
  dsimp only
  split
  · rfl
  · split
    · simp
    · rw [foldl_kept _ (fun t x => by simp)]
      simp [apply_ite kept]

@[simp] theorem balRec_kept (s : State) (d : Bytes) (live : Bool) :
    kept (State.balRec s d live) = kept s := by
  simp [State.balRec, apply_ite kept]

@[simp] theorem balInput_kept (s : State) (kind : Nat) (d : Bytes) (live : optParam Bool true) :
    kept (State.balInput s kind d live) = kept s := by
  simp [State.balInput, apply_ite kept]

@[simp] theorem rereadInputs_kept (s : State) :
    kept (State.rereadInputs s) = kept s := by
  simp [State.rereadInputs, apply_ite kept, foldl_kept]

@[simp] theorem closeInterval_kept (s : State) (n : Nat) (t : Nat) :
    kept (State.closeInterval s n t) = kept s := by
  simp [State.closeInterval]

@[simp] theorem scoreAlarm_kept (s : State) (n : Nat) (x : Score) :
    kept (State.scoreAlarm s n x) = kept s := by
  unfold State.scoreAlarm
  (repeat' split) <;> simp

@[simp] theorem nodeServed_kept (s : State) (n : Nat) :
    kept (State.nodeServed s n) = kept s := by
  simp [State.nodeServed, foldl_kept]

@[simp] theorem publish_kept (s : State) (n : Nat) (i : SolveIn) :
    kept (State.publish s n i) = kept s := by
  simp [State.publish, apply_ite kept, foldl_kept]

@[simp] theorem balIn_kept (s : State) : kept (State.balIn s) = kept s := by
  have h := takeHead_kept s 56
  unfold State.balIn
  split
  · rfl
  split
  · simp_all
  · simp_all [apply_ite kept]

@[simp] theorem closeWait_kept (s : State) (n : Nat) (t : Nat) :
    kept (State.closeWait s n t) = kept s := by
  simp [State.closeWait, apply_ite kept]

@[simp] theorem memberSilent_kept (s : State) (eix : Nat) :
    kept (State.memberSilent s eix) = kept s := by
  unfold State.memberSilent
  (repeat' split) <;> simp

@[simp] theorem mergeInputs_kept (s : State) (n : Nat) :
    kept (State.mergeInputs s n) = kept s := by
  simp [State.mergeInputs, foldl_kept]

@[simp] theorem recompute_kept (s : State) (n : Nat) :
    kept (State.recompute s n) = kept s := by
  rfl

@[simp] theorem stageEntry_kept (s : State) (e : Nat × Nat × Nat × Nat) :
    kept (State.stageEntry s e) = kept s := by
  rfl

@[simp] theorem applyEntry_kept (s : State) (e : Nat × Nat × Nat × Nat) :
    kept (State.applyEntry s e) = kept s := by
  simp [State.applyEntry, apply_ite kept]

@[simp] theorem applyStaged_kept (s : State) : kept (State.applyStaged s) = kept s := by
  unfold State.applyStaged
  split
  · rfl
  · dsimp only
    rw [foldl_kept _ (fun t x => by simp), onBal_kept, foldl_kept_fst]
    intro a x
    split <;> simp

@[simp] theorem oncePerDay_kept (s : State) (n : Nat) (src : Nat) (d : Bytes) :
    kept (State.oncePerDay s n src d) = kept s := by
  simp [State.oncePerDay, apply_ite kept]

@[simp] theorem nodeResidual_kept (s : State) (n : Nat) :
    kept (State.nodeResidual s n) = kept s := by
  simp [State.nodeResidual, apply_ite kept]

@[simp] theorem neutralDetector_kept (s : State) (f : Nat) :
    kept (State.neutralDetector s f) = kept s := by
  simp [State.neutralDetector, apply_ite kept]

@[simp] theorem reverseMember_kept (s : State) (n : Nat) (t : Nat) (eix : Nat) (m : Member) :
    kept (State.reverseMember s n t eix m) = kept s := by
  simp [State.reverseMember, apply_ite kept]

@[simp] theorem reverseFlow_kept (s : State) (n : Nat) (t : Nat) :
    kept (State.reverseFlow s n t) = kept s := by
  unfold State.reverseFlow
  (repeat' split) <;> simp [apply_ite kept, foldl_kept]

@[simp] theorem suddenDrop_kept (s : State) (day : Nat) (eix : Nat) (m : Member) :
    kept (State.suddenDrop s day eix m) = kept s := by
  simp [State.suddenDrop, apply_ite kept]

@[simp] theorem identifyPhase_kept (s : State) (eix : Nat) (m : Member) :
    kept (State.identifyPhase s eix m) = kept s := by
  simp [State.identifyPhase, apply_ite kept]

@[simp] theorem dailyStep_kept (s : State) (n : Nat) :
    kept (State.dailyStep s n) = kept s := by
  simp [State.dailyStep, apply_ite kept, foldl_kept]

@[simp] theorem startSolve_kept (s : State) (n : Nat) :
    kept (State.startSolve s n) = kept s := by
  simp [State.startSolve, apply_ite kept]

@[simp] theorem adoptNode_kept (s : State) (n : Nat) :
    kept (State.adoptNode s n) = kept s := by
  simp [State.adoptNode]

@[simp] theorem nodeSafePoint_kept (s : State) (n : Nat) :
    kept (State.nodeSafePoint s n) = kept s := by
  simp [State.nodeSafePoint, apply_ite kept, foldl_kept]

@[simp] theorem solveDone_kept (s : State) (n : Nat) :
    kept (State.solveDone s n) = kept s := by
  unfold State.solveDone
  (repeat' split) <;> simp

@[simp] theorem rebuildNode_kept (s : State) (n : Nat) :
    kept (State.rebuildNode s n) = kept s := by
  rfl

@[simp] theorem rebuildDone_kept (s : State) (sec : Nat) :
    kept (State.rebuildDone s sec) = kept s := by
  simp [State.rebuildDone, apply_ite kept, foldl_kept]

@[simp] theorem queueOpen_kept (s : State) (producer : Nat) (q : Nat) (c : Nat) :
    kept (State.queueOpen s producer q c) = kept s := by
  simp only [State.queueOpen]
  (repeat' split) <;> simp_all

@[simp] theorem grantWaiter_kept (s : State) (w : Waiter) :
    kept (State.grantWaiter s w) = kept s := by
  unfold State.grantWaiter
  (repeat' split) <;> simp

@[simp] theorem openGrant_kept (n : Nat) (s : State) : kept (State.openGrant n s) = kept s := by
  induction n generalizing s with
  | zero => rfl
  | succ n ih => unfold State.openGrant; split <;> simp [ih]

@[simp] theorem endOpen_kept (s : State) (o : OpenPacket) :
    kept (State.endOpen s o) = kept s := by
  rfl

@[simp] theorem queueClose_kept (s : State) (producer : Nat) (q : Nat) (payload : Bytes) :
    kept (State.queueClose s producer q payload) = kept s := by
  unfold State.queueClose
  (repeat' split) <;> simp

@[simp] theorem consumerRead_kept (s : State) (q : Nat) (ecc : Nat) :
    kept (State.consumerRead s q ecc) = kept s := by
  simp [State.consumerRead, apply_ite kept]

@[simp] theorem openTimeout_kept (s : State) (producer : Nat) (q : Nat) :
    kept (State.openTimeout s producer q) = kept s := by
  unfold State.openTimeout
  (repeat' split) <;> simp

@[simp] theorem headExpiry_kept (s : State) (q : Nat) :
    kept (State.headExpiry s q) = kept s := by
  simp [State.headExpiry, apply_ite kept]

@[simp] theorem creditWaitLong_kept (s : State) (q : Nat) (ms : Nat) (held : Option Nat) :
    kept (State.creditWaitLong s q ms held) = kept s := by
  simp [State.creditWaitLong, apply_ite kept]

@[simp] theorem fanout_kept (s : State) :
    kept (State.fanout s) = kept s := by
  unfold State.fanout
  (repeat' split) <;> simp [apply_ite kept, foldl_kept]

@[simp] theorem onCamp_kept (s : State) (c : Nat) (f : Campaign → Campaign) :
    kept (State.onCamp s c f) = kept s := by
  rfl

@[simp] theorem onDist_kept (s : State) (c : Nat) (eix : Nat) (f : DistMember → DistMember) :
    kept (State.onDist s c eix f) = kept s := by
  rfl

@[simp] theorem onMembers_kept (s : State) (c : Nat) (f : DistMember → DistMember) :
    kept (State.onMembers s c f) = kept s := by
  simp [State.onMembers, foldl_kept]

@[simp] theorem distTransmit_kept (s : State) (c : Nat) (eix : Nat) :
    kept (State.distTransmit s c eix) = kept s := by
  unfold State.distTransmit
  (repeat' split) <;> simp

@[simp] theorem distAsk_kept (s : State) (c : Nat) (eix : Nat) (r : DistReq) :
    kept (State.distAsk s c eix r) = kept s := by
  simp [State.distAsk]

@[simp] theorem distFail_kept (s : State) (c : Nat) (eix : Nat) (cause : Nat) :
    kept (State.distFail s c eix cause) = kept s := by
  simp [State.distFail]

@[simp] theorem fillWindow_kept (s : State) (c : Nat) : kept (State.fillWindow s c) = kept s := by
  unfold State.fillWindow
  split
  · rfl
  · exact foldl_kept _ (fun t x => by split <;> simp [apply_ite kept]) _ _

@[simp] theorem queryRound_kept (s : State) (c : Nat) : kept (State.queryRound s c) = kept s := by
  unfold State.queryRound
  split
  · rfl
  · rw [foldl_kept _ (fun t x => by split <;> simp [apply_ite kept])]
    simp

@[simp] theorem endRounds_kept (s : State) (c : Nat) :
    kept (State.endRounds s c) = kept s := by
  simp [State.endRounds]

@[simp] theorem beginRound_kept (s : State) (c : Nat) (k : Nat) (plan : List Nat) :
    kept (State.beginRound s c k plan) = kept s := by
  rfl

@[simp] theorem advanceRounds_kept (s : State) (c : Nat) :
    kept (State.advanceRounds s c) = kept s := by
  unfold State.advanceRounds
  (repeat' split) <;> simp [apply_ite kept]

@[simp] theorem campaignEvents_kept (s : State) (c : Nat) :
    kept (State.campaignEvents s c) = kept s := by
  unfold State.campaignEvents
  (repeat' split) <;> simp [apply_ite kept]

@[simp] theorem distSettle_kept (s : State) (c : Nat) :
    kept (State.distSettle s c) = kept s := by
  simp [State.distSettle]

@[simp] theorem activateMember_kept (s : State) (c : Nat) (eix : Nat) :
    kept (State.activateMember s c eix) = kept s := by
  unfold State.activateMember
  (repeat' split) <;> simp

@[simp] theorem reachReady_kept (s : State) (c : Nat) (eix : Nat) :
    kept (State.reachReady s c eix) = kept s := by
  unfold State.reachReady
  (repeat' split) <;> simp

@[simp] theorem distRetry_kept (s : State) (c : Nat) (eix : Nat) (cause : Nat) :
    kept (State.distRetry s c eix cause) = kept s := by
  unfold State.distRetry
  (repeat' split) <;> simp

@[simp] theorem distAnswer_kept (s : State) (c : Nat) (eix : Nat) (x : Campaign) (m : DistMember) (r : DistReq) (nums : List Nat) (d : Bytes) :
    kept (State.distAnswer s c eix x m r nums d) = kept s := by
  unfold State.distAnswer
  (repeat' split) <;> simp [apply_ite kept]

@[simp] theorem memberResponse_kept (s : State) (c : Nat) (eix : Nat) (ok : Bool) (nums : List Nat) (d : Bytes) :
    kept (State.memberResponse s c eix ok nums d) = kept s := by
  unfold State.memberResponse
  (repeat' split) <;> simp

@[simp] theorem memberTimeout_kept (s : State) (c : Nat) (eix : Nat) :
    kept (State.memberTimeout s c eix) = kept s := by
  unfold State.memberTimeout
  (repeat' split) <;> simp

@[simp] theorem verifyPoll_kept (s : State) (c : Nat) (eix : Nat) :
    kept (State.verifyPoll s c eix) = kept s := by
  unfold State.verifyPoll
  (repeat' split) <;> simp

@[simp] theorem verifyTimeout_kept (s : State) (c : Nat) (eix : Nat) :
    kept (State.verifyTimeout s c eix) = kept s := by
  unfold State.verifyTimeout
  (repeat' split) <;> simp

@[simp] theorem badContent_kept (s : State) (c : Nat) :
    kept (State.badContent s c) = kept s := by
  unfold State.badContent
  (repeat' split) <;> simp

@[simp] theorem contentLoaded_kept (s : State) (c : Nat) : kept (State.contentLoaded s c) = kept s := by
  unfold State.contentLoaded
  split
  · rfl
  split
  · rfl
  dsimp only
  split
  · simp
  split
  · simp
  · have h := random_kept s 4
    split <;> simp [foldl_kept, h]

@[simp] theorem multicastFrame_kept (s : State) (c : Nat) :
    kept (State.multicastFrame s c) = kept s := by
  unfold State.multicastFrame
  (repeat' split) <;> simp [foldl_kept]

@[simp] theorem activateReady_kept (s : State) (c : Nat) :
    kept (State.activateReady s c) = kept s := by
  unfold State.activateReady
  (repeat' split) <;> simp [foldl_kept]

@[simp] theorem activationDue_kept (s : State) (c : Nat) :
    kept (State.activationDue s c) = kept s := by
  unfold State.activationDue
  (repeat' split) <;> simp

@[simp] theorem distRejoin_kept (s : State) (eix : Nat) : kept (State.distRejoin s eix) = kept s := by
  unfold State.distRejoin
  exact foldl_kept _ (fun t x => by split <;> simp [apply_ite kept]) _ _

@[simp] theorem memberResume_kept (s : State) (c : Nat) (eix : Nat) (x : Campaign) :
    kept (State.memberResume s c eix x) = kept s := by
  unfold State.memberResume
  (repeat' split) <;> simp

@[simp] theorem distRestart_kept (s : State) : kept (State.distRestart s) = kept s := by
  unfold State.distRestart
  refine foldl_kept _ (fun t x => ?_) _ _
  dsimp only
  (repeat' split) <;> simp [foldl_kept]

@[simp] theorem putCampaign_kept (s : State) (k : Nat) (x : Campaign) :
    kept (State.putCampaign s k x) = kept s := by
  rfl

@[simp] theorem distMember_kept (s : State) (c : Nat) (eix : Nat) (mode : Nat) :
    kept (State.distMember s c eix mode) = kept s := by
  unfold State.distMember
  (repeat' split) <;> simp [apply_ite kept]

@[simp] theorem distCancel_kept (s : State) (c : Nat) :
    kept (State.distCancel s c) = kept s := by
  unfold State.distCancel
  (repeat' split) <;> simp

@[simp] theorem tierSend_kept (s : State) (mac : Bytes) (typ dest : Nat) (body : Bytes) : kept (State.tierSend s mac typ dest body) = kept s := by
  unfold State.tierSend
  split
  · rfl
  · dsimp only
    split
    · rename_i h
      simpa using fst_kept h (protect_kept ..)
    · rename_i h
      simpa using fst_kept h (protect_kept ..)

@[simp] theorem tierTo_kept (s : State) (m : Nat) (typ : Nat) (body : Bytes) :
    kept (State.tierTo s m typ body) = kept s := by
  unfold State.tierTo
  (repeat' split) <;> simp

@[simp] theorem tierReceive_kept (s : State) (typ : Nat) (frame : Bytes) : kept (State.tierReceive s typ frame).1 = kept s := by
  unfold State.tierReceive
  split
  · rfl
  split
  · simp
  dsimp only
  split
  · simp
  · split
    · rename_i h
      split <;> simpa using fst_kept h (unprotect_kept ..)
    · rename_i h
      simpa using fst_kept h (unprotect_kept ..)

@[simp] theorem sendContrib_kept (s : State) (m : Nat) (r : StoreRec) :
    kept (State.sendContrib s m r) = kept s := by
  simp [State.sendContrib]

@[simp] theorem sendContribs_kept (s : State) (m : Nat) :
    kept (State.sendContribs s m) = kept s := by
  simp [State.sendContribs, apply_ite kept, foldl_kept]

@[simp] theorem sendSubscribes_kept (s : State) :
    kept (State.sendSubscribes s) = kept s := by
  simp [State.sendSubscribes, apply_ite kept, foldl_kept]

@[simp] theorem subscribeFrame_kept (s : State) (frame : Bytes) : kept (State.subscribeFrame s frame) = kept s := by
  have h := tierReceive_kept s 5 frame
  unfold State.subscribeFrame
  split
  · rename_i e
    rw [e] at h
    dsimp only
    (repeat' split) <;> simp_all [foldl_kept]
  · simp_all

@[simp] theorem contribFrame_kept (s : State) (frame : Bytes) : kept (State.contribFrame s frame) = kept s := by
  have h := tierReceive_kept s 6 frame
  unfold State.contribFrame
  split <;> simp_all [apply_ite kept]

@[simp] theorem sendDirectory_kept (s : State) :
    kept (State.sendDirectory s) = kept s := by
  simp [State.sendDirectory, apply_ite kept, foldl_kept]

@[simp] theorem remoteEntry_kept (s : State) (src : Nat) (b : Bytes) :
    kept (State.remoteEntry s src b) = kept s := by
  simp [State.remoteEntry, apply_ite kept]

@[simp] theorem directoryFrame_kept (s : State) (frame : Bytes) : kept (State.directoryFrame s frame) = kept s := by
  have h := tierReceive_kept s 2 frame
  unfold State.directoryFrame
  split <;> simp_all [apply_ite kept, foldl_kept]

@[simp] theorem heartbeatSend_kept (s : State) :
    kept (State.heartbeatSend s) = kept s := by
  simp [State.heartbeatSend, apply_ite kept, foldl_kept]

@[simp] theorem isolate_kept (s : State) (m : Nat) (ident : Bytes) :
    kept (State.isolate s m ident) = kept s := by
  simp [State.isolate, apply_ite kept]

@[simp] theorem regained_kept (s : State) (m : Nat) (lostOt : Nat) :
    kept (State.regained s m lostOt) = kept s := by
  simp [State.regained, apply_ite kept, foldl_kept]

@[simp] theorem takeAcks_kept (s : State) (src : Nat) (b : Bytes) :
    kept (State.takeAcks s src b) = kept s := by
  simp [State.takeAcks, apply_ite kept, foldl_kept]

@[simp] theorem heartbeatReceive_kept (s : State) (mac frame : Bytes) : kept (State.heartbeatReceive s mac frame) = kept s := by
  unfold State.heartbeatReceive
  split
  · rename_i h
    exact fst_kept h (tierReceive_kept ..)
  · rename_i h
    have k := fst_kept h (tierReceive_kept ..)
    dsimp only
    simp only [apply_ite kept, isolate_kept, takeAcks_kept, regained_kept, sendDirectory_kept, onTbl_kept, onTier_kept, raise_kept, k, ite_self]

@[simp] theorem peerLoss_kept (s : State) (m : Nat) :
    kept (State.peerLoss s m) = kept s := by
  unfold State.peerLoss
  (repeat' split) <;> simp [apply_ite kept]

@[simp] theorem bufferAge_kept (s : State) :
    kept (State.bufferAge s) = kept s := by
  unfold State.bufferAge
  (repeat' split) <;> simp [apply_ite kept]

@[simp] theorem workerSend_kept (s : State) (n : Nat) :
    kept (State.workerSend s n) = kept s := by
  unfold State.workerSend
  (repeat' split) <;> simp [apply_ite kept, foldl_kept]

@[simp] theorem batchSegment_kept (s : State) (frame : Bytes) : kept (State.batchSegment s frame) = kept s := by
  have h := tierReceive_kept s 3 frame
  unfold State.batchSegment
  split <;> simp_all [apply_ite kept]

@[simp] theorem batchAck_kept (s : State) (frame : Bytes) : kept (State.batchAck s frame) = kept s := by
  have h := tierReceive_kept s 4 frame
  unfold State.batchAck
  split <;> simp_all [apply_ite kept]

@[simp] theorem uploadAck_kept (s : State) (n : Nat) (member : Option Nat) :
    kept (State.uploadAck s n member) = kept s := by
  unfold State.uploadAck
  (repeat' split) <;> simp

@[simp] theorem noticeDecision_kept (s : State) (number : Nat) :
    kept (State.noticeDecision s number) = kept s := by
  unfold State.noticeDecision
  (repeat' split) <;> simp [apply_ite kept]

@[simp] theorem onPanel_kept (s : State) (f : Panel → Panel) :
    kept (State.onPanel s f) = kept s := by
  rfl

@[simp] theorem commitLedger_kept (s : State) :
    kept (State.commitLedger s) = kept s := by
  simp [State.commitLedger, foldl_kept]

@[simp] theorem commitParts_kept (s : State) (region : Nat) (base : Nat) (b : Bytes) :
    kept (State.commitParts s region base b) = kept s := by
  simp [State.commitParts, foldl_kept]

@[simp] theorem reband_kept (s : State) :
    kept (State.reband s) = kept s := by
  simp [State.reband, apply_ite kept]

@[simp] theorem panelWake_kept (s : State) :
    kept (State.panelWake s) = kept s := by
  simp [State.panelWake, apply_ite kept]

@[simp] theorem queueJob_kept (s : State) (kind : JobKind) (rects : List Rect) (mode : Nat) (tiles : List Bytes) :
    kept (State.queueJob s kind rects mode tiles) = kept s := by
  rfl

@[simp] theorem recoveryEvent_kept (s : State) (j : PanelJob) :
    kept (State.recoveryEvent s j) = kept s := by
  unfold State.recoveryEvent
  (repeat' split) <;> simp

@[simp] theorem startJob_kept (s : State) (j : PanelJob) :
    kept (State.startJob s j) = kept s := by
  simp [State.startJob]

@[simp] theorem startJobs_kept (l m : List PanelJob) (s : State) : kept (State.startJobs l m s) = kept s := by
  induction l generalizing m s with
  | nil => rfl
  | cons j l ih => unfold State.startJobs; simp [apply_ite kept, ih]

@[simp] theorem scanCodes_kept (s : State) (codes : List (Nat × Nat)) : kept (State.scanCodes s codes).1 = kept s := by
  unfold State.scanCodes
  exact foldl_kept_fst _ (fun a x => by simp [apply_ite Prod.fst, apply_ite kept]) _ _

@[simp] theorem takeLevels_kept (s : State) (d : Tab Nat) :
    kept (State.takeLevels s d) = kept s := by
  rfl

@[simp] theorem settleCheck_kept (s : State) (j : PanelJob) :
    kept (State.settleCheck s j) = kept s := by
  simp [State.settleCheck, apply_ite kept]

@[simp] theorem balanceCheck_kept (s : State) (j : PanelJob) :
    kept (State.balanceCheck s j) = kept s := by
  simp [State.balanceCheck, apply_ite kept]

@[simp] theorem endJob_kept (s : State) (j : PanelJob) :
    kept (State.endJob s j) = kept s := by
  unfold State.endJob
  (repeat' split) <;> simp

@[simp] theorem jobFrame_kept (s : State) (number : Nat) :
    kept (State.jobFrame s number) = kept s := by
  simp only [State.jobFrame]
  (repeat' split) <;> simp_all

@[simp] theorem startToggle_kept (s : State) (i : Nat) (b : Blink) :
    kept (State.startToggle s i b) = kept s := by
  rfl

@[simp] theorem dropBlink_kept (s : State) (i : Nat) (b : Blink) :
    kept (State.dropBlink s i b) = kept s := by
  rfl

@[simp] theorem blinkFrame_kept (s : State) (i : Nat) :
    kept (State.blinkFrame s i) = kept s := by
  simp only [State.blinkFrame]
  (repeat' split) <;> simp_all

@[simp] theorem startToggles_kept (s : State) :
    kept (State.startToggles s) = kept s := by
  simp [State.startToggles, apply_ite kept, foldl_kept]

@[simp] theorem panelSafePoint_kept (s : State) :
    kept (State.panelSafePoint s) = kept s := by
  simp [State.panelSafePoint, apply_ite kept]

@[simp] theorem panelFrame_kept (s : State) : kept (State.panelFrame s) = kept s := by
  unfold State.panelFrame
  simp [apply_ite kept, foldl_kept]

@[simp] theorem railUp_kept (s : State) :
    kept (State.railUp s) = kept s := by
  simp [State.railUp, apply_ite kept]

@[simp] theorem failUpdates_kept (s : State) : kept (State.failUpdates s) = kept s := by
  unfold State.failUpdates
  dsimp only
  rw [onPanel_kept]
  exact foldl_kept _ (fun t x => by split <;> simp) _ _

@[simp] theorem railTimeout_kept (s : State) :
    kept (State.railTimeout s) = kept s := by
  simp [State.railTimeout, apply_ite kept]

@[simp] theorem railHold_kept (s : State) :
    kept (State.railHold s) = kept s := by
  simp [State.railHold, apply_ite kept]

@[simp] theorem abortEvents_kept (s : State) (cause : Nat) :
    kept (State.abortEvents s cause) = kept s := by
  simp [State.abortEvents, foldl_kept]

@[simp] theorem panelPowerFail_kept (s : State) :
    kept (State.panelPowerFail s) = kept s := by
  simp [State.panelPowerFail, apply_ite kept, foldl_kept]

@[simp] theorem pwrgoodLost_kept (s : State) : kept (State.pwrgoodLost s) = kept s := by
  unfold State.pwrgoodLost
  split
  · rfl
  · dsimp only
    simp only [panelWake_kept, onPanel_kept, commitLedger_kept]
    rw [foldl_kept _ (fun t x => by split <;> simp)]
    simp

@[simp] theorem panelStart_kept (s : State) :
    kept (State.panelStart s) = kept s := by
  simp [State.panelStart, apply_ite kept]

@[simp] theorem panelTemperature_kept (s : State) (reading : Option Int) :
    kept (State.panelTemperature s reading) = kept s := by
  unfold State.panelTemperature
  (repeat' split) <;> simp [apply_ite kept]

@[simp] theorem sheetHoldEnd_kept (s : State) :
    kept (State.sheetHoldEnd s) = kept s := by
  unfold State.sheetHoldEnd
  (repeat' split) <;> simp

@[simp] theorem panelUpdate_kept (s : State) (c : HostCmd) (r : Rect) (mode : Nat) :
    kept (State.panelUpdate s c r mode).1 = kept s := by
  simp [State.panelUpdate, foldl_kept]

@[simp] theorem panelLoaded_kept (s : State) (kind : Nat) (band : Nat) (b : Bytes) :
    kept (State.panelLoaded s kind band b).1 = kept s := by
  unfold State.panelLoaded
  (repeat' split) <;> simp

@[simp] theorem panelLoad_kept (s : State) (req : Bytes) :
    kept (State.panelLoad s req).1 = kept s := by
  simp only [State.panelLoad]
  (repeat' split) <;> simp_all

@[simp] theorem panelBlink_kept (s : State) (req : Bytes) :
    kept (State.panelBlink s req).1 = kept s := by
  simp only [State.panelBlink]
  (repeat' split) <;> simp_all

@[simp] theorem contactSheet_kept (s : State) (c : HostCmd) (hold : Nat) :
    kept (State.contactSheet s c hold).1 = kept s := by
  simp [State.contactSheet]

@[simp] theorem panelRebalance_kept (s : State) (c : HostCmd) (r : Rect) :
    kept (State.panelRebalance s c r).1 = kept s := by
  simp [State.panelRebalance]

@[simp] theorem sealedWarning_kept (s : State) :
    kept (State.sealedWarning s) = kept s := by
  simp [State.sealedWarning, apply_ite kept]

@[simp] theorem holdupBegin_kept (s0 : State) (after : AfterHoldup) :
    kept (State.holdupBegin s0 after) = kept s0 := by
  simp [State.holdupBegin, kept_queue, kept_mem]

@[simp] theorem orderBegin_kept (s : State) (after : AfterHoldup) :
    kept (State.orderBegin s after) = kept s := by
  simp [State.orderBegin, apply_ite kept]

@[simp] theorem recorderTurn_queue (s : State) : (kept s.recorderTurn).queue = (kept s).queue := by
  unfold State.recorderTurn
  (repeat' split) <;> simp

@[simp] theorem recorderTurn_wf (s : State) (h : (kept s).mem.wf = true) : (kept s.recorderTurn).mem.wf = true := by
  unfold State.recorderTurn
  (repeat' split) <;> simp [h]

theorem foldl_recorderTurn_queue (l : List Nat) (s : State) : (kept (l.foldl (fun t _ => t.recorderTurn) s)).queue = (kept s).queue := by
  induction l generalizing s with
  | nil => rfl
  | cons x l ih => simp [ih]

theorem foldl_recorderTurn_wf (l : List Nat) (s : State) (h : (kept s).mem.wf = true) :
    (kept (l.foldl (fun t _ => t.recorderTurn) s)).mem.wf = true := by
  induction l generalizing s with
  | nil => exact h
  | cons x l ih => exact ih _ (by simp [h])

@[simp] theorem pumpRound_queue (s : State) : (kept s.pumpRound).queue = (kept s).queue := by
  simp [State.pumpRound, foldl_kept, apply_ite kept]

@[simp] theorem pumpRound_wf (s : State) (h : (kept s).mem.wf = true) : (kept s.pumpRound).mem.wf = true := by
  simp [State.pumpRound, foldl_kept, apply_ite kept, h]

@[simp] theorem pump_queue (n : Nat) (s : State) : (kept (State.pump n s)).queue = (kept s).queue := by
  induction n generalizing s with
  | zero => rfl
  | succ n ih => unfold State.pump; dsimp only; (repeat' split) <;> simp [ih]

@[simp] theorem pump_wf (n : Nat) (s : State) (h : (kept s).mem.wf = true) : (kept (State.pump n s)).mem.wf = true := by
  induction n generalizing s with
  | zero => exact h
  | succ n ih =>
    unfold State.pump
    dsimp only
    split
    · exact ih _ (by simpa using h)
    split
    · exact ih _ (by simp [h])
    split
    · exact ih _ (by simpa using h)
    · exact h

@[simp] theorem pumpAll_queue (s : State) : (kept s.pumpAll).queue = (kept s).queue := pump_queue ..

@[simp] theorem pumpAll_wf (s : State) (h : (kept s).mem.wf = true) : (kept s.pumpAll).mem.wf = true := pump_wf _ _ h

@[simp] theorem sealedHoldup_queue (s : State) : (kept s.sealedHoldup).queue = (kept s).queue := by
  unfold State.sealedHoldup
  split
  · rfl
  · simp [foldl_kept]

@[simp] theorem sealedHoldup_wf (s : State) (h : (kept s).mem.wf = true) : (kept s.sealedHoldup).mem.wf = true := by
  unfold State.sealedHoldup
  split
  · exact h
  · simp [foldl_kept, h]

@[simp] theorem lossesToAon_kept (s : State) :
    kept (State.lossesToAon s) = kept s := by
  rfl

@[simp] theorem holdupAction_queue (s : State) (k : Nat) : (kept (s.holdupAction k)).queue = (kept s).queue := by
  unfold State.holdupAction
  split <;> simp

@[simp] theorem holdupAction_wf (s : State) (k : Nat) (h : (kept s).mem.wf = true) : (kept (s.holdupAction k)).mem.wf = true := by
  unfold State.holdupAction
  split <;> simp [h]

@[simp] theorem openReset_queue (s : State) : (kept s.openReset).queue = (kept s).queue := by
  simp [State.openReset, kept_queue]

@[simp] theorem openReset_wf (s : State) (h : (kept s).mem.wf = true) : (kept s.openReset).mem.wf = true := by
  unfold State.openReset
  dsimp only
  rw [kept_mk]
  dsimp only
  split
  · rfl
  · simpa [kept_mem] using h

@[simp] theorem resetWith_queue (s : State) (a b : Nat) : (kept (s.resetWith a b)).queue = (kept s).queue := by
  simp [State.resetWith]

@[simp] theorem resetWith_wf (s : State) (a b : Nat) (h : (kept s).mem.wf = true) : (kept (s.resetWith a b)).mem.wf = true := by
  simp [State.resetWith, h]

@[simp] theorem powerDown_queue (s : State) (a : Nat) (b : PowerState) : (kept (s.powerDown a b)).queue = (kept s).queue := by
  simp [State.powerDown]

@[simp] theorem powerDown_wf (s : State) (a : Nat) (b : PowerState) (h : (kept s).mem.wf = true) : (kept (s.powerDown a b)).mem.wf = true := by
  simp [State.powerDown, h]

@[simp] theorem supplyLost_kept (s : State) :
    kept (State.supplyLost s) = kept s := by
  rfl

@[simp] theorem loseVin_queue (s : State) (a : Nat) : (kept (s.loseVin a)).queue = (kept s).queue := by
  unfold State.loseVin
  (repeat' split) <;> simp

@[simp] theorem loseVin_wf (s : State) (a : Nat) (h : (kept s).mem.wf = true) : (kept (s.loseVin a)).mem.wf = true := by
  unfold State.loseVin
  (repeat' split) <;> simp [h]

@[simp] theorem holdupEnd_queue (s : State) : (kept s.holdupEnd).queue = (kept s).queue := by
  unfold State.holdupEnd
  dsimp only
  (repeat' split) <;> simp

@[simp] theorem holdupEnd_wf (s : State) (h : (kept s).mem.wf = true) : (kept s.holdupEnd).mem.wf = true := by
  unfold State.holdupEnd
  dsimp only
  (repeat' split) <;> simp [h]

@[simp] theorem holdupStep_queue (s : State) (a : Nat) : (kept (s.holdupStep a)).queue = (kept s).queue := by
  unfold State.holdupStep
  dsimp only
  (repeat' split) <;> simp

@[simp] theorem holdupStep_wf (s : State) (a : Nat) (h : (kept s).mem.wf = true) : (kept (s.holdupStep a)).mem.wf = true := by
  unfold State.holdupStep
  dsimp only
  (repeat' split) <;> simp [h]

@[simp] theorem bootRom_kept (s : State) : kept (State.bootRom s).1 = kept s := by
  unfold State.bootRom
  dsimp only
  simp only [apply_ite Prod.fst, apply_ite kept, onSec_kept, onPower_kept, ite_self]

@[simp] theorem timeStart_kept (s : State) (ticks : Nat) :
    kept (State.timeStart s ticks) = kept s := by
  unfold State.timeStart
  (repeat' split) <;> simp

@[simp] theorem cfgStart_kept (s : State) (cause : Nat) :
    kept (State.cfgStart s cause) = kept s := by
  simp [State.cfgStart, kept_queue, kept_mem, apply_ite kept]

@[simp] theorem loadTables_kept (s : State) : kept (State.loadTables s) = kept s := by
  unfold State.loadTables
  dsimp only
  rw [onTbl_kept, foldl_kept _ (fun t x => by split <;> simp), onCp_kept, onTbl_kept]
  rfl

@[simp] theorem selfTest_kept (s : State) (pipesOk : List Bool) :
    kept (State.selfTest s pipesOk) = kept s := by
  simp [State.selfTest, apply_ite kept, foldl_kept]

@[simp] theorem startReports_kept (s : State) (boot : Option (Nat × Nat × Nat)) :
    kept (State.startReports s boot) = kept s := by
  unfold State.startReports
  (repeat' split) <;> simp [apply_ite kept, foldl_kept]

@[simp] theorem sealedThaw_kept (s : State) :
    kept (State.sealedThaw s) = kept s := by
  simp [State.sealedThaw, apply_ite kept]

@[simp] theorem resetRelease_kept (s : State) (ticks : Nat) (off : Option Nat) (mapMs : Nat) (diesOk : List Bool) (pipesOk : List Bool) :
    kept (State.resetRelease s ticks off mapMs diesOk pipesOk) = kept s := by
  simp only [State.resetRelease]
  (repeat' split) <;> simp_all [kept_queue, kept_mem]

@[simp] theorem startComplete_kept (s : State) (ms : Nat) :
    kept (State.startComplete s ms) = kept s := by
  simp [State.startComplete, kept_mem, apply_ite kept]

@[simp] theorem powerFail_kept (s : State) (source : Nat) (mv : Nat) :
    kept (State.powerFail s source mv) = kept s := by
  simp [State.powerFail, apply_ite kept]

@[simp] theorem undervoltage_queue (s : State) (a : Nat) : (kept (s.undervoltage a)).queue = (kept s).queue := by
  unfold State.undervoltage
  dsimp only
  split
  · simp
  split
  · rw [loseVin_queue]
    split <;> simp
  · simp

@[simp] theorem undervoltage_wf (s : State) (a : Nat) (h : (kept s).mem.wf = true) : (kept (s.undervoltage a)).mem.wf = true := by
  unfold State.undervoltage
  dsimp only
  split
  · simpa using h
  split
  · refine loseVin_wf _ _ ?_
    split <;> simpa using h
  · simpa using h

@[simp] theorem pfwClear_kept (s : State) (mv : Nat) :
    kept (State.pfwClear s mv) = kept s := by
  simp [State.pfwClear, apply_ite kept]

@[simp] theorem vinStart_kept (s : State) (mv : Nat) :
    kept (State.vinStart s mv) = kept s := by
  simp [State.vinStart, apply_ite kept]

@[simp] theorem vbat_kept (s : State) (mv : Nat) :
    kept (State.vbat s mv) = kept s := by
  simp [State.vbat, apply_ite kept]

@[simp] theorem vio_kept (s : State) (bank : Nat) (mv : Nat) :
    kept (State.vio s bank mv) = kept s := by
  simp [State.vio, apply_ite kept]

@[simp] theorem thermal_kept (s : State) (c : Int) :
    kept (State.thermal s c) = kept s := by
  simp [State.thermal, apply_ite kept]

@[simp] theorem clockMonitor_kept (s : State) (ppm : Int) (crystal : Bool) :
    kept (State.clockMonitor s ppm crystal) = kept s := by
  simp [State.clockMonitor, apply_ite kept]

@[simp] theorem idleEntry_kept (s : State) :
    kept (State.idleEntry s) = kept s := by
  simp [State.idleEntry, apply_ite kept]

@[simp] theorem resetPin_queue (s : State) : (kept s.resetPin).queue = (kept s).queue := by
  unfold State.resetPin
  (repeat' split) <;> simp

@[simp] theorem resetPin_wf (s : State) (h : (kept s).mem.wf = true) : (kept s.resetPin).mem.wf = true := by
  unfold State.resetPin
  (repeat' split) <;> simp [h]

@[simp] theorem lockstep_queue (s : State) (a : Nat) : (kept (s.lockstep a)).queue = (kept s).queue := by
  unfold State.lockstep
  dsimp only
  split
  · rfl
  · rw [resetWith_queue]
    split
    · rw [flushAll_kept, foldl_recorderTurn_queue, raise_kept, onPower_kept]
    · rw [raise_kept, onPower_kept]

@[simp] theorem lockstep_wf (s : State) (a : Nat) (h : (kept s).mem.wf = true) : (kept (s.lockstep a)).mem.wf = true := by
  unfold State.lockstep
  dsimp only
  split
  · exact h
  · refine resetWith_wf _ _ _ ?_
    split
    · rw [flushAll_kept]
      exact foldl_recorderTurn_wf _ _ (by simpa using h)
    · simpa using h

@[simp] theorem promote_kept (s : State) (m : Nat) :
    kept (State.promote s m) = kept s := by
  simp [State.promote, foldl_kept]

@[simp] theorem genRefused_kept (s : State) (status : Nat) (number : Nat) :
    kept (State.genRefused s status number) = kept s := by
  simp [State.genRefused]

@[simp] theorem cfgValidate_kept (s : State) (c : HostCmd) :
    kept (State.cfgValidate s c).1 = kept s := by
  unfold State.cfgValidate
  (repeat' split) <;> simp

@[simp] theorem commitImage_kept (s : State) (op : Nat) (c : HostCmd) (values : Tab Int) (objects : Nat) (origin : Nat) :
    kept (State.commitImage s op c values objects origin) = kept s := by
  simp [State.commitImage]

@[simp] theorem commitRefused_kept (s : State) (op : Nat) (c : HostCmd) (status : Nat) (data : Bytes) :
    kept (State.commitRefused s op c status data).1 = kept s := by
  simp [State.commitRefused]

@[simp] theorem commitJudged_kept (s : State) (op : Nat) (c : HostCmd) (values : Tab Int) (staged : Tab Int) (objects : Nat) (origin : Nat) :
    kept (State.commitJudged s op c values staged objects origin).1 = kept s := by
  unfold State.commitJudged
  (repeat' split) <;> simp

@[simp] theorem cfgCommit_kept (s : State) (c : HostCmd) :
    kept (State.cfgCommit s c).1 = kept s := by
  unfold State.cfgCommit
  (repeat' split) <;> simp

@[simp] theorem cfgFactory_kept (s : State) (c : HostCmd) :
    kept (State.cfgFactory s c).1 = kept s := by
  unfold State.cfgFactory
  (repeat' split) <;> simp

@[simp] theorem clockInjection_kept (s : State) :
    kept (State.clockInjection s) = kept s := by
  unfold State.clockInjection
  (repeat' split) <;> simp

@[simp] theorem realign_kept (s : State) :
    kept (State.realign s) = kept s := by
  rfl

@[simp] theorem radioTick_kept (s : State) :
    kept (State.radioTick s) = kept s := by
  simp [State.radioTick]

@[simp] theorem timeSafePoint_kept (s : State) :
    kept (State.timeSafePoint s) = kept s := by
  simp [State.timeSafePoint, apply_ite kept]

@[simp] theorem tickAdopt_kept (s : State) : kept (State.tickAdopt s) = kept s := by
  unfold State.tickAdopt
  dsimp only
  simp only [apply_ite kept, panelSafePoint_kept, firstKeys_kept, adopt_kept, radioTick_kept, timeSafePoint_kept, foldl_kept _ portSafePoint_kept, ite_self]

@[simp] theorem tickProving_kept (s : State) :
    kept (State.tickProving s) = kept s := by
  rfl

@[simp] theorem sendHeadOut_kept (s : State) : kept (State.sendHeadOut s) = kept s := by
  unfold State.sendHeadOut
  rw [foldl_kept _ (fun t x => ?_)]
  · simp [kept, State.onHost]
  · have h := protect_kept t 3 [] x
    split <;> simp_all

@[simp] theorem openTick_kept (s : State) :
    kept (State.openTick s) = kept s := by
  simp [State.openTick, apply_ite kept]

@[simp] theorem otTick_kept (s : State) :
    kept (State.otTick s) = kept s := by
  simp [State.otTick, apply_ite kept]

@[simp] theorem writeMbx_kept (s : State) (off : Nat) (v : Nat) :
    kept (State.writeMbx s off v) = kept s := by
  unfold State.writeMbx
  (repeat' split) <;> simp [kept_mem, apply_ite kept]

@[simp] theorem writeNtf_kept (s : State) (off : Nat) (v : Nat) :
    kept (State.writeNtf s off v) = kept s := by
  simp [State.writeNtf, kept_mem, apply_ite kept]

@[simp] theorem writeTbl_kept (s : State) (off : Nat) (v : Nat) :
    kept (State.writeTbl s off v) = kept s := by
  simp [State.writeTbl, apply_ite kept]

@[simp] theorem writeMsix_kept (s : State) (off : Nat) (v : Nat) :
    kept (State.writeMsix s off v) = kept s := by
  simp [State.writeMsix, kept_mem, apply_ite kept]

@[simp] theorem windowWrite_queue (s : State) (a v : Nat) : (kept (s.windowWrite a v)).queue = (kept s).queue := by
  unfold State.windowWrite
  dsimp only
  (repeat' split) <;> simp

@[simp] theorem windowWrite_wf (s : State) (a v : Nat) (h : (kept s).mem.wf = true) : (kept (s.windowWrite a v)).mem.wf = true := by
  have k := writeBytes_wf _ a (le 4 v) h
  unfold State.windowWrite
  dsimp only
  (repeat' split) <;> simp [h, kept_mem, k]

@[simp] theorem registerWrite_queue (s : State) (a v : Nat) : (kept (s.registerWrite a v)).queue = (kept s).queue := by
  unfold State.registerWrite
  (repeat' split) <;> simp

@[simp] theorem registerWrite_wf (s : State) (a v : Nat) (h : (kept s).mem.wf = true) : (kept (s.registerWrite a v)).mem.wf = true := by
  unfold State.registerWrite
  (repeat' split) <;> simp [h, kept_mem]

@[simp] theorem withFetchWord_kept (s : State) (nbits : Nat) (w : Nat) :
    kept (State.withFetchWord s nbits w) = kept s := by
  rfl

end Sys2Proof.Laws
end

