-- ==== Sys2Proof/Laws/Exec.lean ====
section
/-! SUPPORT. What each command's meaning does to the queue and the ring memory: one lemma per meaning, two for those that write a ring. -/

namespace Sys2Proof.Laws
open Sys2Proof Sys2Proof.Machine

theorem execStoreRecordAccept_kept (q : Nat) (s : State) {t : State} (h : execStoreRecordAccept q s = .next t) : kept t = kept s := by
  simp only [execStoreRecordAccept, Host.Outcome.next.injEq] at h
  subst h
  simp

theorem execPageBufferTimeout_kept (stream : Nat) (s : State) {t : State} (h : execPageBufferTimeout stream s = .next t) : kept t = kept s := by
  simp only [execPageBufferTimeout, Host.Outcome.next.injEq] at h
  subst h
  simp

theorem execPageProgramDone_kept (ok : Bool) (s : State) {t : State} (h : execPageProgramDone ok s = .next t) : kept t = kept s := by
  simp only [execPageProgramDone, Host.Outcome.next.injEq] at h
  subst h
  simp

theorem execEraseDone_kept (ok : Bool) (die : Nat) (s : State) {t : State} (h : execEraseDone ok die s = .next t) : kept t = kept s := by
  simp only [execEraseDone, Host.Outcome.next.injEq] at h
  subst h
  simp

theorem execPageReadDone_kept (stream : Nat) (seq : Nat) (edgeBad : Bool) (uncorrectable : Bool) (retry : Nat) (pct : Nat) (s : State) {t : State} (h : execPageReadDone stream seq edgeBad uncorrectable retry pct s = .next t) : kept t = kept s := by
  simp only [execPageReadDone, Host.Outcome.next.injEq] at h
  subst h
  simp

theorem execDieHang_kept (die : Nat) (s : State) {t : State} (h : execDieHang die s = .next t) : kept t = kept s := by
  simp only [execDieHang, Host.Outcome.next.injEq] at h
  subst h
  simp

theorem execDieRetry_kept (die : Nat) (ok : Bool) (s : State) {t : State} (h : execDieRetry die ok s = .next t) : kept t = kept s := by
  simp only [execDieRetry, Host.Outcome.next.injEq] at h
  subst h
  simp

theorem execExpiryWeek_kept (s : State) {t : State} (h : execExpiryWeek s = .next t) : kept t = kept s := by
  simp only [execExpiryWeek, Host.Outcome.next.injEq] at h
  subst h
  simp

theorem execDevelopment_kept (pct : Nat) (s : State) {t : State} (h : execDevelopment pct s = .next t) : kept t = kept s := by
  simp only [execDevelopment, Host.Outcome.next.injEq] at h
  subst h
  simp

theorem execGarbageCollection_kept (pct : Nat) (s : State) {t : State} (h : execGarbageCollection pct s = .next t) : kept t = kept s := by
  simp only [execGarbageCollection, Host.Outcome.next.injEq] at h
  subst h
  simp

theorem execRefresh_kept (pct : Nat) (s : State) {t : State} (h : execRefresh pct s = .next t) : kept t = kept s := by
  simp only [execRefresh, Host.Outcome.next.injEq] at h
  subst h
  simp

theorem execWeightedAge_kept (t0 : Int) (t1 : Int) (s : State) {t : State} (h : execWeightedAge t0 t1 s = .next t) : kept t = kept s := by
  simp only [execWeightedAge, Host.Outcome.next.injEq] at h
  subst h
  simp

theorem execMapCheckpoint_kept (ok : Bool) (s : State) {t : State} (h : execMapCheckpoint ok s = .next t) : kept t = kept s := by
  simp only [execMapCheckpoint, Host.Outcome.next.injEq] at h
  subst h
  simp

theorem execStoreStatus_kept (c : HostCmd) (s : State) {t : State} (h : execStoreStatus c s = .next t) : kept t = kept s := by
  simp only [execStoreStatus, Host.Outcome.next.injEq] at h
  subst h
  simp

theorem execStoreDies_kept (c : HostCmd) (s : State) {t : State} (h : execStoreDies c s = .next t) : kept t = kept s := by
  simp only [execStoreDies, Host.Outcome.next.injEq] at h
  subst h
  simp

theorem execStoreRead_kept (c : HostCmd) (s : State) {t : State} (h : execStoreRead c s = .next t) : kept t = kept s := by
  simp only [execStoreRead, Host.Outcome.next.injEq] at h
  subst h
  simp

theorem execStoreRefreshNow_kept (c : HostCmd) (s : State) {t : State} (h : execStoreRefreshNow c s = .next t) : kept t = kept s := by
  simp only [execStoreRefreshNow, Host.Outcome.next.injEq] at h
  subst h
  refine serve_kept _ _ _ _ _ _ (fun t => ?_) (fun t => ?_) <;> simp

theorem execStoreStreamInfo_kept (c : HostCmd) (s : State) {t : State} (h : execStoreStreamInfo c s = .next t) : kept t = kept s := by
  simp only [execStoreStreamInfo, Host.Outcome.next.injEq] at h
  subst h
  simp

theorem execStoreBatchList_kept (c : HostCmd) (s : State) {t : State} (h : execStoreBatchList c s = .next t) : kept t = kept s := by
  simp only [execStoreBatchList, Host.Outcome.next.injEq] at h
  subst h
  simp

theorem execStoreBatchRead_kept (c : HostCmd) (s : State) {t : State} (h : execStoreBatchRead c s = .next t) : kept t = kept s := by
  simp only [execStoreBatchRead, Host.Outcome.next.injEq] at h
  subst h
  refine serve_kept _ _ _ _ _ _ (fun t => ?_) (fun t => ?_) <;> simp

theorem execStoreBatchAck_kept (c : HostCmd) (s : State) {t : State} (h : execStoreBatchAck c s = .next t) : kept t = kept s := by
  simp only [execStoreBatchAck, Host.Outcome.next.injEq] at h
  subst h
  refine serve_kept _ _ _ _ _ _ (fun t => ?_) (fun t => ?_) <;> simp

theorem execStoreRelease_kept (c : HostCmd) (s : State) {t : State} (h : execStoreRelease c s = .next t) : kept t = kept s := by
  simp only [execStoreRelease, Host.Outcome.next.injEq] at h
  subst h
  refine serve_kept _ _ _ _ _ _ (fun t => ?_) (fun t => ?_) <;> (repeat' split) <;> simp

theorem execVolCreate_kept (c : HostCmd) (s : State) {t : State} (h : execVolCreate c s = .next t) : kept t = kept s := by
  simp only [execVolCreate, Host.Outcome.next.injEq] at h
  subst h
  refine serve_kept _ _ _ _ _ _ (fun t => ?_) (fun t => ?_) <;> simp

theorem execVolDelete_kept (c : HostCmd) (s : State) {t : State} (h : execVolDelete c s = .next t) : kept t = kept s := by
  simp only [execVolDelete, Host.Outcome.next.injEq] at h
  subst h
  refine serve_kept _ _ _ _ _ _ (fun t => ?_) (fun t => ?_) <;> simp

theorem execVolWrite_kept (c : HostCmd) (s : State) {t : State} (h : execVolWrite c s = .next t) : kept t = kept s := by
  simp only [execVolWrite, Host.Outcome.next.injEq] at h
  subst h
  refine serve_kept _ _ _ _ _ _ (fun t => ?_) (fun t => rfl)
  split <;> simp


theorem execVolRead_kept (c : HostCmd) (s : State) {t : State} (h : execVolRead c s = .next t) : kept t = kept s := by
  simp only [execVolRead, Host.Outcome.next.injEq] at h
  subst h
  refine serve_kept _ _ _ _ _ _ (fun t => ?_) (fun t => ?_) <;> simp [apply_ite Prod.fst]

theorem execVolTrim_kept (c : HostCmd) (s : State) {t : State} (h : execVolTrim c s = .next t) : kept t = kept s := by
  simp only [execVolTrim, Host.Outcome.next.injEq] at h
  subst h
  refine serve_kept _ _ _ _ _ _ (fun t => ?_) (fun t => ?_) <;> simp

theorem execRecorderPacket_queue (s : State) {t : State} (h : execRecorderPacket s = .next t) : (kept t).queue = (kept s).queue := by
  simp only [execRecorderPacket, Host.Outcome.next.injEq] at h
  subst h
  simp

theorem execRecorderPacket_wf (s : State) {t : State} (h : execRecorderPacket s = .next t) (w : (kept s).mem.wf = true) : (kept t).mem.wf = true := by
  simp only [execRecorderPacket, Host.Outcome.next.injEq] at h
  subst h
  simp [w]

theorem execBucketRefill_kept (src : Nat) (s : State) {t : State} (h : execBucketRefill src s = .next t) : kept t = kept s := by
  simp only [execBucketRefill, Host.Outcome.next.injEq] at h
  subst h
  simp

theorem execAnchorPeriodic_kept (s : State) {t : State} (h : execAnchorPeriodic s = .next t) : kept t = kept s := by
  simp only [execAnchorPeriodic, Host.Outcome.next.injEq] at h
  subst h
  simp

theorem execExposureExpiry_kept (handle : Nat) (s : State) {t : State} (h : execExposureExpiry handle s = .next t) : kept t = kept s := by
  simp only [execExposureExpiry, Host.Outcome.next.injEq] at h
  subst h
  simp

theorem execRecStatus_kept (c : HostCmd) (s : State) {t : State} (h : execRecStatus c s = .next t) : kept t = kept s := by
  simp only [execRecStatus, Host.Outcome.next.injEq] at h
  subst h
  simp

theorem execRecRead_kept (c : HostCmd) (s : State) {t : State} (h : execRecRead c s = .next t) : kept t = kept s := by
  simp only [execRecRead, Host.Outcome.next.injEq] at h
  subst h
  simp

theorem execRecExposeOpen_kept (c : HostCmd) (s : State) {t : State} (h : execRecExposeOpen c s = .next t) : kept t = kept s := by
  simp only [execRecExposeOpen, Host.Outcome.next.injEq] at h
  subst h
  refine serve_kept _ _ _ _ _ _ (fun t => ?_) (fun t => ?_) <;> simp

theorem execRecExposeRead_kept (c : HostCmd) (s : State) {t : State} (h : execRecExposeRead c s = .next t) : kept t = kept s := by
  simp only [execRecExposeRead, Host.Outcome.next.injEq] at h
  subst h
  refine serve_kept _ _ _ _ _ _ (fun t => ?_) (fun t => ?_) <;> (repeat' split) <;> simp

theorem execRecExposeClose_kept (c : HostCmd) (s : State) {t : State} (h : execRecExposeClose c s = .next t) : kept t = kept s := by
  simp only [execRecExposeClose, Host.Outcome.next.injEq] at h
  subst h
  refine serve_kept _ _ _ _ _ _ (fun t => ?_) (fun t => rfl)
  cases t.recd.exposures.find? (fun x => x.handle = getLE 0 4 c.req) <;> simp


theorem execRecAnchorNow_kept (c : HostCmd) (s : State) {t : State} (h : execRecAnchorNow c s = .next t) : kept t = kept s := by
  simp only [execRecAnchorNow, Host.Outcome.next.injEq] at h
  subst h
  refine serve_kept _ _ _ _ _ _ (fun t => ?_) (fun t => ?_) <;> simp

theorem execPtpSync_kept (port : Nat) (t1 : Int) (t2 : Int) (count : Nat) (s : State) {t : State} (h : execPtpSync port t1 t2 count s = .next t) : kept t = kept s := by
  simp only [execPtpSync, Host.Outcome.next.injEq] at h
  subst h
  simp

theorem execPtpDelayResp_kept (port : Nat) (t3 : Int) (t4 : Int) (count : Nat) (s : State) {t : State} (h : execPtpDelayResp port t3 t4 count s = .next t) : kept t = kept s := by
  simp only [execPtpDelayResp, Host.Outcome.next.injEq] at h
  subst h
  simp

theorem execPtpAnnounce_kept (port : Nat) (dataset : List Nat) (gm : Bytes) (utc : Option Int) (s : State) {t : State} (h : execPtpAnnounce port dataset gm utc s = .next t) : kept t = kept s := by
  simp only [execPtpAnnounce, Host.Outcome.next.injEq] at h
  subst h
  simp

theorem execPtpAnnounceTimeout_kept (port : Nat) (s : State) {t : State} (h : execPtpAnnounceTimeout port s = .next t) : kept t = kept s := by
  simp only [execPtpAnnounceTimeout, Host.Outcome.next.injEq] at h
  subst h
  simp

theorem execPtpSyncLoss_kept (port : Nat) (s : State) {t : State} (h : execPtpSyncLoss port s = .next t) : kept t = kept s := by
  simp only [execPtpSyncLoss, Host.Outcome.next.injEq] at h
  subst h
  simp [apply_ite kept]

theorem execPtpLocked_kept (port : Nat) (s : State) {t : State} (h : execPtpLocked port s = .next t) : kept t = kept s := by
  simp only [execPtpLocked, Host.Outcome.next.injEq] at h
  subst h
  simp

theorem execPtpSyncTx_kept (port : Nat) (announce : Bool) (s : State) {t : State} (h : execPtpSyncTx port announce s = .next t) : kept t = kept s := by
  simp only [execPtpSyncTx, Host.Outcome.next.injEq] at h
  subst h
  simp

theorem execPtpDelayReqTx_kept (port : Nat) (s : State) {t : State} (h : execPtpDelayReqTx port s = .next t) : kept t = kept s := by
  simp only [execPtpDelayReqTx, Host.Outcome.next.injEq] at h
  subst h
  simp

theorem execPtpDelayReqReceived_kept (port : Nat) (seq : Nat) (requester : Bytes) (t4 : Nat) (s : State) {t : State} (h : execPtpDelayReqReceived port seq requester t4 s = .next t) : kept t = kept s := by
  simp only [execPtpDelayReqReceived, Host.Outcome.next.injEq] at h
  subst h
  simp

theorem execPtpManagement_kept (port : Nat) (seq : Nat) (action : Nat) (tlv : Bytes) (s : State) {t : State} (h : execPtpManagement port seq action tlv s = .next t) : kept t = kept s := by
  simp only [execPtpManagement, Host.Outcome.next.injEq] at h
  subst h
  simp

theorem execEthLinkChange_kept (port : Nat) (up : Bool) (s : State) {t : State} (h : execEthLinkChange port up s = .next t) : kept t = kept s := by
  simp only [execEthLinkChange, Host.Outcome.next.injEq] at h
  subst h
  simp

theorem execHostSourceLost_kept (s : State) {t : State} (h : execHostSourceLost s = .next t) : kept t = kept s := by
  simp only [execHostSourceLost, Host.Outcome.next.injEq] at h
  subst h
  simp

theorem execHoldoverExpiry_kept (s : State) {t : State} (h : execHoldoverExpiry s = .next t) : kept t = kept s := by
  simp only [execHoldoverExpiry, Host.Outcome.next.injEq] at h
  subst h
  simp

theorem execUnlockExpiry_kept (s : State) {t : State} (h : execUnlockExpiry s = .next t) : kept t = kept s := by
  simp only [execUnlockExpiry, Host.Outcome.next.injEq] at h
  subst h
  (repeat' split) <;> simp

theorem execFogStatus_kept (c : HostCmd) (s : State) {t : State} (h : execFogStatus c s = .next t) : kept t = kept s := by
  simp only [execFogStatus, Host.Outcome.next.injEq] at h
  subst h
  simp

theorem execFogInject_kept (c : HostCmd) (s : State) {t : State} (h : execFogInject c s = .next t) : kept t = kept s := by
  simp only [execFogInject, Host.Outcome.next.injEq] at h
  subst h
  refine serve_kept _ _ _ _ _ _ (fun t => ?_) (fun t => ?_) <;> simp

theorem execFogLock_kept (c : HostCmd) (s : State) {t : State} (h : execFogLock c s = .next t) : kept t = kept s := by
  simp only [execFogLock, Host.Outcome.next.injEq] at h
  subst h
  refine serve_kept _ _ _ _ _ _ (fun t => ?_) (fun t => ?_) <;> simp

theorem execDebugAttach_kept (s : State) {t : State} (h : execDebugAttach s = .next t) : kept t = kept s := by
  simp only [execDebugAttach, Host.Outcome.next.injEq] at h
  subst h
  simp

theorem execDebugWindowExpiry_kept (s : State) {t : State} (h : execDebugWindowExpiry s = .next t) : kept t = kept s := by
  simp only [execDebugWindowExpiry, Host.Outcome.next.injEq] at h
  subst h
  (repeat' split) <;> simp

theorem execTrngHealthFail_kept (test : Nat) (samples : Nat) (s : State) {t : State} (h : execTrngHealthFail test samples s = .next t) : kept t = kept s := by
  simp only [execTrngHealthFail, Host.Outcome.next.injEq] at h
  subst h
  simp

theorem execTrngRestart_kept (ok : Bool) (samples : Nat) (s : State) {t : State} (h : execTrngRestart ok samples s = .next t) : kept t = kept s := by
  simp only [execTrngRestart, Host.Outcome.next.injEq] at h
  subst h
  simp

theorem execDrbgReseed_kept (s : State) {t : State} (h : execDrbgReseed s = .next t) : kept t = kept s := by
  simp only [execDrbgReseed, Host.Outcome.next.injEq] at h
  subst h
  simp [apply_ite kept]

theorem execRngRead_kept (c : HostCmd) (s : State) {t : State} (h : execRngRead c s = .next t) : kept t = kept s := by
  simp only [execRngRead, Host.Outcome.next.injEq] at h
  subst h
  refine serve_kept _ _ _ _ _ _ (fun t => ?_) (fun t => ?_) <;> simp

theorem execKeyWrite_kept (c : HostCmd) (s : State) {t : State} (h : execKeyWrite c s = .next t) : kept t = kept s := by
  simp only [execKeyWrite, Host.Outcome.next.injEq] at h
  subst h
  refine serve_kept _ _ _ _ _ _ (fun t => ?_) (fun t => ?_) <;> simp

theorem execLifecycleAdvance_kept (c : HostCmd) (s : State) {t : State} (h : execLifecycleAdvance c s = .next t) : kept t = kept s := by
  simp only [execLifecycleAdvance, Host.Outcome.next.injEq] at h
  subst h
  refine serve_kept _ _ _ _ _ _ (fun t => ?_) (fun t => ?_) <;> simp

theorem execFwBegin_kept (c : HostCmd) (s : State) {t : State} (h : execFwBegin c s = .next t) : kept t = kept s := by
  simp only [execFwBegin, Host.Outcome.next.injEq] at h
  subst h
  refine serve_kept _ _ _ _ _ _ (fun t => ?_) (fun t => ?_) <;> simp

theorem execFwWrite_kept (c : HostCmd) (s : State) {t : State} (h : execFwWrite c s = .next t) : kept t = kept s := by
  simp only [execFwWrite, Host.Outcome.next.injEq] at h
  subst h
  refine serve_kept _ _ _ _ _ _ (fun t => ?_) (fun t => ?_) <;> simp

theorem execFwVerify_kept (c : HostCmd) (s : State) {t : State} (h : execFwVerify c s = .next t) : kept t = kept s := by
  simp only [execFwVerify, Host.Outcome.next.injEq] at h
  subst h
  refine serve_kept _ _ _ _ _ _ (fun t => ?_) (fun t => ?_) <;> simp

theorem execFwActivate_kept (c : HostCmd) (s : State) {t : State} (h : execFwActivate c s = .next t) : kept t = kept s := by
  simp only [execFwActivate, Host.Outcome.next.injEq] at h
  subst h
  refine serve_kept _ _ _ _ _ _ (fun t => ?_) (fun t => ?_) <;> simp

theorem execFwConfirm_kept (c : HostCmd) (s : State) {t : State} (h : execFwConfirm c s = .next t) : kept t = kept s := by
  simp only [execFwConfirm, Host.Outcome.next.injEq] at h
  subst h
  refine serve_kept _ _ _ _ _ _ (fun t => ?_) (fun t => ?_) <;> simp

theorem execFwStatus_kept (c : HostCmd) (s : State) {t : State} (h : execFwStatus c s = .next t) : kept t = kept s := by
  simp only [execFwStatus, Host.Outcome.next.injEq] at h
  subst h
  simp

theorem execSubmitOpenDoc_kept (c : HostCmd) (s : State) {t : State} (h : execSubmitOpenDoc c s = .next t) : kept t = kept s := by
  simp only [execSubmitOpenDoc, Host.Outcome.next.injEq] at h
  subst h
  refine serve_kept _ _ _ _ _ _ (fun t => ?_) (fun t => ?_) <;> simp

theorem execAttest_kept (c : HostCmd) (s : State) {t : State} (h : execAttest c s = .next t) : kept t = kept s := by
  simp only [execAttest, Host.Outcome.next.injEq] at h
  subst h
  refine serve_kept _ _ _ _ _ _ (fun t => ?_) (fun t => rfl)
  have e := random_kept t 32
  dsimp only
  split <;> simp_all


theorem execCertRead_kept (c : HostCmd) (s : State) {t : State} (h : execCertRead c s = .next t) : kept t = kept s := by
  simp only [execCertRead, Host.Outcome.next.injEq] at h
  subst h
  simp

theorem execSecStatus_kept (c : HostCmd) (s : State) {t : State} (h : execSecStatus c s = .next t) : kept t = kept s := by
  simp only [execSecStatus, Host.Outcome.next.injEq] at h
  subst h
  simp

theorem execProtectedRecordRx_kept (header : Bytes) (record : Bytes) (s : State) {t : State} (h : execProtectedRecordRx header record s = .next t) : kept t = kept s := by
  simp only [execProtectedRecordRx, Host.Outcome.next.injEq] at h
  subst h
  simp

theorem execTransportEpochRoll_kept (ch : Nat) (s : State) {t : State} (h : execTransportEpochRoll ch s = .next t) : kept t = kept s := by
  simp only [execTransportEpochRoll, Host.Outcome.next.injEq] at h
  subst h
  simp [apply_ite kept]

theorem execTransportRekey_kept (c : HostCmd) (s : State) {t : State} (h : execTransportRekey c s = .next t) : kept t = kept s := by
  simp only [execTransportRekey, Host.Outcome.next.injEq] at h
  subst h
  refine serve_kept _ _ _ _ _ _ (fun t => ?_) (fun t => ?_) <;> simp

theorem execJournalPartReoffer_kept (s : State) {t : State} (h : execJournalPartReoffer s = .next t) : kept t = kept s := by
  simp only [execJournalPartReoffer, Host.Outcome.next.injEq] at h
  subst h
  simp [apply_ite kept]

theorem execSealedOutputResume_kept (s : State) {t : State} (h : execSealedOutputResume s = .next t) : kept t = kept s := by
  simp only [execSealedOutputResume, Host.Outcome.next.injEq] at h
  subst h
  simp

theorem execBatchAgeExpiry_kept (s : State) {t : State} (h : execBatchAgeExpiry s = .next t) : kept t = kept s := by
  simp only [execBatchAgeExpiry, Host.Outcome.next.injEq] at h
  subst h
  simp

theorem execBatchTrailerReady_kept (s : State) {t : State} (h : execBatchTrailerReady s = .next t) : kept t = kept s := by
  simp only [execBatchTrailerReady, Host.Outcome.next.injEq] at h
  subst h
  simp

theorem execMinuteEvaluation_kept (s : State) {t : State} (h : execMinuteEvaluation s = .next t) : kept t = kept s := by
  simp only [execMinuteEvaluation, Host.Outcome.next.injEq] at h
  subst h
  simp

theorem execStateEmit_kept (s : State) {t : State} (h : execStateEmit s = .next t) : kept t = kept s := by
  simp only [execStateEmit, Host.Outcome.next.injEq] at h
  subst h
  simp

theorem execReassemblyTimeout_kept (eix : Nat) (s : State) {t : State} (h : execReassemblyTimeout eix s = .next t) : kept t = kept s := by
  simp only [execReassemblyTimeout, Host.Outcome.next.injEq] at h
  subst h
  simp

theorem execSealedApduProcess_kept (s : State) {t : State} (h : execSealedApduProcess s = .next t) : kept t = kept s := by
  simp only [execSealedApduProcess, Host.Outcome.next.injEq] at h
  subst h
  simp

theorem execZxLost_kept (channel : Nat) (s : State) {t : State} (h : execZxLost channel s = .next t) : kept t = kept s := by
  simp only [execZxLost, Host.Outcome.next.injEq] at h
  subst h
  simp

theorem execZxRegained_kept (channel : Nat) (s : State) {t : State} (h : execZxRegained channel s = .next t) : kept t = kept s := by
  simp only [execZxRegained, Host.Outcome.next.injEq] at h
  subst h
  simp

theorem execZxStampsSend_kept (s : State) {t : State} (h : execZxStampsSend s = .next t) : kept t = kept s := by
  simp only [execZxStampsSend, Host.Outcome.next.injEq] at h
  subst h
  simp

theorem execMetroSample_kept (volts : List Int) (vne : Int) (currents : List Int) (neutrals : List Int) (s : State) {t : State} (h : execMetroSample volts vne currents neutrals s = .next t) : kept t = kept s := by
  simp only [execMetroSample, Host.Outcome.next.injEq] at h
  subst h
  simp

theorem execMetroPeriodEnd_kept (s : State) {t : State} (h : execMetroPeriodEnd s = .next t) : kept t = kept s := by
  simp only [execMetroPeriodEnd, Host.Outcome.next.injEq] at h
  subst h
  simp

theorem execCalendarExecution_kept (s : State) {t : State} (h : execCalendarExecution s = .next t) : kept t = kept s := by
  simp only [execCalendarExecution, Host.Outcome.next.injEq] at h
  subst h
  simp

theorem execTimeOffer_kept (s : State) {t : State} (h : execTimeOffer s = .next t) : kept t = kept s := by
  simp only [execTimeOffer, Host.Outcome.next.injEq] at h
  subst h
  exact answer_kept _ _ _ (fun t b => by simp)

theorem execSealNChange_kept (level : Bool) (s : State) {t : State} (h : execSealNChange level s = .next t) : kept t = kept s := by
  simp only [execSealNChange, Host.Outcome.next.injEq] at h
  subst h
  simp

theorem execSealSessionExpiry_kept (s : State) {t : State} (h : execSealSessionExpiry s = .next t) : kept t = kept s := by
  simp only [execSealSessionExpiry, Host.Outcome.next.injEq] at h
  subst h
  simp

theorem execStampChange_kept (input : Nat) (level : Bool) (s : State) {t : State} (h : execStampChange input level s = .next t) : kept t = kept s := by
  simp only [execStampChange, Host.Outcome.next.injEq] at h
  subst h
  simp

theorem execTariffDoc_kept (s : State) {t : State} (h : execTariffDoc s = .next t) : kept t = kept s := by
  simp only [execTariffDoc, Host.Outcome.next.injEq] at h
  subst h
  exact answer_kept _ _ _ (fun t b => by simp [apply_ite Prod.fst, apply_ite kept])

theorem execCreditTxn_kept (s : State) {t : State} (h : execCreditTxn s = .next t) : kept t = kept s := by
  simp only [execCreditTxn, Host.Outcome.next.injEq] at h
  subst h
  exact answer_kept _ _ _ (fun t b => by simp [apply_ite Prod.fst, apply_ite kept])

theorem execSealedConfig_kept (s : State) {t : State} (h : execSealedConfig s = .next t) : kept t = kept s := by
  simp only [execSealedConfig, Host.Outcome.next.injEq] at h
  subst h
  split
  · split
    · rfl
    · exact answer_kept _ _ _ (fun t b => by simp)
  · rfl


theorem execSealedFirmwareSegment_kept (s : State) {t : State} (h : execSealedFirmwareSegment s = .next t) : kept t = kept s := by
  simp only [execSealedFirmwareSegment, Host.Outcome.next.injEq] at h
  subst h
  split
  · split
    · exact answer_kept _ _ _ (fun t b => by simp)
    · rfl
  · rfl


theorem execSegmentTimeout_kept (s : State) {t : State} (h : execSegmentTimeout s = .next t) : kept t = kept s := by
  simp only [execSegmentTimeout, Host.Outcome.next.injEq] at h
  subst h
  simp

theorem execSealedDieStart_kept (offNs : Nat) (s : State) {t : State} (h : execSealedDieStart offNs s = .next t) : kept t = kept s := by
  simp only [execSealedDieStart, Host.Outcome.next.injEq] at h
  subst h
  simp

theorem execReadReturnUnit_kept (s : State) {t : State} (h : execReadReturnUnit s = .next t) : kept t = kept s := by
  simp only [execReadReturnUnit, Host.Outcome.next.injEq] at h
  subst h
  simp

theorem execSealedCheckpoint_kept (s : State) {t : State} (h : execSealedCheckpoint s = .next t) : kept t = kept s := by
  simp only [execSealedCheckpoint, Host.Outcome.next.injEq] at h
  subst h
  simp [apply_ite kept]

theorem execAckUnit_kept (s : State) {t : State} (h : execAckUnit s = .next t) : kept t = kept s := by
  simp only [execAckUnit, Host.Outcome.next.injEq] at h
  subst h
  (repeat' split) <;> simp

theorem execStoreResultUnit_kept (s : State) {t : State} (h : execStoreResultUnit s = .next t) : kept t = kept s := by
  simp only [execStoreResultUnit, Host.Outcome.next.injEq] at h
  subst h
  (repeat' split) <;> simp

theorem execSealedTemperature_kept (centiC : Int) (s : State) {t : State} (h : execSealedTemperature centiC s = .next t) : kept t = kept s := by
  simp only [execSealedTemperature, Host.Outcome.next.injEq] at h
  subst h
  simp

theorem execGateTransmit_kept (s : State) {t : State} (h : execGateTransmit s = .next t) : kept t = kept s := by
  simp only [execGateTransmit, Host.Outcome.next.injEq] at h
  subst h
  simp

theorem execGateInboundMessage_kept (received : Option Bytes) (s : State) {t : State} (h : execGateInboundMessage received s = .next t) : kept t = kept s := by
  simp only [execGateInboundMessage, Host.Outcome.next.injEq] at h
  subst h
  simp

theorem execResponseUnit_kept (s : State) {t : State} (h : execResponseUnit s = .next t) : kept t = kept s := by
  simp only [execResponseUnit, Host.Outcome.next.injEq] at h
  subst h
  simp

theorem execGateOutboundReceive_kept (damaged : Bool) (s : State) {t : State} (h : execGateOutboundReceive damaged s = .next t) : kept t = kept s := by
  simp only [execGateOutboundReceive, Host.Outcome.next.injEq] at h
  subst h
  simp

theorem execReadRequestUnit_kept (s : State) {t : State} (h : execReadRequestUnit s = .next t) : kept t = kept s := by
  simp only [execReadRequestUnit, Host.Outcome.next.injEq] at h
  subst h
  simp

theorem execReleaseUnit_kept (s : State) {t : State} (h : execReleaseUnit s = .next t) : kept t = kept s := by
  simp only [execReleaseUnit, Host.Outcome.next.injEq] at h
  subst h
  simp

theorem execGateLinkReset_kept (cause : Nat) (s : State) {t : State} (h : execGateLinkReset cause s = .next t) : kept t = kept s := by
  simp only [execGateLinkReset, Host.Outcome.next.injEq] at h
  subst h
  simp

theorem execLookup_kept (kind : Nat) (key : Bytes) (port : Nat) (cost : Nat) (stamp : Nat) (mismatches : Nat) (ecc : Nat) (s : State) {t : State} (h : execLookup kind key port cost stamp mismatches ecc s = .next t) : kept t = kept s := by
  simp only [execLookup, Host.Outcome.next.injEq] at h
  subst h
  simp

theorem execNoticeTtlExpiry_kept (number : Nat) (s : State) {t : State} (h : execNoticeTtlExpiry number s = .next t) : kept t = kept s := by
  simp only [execNoticeTtlExpiry, Host.Outcome.next.injEq] at h
  subst h
  simp

theorem execAgingPass_kept (s : State) {t : State} (h : execAgingPass s = .next t) : kept t = kept s := by
  simp only [execAgingPass, Host.Outcome.next.injEq] at h
  subst h
  simp

theorem execProofingScan_kept (region : Nat) (group : Nat) (upset : List Nat) (s : State) {t : State} (h : execProofingScan region group upset s = .next t) : kept t = kept s := by
  simp only [execProofingScan, Host.Outcome.next.injEq] at h
  subst h
  simp

theorem execShadowCommit_kept (s : State) {t : State} (h : execShadowCommit s = .next t) : kept t = kept s := by
  simp only [execShadowCommit, Host.Outcome.next.injEq] at h
  subst h
  simp

theorem execRehashComplete_kept (us : Nat) (s : State) {t : State} (h : execRehashComplete us s = .next t) : kept t = kept s := by
  simp only [execRehashComplete, Host.Outcome.next.injEq] at h
  subst h
  simp

theorem execTblRead_kept (inst : Nat) (get : TblGet) (s : State) {t : State} (h : execTblRead inst get s = .next t) : kept t = kept s := by
  simp only [execTblRead, Host.Outcome.next.injEq] at h
  subst h
  simp

theorem execTblWrite_kept (inst : Nat) (kind : Nat) (mode : Nat) (s : State) {t : State} (h : execTblWrite inst kind mode s = .next t) : kept t = kept s := by
  simp only [execTblWrite, Host.Outcome.next.injEq] at h
  subst h
  simp

theorem execTblDelete_kept (inst : Nat) (kind : Nat) (s : State) {t : State} (h : execTblDelete inst kind s = .next t) : kept t = kept s := by
  simp only [execTblDelete, Host.Outcome.next.injEq] at h
  subst h
  simp

theorem execTblSearch_kept (inst : Nat) (get : TblGet) (s : State) {t : State} (h : execTblSearch inst get s = .next t) : kept t = kept s := by
  simp only [execTblSearch, Host.Outcome.next.injEq] at h
  subst h
  simp

theorem execTblNext_kept (inst : Nat) (get : TblGet) (s : State) {t : State} (h : execTblNext inst get s = .next t) : kept t = kept s := by
  simp only [execTblNext, Host.Outcome.next.injEq] at h
  subst h
  simp

theorem execTblFlushPort_kept (inst : Nat) (mode : Nat) (s : State) {t : State} (h : execTblFlushPort inst mode s = .next t) : kept t = kept s := by
  simp only [execTblFlushPort, Host.Outcome.next.injEq] at h
  subst h
  simp

theorem execTblStatus_kept (c : HostCmd) (s : State) {t : State} (h : execTblStatus c s = .next t) : kept t = kept s := by
  simp only [execTblStatus, Host.Outcome.next.injEq] at h
  subst h
  simp

theorem execTblOp_kept (c : HostCmd) (s : State) {t : State} (h : execTblOp c s = .next t) : kept t = kept s := by
  simp only [execTblOp, Host.Outcome.next.injEq] at h
  subst h
  refine serve_kept _ _ _ _ _ _ (fun t => ?_) (fun t => ?_) <;> simp

theorem execTblRehash_kept (c : HostCmd) (s : State) {t : State} (h : execTblRehash c s = .next t) : kept t = kept s := by
  simp only [execTblRehash, Host.Outcome.next.injEq] at h
  subst h
  refine serve_kept _ _ _ _ _ _ (fun t => ?_) (fun t => ?_) <;> simp

theorem execTblNotices_kept (c : HostCmd) (s : State) {t : State} (h : execTblNotices c s = .next t) : kept t = kept s := by
  simp only [execTblNotices, Host.Outcome.next.injEq] at h
  subst h
  simp

theorem execTblProof_kept (c : HostCmd) (s : State) {t : State} (h : execTblProof c s = .next t) : kept t = kept s := by
  simp only [execTblProof, Host.Outcome.next.injEq] at h
  subst h
  refine serve_kept _ _ _ _ _ _ (fun t => ?_) (fun t => ?_) <;> simp

theorem execProfileRead_kept (eix : Nat) (s : State) {t : State} (h : execProfileRead eix s = .next t) : kept t = kept s := by
  simp only [execProfileRead, Host.Outcome.next.injEq] at h
  subst h
  simp

theorem execReceivedFrameHandle_kept (q : Nat) (s : State) {t : State} (h : execReceivedFrameHandle q s = .next t) : kept t = kept s := by
  simp only [execReceivedFrameHandle, Host.Outcome.next.injEq] at h
  subst h
  simp

theorem execOrderAttempt_kept (eix : Nat) (s : State) {t : State} (h : execOrderAttempt eix s = .next t) : kept t = kept s := by
  simp only [execOrderAttempt, Host.Outcome.next.injEq] at h
  subst h
  simp

theorem execOrderResponse_kept (eix : Nat) (s : State) {t : State} (h : execOrderResponse eix s = .next t) : kept t = kept s := by
  simp only [execOrderResponse, Host.Outcome.next.injEq] at h
  subst h
  simp

theorem execControlStateRead_kept (eix : Nat) (result : Option Nat) (s : State) {t : State} (h : execControlStateRead eix result s = .next t) : kept t = kept s := by
  simp only [execControlStateRead, Host.Outcome.next.injEq] at h
  subst h
  simp

theorem execOrderGetTimeout_kept (eix : Nat) (s : State) {t : State} (h : execOrderGetTimeout eix s = .next t) : kept t = kept s := by
  simp only [execOrderGetTimeout, Host.Outcome.next.injEq] at h
  subst h
  (repeat' split) <;> simp

theorem execOrderResponseWindow_kept (eix : Nat) (s : State) {t : State} (h : execOrderResponseWindow eix s = .next t) : kept t = kept s := by
  simp only [execOrderResponseWindow, Host.Outcome.next.injEq] at h
  subst h
  simp

theorem execCpSealedPacket_kept (s : State) {t : State} (h : execCpSealedPacket s = .next t) : kept t = kept s := by
  simp only [execCpSealedPacket, Host.Outcome.next.injEq] at h
  subst h
  simp

theorem execSealedEventRecord_queue (s : State) {t : State} (h : execSealedEventRecord s = .next t) : (kept t).queue = (kept s).queue := by
  simp only [execSealedEventRecord, Host.Outcome.next.injEq] at h
  subst h
  simp

theorem execSealedEventRecord_wf (s : State) {t : State} (h : execSealedEventRecord s = .next t) (w : (kept s).mem.wf = true) : (kept t).mem.wf = true := by
  simp only [execSealedEventRecord, Host.Outcome.next.injEq] at h
  subst h
  simp [w]

theorem execDoorbell_queue (tail : Nat) (written : Bytes) (dmaFail : Bool) (s : State) {t : State} (h : execDoorbell tail written dmaFail s = .next t) : (kept t).queue = (kept s).queue := by
  simp only [execDoorbell, Host.Outcome.next.injEq] at h
  subst h
  simp

theorem execDoorbell_wf (tail : Nat) (written : Bytes) (dmaFail : Bool) (s : State) {t : State} (h : execDoorbell tail written dmaFail s = .next t) (w : (kept s).mem.wf = true) : (kept t).mem.wf = true := by
  simp only [execDoorbell, Host.Outcome.next.injEq] at h
  subst h
  simp [w]

theorem execMailboxEnable_kept (v : Nat) (s : State) {t : State} (h : execMailboxEnable v s = .next t) : kept t = kept s := by
  simp only [execMailboxEnable, Host.Outcome.next.injEq] at h
  subst h
  simp

theorem execCompletionHeadWrite_kept (v : Nat) (s : State) {t : State} (h : execCompletionHeadWrite v s = .next t) : kept t = kept s := by
  simp only [execCompletionHeadWrite, Host.Outcome.next.injEq] at h
  subst h
  simp

theorem execNotificationHeadWrite_queue (v : Nat) (s : State) {t : State} (h : execNotificationHeadWrite v s = .next t) : (kept t).queue = (kept s).queue := by
  simp only [execNotificationHeadWrite, Host.Outcome.next.injEq] at h
  subst h
  simp

theorem execNotificationHeadWrite_wf (v : Nat) (s : State) {t : State} (h : execNotificationHeadWrite v s = .next t) (w : (kept s).mem.wf = true) : (kept t).mem.wf = true := by
  simp only [execNotificationHeadWrite, Host.Outcome.next.injEq] at h
  subst h
  simp [w]

theorem execNotificationEnable_kept (v : Nat) (s : State) {t : State} (h : execNotificationEnable v s = .next t) : kept t = kept s := by
  simp only [execNotificationEnable, Host.Outcome.next.injEq] at h
  subst h
  simp

theorem execNtfLostRead_kept (s : State) {t : State} (h : execNtfLostRead s = .next t) : kept t = kept s := by
  simp only [execNtfLostRead, Host.Outcome.next.injEq] at h
  subst h
  simp [kept_mem]

theorem execQueRefusedRead_kept (s : State) {t : State} (h : execQueRefusedRead s = .next t) : kept t = kept s := by
  simp only [execQueRefusedRead, Host.Outcome.next.injEq] at h
  subst h
  simp [kept_mem]

theorem execQspiStatusRead_kept (s : State) {t : State} (h : execQspiStatusRead s = .next t) : kept t = kept s := by
  simp only [execQspiStatusRead, Host.Outcome.next.injEq] at h
  subst h
  simp [kept_mem]

theorem execCompletionWrite_queue (dmaFail : Bool) (s : State) {t : State} (h : execCompletionWrite dmaFail s = .next t) : (kept t).queue = (kept s).queue := by
  simp only [execCompletionWrite, Host.Outcome.next.injEq] at h
  subst h
  simp

theorem execCompletionWrite_wf (dmaFail : Bool) (s : State) {t : State} (h : execCompletionWrite dmaFail s = .next t) (w : (kept s).mem.wf = true) : (kept t).mem.wf = true := by
  simp only [execCompletionWrite, Host.Outcome.next.injEq] at h
  subst h
  simp [w]

theorem execCommandTimeout_kept (headend : Bool) (tag : Nat) (s : State) {t : State} (h : execCommandTimeout headend tag s = .next t) : kept t = kept s := by
  simp only [execCommandTimeout, Host.Outcome.next.injEq] at h
  subst h
  simp

theorem execPcieLinkReset_kept (kind : Nat) (s : State) {t : State} (h : execPcieLinkReset kind s = .next t) : kept t = kept s := by
  simp only [execPcieLinkReset, Host.Outcome.next.injEq] at h
  subst h
  simp

theorem execHostLinkUp_kept (rate : Nat) (width : Nat) (s : State) {t : State} (h : execHostLinkUp rate width s = .next t) : kept t = kept s := by
  simp only [execHostLinkUp, Host.Outcome.next.injEq] at h
  subst h
  simp

theorem execMsiCoalesce_kept (vector : Nat) (s : State) {t : State} (h : execMsiCoalesce vector s = .next t) : kept t = kept s := by
  simp only [execMsiCoalesce, Host.Outcome.next.injEq] at h
  subst h
  simp

theorem execHeadendCommand_kept (part : Bytes) (s : State) {t : State} (h : execHeadendCommand part s = .next t) : kept t = kept s := by
  simp only [execHeadendCommand, Host.Outcome.next.injEq] at h
  subst h
  simp

theorem execSysEcho_kept (c : HostCmd) (s : State) {t : State} (h : execSysEcho c s = .next t) : kept t = kept s := by
  simp only [execSysEcho, Host.Outcome.next.injEq] at h
  subst h
  refine serve_kept _ _ _ _ _ _ (fun t => ?_) (fun t => ?_) <;> simp

theorem execMbxStatus_kept (c : HostCmd) (s : State) {t : State} (h : execMbxStatus c s = .next t) : kept t = kept s := by
  simp only [execMbxStatus, Host.Outcome.next.injEq] at h
  subst h
  simp

theorem execLedgerRead_kept (c : HostCmd) (s : State) {t : State} (h : execLedgerRead c s = .next t) : kept t = kept s := by
  simp only [execLedgerRead, Host.Outcome.next.injEq] at h
  subst h
  refine serve_kept _ _ _ _ _ _ (fun t => ?_) (fun t => ?_) <;> simp

theorem execLedgerReadClose_kept (c : HostCmd) (s : State) {t : State} (h : execLedgerReadClose c s = .next t) : kept t = kept s := by
  simp only [execLedgerReadClose, Host.Outcome.next.injEq] at h
  subst h
  refine serve_kept _ _ _ _ _ _ (fun t => ?_) (fun t => ?_) <;> simp

theorem execLedgerReadSnapshots_kept (c : HostCmd) (s : State) {t : State} (h : execLedgerReadSnapshots c s = .next t) : kept t = kept s := by
  simp only [execLedgerReadSnapshots, Host.Outcome.next.injEq] at h
  subst h
  simp

theorem execLedgerList_kept (c : HostCmd) (s : State) {t : State} (h : execLedgerList c s = .next t) : kept t = kept s := by
  simp only [execLedgerList, Host.Outcome.next.injEq] at h
  subst h
  simp

theorem execLedgerSummary_kept (c : HostCmd) (s : State) {t : State} (h : execLedgerSummary c s = .next t) : kept t = kept s := by
  simp only [execLedgerSummary, Host.Outcome.next.injEq] at h
  subst h
  simp

theorem execOrderRetry_kept (c : HostCmd) (s : State) {t : State} (h : execOrderRetry c s = .next t) : kept t = kept s := by
  simp only [execOrderRetry, Host.Outcome.next.injEq] at h
  subst h
  refine serve_kept _ _ _ _ _ _ (fun t => ?_) (fun t => ?_) <;> simp

theorem execTariffStatus_kept (c : HostCmd) (s : State) {t : State} (h : execTariffStatus c s = .next t) : kept t = kept s := by
  simp only [execTariffStatus, Host.Outcome.next.injEq] at h
  subst h
  simp

theorem execTariffReadDoc_kept (c : HostCmd) (s : State) {t : State} (h : execTariffReadDoc c s = .next t) : kept t = kept s := by
  simp only [execTariffReadDoc, Host.Outcome.next.injEq] at h
  subst h
  refine serve_kept _ _ _ _ _ _ (fun t => ?_) (fun t => ?_) <;> simp

theorem execTariffEvaluate_kept (c : HostCmd) (s : State) {t : State} (h : execTariffEvaluate c s = .next t) : kept t = kept s := by
  simp only [execTariffEvaluate, Host.Outcome.next.injEq] at h
  subst h
  refine serve_kept _ _ _ _ _ _ (fun t => ?_) (fun t => ?_) <;> simp

theorem execTariffStepLog_kept (c : HostCmd) (s : State) {t : State} (h : execTariffStepLog c s = .next t) : kept t = kept s := by
  simp only [execTariffStepLog, Host.Outcome.next.injEq] at h
  subst h
  simp

theorem execGateStatus_kept (c : HostCmd) (s : State) {t : State} (h : execGateStatus c s = .next t) : kept t = kept s := by
  simp only [execGateStatus, Host.Outcome.next.injEq] at h
  subst h
  simp

theorem execReadIdent_kept (c : HostCmd) (s : State) {t : State} (h : execReadIdent c s = .next t) : kept t = kept s := by
  simp only [execReadIdent, Host.Outcome.next.injEq] at h
  subst h
  refine serve_kept _ _ _ _ _ _ (fun t => ?_) (fun t => ?_) <;> simp

theorem execCloseBatch_kept (c : HostCmd) (s : State) {t : State} (h : execCloseBatch c s = .next t) : kept t = kept s := by
  simp only [execCloseBatch, Host.Outcome.next.injEq] at h
  subst h
  refine serve_kept _ _ _ _ _ _ (fun t => ?_) (fun t => ?_) <;> simp

theorem execRequestReport_kept (c : HostCmd) (s : State) {t : State} (h : execRequestReport c s = .next t) : kept t = kept s := by
  simp only [execRequestReport, Host.Outcome.next.injEq] at h
  subst h
  refine serve_kept _ _ _ _ _ _ (fun t => ?_) (fun t => ?_) <;> simp

theorem execSubmitDocument_kept (c : HostCmd) (s : State) {t : State} (h : execSubmitDocument c s = .next t) : kept t = kept s := by
  simp only [execSubmitDocument, Host.Outcome.next.injEq] at h
  subst h
  refine serve_kept _ _ _ _ _ _ (fun t => ?_) (fun t => ?_) <;> simp

theorem execSubmitDocSegment_kept (c : HostCmd) (s : State) {t : State} (h : execSubmitDocSegment c s = .next t) : kept t = kept s := by
  simp only [execSubmitDocSegment, Host.Outcome.next.injEq] at h
  subst h
  refine serve_kept _ _ _ _ _ _ (fun t => ?_) (fun t => ?_) <;> simp

theorem execMetroLatest_kept (c : HostCmd) (s : State) {t : State} (h : execMetroLatest c s = .next t) : kept t = kept s := by
  simp only [execMetroLatest, Host.Outcome.next.injEq] at h
  subst h
  simp

theorem execMetroZxStatus_kept (c : HostCmd) (s : State) {t : State} (h : execMetroZxStatus c s = .next t) : kept t = kept s := by
  simp only [execMetroZxStatus, Host.Outcome.next.injEq] at h
  subst h
  simp

theorem execMetroReadObject_kept (c : HostCmd) (s : State) {t : State} (h : execMetroReadObject c s = .next t) : kept t = kept s := by
  simp only [execMetroReadObject, Host.Outcome.next.injEq] at h
  subst h
  refine serve_kept _ _ _ _ _ _ (fun t => ?_) (fun t => ?_) <;> simp

theorem execMetroVerifyMirror_kept (c : HostCmd) (s : State) {t : State} (h : execMetroVerifyMirror c s = .next t) : kept t = kept s := by
  simp only [execMetroVerifyMirror, Host.Outcome.next.injEq] at h
  subst h
  refine serve_kept _ _ _ _ _ _ (fun t => ?_) (fun t => ?_) <;> simp

theorem execMetroReadHistory_kept (c : HostCmd) (s : State) {t : State} (h : execMetroReadHistory c s = .next t) : kept t = kept s := by
  simp only [execMetroReadHistory, Host.Outcome.next.injEq] at h
  subst h
  simp

theorem execSecondMarker_kept (capture : Int) (s : State) {t : State} (h : execSecondMarker capture s = .next t) : kept t = kept s := by
  simp only [execSecondMarker, Host.Outcome.next.injEq] at h
  subst h
  simp

theorem execMarkerLost_kept (s : State) {t : State} (h : execMarkerLost s = .next t) : kept t = kept s := by
  simp only [execMarkerLost, Host.Outcome.next.injEq] at h
  subst h
  simp

theorem execZxInPacket_kept (s : State) {t : State} (h : execZxInPacket s = .next t) : kept t = kept s := by
  simp only [execZxInPacket, Host.Outcome.next.injEq] at h
  subst h
  simp [apply_ite kept]

theorem execTimeOfferDecision_kept (s : State) {t : State} (h : execTimeOfferDecision s = .next t) : kept t = kept s := by
  simp only [execTimeOfferDecision, Host.Outcome.next.injEq] at h
  subst h
  simp

theorem execTimeStatus_kept (c : HostCmd) (s : State) {t : State} (h : execTimeStatus c s = .next t) : kept t = kept s := by
  simp only [execTimeStatus, Host.Outcome.next.injEq] at h
  subst h
  simp

theorem execTimeSet_kept (c : HostCmd) (s : State) {t : State} (h : execTimeSet c s = .next t) : kept t = kept s := by
  simp only [execTimeSet, Host.Outcome.next.injEq] at h
  subst h
  refine serve_kept _ _ _ _ _ _ (fun t => ?_) (fun t => ?_) <;> simp

theorem execTimeGet_kept (c : HostCmd) (s : State) {t : State} (h : execTimeGet c s = .next t) : kept t = kept s := by
  simp only [execTimeGet, Host.Outcome.next.injEq] at h
  subst h
  simp

theorem execTimeSources_kept (c : HostCmd) (s : State) {t : State} (h : execTimeSources c s = .next t) : kept t = kept s := by
  simp only [execTimeSources, Host.Outcome.next.injEq] at h
  subst h
  simp

theorem execTimeOfferNow_kept (c : HostCmd) (s : State) {t : State} (h : execTimeOfferNow c s = .next t) : kept t = kept s := by
  simp only [execTimeOfferNow, Host.Outcome.next.injEq] at h
  subst h
  refine serve_kept _ _ _ _ _ _ (fun t => ?_) (fun t => ?_) <;> simp

theorem execPlcFrameReceive_kept (port : Nat) (f : PlcRx) (s : State) {t : State} (h : execPlcFrameReceive port f s = .next t) : kept t = kept s := by
  simp only [execPlcFrameReceive, Host.Outcome.next.injEq] at h
  subst h
  simp

theorem execPlcTransmit_kept (port : Nat) (air : PlcAir) (s : State) {t : State} (h : execPlcTransmit port air s = .next t) : kept t = kept s := by
  simp only [execPlcTransmit, Host.Outcome.next.injEq] at h
  subst h
  simp

theorem execPlcAckTimeout_kept (port : Nat) (impulsive : Bool) (air : PlcAir) (s : State) {t : State} (h : execPlcAckTimeout port impulsive air s = .next t) : kept t = kept s := by
  simp only [execPlcAckTimeout, Host.Outcome.next.injEq] at h
  subst h
  simp

theorem execPlcFltFall_kept (port : Nat) (s : State) {t : State} (h : execPlcFltFall port s = .next t) : kept t = kept s := by
  simp only [execPlcFltFall, Host.Outcome.next.injEq] at h
  subst h
  simp

theorem execPlcFaultClear_kept (port : Nat) (s : State) {t : State} (h : execPlcFaultClear port s = .next t) : kept t = kept s := by
  simp only [execPlcFaultClear, Host.Outcome.next.injEq] at h
  subst h
  simp

theorem execPlcFaultPersist_kept (port : Nat) (s : State) {t : State} (h : execPlcFaultPersist port s = .next t) : kept t = kept s := by
  simp only [execPlcFaultPersist, Host.Outcome.next.injEq] at h
  subst h
  (repeat' split) <;> simp

theorem execPlcPortWatchdog_kept (port : Nat) (s : State) {t : State} (h : execPlcPortWatchdog port s = .next t) : kept t = kept s := by
  simp only [execPlcPortWatchdog, Host.Outcome.next.injEq] at h
  subst h
  simp

theorem execRreqReceived_kept (port : Nat) (hop : Nat) (hops : Nat) (forDevice : Bool) (s : State) {t : State} (h : execRreqReceived port hop hops forDevice s = .next t) : kept t = kept s := by
  simp only [execRreqReceived, Host.Outcome.next.injEq] at h
  subst h
  simp

theorem execRrepReceived_kept (port : Nat) (dest : Nat) (hop : Nat) (cost : Nat) (hops : Nat) (s : State) {t : State} (h : execRrepReceived port dest hop cost hops s = .next t) : kept t = kept s := by
  simp only [execRrepReceived, Host.Outcome.next.injEq] at h
  subst h
  simp

theorem execRerrReceived_kept (port : Nat) (dest : Nat) (s : State) {t : State} (h : execRerrReceived port dest s = .next t) : kept t = kept s := by
  simp only [execRerrReceived, Host.Outcome.next.injEq] at h
  subst h
  simp [apply_ite kept]

theorem execRlcreqReceived_kept (link : PlcLink) (s : State) {t : State} (h : execRlcreqReceived link s = .next t) : kept t = kept s := by
  simp only [execRlcreqReceived, Host.Outcome.next.injEq] at h
  subst h
  simp

theorem execRlcrepReceived_kept (port : Nat) (hop : Nat) (cost : Nat) (s : State) {t : State} (h : execRlcrepReceived port hop cost s = .next t) : kept t = kept s := by
  simp only [execRlcrepReceived, Host.Outcome.next.injEq] at h
  subst h
  simp [apply_ite kept]

theorem execRreqWaitExpiry_kept (eix : Nat) (s : State) {t : State} (h : execRreqWaitExpiry eix s = .next t) : kept t = kept s := by
  simp only [execRreqWaitExpiry, Host.Outcome.next.injEq] at h
  subst h
  simp

theorem execRepeaterWaitExpiry_kept (eix : Nat) (s : State) {t : State} (h : execRepeaterWaitExpiry eix s = .next t) : kept t = kept s := by
  simp only [execRepeaterWaitExpiry, Host.Outcome.next.injEq] at h
  subst h
  simp

theorem execRouteExpiry_kept (port : Nat) (short : Nat) (s : State) {t : State} (h : execRouteExpiry port short s = .next t) : kept t = kept s := by
  simp only [execRouteExpiry, Host.Outcome.next.injEq] at h
  subst h
  (repeat' split) <;> simp

theorem execBlacklistExpiry_kept (port : Nat) (short : Nat) (s : State) {t : State} (h : execBlacklistExpiry port short s = .next t) : kept t = kept s := by
  simp only [execBlacklistExpiry, Host.Outcome.next.injEq] at h
  subst h
  (repeat' split) <;> simp

theorem execSightingExpiry_kept (eix : Nat) (s : State) {t : State} (h : execSightingExpiry eix s = .next t) : kept t = kept s := by
  simp only [execSightingExpiry, Host.Outcome.next.injEq] at h
  subst h
  simp

theorem execPlcTimeDelivery_kept (port : Nat) (eix : Nat) (commanded : Bool) (s : State) {t : State} (h : execPlcTimeDelivery port eix commanded s = .next t) : kept t = kept s := by
  simp only [execPlcTimeDelivery, Host.Outcome.next.injEq] at h
  subst h
  simp

theorem execPlcPortStatus_kept (c : HostCmd) (s : State) {t : State} (h : execPlcPortStatus c s = .next t) : kept t = kept s := by
  simp only [execPlcPortStatus, Host.Outcome.next.injEq] at h
  subst h
  refine serve_kept _ _ _ _ _ _ (fun t => ?_) (fun t => ?_) <;> simp

theorem execPlcNeighbours_kept (c : HostCmd) (s : State) {t : State} (h : execPlcNeighbours c s = .next t) : kept t = kept s := by
  simp only [execPlcNeighbours, Host.Outcome.next.injEq] at h
  subst h
  refine serve_kept _ _ _ _ _ _ (fun t => ?_) (fun t => ?_) <;> simp

theorem execPlcRouteRead_kept (c : HostCmd) (s : State) {t : State} (h : execPlcRouteRead c s = .next t) : kept t = kept s := by
  simp only [execPlcRouteRead, Host.Outcome.next.injEq] at h
  subst h
  refine serve_kept _ _ _ _ _ _ (fun t => ?_) (fun t => ?_) <;> simp

theorem execPlcRouteDiscover_kept (c : HostCmd) (s : State) {t : State} (h : execPlcRouteDiscover c s = .next t) : kept t = kept s := by
  simp only [execPlcRouteDiscover, Host.Outcome.next.injEq] at h
  subst h
  refine serve_kept _ _ _ _ _ _ (fun t => ?_) (fun t => ?_) <;> simp

theorem execPlcPhaseShare_kept (c : HostCmd) (s : State) {t : State} (h : execPlcPhaseShare c s = .next t) : kept t = kept s := by
  simp only [execPlcPhaseShare, Host.Outcome.next.injEq] at h
  subst h
  refine serve_kept _ _ _ _ _ _ (fun t => ?_) (fun t => ?_) <;> simp

theorem execPlcSetPsk_kept (c : HostCmd) (s : State) {t : State} (h : execPlcSetPsk c s = .next t) : kept t = kept s := by
  simp only [execPlcSetPsk, Host.Outcome.next.injEq] at h
  subst h
  refine serve_kept _ _ _ _ _ _ (fun t => ?_) (fun t => ?_) <;> (repeat' split) <;> simp

theorem execPlcGmkRotate_kept (c : HostCmd) (s : State) {t : State} (h : execPlcGmkRotate c s = .next t) : kept t = kept s := by
  simp only [execPlcGmkRotate, Host.Outcome.next.injEq] at h
  subst h
  refine serve_kept _ _ _ _ _ _ (fun t => ?_) (fun t => ?_) <;> simp [apply_ite kept]

theorem execPlcPortReset_kept (c : HostCmd) (s : State) {t : State} (h : execPlcPortReset c s = .next t) : kept t = kept s := by
  simp only [execPlcPortReset, Host.Outcome.next.injEq] at h
  subst h
  refine serve_kept _ _ _ _ _ _ (fun t => ?_) (fun t => ?_) <;> simp

theorem execPlcTimeDeliver_kept (c : HostCmd) (s : State) {t : State} (h : execPlcTimeDeliver c s = .next t) : kept t = kept s := by
  simp only [execPlcTimeDeliver, Host.Outcome.next.injEq] at h
  subst h
  refine serve_kept _ _ _ _ _ _ (fun t => ?_) (fun t => ?_) <;> simp

theorem execRfTimeslot_kept (n : Nat) (asn : Nat) (overhead : Nat) (beacon : Nat) (energy : List Int) (acked : Bool) (s : State) {t : State} (h : execRfTimeslot n asn overhead beacon energy acked s = .next t) : kept t = kept s := by
  simp only [execRfTimeslot, Host.Outcome.next.injEq] at h
  subst h
  simp

theorem execRfAckTimeout_kept (n : Nat) (s : State) {t : State} (h : execRfAckTimeout n s = .next t) : kept t = kept s := by
  simp only [execRfAckTimeout, Host.Outcome.next.injEq] at h
  subst h
  simp

theorem execSleepyMiss_kept (n : Nat) (eix : Nat) (s : State) {t : State} (h : execSleepyMiss n eix s = .next t) : kept t = kept s := by
  simp only [execSleepyMiss, Host.Outcome.next.injEq] at h
  subst h
  simp

theorem execRescueCellEmpty_kept (n : Nat) (s : State) {t : State} (h : execRescueCellEmpty n s = .next t) : kept t = kept s := by
  simp only [execRescueCellEmpty, Host.Outcome.next.injEq] at h
  subst h
  simp [apply_ite kept]

theorem execWalExhausted_kept (n : Nat) (eix : Nat) (s : State) {t : State} (h : execWalExhausted n eix s = .next t) : kept t = kept s := by
  simp only [execWalExhausted, Host.Outcome.next.injEq] at h
  subst h
  simp

theorem execRfFrameReceive_kept (n : Nat) (f : RfRx) (s : State) {t : State} (h : execRfFrameReceive n f s = .next t) : kept t = kept s := by
  simp only [execRfFrameReceive, Host.Outcome.next.injEq] at h
  subst h
  simp

theorem execRfTimeDelivery_kept (n : Nat) (eix : Nat) (commanded : Bool) (s : State) {t : State} (h : execRfTimeDelivery n eix commanded s = .next t) : kept t = kept s := by
  simp only [execRfTimeDelivery, Host.Outcome.next.injEq] at h
  subst h
  simp

theorem execRfWatchdog_kept (n : Nat) (s : State) {t : State} (h : execRfWatchdog n s = .next t) : kept t = kept s := by
  simp only [execRfWatchdog, Host.Outcome.next.injEq] at h
  subst h
  simp

theorem execEndpointLeave_kept (eix : Nat) (s : State) {t : State} (h : execEndpointLeave eix s = .next t) : kept t = kept s := by
  simp only [execEndpointLeave, Host.Outcome.next.injEq] at h
  subst h
  simp

theorem execRfStatus_kept (c : HostCmd) (s : State) {t : State} (h : execRfStatus c s = .next t) : kept t = kept s := by
  simp only [execRfStatus, Host.Outcome.next.injEq] at h
  subst h
  refine serve_kept _ _ _ _ _ _ (fun t => ?_) (fun t => ?_) <;> simp

theorem execRfSyncRead_kept (c : HostCmd) (s : State) {t : State} (h : execRfSyncRead c s = .next t) : kept t = kept s := by
  simp only [execRfSyncRead, Host.Outcome.next.injEq] at h
  subst h
  refine serve_kept _ _ _ _ _ _ (fun t => ?_) (fun t => ?_) <;> simp

theorem execRfScheduleRead_kept (c : HostCmd) (s : State) {t : State} (h : execRfScheduleRead c s = .next t) : kept t = kept s := by
  simp only [execRfScheduleRead, Host.Outcome.next.injEq] at h
  subst h
  refine serve_kept _ _ _ _ _ _ (fun t => ?_) (fun t => ?_) <;> simp

theorem execRfSetWake_kept (c : HostCmd) (s : State) {t : State} (h : execRfSetWake c s = .next t) : kept t = kept s := by
  simp only [execRfSetWake, Host.Outcome.next.injEq] at h
  subst h
  refine serve_kept _ _ _ _ _ _ (fun t => ?_) (fun t => ?_) <;> simp [apply_ite kept]

theorem execRfAirtime_kept (c : HostCmd) (s : State) {t : State} (h : execRfAirtime c s = .next t) : kept t = kept s := by
  simp only [execRfAirtime, Host.Outcome.next.injEq] at h
  subst h
  refine serve_kept _ _ _ _ _ _ (fun t => ?_) (fun t => ?_) <;> simp

theorem execRfKeyRotate_kept (c : HostCmd) (s : State) {t : State} (h : execRfKeyRotate c s = .next t) : kept t = kept s := by
  simp only [execRfKeyRotate, Host.Outcome.next.injEq] at h
  subst h
  refine serve_kept _ _ _ _ _ _ (fun t => ?_) (fun t => ?_) <;> simp [apply_ite kept]

theorem execRfRadioReset_kept (c : HostCmd) (s : State) {t : State} (h : execRfRadioReset c s = .next t) : kept t = kept s := by
  simp only [execRfRadioReset, Host.Outcome.next.injEq] at h
  subst h
  refine serve_kept _ _ _ _ _ _ (fun t => ?_) (fun t => ?_) <;> simp

theorem execRfTimeDeliver_kept (c : HostCmd) (s : State) {t : State} (h : execRfTimeDeliver c s = .next t) : kept t = kept s := by
  simp only [execRfTimeDeliver, Host.Outcome.next.injEq] at h
  subst h
  refine serve_kept _ _ _ _ _ _ (fun t => ?_) (fun t => ?_) <;> simp

theorem execBalInPacket_kept (s : State) {t : State} (h : execBalInPacket s = .next t) : kept t = kept s := by
  simp only [execBalInPacket, Host.Outcome.next.injEq] at h
  subst h
  simp

theorem execIntervalCloseWait_kept (n : Nat) (t : Nat) (s : State) {r : State} (h : execIntervalCloseWait n t s = .next r) : kept r = kept s := by
  simp only [execIntervalCloseWait, Host.Outcome.next.injEq] at h
  subst h
  simp

theorem execMemberSilent_kept (eix : Nat) (s : State) {t : State} (h : execMemberSilent eix s = .next t) : kept t = kept s := by
  simp only [execMemberSilent, Host.Outcome.next.injEq] at h
  subst h
  simp

theorem execBalanceSolveDone_kept (n : Nat) (s : State) {t : State} (h : execBalanceSolveDone n s = .next t) : kept t = kept s := by
  simp only [execBalanceSolveDone, Host.Outcome.next.injEq] at h
  subst h
  simp

theorem execBalanceRebuildDone_kept (sec : Nat) (s : State) {t : State} (h : execBalanceRebuildDone sec s = .next t) : kept t = kept s := by
  simp only [execBalanceRebuildDone, Host.Outcome.next.injEq] at h
  subst h
  simp

theorem execBalStatus_kept (c : HostCmd) (s : State) {t : State} (h : execBalStatus c s = .next t) : kept t = kept s := by
  simp only [execBalStatus, Host.Outcome.next.injEq] at h
  subst h
  simp

theorem execBalSetMembers_kept (c : HostCmd) (s : State) {t : State} (h : execBalSetMembers c s = .next t) : kept t = kept s := by
  simp only [execBalSetMembers, Host.Outcome.next.injEq] at h
  subst h
  refine serve_kept _ _ _ _ _ _ (fun t => ?_) (fun t => ?_) <;> simp

theorem execBalGetMember_kept (c : HostCmd) (s : State) {t : State} (h : execBalGetMember c s = .next t) : kept t = kept s := by
  simp only [execBalGetMember, Host.Outcome.next.injEq] at h
  subst h
  refine serve_kept _ _ _ _ _ _ (fun t => ?_) (fun t => ?_) <;> simp

theorem execBalReadScores_kept (c : HostCmd) (s : State) {t : State} (h : execBalReadScores c s = .next t) : kept t = kept s := by
  simp only [execBalReadScores, Host.Outcome.next.injEq] at h
  subst h
  refine serve_kept _ _ _ _ _ _ (fun t => ?_) (fun t => ?_) <;> simp

theorem execBalReadIntervals_kept (c : HostCmd) (s : State) {t : State} (h : execBalReadIntervals c s = .next t) : kept t = kept s := by
  simp only [execBalReadIntervals, Host.Outcome.next.injEq] at h
  subst h
  refine serve_kept _ _ _ _ _ _ (fun t => ?_) (fun t => ?_) <;> simp

theorem execBalSolveNow_kept (c : HostCmd) (s : State) {t : State} (h : execBalSolveNow c s = .next t) : kept t = kept s := by
  simp only [execBalSolveNow, Host.Outcome.next.injEq] at h
  subst h
  refine serve_kept _ _ _ _ _ _ (fun t => ?_) (fun t => ?_) <;> simp [apply_ite kept, foldl_kept]

theorem execBalApplyPhase_kept (c : HostCmd) (s : State) {t : State} (h : execBalApplyPhase c s = .next t) : kept t = kept s := by
  simp only [execBalApplyPhase, Host.Outcome.next.injEq] at h
  subst h
  refine serve_kept _ _ _ _ _ _ (fun t => ?_) (fun t => ?_) <;> (repeat' split) <;> simp

theorem execQueueOpen_kept (producer : Nat) (q : Nat) (c : Nat) (s : State) {t : State} (h : execQueueOpen producer q c s = .next t) : kept t = kept s := by
  simp only [execQueueOpen, Host.Outcome.next.injEq] at h
  subst h
  simp

theorem execOpenGrant_kept (s : State) {t : State} (h : execOpenGrant s = .next t) : kept t = kept s := by
  simp only [execOpenGrant, Host.Outcome.next.injEq] at h
  subst h
  simp

theorem execQueueClose_kept (producer : Nat) (q : Nat) (payload : Bytes) (s : State) {t : State} (h : execQueueClose producer q payload s = .next t) : kept t = kept s := by
  simp only [execQueueClose, Host.Outcome.next.injEq] at h
  subst h
  simp

theorem execConsumerRead_kept (q : Nat) (ecc : Nat) (s : State) {t : State} (h : execConsumerRead q ecc s = .next t) : kept t = kept s := by
  simp only [execConsumerRead, Host.Outcome.next.injEq] at h
  subst h
  simp

theorem execOpenTimeout_kept (producer : Nat) (q : Nat) (s : State) {t : State} (h : execOpenTimeout producer q s = .next t) : kept t = kept s := by
  simp only [execOpenTimeout, Host.Outcome.next.injEq] at h
  subst h
  simp

theorem execHeadExpiry_kept (q : Nat) (s : State) {t : State} (h : execHeadExpiry q s = .next t) : kept t = kept s := by
  simp only [execHeadExpiry, Host.Outcome.next.injEq] at h
  subst h
  simp

theorem execCreditWaitLong_kept (q : Nat) (ms : Nat) (held : Option Nat) (s : State) {t : State} (h : execCreditWaitLong q ms held s = .next t) : kept t = kept s := by
  simp only [execCreditWaitLong, Host.Outcome.next.injEq] at h
  subst h
  simp

theorem execFanoutPacket_kept (s : State) {t : State} (h : execFanoutPacket s = .next t) : kept t = kept s := by
  simp only [execFanoutPacket, Host.Outcome.next.injEq] at h
  subst h
  simp

theorem execMemberResponse_kept (c : Nat) (eix : Nat) (ok : Bool) (nums : List Nat) (data : Bytes) (s : State) {t : State} (h : execMemberResponse c eix ok nums data s = .next t) : kept t = kept s := by
  simp only [execMemberResponse, Host.Outcome.next.injEq] at h
  subst h
  simp

theorem execMemberRequestTimeout_kept (c : Nat) (eix : Nat) (s : State) {t : State} (h : execMemberRequestTimeout c eix s = .next t) : kept t = kept s := by
  simp only [execMemberRequestTimeout, Host.Outcome.next.injEq] at h
  subst h
  simp

theorem execVerifyPoll_kept (c : Nat) (eix : Nat) (s : State) {t : State} (h : execVerifyPoll c eix s = .next t) : kept t = kept s := by
  simp only [execVerifyPoll, Host.Outcome.next.injEq] at h
  subst h
  simp

theorem execVerifyTimeout_kept (c : Nat) (eix : Nat) (s : State) {t : State} (h : execVerifyTimeout c eix s = .next t) : kept t = kept s := by
  simp only [execVerifyTimeout, Host.Outcome.next.injEq] at h
  subst h
  simp

theorem execContentLoaded_kept (c : Nat) (s : State) {t : State} (h : execContentLoaded c s = .next t) : kept t = kept s := by
  simp only [execContentLoaded, Host.Outcome.next.injEq] at h
  subst h
  simp

theorem execMulticastFrame_kept (c : Nat) (s : State) {t : State} (h : execMulticastFrame c s = .next t) : kept t = kept s := by
  simp only [execMulticastFrame, Host.Outcome.next.injEq] at h
  subst h
  simp

theorem execActivationDue_kept (c : Nat) (s : State) {t : State} (h : execActivationDue c s = .next t) : kept t = kept s := by
  simp only [execActivationDue, Host.Outcome.next.injEq] at h
  subst h
  simp

theorem execLbpJoin_kept (port : Nat) (eui : Bytes) (what : Nat) (cost : Nat) (data : Bytes) (stamp : Stamp) (s : State) {t : State} (h : execLbpJoin port eui what cost data stamp s = .next t) : kept t = kept s := by
  simp only [execLbpJoin, Host.Outcome.next.injEq] at h
  subst h
  (repeat' split) <;> simp

theorem execDistStatus_kept (c : HostCmd) (s : State) {t : State} (h : execDistStatus c s = .next t) : kept t = kept s := by
  simp only [execDistStatus, Host.Outcome.next.injEq] at h
  subst h
  refine serve_kept _ _ _ _ _ _ (fun t => ?_) (fun t => ?_) <;> simp

theorem execDistCreate_kept (c : HostCmd) (s : State) {t : State} (h : execDistCreate c s = .next t) : kept t = kept s := by
  simp only [execDistCreate, Host.Outcome.next.injEq] at h
  subst h
  refine serve_kept _ _ _ _ _ _ (fun t => ?_) (fun t => ?_) <;> simp

theorem execDistMembers_kept (c : HostCmd) (s : State) {t : State} (h : execDistMembers c s = .next t) : kept t = kept s := by
  simp only [execDistMembers, Host.Outcome.next.injEq] at h
  subst h
  refine serve_kept _ _ _ _ _ _ (fun t => ?_) (fun t => ?_) <;> simp [foldl_kept]

theorem execDistStart_kept (c : HostCmd) (s : State) {t : State} (h : execDistStart c s = .next t) : kept t = kept s := by
  simp only [execDistStart, Host.Outcome.next.injEq] at h
  subst h
  refine serve_kept _ _ _ _ _ _ (fun t => ?_) (fun t => ?_) <;> simp

theorem execDistReadMembers_kept (c : HostCmd) (s : State) {t : State} (h : execDistReadMembers c s = .next t) : kept t = kept s := by
  simp only [execDistReadMembers, Host.Outcome.next.injEq] at h
  subst h
  refine serve_kept _ _ _ _ _ _ (fun t => ?_) (fun t => ?_) <;> simp

theorem execDistCancel_kept (c : HostCmd) (s : State) {t : State} (h : execDistCancel c s = .next t) : kept t = kept s := by
  simp only [execDistCancel, Host.Outcome.next.injEq] at h
  subst h
  refine serve_kept _ _ _ _ _ _ (fun t => ?_) (fun t => ?_) <;> simp

theorem execDistActivate_kept (c : HostCmd) (s : State) {t : State} (h : execDistActivate c s = .next t) : kept t = kept s := by
  simp only [execDistActivate, Host.Outcome.next.injEq] at h
  subst h
  refine serve_kept _ _ _ _ _ _ (fun t => ?_) (fun t => ?_) <;> simp [apply_ite kept]

theorem execNodeSafePoint_kept (n : Nat) (s : State) {t : State} (h : execNodeSafePoint n s = .next t) : kept t = kept s := by
  simp only [execNodeSafePoint, Host.Outcome.next.injEq] at h
  subst h
  simp

theorem execSubscribeFrame_kept (frame : Bytes) (s : State) {t : State} (h : execSubscribeFrame frame s = .next t) : kept t = kept s := by
  simp only [execSubscribeFrame, Host.Outcome.next.injEq] at h
  subst h
  simp

theorem execContribFrame_kept (frame : Bytes) (s : State) {t : State} (h : execContribFrame frame s = .next t) : kept t = kept s := by
  simp only [execContribFrame, Host.Outcome.next.injEq] at h
  subst h
  simp

theorem execDirectoryFrame_kept (frame : Bytes) (s : State) {t : State} (h : execDirectoryFrame frame s = .next t) : kept t = kept s := by
  simp only [execDirectoryFrame, Host.Outcome.next.injEq] at h
  subst h
  simp

theorem execHeartbeatSend_kept (s : State) {t : State} (h : execHeartbeatSend s = .next t) : kept t = kept s := by
  simp only [execHeartbeatSend, Host.Outcome.next.injEq] at h
  subst h
  simp

theorem execHeartbeatReceive_kept (mac : Bytes) (frame : Bytes) (s : State) {t : State} (h : execHeartbeatReceive mac frame s = .next t) : kept t = kept s := by
  simp only [execHeartbeatReceive, Host.Outcome.next.injEq] at h
  subst h
  simp

theorem execPeerLoss_kept (m : Nat) (s : State) {t : State} (h : execPeerLoss m s = .next t) : kept t = kept s := by
  simp only [execPeerLoss, Host.Outcome.next.injEq] at h
  subst h
  simp

theorem execBufferAgeDay_kept (s : State) {t : State} (h : execBufferAgeDay s = .next t) : kept t = kept s := by
  simp only [execBufferAgeDay, Host.Outcome.next.injEq] at h
  subst h
  simp

theorem execUploadBatchSend_kept (n : Nat) (s : State) {t : State} (h : execUploadBatchSend n s = .next t) : kept t = kept s := by
  simp only [execUploadBatchSend, Host.Outcome.next.injEq] at h
  subst h
  simp [apply_ite kept]

theorem execBatchSegmentFrame_kept (frame : Bytes) (s : State) {t : State} (h : execBatchSegmentFrame frame s = .next t) : kept t = kept s := by
  simp only [execBatchSegmentFrame, Host.Outcome.next.injEq] at h
  subst h
  simp

theorem execBatchAckFrame_kept (frame : Bytes) (s : State) {t : State} (h : execBatchAckFrame frame s = .next t) : kept t = kept s := by
  simp only [execBatchAckFrame, Host.Outcome.next.injEq] at h
  subst h
  simp

theorem execUploadAck_kept (n : Nat) (member : Option Nat) (s : State) {t : State} (h : execUploadAck n member s = .next t) : kept t = kept s := by
  simp only [execUploadAck, Host.Outcome.next.injEq] at h
  subst h
  simp

theorem execUploadAckTimeout_kept (n : Nat) (s : State) {t : State} (h : execUploadAckTimeout n s = .next t) : kept t = kept s := by
  simp only [execUploadAckTimeout, Host.Outcome.next.injEq] at h
  subst h
  simp [apply_ite kept]

theorem execNoticeDecision_kept (number : Nat) (s : State) {t : State} (h : execNoticeDecision number s = .next t) : kept t = kept s := by
  simp only [execNoticeDecision, Host.Outcome.next.injEq] at h
  subst h
  simp

theorem execTierStatus_kept (c : HostCmd) (s : State) {t : State} (h : execTierStatus c s = .next t) : kept t = kept s := by
  simp only [execTierStatus, Host.Outcome.next.injEq] at h
  subst h
  simp

theorem execTierPeers_kept (c : HostCmd) (s : State) {t : State} (h : execTierPeers c s = .next t) : kept t = kept s := by
  simp only [execTierPeers, Host.Outcome.next.injEq] at h
  subst h
  simp

theorem execPanelFrame_kept (s : State) {t : State} (h : execPanelFrame s = .next t) : kept t = kept s := by
  simp only [execPanelFrame, Host.Outcome.next.injEq] at h
  subst h
  simp

theorem execPanelRailUp_kept (s : State) {t : State} (h : execPanelRailUp s = .next t) : kept t = kept s := by
  simp only [execPanelRailUp, Host.Outcome.next.injEq] at h
  subst h
  simp

theorem execPwrgoodTimeout_kept (s : State) {t : State} (h : execPwrgoodTimeout s = .next t) : kept t = kept s := by
  simp only [execPwrgoodTimeout, Host.Outcome.next.injEq] at h
  subst h
  simp

theorem execPanelRailRetry_kept (s : State) {t : State} (h : execPanelRailRetry s = .next t) : kept t = kept s := by
  simp only [execPanelRailRetry, Host.Outcome.next.injEq] at h
  subst h
  simp [apply_ite kept]

theorem execRailHoldExpiry_kept (s : State) {t : State} (h : execRailHoldExpiry s = .next t) : kept t = kept s := by
  simp only [execRailHoldExpiry, Host.Outcome.next.injEq] at h
  subst h
  simp

theorem execPwrgoodLost_kept (s : State) {t : State} (h : execPwrgoodLost s = .next t) : kept t = kept s := by
  simp only [execPwrgoodLost, Host.Outcome.next.injEq] at h
  subst h
  simp

theorem execPanelTemperature_kept (reading : Option Int) (s : State) {t : State} (h : execPanelTemperature reading s = .next t) : kept t = kept s := by
  simp only [execPanelTemperature, Host.Outcome.next.injEq] at h
  subst h
  simp

theorem execContactSheetHold_kept (s : State) {t : State} (h : execContactSheetHold s = .next t) : kept t = kept s := by
  simp only [execContactSheetHold, Host.Outcome.next.injEq] at h
  subst h
  simp

theorem execPanelStatus_kept (c : HostCmd) (s : State) {t : State} (h : execPanelStatus c s = .next t) : kept t = kept s := by
  simp only [execPanelStatus, Host.Outcome.next.injEq] at h
  subst h
  simp

theorem execPanelWrite_kept (c : HostCmd) (s : State) {t : State} (h : execPanelWrite c s = .next t) : kept t = kept s := by
  simp only [execPanelWrite, Host.Outcome.next.injEq] at h
  subst h
  refine serve_kept _ _ _ _ _ _ (fun t => ?_) (fun t => ?_) <;> simp

theorem execPanelUpdate_kept (c : HostCmd) (s : State) {t : State} (h : execPanelUpdate c s = .next t) : kept t = kept s := by
  simp only [execPanelUpdate, Host.Outcome.next.injEq] at h
  subst h
  refine serve_kept _ _ _ _ _ _ (fun t => ?_) (fun t => ?_) <;> simp

theorem execPanelLoad_kept (c : HostCmd) (s : State) {t : State} (h : execPanelLoad c s = .next t) : kept t = kept s := by
  simp only [execPanelLoad, Host.Outcome.next.injEq] at h
  subst h
  rw [panelWake_kept]
  exact serve_kept _ _ _ _ _ _ (fun t => by simp) (fun t => rfl)

theorem execPanelBlink_kept (c : HostCmd) (s : State) {t : State} (h : execPanelBlink c s = .next t) : kept t = kept s := by
  simp only [execPanelBlink, Host.Outcome.next.injEq] at h
  subst h
  refine serve_kept _ _ _ _ _ _ (fun t => ?_) (fun t => ?_) <;> simp

theorem execPanelContactSheet_kept (c : HostCmd) (s : State) {t : State} (h : execPanelContactSheet c s = .next t) : kept t = kept s := by
  simp only [execPanelContactSheet, Host.Outcome.next.injEq] at h
  subst h
  refine serve_kept _ _ _ _ _ _ (fun t => ?_) (fun t => ?_) <;> simp

theorem execPanelReadLedger_kept (c : HostCmd) (s : State) {t : State} (h : execPanelReadLedger c s = .next t) : kept t = kept s := by
  simp only [execPanelReadLedger, Host.Outcome.next.injEq] at h
  subst h
  refine serve_kept _ _ _ _ _ _ (fun t => ?_) (fun t => ?_) <;> simp

theorem execPanelRebalance_kept (c : HostCmd) (s : State) {t : State} (h : execPanelRebalance c s = .next t) : kept t = kept s := by
  simp only [execPanelRebalance, Host.Outcome.next.injEq] at h
  subst h
  refine serve_kept _ _ _ _ _ _ (fun t => ?_) (fun t => ?_) <;> simp

theorem execPowerFailWarning_kept (source : Nat) (mv : Nat) (s : State) {t : State} (h : execPowerFailWarning source mv s = .next t) : kept t = kept s := by
  simp only [execPowerFailWarning, Host.Outcome.next.injEq] at h
  subst h
  simp

theorem execHoldupStep_queue (ms : Nat) (s : State) {t : State} (h : execHoldupStep ms s = .next t) : (kept t).queue = (kept s).queue := by
  simp only [execHoldupStep, Host.Outcome.next.injEq] at h
  subst h
  simp

theorem execHoldupStep_wf (ms : Nat) (s : State) {t : State} (h : execHoldupStep ms s = .next t) (w : (kept s).mem.wf = true) : (kept t).mem.wf = true := by
  simp only [execHoldupStep, Host.Outcome.next.injEq] at h
  subst h
  simp [w]

theorem execVinUndervoltage_queue (mv : Nat) (s : State) {t : State} (h : execVinUndervoltage mv s = .next t) : (kept t).queue = (kept s).queue := by
  simp only [execVinUndervoltage, Host.Outcome.next.injEq] at h
  subst h
  simp

theorem execVinUndervoltage_wf (mv : Nat) (s : State) {t : State} (h : execVinUndervoltage mv s = .next t) (w : (kept s).mem.wf = true) : (kept t).mem.wf = true := by
  simp only [execVinUndervoltage, Host.Outcome.next.injEq] at h
  subst h
  simp [w]

theorem execPfwCleared_kept (mv : Nat) (s : State) {t : State} (h : execPfwCleared mv s = .next t) : kept t = kept s := by
  simp only [execPfwCleared, Host.Outcome.next.injEq] at h
  subst h
  simp

theorem execVinStart_kept (mv : Nat) (s : State) {t : State} (h : execVinStart mv s = .next t) : kept t = kept s := by
  simp only [execVinStart, Host.Outcome.next.injEq] at h
  subst h
  simp

theorem execVbatLow_kept (mv : Nat) (s : State) {t : State} (h : execVbatLow mv s = .next t) : kept t = kept s := by
  simp only [execVbatLow, Host.Outcome.next.injEq] at h
  subst h
  simp

theorem execVbatLost_kept (mv : Nat) (s : State) {t : State} (h : execVbatLost mv s = .next t) : kept t = kept s := by
  simp only [execVbatLost, Host.Outcome.next.injEq] at h
  subst h
  simp

theorem execVioFault_kept (bank : Nat) (mv : Nat) (s : State) {t : State} (h : execVioFault bank mv s = .next t) : kept t = kept s := by
  simp only [execVioFault, Host.Outcome.next.injEq] at h
  subst h
  simp

theorem execRailFault_queue (rail : Nat) (mv : Nat) (s : State) {t : State} (h : execRailFault rail mv s = .next t) : (kept t).queue = (kept s).queue := by
  simp only [execRailFault, Host.Outcome.next.injEq] at h
  subst h
  split <;> simp

theorem execRailFault_wf (rail : Nat) (mv : Nat) (s : State) {t : State} (h : execRailFault rail mv s = .next t) (w : (kept s).mem.wf = true) : (kept t).mem.wf = true := by
  simp only [execRailFault, Host.Outcome.next.injEq] at h
  subst h
  split <;> simp [w]

theorem execThermalReading_kept (c : Int) (s : State) {t : State} (h : execThermalReading c s = .next t) : kept t = kept s := by
  simp only [execThermalReading, Host.Outcome.next.injEq] at h
  subst h
  simp

theorem execClockMonitor_kept (ppm : Int) (crystal : Bool) (s : State) {t : State} (h : execClockMonitor ppm crystal s = .next t) : kept t = kept s := by
  simp only [execClockMonitor, Host.Outcome.next.injEq] at h
  subst h
  simp

theorem execTcxoAbsent_queue (s : State) {t : State} (h : execTcxoAbsent s = .next t) : (kept t).queue = (kept s).queue := by
  simp only [execTcxoAbsent, Host.Outcome.next.injEq] at h
  subst h
  split <;> simp

theorem execTcxoAbsent_wf (s : State) {t : State} (h : execTcxoAbsent s = .next t) (w : (kept s).mem.wf = true) : (kept t).mem.wf = true := by
  simp only [execTcxoAbsent, Host.Outcome.next.injEq] at h
  subst h
  split <;> simp [w]

theorem execIdleEntry_kept (s : State) {t : State} (h : execIdleEntry s = .next t) : kept t = kept s := by
  simp only [execIdleEntry, Host.Outcome.next.injEq] at h
  subst h
  simp

theorem execIdleWake_kept (ms : Nat) (s : State) {t : State} (h : execIdleWake ms s = .next t) : kept t = kept s := by
  simp only [execIdleWake, Host.Outcome.next.injEq] at h
  subst h
  simp [apply_ite kept]

theorem execHoldExpiry_kept (s : State) {t : State} (h : execHoldExpiry s = .next t) : kept t = kept s := by
  simp only [execHoldExpiry, Host.Outcome.next.injEq] at h
  subst h
  simp [apply_ite kept]

theorem execTamperInput_kept (n : Nat) (level : Bool) (s : State) {t : State} (h : execTamperInput n level s = .next t) : kept t = kept s := by
  simp only [execTamperInput, Host.Outcome.next.injEq] at h
  subst h
  simp [apply_ite kept]

theorem execResetPin_queue (s : State) {t : State} (h : execResetPin s = .next t) : (kept t).queue = (kept s).queue := by
  simp only [execResetPin, Host.Outcome.next.injEq] at h
  subst h
  simp

theorem execResetPin_wf (s : State) {t : State} (h : execResetPin s = .next t) (w : (kept s).mem.wf = true) : (kept t).mem.wf = true := by
  simp only [execResetPin, Host.Outcome.next.injEq] at h
  subst h
  simp [w]

theorem execWatchdogReset_queue (s : State) {t : State} (h : execWatchdogReset s = .next t) : (kept t).queue = (kept s).queue := by
  simp only [execWatchdogReset, Host.Outcome.next.injEq] at h
  subst h
  split <;> simp

theorem execWatchdogReset_wf (s : State) {t : State} (h : execWatchdogReset s = .next t) (w : (kept s).mem.wf = true) : (kept t).mem.wf = true := by
  simp only [execWatchdogReset, Host.Outcome.next.injEq] at h
  subst h
  split <;> simp [w]

theorem execLockstepReset_queue (pair : Nat) (s : State) {t : State} (h : execLockstepReset pair s = .next t) : (kept t).queue = (kept s).queue := by
  simp only [execLockstepReset, Host.Outcome.next.injEq] at h
  subst h
  simp

theorem execLockstepReset_wf (pair : Nat) (s : State) {t : State} (h : execLockstepReset pair s = .next t) (w : (kept s).mem.wf = true) : (kept t).mem.wf = true := by
  simp only [execLockstepReset, Host.Outcome.next.injEq] at h
  subst h
  simp [w]

theorem execResetRelease_kept (ticks : Nat) (off : Option Nat) (mapMs : Nat) (diesOk : List Bool) (pipesOk : List Bool) (s : State) {t : State} (h : execResetRelease ticks off mapMs diesOk pipesOk s = .next t) : kept t = kept s := by
  simp only [execResetRelease, Host.Outcome.next.injEq] at h
  subst h
  simp

theorem execStartComplete_kept (ms : Nat) (s : State) {t : State} (h : execStartComplete ms s = .next t) : kept t = kept s := by
  simp only [execStartComplete, Host.Outcome.next.injEq] at h
  subst h
  simp

theorem execFwConfirmTimeout_kept (s : State) {t : State} (h : execFwConfirmTimeout s = .next t) : kept t = kept s := by
  simp only [execFwConfirmTimeout, Host.Outcome.next.injEq] at h
  subst h
  simp [apply_ite kept]

theorem execFwActivateRestart_kept (s : State) {t : State} (h : execFwActivateRestart s = .next t) : kept t = kept s := by
  simp only [execFwActivateRestart, Host.Outcome.next.injEq] at h
  subst h
  simp [apply_ite kept]

theorem execSysPowerStatus_kept (c : HostCmd) (s : State) {t : State} (h : execSysPowerStatus c s = .next t) : kept t = kept s := by
  simp only [execSysPowerStatus, Host.Outcome.next.injEq] at h
  subst h
  refine serve_kept _ _ _ _ _ _ (fun t => ?_) (fun t => ?_) <;> simp

theorem execSysRestart_kept (c : HostCmd) (s : State) {t : State} (h : execSysRestart c s = .next t) : kept t = kept s := by
  simp only [execSysRestart, Host.Outcome.next.injEq] at h
  subst h
  refine serve_kept _ _ _ _ _ _ (fun t => ?_) (fun t => ?_) <;> simp

theorem execSysShutdown_kept (c : HostCmd) (s : State) {t : State} (h : execSysShutdown c s = .next t) : kept t = kept s := by
  simp only [execSysShutdown, Host.Outcome.next.injEq] at h
  subst h
  refine serve_kept _ _ _ _ _ _ (fun t => ?_) (fun t => ?_) <;> simp

theorem execSysClocks_kept (c : HostCmd) (s : State) {t : State} (h : execSysClocks c s = .next t) : kept t = kept s := by
  simp only [execSysClocks, Host.Outcome.next.injEq] at h
  subst h
  simp

theorem execTierPromote_kept (c : HostCmd) (s : State) {t : State} (h : execTierPromote c s = .next t) : kept t = kept s := by
  simp only [execTierPromote, Host.Outcome.next.injEq] at h
  subst h
  refine serve_kept _ _ _ _ _ _ (fun t => ?_) (fun t => ?_) <;> simp

theorem execCfgStatus_kept (c : HostCmd) (s : State) {t : State} (h : execCfgStatus c s = .next t) : kept t = kept s := by
  simp only [execCfgStatus, Host.Outcome.next.injEq] at h
  subst h
  simp

theorem execCfgDescribe_kept (c : HostCmd) (s : State) {t : State} (h : execCfgDescribe c s = .next t) : kept t = kept s := by
  simp only [execCfgDescribe, Host.Outcome.next.injEq] at h
  subst h
  refine serve_kept _ _ _ _ _ _ (fun t => ?_) (fun t => ?_) <;> simp

theorem execCfgRead_kept (c : HostCmd) (s : State) {t : State} (h : execCfgRead c s = .next t) : kept t = kept s := by
  simp only [execCfgRead, Host.Outcome.next.injEq] at h
  subst h
  refine serve_kept _ _ _ _ _ _ (fun t => ?_) (fun t => ?_) <;> simp

theorem execCfgBegin_kept (c : HostCmd) (s : State) {t : State} (h : execCfgBegin c s = .next t) : kept t = kept s := by
  simp only [execCfgBegin, Host.Outcome.next.injEq] at h
  subst h
  refine serve_kept _ _ _ _ _ _ (fun t => ?_) (fun t => ?_) <;> simp

theorem execCfgStage_kept (c : HostCmd) (s : State) {t : State} (h : execCfgStage c s = .next t) : kept t = kept s := by
  simp only [execCfgStage, Host.Outcome.next.injEq] at h
  subst h
  refine serve_kept _ _ _ _ _ _ (fun t => ?_) (fun t => ?_) <;> (repeat' split) <;> simp

theorem execCfgAbort_kept (c : HostCmd) (s : State) {t : State} (h : execCfgAbort c s = .next t) : kept t = kept s := by
  simp only [execCfgAbort, Host.Outcome.next.injEq] at h
  subst h
  refine serve_kept _ _ _ _ _ _ (fun t => ?_) (fun t => ?_) <;> simp

theorem execCfgValidate_kept (c : HostCmd) (s : State) {t : State} (h : execCfgValidate c s = .next t) : kept t = kept s := by
  simp only [execCfgValidate, Host.Outcome.next.injEq] at h
  subst h
  refine serve_kept _ _ _ _ _ _ (fun t => ?_) (fun t => ?_) <;> simp

theorem execCfgCommit_kept (c : HostCmd) (s : State) {t : State} (h : execCfgCommit c s = .next t) : kept t = kept s := by
  simp only [execCfgCommit, Host.Outcome.next.injEq] at h
  subst h
  refine serve_kept _ _ _ _ _ _ (fun t => ?_) (fun t => ?_) <;> simp

theorem execCfgFactory_kept (c : HostCmd) (s : State) {t : State} (h : execCfgFactory c s = .next t) : kept t = kept s := by
  simp only [execCfgFactory, Host.Outcome.next.injEq] at h
  subst h
  refine serve_kept _ _ _ _ _ _ (fun t => ?_) (fun t => ?_) <;> simp

theorem execCfgRevert_kept (c : HostCmd) (s : State) {t : State} (h : execCfgRevert c s = .next t) : kept t = kept s := by
  simp only [execCfgRevert, Host.Outcome.next.injEq] at h
  subst h
  refine serve_kept _ _ _ _ _ _ (fun t => ?_) (fun t => ?_) <;> simp

theorem execCfgProveNow_kept (c : HostCmd) (s : State) {t : State} (h : execCfgProveNow c s = .next t) : kept t = kept s := by
  simp only [execCfgProveNow, Host.Outcome.next.injEq] at h
  subst h
  refine serve_kept _ _ _ _ _ _ (fun t => ?_) (fun t => ?_) <;> simp

theorem execProvingEnd_kept (s : State) {t : State} (h : execProvingEnd s = .next t) : kept t = kept s := by
  simp only [execProvingEnd, Host.Outcome.next.injEq] at h
  subst h
  simp [apply_ite kept]

theorem execSysIdent_kept (c : HostCmd) (s : State) {t : State} (h : execSysIdent c s = .next t) : kept t = kept s := by
  simp only [execSysIdent, Host.Outcome.next.injEq] at h
  subst h
  simp

theorem execOtTick_kept (s : State) {t : State} (h : execOtTick s = .next t) : kept t = kept s := by
  simp only [execOtTick, Host.Outcome.next.injEq] at h
  subst h
  simp

theorem execRegisterWrite_queue (addr : Nat) (v : Nat) (s : State) {t : State} (h : execRegisterWrite addr v s = .next t) : (kept t).queue = (kept s).queue := by
  simp only [execRegisterWrite, Host.Outcome.next.injEq] at h
  subst h
  simp

theorem execRegisterWrite_wf (addr : Nat) (v : Nat) (s : State) {t : State} (h : execRegisterWrite addr v s = .next t) (w : (kept s).mem.wf = true) : (kept t).mem.wf = true := by
  simp only [execRegisterWrite, Host.Outcome.next.injEq] at h
  subst h
  simp [w]

end Sys2Proof.Laws
end

