-- ==== Sys2Proof/Laws/State.lean ====
section
/-! SUPPORT. One lemma per field of State and per update of one part of it: the part changes as the update says, every other field
stays. -/

namespace Sys2Proof.Laws
open Sys2Proof Sys2Proof.Machine

@[simp] theorem onPower_power (s : State) (f : Power → Power) : (s.onPower f).power = f s.power := rfl
@[simp] theorem onPower_straps (s : State) (f : Power → Power) : (s.onPower f).straps = s.straps := rfl
@[simp] theorem onPower_host (s : State) (f : Power → Power) : (s.onPower f).host = s.host := rfl
@[simp] theorem onPower_fabric (s : State) (f : Power → Power) : (s.onPower f).fabric = s.fabric := rfl
@[simp] theorem onPower_recd (s : State) (f : Power → Power) : (s.onPower f).recd = s.recd := rfl
@[simp] theorem onPower_cfg (s : State) (f : Power → Power) : (s.onPower f).cfg = s.cfg := rfl
@[simp] theorem onPower_fog (s : State) (f : Power → Power) : (s.onPower f).fog = s.fog := rfl
@[simp] theorem onPower_gate (s : State) (f : Power → Power) : (s.onPower f).gate = s.gate := rfl
@[simp] theorem onPower_store (s : State) (f : Power → Power) : (s.onPower f).store = s.store := rfl
@[simp] theorem onPower_time (s : State) (f : Power → Power) : (s.onPower f).time = s.time := rfl
@[simp] theorem onPower_tbl (s : State) (f : Power → Power) : (s.onPower f).tbl = s.tbl := rfl
@[simp] theorem onPower_sec (s : State) (f : Power → Power) : (s.onPower f).sec = s.sec := rfl
@[simp] theorem onPower_cp (s : State) (f : Power → Power) : (s.onPower f).cp = s.cp := rfl
@[simp] theorem onPower_sealedDie (s : State) (f : Power → Power) : (s.onPower f).sealedDie = s.sealedDie := rfl
@[simp] theorem onPower_metro (s : State) (f : Power → Power) : (s.onPower f).metro = s.metro := rfl
@[simp] theorem onPower_tier (s : State) (f : Power → Power) : (s.onPower f).tier = s.tier := rfl
@[simp] theorem onPower_plc (s : State) (f : Power → Power) : (s.onPower f).plc = s.plc := rfl
@[simp] theorem onPower_radios (s : State) (f : Power → Power) : (s.onPower f).radios = s.radios := rfl
@[simp] theorem onPower_bal (s : State) (f : Power → Power) : (s.onPower f).bal = s.bal := rfl
@[simp] theorem onPower_camps (s : State) (f : Power → Power) : (s.onPower f).camps = s.camps := rfl
@[simp] theorem onPower_panel (s : State) (f : Power → Power) : (s.onPower f).panel = s.panel := rfl
@[simp] theorem onPower_pending (s : State) (f : Power → Power) : (s.onPower f).pending = s.pending := rfl
@[simp] theorem onPower_free (s : State) (f : Power → Power) : (s.onPower f).free = s.free := rfl

@[simp] theorem onHost_host (s : State) (f : HostIf → HostIf) : (s.onHost f).host = f s.host := rfl
@[simp] theorem onHost_power (s : State) (f : HostIf → HostIf) : (s.onHost f).power = s.power := rfl
@[simp] theorem onHost_straps (s : State) (f : HostIf → HostIf) : (s.onHost f).straps = s.straps := rfl
@[simp] theorem onHost_fabric (s : State) (f : HostIf → HostIf) : (s.onHost f).fabric = s.fabric := rfl
@[simp] theorem onHost_recd (s : State) (f : HostIf → HostIf) : (s.onHost f).recd = s.recd := rfl
@[simp] theorem onHost_cfg (s : State) (f : HostIf → HostIf) : (s.onHost f).cfg = s.cfg := rfl
@[simp] theorem onHost_fog (s : State) (f : HostIf → HostIf) : (s.onHost f).fog = s.fog := rfl
@[simp] theorem onHost_gate (s : State) (f : HostIf → HostIf) : (s.onHost f).gate = s.gate := rfl
@[simp] theorem onHost_store (s : State) (f : HostIf → HostIf) : (s.onHost f).store = s.store := rfl
@[simp] theorem onHost_time (s : State) (f : HostIf → HostIf) : (s.onHost f).time = s.time := rfl
@[simp] theorem onHost_tbl (s : State) (f : HostIf → HostIf) : (s.onHost f).tbl = s.tbl := rfl
@[simp] theorem onHost_sec (s : State) (f : HostIf → HostIf) : (s.onHost f).sec = s.sec := rfl
@[simp] theorem onHost_cp (s : State) (f : HostIf → HostIf) : (s.onHost f).cp = s.cp := rfl
@[simp] theorem onHost_sealedDie (s : State) (f : HostIf → HostIf) : (s.onHost f).sealedDie = s.sealedDie := rfl
@[simp] theorem onHost_metro (s : State) (f : HostIf → HostIf) : (s.onHost f).metro = s.metro := rfl
@[simp] theorem onHost_tier (s : State) (f : HostIf → HostIf) : (s.onHost f).tier = s.tier := rfl
@[simp] theorem onHost_plc (s : State) (f : HostIf → HostIf) : (s.onHost f).plc = s.plc := rfl
@[simp] theorem onHost_radios (s : State) (f : HostIf → HostIf) : (s.onHost f).radios = s.radios := rfl
@[simp] theorem onHost_bal (s : State) (f : HostIf → HostIf) : (s.onHost f).bal = s.bal := rfl
@[simp] theorem onHost_camps (s : State) (f : HostIf → HostIf) : (s.onHost f).camps = s.camps := rfl
@[simp] theorem onHost_panel (s : State) (f : HostIf → HostIf) : (s.onHost f).panel = s.panel := rfl
@[simp] theorem onHost_pending (s : State) (f : HostIf → HostIf) : (s.onHost f).pending = s.pending := rfl
@[simp] theorem onHost_free (s : State) (f : HostIf → HostIf) : (s.onHost f).free = s.free := rfl

@[simp] theorem onFabric_fabric (s : State) (f : Fabric → Fabric) : (s.onFabric f).fabric = f s.fabric := rfl
@[simp] theorem onFabric_power (s : State) (f : Fabric → Fabric) : (s.onFabric f).power = s.power := rfl
@[simp] theorem onFabric_straps (s : State) (f : Fabric → Fabric) : (s.onFabric f).straps = s.straps := rfl
@[simp] theorem onFabric_host (s : State) (f : Fabric → Fabric) : (s.onFabric f).host = s.host := rfl
@[simp] theorem onFabric_recd (s : State) (f : Fabric → Fabric) : (s.onFabric f).recd = s.recd := rfl
@[simp] theorem onFabric_cfg (s : State) (f : Fabric → Fabric) : (s.onFabric f).cfg = s.cfg := rfl
@[simp] theorem onFabric_fog (s : State) (f : Fabric → Fabric) : (s.onFabric f).fog = s.fog := rfl
@[simp] theorem onFabric_gate (s : State) (f : Fabric → Fabric) : (s.onFabric f).gate = s.gate := rfl
@[simp] theorem onFabric_store (s : State) (f : Fabric → Fabric) : (s.onFabric f).store = s.store := rfl
@[simp] theorem onFabric_time (s : State) (f : Fabric → Fabric) : (s.onFabric f).time = s.time := rfl
@[simp] theorem onFabric_tbl (s : State) (f : Fabric → Fabric) : (s.onFabric f).tbl = s.tbl := rfl
@[simp] theorem onFabric_sec (s : State) (f : Fabric → Fabric) : (s.onFabric f).sec = s.sec := rfl
@[simp] theorem onFabric_cp (s : State) (f : Fabric → Fabric) : (s.onFabric f).cp = s.cp := rfl
@[simp] theorem onFabric_sealedDie (s : State) (f : Fabric → Fabric) : (s.onFabric f).sealedDie = s.sealedDie := rfl
@[simp] theorem onFabric_metro (s : State) (f : Fabric → Fabric) : (s.onFabric f).metro = s.metro := rfl
@[simp] theorem onFabric_tier (s : State) (f : Fabric → Fabric) : (s.onFabric f).tier = s.tier := rfl
@[simp] theorem onFabric_plc (s : State) (f : Fabric → Fabric) : (s.onFabric f).plc = s.plc := rfl
@[simp] theorem onFabric_radios (s : State) (f : Fabric → Fabric) : (s.onFabric f).radios = s.radios := rfl
@[simp] theorem onFabric_bal (s : State) (f : Fabric → Fabric) : (s.onFabric f).bal = s.bal := rfl
@[simp] theorem onFabric_camps (s : State) (f : Fabric → Fabric) : (s.onFabric f).camps = s.camps := rfl
@[simp] theorem onFabric_panel (s : State) (f : Fabric → Fabric) : (s.onFabric f).panel = s.panel := rfl
@[simp] theorem onFabric_pending (s : State) (f : Fabric → Fabric) : (s.onFabric f).pending = s.pending := rfl
@[simp] theorem onFabric_free (s : State) (f : Fabric → Fabric) : (s.onFabric f).free = s.free := rfl

@[simp] theorem onRec_recd (s : State) (f : Rec → Rec) : (s.onRec f).recd = f s.recd := rfl
@[simp] theorem onRec_power (s : State) (f : Rec → Rec) : (s.onRec f).power = s.power := rfl
@[simp] theorem onRec_straps (s : State) (f : Rec → Rec) : (s.onRec f).straps = s.straps := rfl
@[simp] theorem onRec_host (s : State) (f : Rec → Rec) : (s.onRec f).host = s.host := rfl
@[simp] theorem onRec_fabric (s : State) (f : Rec → Rec) : (s.onRec f).fabric = s.fabric := rfl
@[simp] theorem onRec_cfg (s : State) (f : Rec → Rec) : (s.onRec f).cfg = s.cfg := rfl
@[simp] theorem onRec_fog (s : State) (f : Rec → Rec) : (s.onRec f).fog = s.fog := rfl
@[simp] theorem onRec_gate (s : State) (f : Rec → Rec) : (s.onRec f).gate = s.gate := rfl
@[simp] theorem onRec_store (s : State) (f : Rec → Rec) : (s.onRec f).store = s.store := rfl
@[simp] theorem onRec_time (s : State) (f : Rec → Rec) : (s.onRec f).time = s.time := rfl
@[simp] theorem onRec_tbl (s : State) (f : Rec → Rec) : (s.onRec f).tbl = s.tbl := rfl
@[simp] theorem onRec_sec (s : State) (f : Rec → Rec) : (s.onRec f).sec = s.sec := rfl
@[simp] theorem onRec_cp (s : State) (f : Rec → Rec) : (s.onRec f).cp = s.cp := rfl
@[simp] theorem onRec_sealedDie (s : State) (f : Rec → Rec) : (s.onRec f).sealedDie = s.sealedDie := rfl
@[simp] theorem onRec_metro (s : State) (f : Rec → Rec) : (s.onRec f).metro = s.metro := rfl
@[simp] theorem onRec_tier (s : State) (f : Rec → Rec) : (s.onRec f).tier = s.tier := rfl
@[simp] theorem onRec_plc (s : State) (f : Rec → Rec) : (s.onRec f).plc = s.plc := rfl
@[simp] theorem onRec_radios (s : State) (f : Rec → Rec) : (s.onRec f).radios = s.radios := rfl
@[simp] theorem onRec_bal (s : State) (f : Rec → Rec) : (s.onRec f).bal = s.bal := rfl
@[simp] theorem onRec_camps (s : State) (f : Rec → Rec) : (s.onRec f).camps = s.camps := rfl
@[simp] theorem onRec_panel (s : State) (f : Rec → Rec) : (s.onRec f).panel = s.panel := rfl
@[simp] theorem onRec_pending (s : State) (f : Rec → Rec) : (s.onRec f).pending = s.pending := rfl
@[simp] theorem onRec_free (s : State) (f : Rec → Rec) : (s.onRec f).free = s.free := rfl

@[simp] theorem onCfg_cfg (s : State) (f : Cfg → Cfg) : (s.onCfg f).cfg = f s.cfg := rfl
@[simp] theorem onCfg_power (s : State) (f : Cfg → Cfg) : (s.onCfg f).power = s.power := rfl
@[simp] theorem onCfg_straps (s : State) (f : Cfg → Cfg) : (s.onCfg f).straps = s.straps := rfl
@[simp] theorem onCfg_host (s : State) (f : Cfg → Cfg) : (s.onCfg f).host = s.host := rfl
@[simp] theorem onCfg_fabric (s : State) (f : Cfg → Cfg) : (s.onCfg f).fabric = s.fabric := rfl
@[simp] theorem onCfg_recd (s : State) (f : Cfg → Cfg) : (s.onCfg f).recd = s.recd := rfl
@[simp] theorem onCfg_fog (s : State) (f : Cfg → Cfg) : (s.onCfg f).fog = s.fog := rfl
@[simp] theorem onCfg_gate (s : State) (f : Cfg → Cfg) : (s.onCfg f).gate = s.gate := rfl
@[simp] theorem onCfg_store (s : State) (f : Cfg → Cfg) : (s.onCfg f).store = s.store := rfl
@[simp] theorem onCfg_time (s : State) (f : Cfg → Cfg) : (s.onCfg f).time = s.time := rfl
@[simp] theorem onCfg_tbl (s : State) (f : Cfg → Cfg) : (s.onCfg f).tbl = s.tbl := rfl
@[simp] theorem onCfg_sec (s : State) (f : Cfg → Cfg) : (s.onCfg f).sec = s.sec := rfl
@[simp] theorem onCfg_cp (s : State) (f : Cfg → Cfg) : (s.onCfg f).cp = s.cp := rfl
@[simp] theorem onCfg_sealedDie (s : State) (f : Cfg → Cfg) : (s.onCfg f).sealedDie = s.sealedDie := rfl
@[simp] theorem onCfg_metro (s : State) (f : Cfg → Cfg) : (s.onCfg f).metro = s.metro := rfl
@[simp] theorem onCfg_tier (s : State) (f : Cfg → Cfg) : (s.onCfg f).tier = s.tier := rfl
@[simp] theorem onCfg_plc (s : State) (f : Cfg → Cfg) : (s.onCfg f).plc = s.plc := rfl
@[simp] theorem onCfg_radios (s : State) (f : Cfg → Cfg) : (s.onCfg f).radios = s.radios := rfl
@[simp] theorem onCfg_bal (s : State) (f : Cfg → Cfg) : (s.onCfg f).bal = s.bal := rfl
@[simp] theorem onCfg_camps (s : State) (f : Cfg → Cfg) : (s.onCfg f).camps = s.camps := rfl
@[simp] theorem onCfg_panel (s : State) (f : Cfg → Cfg) : (s.onCfg f).panel = s.panel := rfl
@[simp] theorem onCfg_pending (s : State) (f : Cfg → Cfg) : (s.onCfg f).pending = s.pending := rfl
@[simp] theorem onCfg_free (s : State) (f : Cfg → Cfg) : (s.onCfg f).free = s.free := rfl

@[simp] theorem onGate_gate (s : State) (f : Gate → Gate) : (s.onGate f).gate = f s.gate := rfl
@[simp] theorem onGate_power (s : State) (f : Gate → Gate) : (s.onGate f).power = s.power := rfl
@[simp] theorem onGate_straps (s : State) (f : Gate → Gate) : (s.onGate f).straps = s.straps := rfl
@[simp] theorem onGate_host (s : State) (f : Gate → Gate) : (s.onGate f).host = s.host := rfl
@[simp] theorem onGate_fabric (s : State) (f : Gate → Gate) : (s.onGate f).fabric = s.fabric := rfl
@[simp] theorem onGate_recd (s : State) (f : Gate → Gate) : (s.onGate f).recd = s.recd := rfl
@[simp] theorem onGate_cfg (s : State) (f : Gate → Gate) : (s.onGate f).cfg = s.cfg := rfl
@[simp] theorem onGate_fog (s : State) (f : Gate → Gate) : (s.onGate f).fog = s.fog := rfl
@[simp] theorem onGate_store (s : State) (f : Gate → Gate) : (s.onGate f).store = s.store := rfl
@[simp] theorem onGate_time (s : State) (f : Gate → Gate) : (s.onGate f).time = s.time := rfl
@[simp] theorem onGate_tbl (s : State) (f : Gate → Gate) : (s.onGate f).tbl = s.tbl := rfl
@[simp] theorem onGate_sec (s : State) (f : Gate → Gate) : (s.onGate f).sec = s.sec := rfl
@[simp] theorem onGate_cp (s : State) (f : Gate → Gate) : (s.onGate f).cp = s.cp := rfl
@[simp] theorem onGate_sealedDie (s : State) (f : Gate → Gate) : (s.onGate f).sealedDie = s.sealedDie := rfl
@[simp] theorem onGate_metro (s : State) (f : Gate → Gate) : (s.onGate f).metro = s.metro := rfl
@[simp] theorem onGate_tier (s : State) (f : Gate → Gate) : (s.onGate f).tier = s.tier := rfl
@[simp] theorem onGate_plc (s : State) (f : Gate → Gate) : (s.onGate f).plc = s.plc := rfl
@[simp] theorem onGate_radios (s : State) (f : Gate → Gate) : (s.onGate f).radios = s.radios := rfl
@[simp] theorem onGate_bal (s : State) (f : Gate → Gate) : (s.onGate f).bal = s.bal := rfl
@[simp] theorem onGate_camps (s : State) (f : Gate → Gate) : (s.onGate f).camps = s.camps := rfl
@[simp] theorem onGate_panel (s : State) (f : Gate → Gate) : (s.onGate f).panel = s.panel := rfl
@[simp] theorem onGate_pending (s : State) (f : Gate → Gate) : (s.onGate f).pending = s.pending := rfl
@[simp] theorem onGate_free (s : State) (f : Gate → Gate) : (s.onGate f).free = s.free := rfl

@[simp] theorem onStore_store (s : State) (f : Store → Store) : (s.onStore f).store = f s.store := rfl
@[simp] theorem onStore_power (s : State) (f : Store → Store) : (s.onStore f).power = s.power := rfl
@[simp] theorem onStore_straps (s : State) (f : Store → Store) : (s.onStore f).straps = s.straps := rfl
@[simp] theorem onStore_host (s : State) (f : Store → Store) : (s.onStore f).host = s.host := rfl
@[simp] theorem onStore_fabric (s : State) (f : Store → Store) : (s.onStore f).fabric = s.fabric := rfl
@[simp] theorem onStore_recd (s : State) (f : Store → Store) : (s.onStore f).recd = s.recd := rfl
@[simp] theorem onStore_cfg (s : State) (f : Store → Store) : (s.onStore f).cfg = s.cfg := rfl
@[simp] theorem onStore_fog (s : State) (f : Store → Store) : (s.onStore f).fog = s.fog := rfl
@[simp] theorem onStore_gate (s : State) (f : Store → Store) : (s.onStore f).gate = s.gate := rfl
@[simp] theorem onStore_time (s : State) (f : Store → Store) : (s.onStore f).time = s.time := rfl
@[simp] theorem onStore_tbl (s : State) (f : Store → Store) : (s.onStore f).tbl = s.tbl := rfl
@[simp] theorem onStore_sec (s : State) (f : Store → Store) : (s.onStore f).sec = s.sec := rfl
@[simp] theorem onStore_cp (s : State) (f : Store → Store) : (s.onStore f).cp = s.cp := rfl
@[simp] theorem onStore_sealedDie (s : State) (f : Store → Store) : (s.onStore f).sealedDie = s.sealedDie := rfl
@[simp] theorem onStore_metro (s : State) (f : Store → Store) : (s.onStore f).metro = s.metro := rfl
@[simp] theorem onStore_tier (s : State) (f : Store → Store) : (s.onStore f).tier = s.tier := rfl
@[simp] theorem onStore_plc (s : State) (f : Store → Store) : (s.onStore f).plc = s.plc := rfl
@[simp] theorem onStore_radios (s : State) (f : Store → Store) : (s.onStore f).radios = s.radios := rfl
@[simp] theorem onStore_bal (s : State) (f : Store → Store) : (s.onStore f).bal = s.bal := rfl
@[simp] theorem onStore_camps (s : State) (f : Store → Store) : (s.onStore f).camps = s.camps := rfl
@[simp] theorem onStore_panel (s : State) (f : Store → Store) : (s.onStore f).panel = s.panel := rfl
@[simp] theorem onStore_pending (s : State) (f : Store → Store) : (s.onStore f).pending = s.pending := rfl
@[simp] theorem onStore_free (s : State) (f : Store → Store) : (s.onStore f).free = s.free := rfl

@[simp] theorem onPlc_plc (s : State) (f : Plc → Plc) : (s.onPlc f).plc = f s.plc := rfl
@[simp] theorem onPlc_power (s : State) (f : Plc → Plc) : (s.onPlc f).power = s.power := rfl
@[simp] theorem onPlc_straps (s : State) (f : Plc → Plc) : (s.onPlc f).straps = s.straps := rfl
@[simp] theorem onPlc_host (s : State) (f : Plc → Plc) : (s.onPlc f).host = s.host := rfl
@[simp] theorem onPlc_fabric (s : State) (f : Plc → Plc) : (s.onPlc f).fabric = s.fabric := rfl
@[simp] theorem onPlc_recd (s : State) (f : Plc → Plc) : (s.onPlc f).recd = s.recd := rfl
@[simp] theorem onPlc_cfg (s : State) (f : Plc → Plc) : (s.onPlc f).cfg = s.cfg := rfl
@[simp] theorem onPlc_fog (s : State) (f : Plc → Plc) : (s.onPlc f).fog = s.fog := rfl
@[simp] theorem onPlc_gate (s : State) (f : Plc → Plc) : (s.onPlc f).gate = s.gate := rfl
@[simp] theorem onPlc_store (s : State) (f : Plc → Plc) : (s.onPlc f).store = s.store := rfl
@[simp] theorem onPlc_time (s : State) (f : Plc → Plc) : (s.onPlc f).time = s.time := rfl
@[simp] theorem onPlc_tbl (s : State) (f : Plc → Plc) : (s.onPlc f).tbl = s.tbl := rfl
@[simp] theorem onPlc_sec (s : State) (f : Plc → Plc) : (s.onPlc f).sec = s.sec := rfl
@[simp] theorem onPlc_cp (s : State) (f : Plc → Plc) : (s.onPlc f).cp = s.cp := rfl
@[simp] theorem onPlc_sealedDie (s : State) (f : Plc → Plc) : (s.onPlc f).sealedDie = s.sealedDie := rfl
@[simp] theorem onPlc_metro (s : State) (f : Plc → Plc) : (s.onPlc f).metro = s.metro := rfl
@[simp] theorem onPlc_tier (s : State) (f : Plc → Plc) : (s.onPlc f).tier = s.tier := rfl
@[simp] theorem onPlc_radios (s : State) (f : Plc → Plc) : (s.onPlc f).radios = s.radios := rfl
@[simp] theorem onPlc_bal (s : State) (f : Plc → Plc) : (s.onPlc f).bal = s.bal := rfl
@[simp] theorem onPlc_camps (s : State) (f : Plc → Plc) : (s.onPlc f).camps = s.camps := rfl
@[simp] theorem onPlc_panel (s : State) (f : Plc → Plc) : (s.onPlc f).panel = s.panel := rfl
@[simp] theorem onPlc_pending (s : State) (f : Plc → Plc) : (s.onPlc f).pending = s.pending := rfl
@[simp] theorem onPlc_free (s : State) (f : Plc → Plc) : (s.onPlc f).free = s.free := rfl

@[simp] theorem onTier_tier (s : State) (f : Tier → Tier) : (s.onTier f).tier = f s.tier := rfl
@[simp] theorem onTier_power (s : State) (f : Tier → Tier) : (s.onTier f).power = s.power := rfl
@[simp] theorem onTier_straps (s : State) (f : Tier → Tier) : (s.onTier f).straps = s.straps := rfl
@[simp] theorem onTier_host (s : State) (f : Tier → Tier) : (s.onTier f).host = s.host := rfl
@[simp] theorem onTier_fabric (s : State) (f : Tier → Tier) : (s.onTier f).fabric = s.fabric := rfl
@[simp] theorem onTier_recd (s : State) (f : Tier → Tier) : (s.onTier f).recd = s.recd := rfl
@[simp] theorem onTier_cfg (s : State) (f : Tier → Tier) : (s.onTier f).cfg = s.cfg := rfl
@[simp] theorem onTier_fog (s : State) (f : Tier → Tier) : (s.onTier f).fog = s.fog := rfl
@[simp] theorem onTier_gate (s : State) (f : Tier → Tier) : (s.onTier f).gate = s.gate := rfl
@[simp] theorem onTier_store (s : State) (f : Tier → Tier) : (s.onTier f).store = s.store := rfl
@[simp] theorem onTier_time (s : State) (f : Tier → Tier) : (s.onTier f).time = s.time := rfl
@[simp] theorem onTier_tbl (s : State) (f : Tier → Tier) : (s.onTier f).tbl = s.tbl := rfl
@[simp] theorem onTier_sec (s : State) (f : Tier → Tier) : (s.onTier f).sec = s.sec := rfl
@[simp] theorem onTier_cp (s : State) (f : Tier → Tier) : (s.onTier f).cp = s.cp := rfl
@[simp] theorem onTier_sealedDie (s : State) (f : Tier → Tier) : (s.onTier f).sealedDie = s.sealedDie := rfl
@[simp] theorem onTier_metro (s : State) (f : Tier → Tier) : (s.onTier f).metro = s.metro := rfl
@[simp] theorem onTier_plc (s : State) (f : Tier → Tier) : (s.onTier f).plc = s.plc := rfl
@[simp] theorem onTier_radios (s : State) (f : Tier → Tier) : (s.onTier f).radios = s.radios := rfl
@[simp] theorem onTier_bal (s : State) (f : Tier → Tier) : (s.onTier f).bal = s.bal := rfl
@[simp] theorem onTier_camps (s : State) (f : Tier → Tier) : (s.onTier f).camps = s.camps := rfl
@[simp] theorem onTier_panel (s : State) (f : Tier → Tier) : (s.onTier f).panel = s.panel := rfl
@[simp] theorem onTier_pending (s : State) (f : Tier → Tier) : (s.onTier f).pending = s.pending := rfl
@[simp] theorem onTier_free (s : State) (f : Tier → Tier) : (s.onTier f).free = s.free := rfl

@[simp] theorem onFog_fog (s : State) (f : Fog → Fog) : (s.onFog f).fog = f s.fog := rfl
@[simp] theorem onFog_power (s : State) (f : Fog → Fog) : (s.onFog f).power = s.power := rfl
@[simp] theorem onFog_straps (s : State) (f : Fog → Fog) : (s.onFog f).straps = s.straps := rfl
@[simp] theorem onFog_host (s : State) (f : Fog → Fog) : (s.onFog f).host = s.host := rfl
@[simp] theorem onFog_fabric (s : State) (f : Fog → Fog) : (s.onFog f).fabric = s.fabric := rfl
@[simp] theorem onFog_recd (s : State) (f : Fog → Fog) : (s.onFog f).recd = s.recd := rfl
@[simp] theorem onFog_cfg (s : State) (f : Fog → Fog) : (s.onFog f).cfg = s.cfg := rfl
@[simp] theorem onFog_gate (s : State) (f : Fog → Fog) : (s.onFog f).gate = s.gate := rfl
@[simp] theorem onFog_store (s : State) (f : Fog → Fog) : (s.onFog f).store = s.store := rfl
@[simp] theorem onFog_time (s : State) (f : Fog → Fog) : (s.onFog f).time = s.time := rfl
@[simp] theorem onFog_tbl (s : State) (f : Fog → Fog) : (s.onFog f).tbl = s.tbl := rfl
@[simp] theorem onFog_sec (s : State) (f : Fog → Fog) : (s.onFog f).sec = s.sec := rfl
@[simp] theorem onFog_cp (s : State) (f : Fog → Fog) : (s.onFog f).cp = s.cp := rfl
@[simp] theorem onFog_sealedDie (s : State) (f : Fog → Fog) : (s.onFog f).sealedDie = s.sealedDie := rfl
@[simp] theorem onFog_metro (s : State) (f : Fog → Fog) : (s.onFog f).metro = s.metro := rfl
@[simp] theorem onFog_tier (s : State) (f : Fog → Fog) : (s.onFog f).tier = s.tier := rfl
@[simp] theorem onFog_plc (s : State) (f : Fog → Fog) : (s.onFog f).plc = s.plc := rfl
@[simp] theorem onFog_radios (s : State) (f : Fog → Fog) : (s.onFog f).radios = s.radios := rfl
@[simp] theorem onFog_bal (s : State) (f : Fog → Fog) : (s.onFog f).bal = s.bal := rfl
@[simp] theorem onFog_camps (s : State) (f : Fog → Fog) : (s.onFog f).camps = s.camps := rfl
@[simp] theorem onFog_panel (s : State) (f : Fog → Fog) : (s.onFog f).panel = s.panel := rfl
@[simp] theorem onFog_pending (s : State) (f : Fog → Fog) : (s.onFog f).pending = s.pending := rfl
@[simp] theorem onFog_free (s : State) (f : Fog → Fog) : (s.onFog f).free = s.free := rfl

@[simp] theorem onTime_time (s : State) (f : Time → Time) : (s.onTime f).time = f s.time := rfl
@[simp] theorem onTime_power (s : State) (f : Time → Time) : (s.onTime f).power = s.power := rfl
@[simp] theorem onTime_straps (s : State) (f : Time → Time) : (s.onTime f).straps = s.straps := rfl
@[simp] theorem onTime_host (s : State) (f : Time → Time) : (s.onTime f).host = s.host := rfl
@[simp] theorem onTime_fabric (s : State) (f : Time → Time) : (s.onTime f).fabric = s.fabric := rfl
@[simp] theorem onTime_recd (s : State) (f : Time → Time) : (s.onTime f).recd = s.recd := rfl
@[simp] theorem onTime_cfg (s : State) (f : Time → Time) : (s.onTime f).cfg = s.cfg := rfl
@[simp] theorem onTime_fog (s : State) (f : Time → Time) : (s.onTime f).fog = s.fog := rfl
@[simp] theorem onTime_gate (s : State) (f : Time → Time) : (s.onTime f).gate = s.gate := rfl
@[simp] theorem onTime_store (s : State) (f : Time → Time) : (s.onTime f).store = s.store := rfl
@[simp] theorem onTime_tbl (s : State) (f : Time → Time) : (s.onTime f).tbl = s.tbl := rfl
@[simp] theorem onTime_sec (s : State) (f : Time → Time) : (s.onTime f).sec = s.sec := rfl
@[simp] theorem onTime_cp (s : State) (f : Time → Time) : (s.onTime f).cp = s.cp := rfl
@[simp] theorem onTime_sealedDie (s : State) (f : Time → Time) : (s.onTime f).sealedDie = s.sealedDie := rfl
@[simp] theorem onTime_metro (s : State) (f : Time → Time) : (s.onTime f).metro = s.metro := rfl
@[simp] theorem onTime_tier (s : State) (f : Time → Time) : (s.onTime f).tier = s.tier := rfl
@[simp] theorem onTime_plc (s : State) (f : Time → Time) : (s.onTime f).plc = s.plc := rfl
@[simp] theorem onTime_radios (s : State) (f : Time → Time) : (s.onTime f).radios = s.radios := rfl
@[simp] theorem onTime_bal (s : State) (f : Time → Time) : (s.onTime f).bal = s.bal := rfl
@[simp] theorem onTime_camps (s : State) (f : Time → Time) : (s.onTime f).camps = s.camps := rfl
@[simp] theorem onTime_panel (s : State) (f : Time → Time) : (s.onTime f).panel = s.panel := rfl
@[simp] theorem onTime_pending (s : State) (f : Time → Time) : (s.onTime f).pending = s.pending := rfl
@[simp] theorem onTime_free (s : State) (f : Time → Time) : (s.onTime f).free = s.free := rfl

@[simp] theorem onTbl_tbl (s : State) (f : Tbl → Tbl) : (s.onTbl f).tbl = f s.tbl := rfl
@[simp] theorem onTbl_power (s : State) (f : Tbl → Tbl) : (s.onTbl f).power = s.power := rfl
@[simp] theorem onTbl_straps (s : State) (f : Tbl → Tbl) : (s.onTbl f).straps = s.straps := rfl
@[simp] theorem onTbl_host (s : State) (f : Tbl → Tbl) : (s.onTbl f).host = s.host := rfl
@[simp] theorem onTbl_fabric (s : State) (f : Tbl → Tbl) : (s.onTbl f).fabric = s.fabric := rfl
@[simp] theorem onTbl_recd (s : State) (f : Tbl → Tbl) : (s.onTbl f).recd = s.recd := rfl
@[simp] theorem onTbl_cfg (s : State) (f : Tbl → Tbl) : (s.onTbl f).cfg = s.cfg := rfl
@[simp] theorem onTbl_fog (s : State) (f : Tbl → Tbl) : (s.onTbl f).fog = s.fog := rfl
@[simp] theorem onTbl_gate (s : State) (f : Tbl → Tbl) : (s.onTbl f).gate = s.gate := rfl
@[simp] theorem onTbl_store (s : State) (f : Tbl → Tbl) : (s.onTbl f).store = s.store := rfl
@[simp] theorem onTbl_time (s : State) (f : Tbl → Tbl) : (s.onTbl f).time = s.time := rfl
@[simp] theorem onTbl_sec (s : State) (f : Tbl → Tbl) : (s.onTbl f).sec = s.sec := rfl
@[simp] theorem onTbl_cp (s : State) (f : Tbl → Tbl) : (s.onTbl f).cp = s.cp := rfl
@[simp] theorem onTbl_sealedDie (s : State) (f : Tbl → Tbl) : (s.onTbl f).sealedDie = s.sealedDie := rfl
@[simp] theorem onTbl_metro (s : State) (f : Tbl → Tbl) : (s.onTbl f).metro = s.metro := rfl
@[simp] theorem onTbl_tier (s : State) (f : Tbl → Tbl) : (s.onTbl f).tier = s.tier := rfl
@[simp] theorem onTbl_plc (s : State) (f : Tbl → Tbl) : (s.onTbl f).plc = s.plc := rfl
@[simp] theorem onTbl_radios (s : State) (f : Tbl → Tbl) : (s.onTbl f).radios = s.radios := rfl
@[simp] theorem onTbl_bal (s : State) (f : Tbl → Tbl) : (s.onTbl f).bal = s.bal := rfl
@[simp] theorem onTbl_camps (s : State) (f : Tbl → Tbl) : (s.onTbl f).camps = s.camps := rfl
@[simp] theorem onTbl_panel (s : State) (f : Tbl → Tbl) : (s.onTbl f).panel = s.panel := rfl
@[simp] theorem onTbl_pending (s : State) (f : Tbl → Tbl) : (s.onTbl f).pending = s.pending := rfl
@[simp] theorem onTbl_free (s : State) (f : Tbl → Tbl) : (s.onTbl f).free = s.free := rfl

@[simp] theorem onSec_sec (s : State) (f : Sec → Sec) : (s.onSec f).sec = f s.sec := rfl
@[simp] theorem onSec_power (s : State) (f : Sec → Sec) : (s.onSec f).power = s.power := rfl
@[simp] theorem onSec_straps (s : State) (f : Sec → Sec) : (s.onSec f).straps = s.straps := rfl
@[simp] theorem onSec_host (s : State) (f : Sec → Sec) : (s.onSec f).host = s.host := rfl
@[simp] theorem onSec_fabric (s : State) (f : Sec → Sec) : (s.onSec f).fabric = s.fabric := rfl
@[simp] theorem onSec_recd (s : State) (f : Sec → Sec) : (s.onSec f).recd = s.recd := rfl
@[simp] theorem onSec_cfg (s : State) (f : Sec → Sec) : (s.onSec f).cfg = s.cfg := rfl
@[simp] theorem onSec_fog (s : State) (f : Sec → Sec) : (s.onSec f).fog = s.fog := rfl
@[simp] theorem onSec_gate (s : State) (f : Sec → Sec) : (s.onSec f).gate = s.gate := rfl
@[simp] theorem onSec_store (s : State) (f : Sec → Sec) : (s.onSec f).store = s.store := rfl
@[simp] theorem onSec_time (s : State) (f : Sec → Sec) : (s.onSec f).time = s.time := rfl
@[simp] theorem onSec_tbl (s : State) (f : Sec → Sec) : (s.onSec f).tbl = s.tbl := rfl
@[simp] theorem onSec_cp (s : State) (f : Sec → Sec) : (s.onSec f).cp = s.cp := rfl
@[simp] theorem onSec_sealedDie (s : State) (f : Sec → Sec) : (s.onSec f).sealedDie = s.sealedDie := rfl
@[simp] theorem onSec_metro (s : State) (f : Sec → Sec) : (s.onSec f).metro = s.metro := rfl
@[simp] theorem onSec_tier (s : State) (f : Sec → Sec) : (s.onSec f).tier = s.tier := rfl
@[simp] theorem onSec_plc (s : State) (f : Sec → Sec) : (s.onSec f).plc = s.plc := rfl
@[simp] theorem onSec_radios (s : State) (f : Sec → Sec) : (s.onSec f).radios = s.radios := rfl
@[simp] theorem onSec_bal (s : State) (f : Sec → Sec) : (s.onSec f).bal = s.bal := rfl
@[simp] theorem onSec_camps (s : State) (f : Sec → Sec) : (s.onSec f).camps = s.camps := rfl
@[simp] theorem onSec_panel (s : State) (f : Sec → Sec) : (s.onSec f).panel = s.panel := rfl
@[simp] theorem onSec_pending (s : State) (f : Sec → Sec) : (s.onSec f).pending = s.pending := rfl
@[simp] theorem onSec_free (s : State) (f : Sec → Sec) : (s.onSec f).free = s.free := rfl

@[simp] theorem onCp_cp (s : State) (f : Cp → Cp) : (s.onCp f).cp = f s.cp := rfl
@[simp] theorem onCp_power (s : State) (f : Cp → Cp) : (s.onCp f).power = s.power := rfl
@[simp] theorem onCp_straps (s : State) (f : Cp → Cp) : (s.onCp f).straps = s.straps := rfl
@[simp] theorem onCp_host (s : State) (f : Cp → Cp) : (s.onCp f).host = s.host := rfl
@[simp] theorem onCp_fabric (s : State) (f : Cp → Cp) : (s.onCp f).fabric = s.fabric := rfl
@[simp] theorem onCp_recd (s : State) (f : Cp → Cp) : (s.onCp f).recd = s.recd := rfl
@[simp] theorem onCp_cfg (s : State) (f : Cp → Cp) : (s.onCp f).cfg = s.cfg := rfl
@[simp] theorem onCp_fog (s : State) (f : Cp → Cp) : (s.onCp f).fog = s.fog := rfl
@[simp] theorem onCp_gate (s : State) (f : Cp → Cp) : (s.onCp f).gate = s.gate := rfl
@[simp] theorem onCp_store (s : State) (f : Cp → Cp) : (s.onCp f).store = s.store := rfl
@[simp] theorem onCp_time (s : State) (f : Cp → Cp) : (s.onCp f).time = s.time := rfl
@[simp] theorem onCp_tbl (s : State) (f : Cp → Cp) : (s.onCp f).tbl = s.tbl := rfl
@[simp] theorem onCp_sec (s : State) (f : Cp → Cp) : (s.onCp f).sec = s.sec := rfl
@[simp] theorem onCp_sealedDie (s : State) (f : Cp → Cp) : (s.onCp f).sealedDie = s.sealedDie := rfl
@[simp] theorem onCp_metro (s : State) (f : Cp → Cp) : (s.onCp f).metro = s.metro := rfl
@[simp] theorem onCp_tier (s : State) (f : Cp → Cp) : (s.onCp f).tier = s.tier := rfl
@[simp] theorem onCp_plc (s : State) (f : Cp → Cp) : (s.onCp f).plc = s.plc := rfl
@[simp] theorem onCp_radios (s : State) (f : Cp → Cp) : (s.onCp f).radios = s.radios := rfl
@[simp] theorem onCp_bal (s : State) (f : Cp → Cp) : (s.onCp f).bal = s.bal := rfl
@[simp] theorem onCp_camps (s : State) (f : Cp → Cp) : (s.onCp f).camps = s.camps := rfl
@[simp] theorem onCp_panel (s : State) (f : Cp → Cp) : (s.onCp f).panel = s.panel := rfl
@[simp] theorem onCp_pending (s : State) (f : Cp → Cp) : (s.onCp f).pending = s.pending := rfl
@[simp] theorem onCp_free (s : State) (f : Cp → Cp) : (s.onCp f).free = s.free := rfl

@[simp] theorem onSealed_sealedDie (s : State) (f : Sealed → Sealed) : (s.onSealed f).sealedDie = f s.sealedDie := rfl
@[simp] theorem onSealed_power (s : State) (f : Sealed → Sealed) : (s.onSealed f).power = s.power := rfl
@[simp] theorem onSealed_straps (s : State) (f : Sealed → Sealed) : (s.onSealed f).straps = s.straps := rfl
@[simp] theorem onSealed_host (s : State) (f : Sealed → Sealed) : (s.onSealed f).host = s.host := rfl
@[simp] theorem onSealed_fabric (s : State) (f : Sealed → Sealed) : (s.onSealed f).fabric = s.fabric := rfl
@[simp] theorem onSealed_recd (s : State) (f : Sealed → Sealed) : (s.onSealed f).recd = s.recd := rfl
@[simp] theorem onSealed_cfg (s : State) (f : Sealed → Sealed) : (s.onSealed f).cfg = s.cfg := rfl
@[simp] theorem onSealed_fog (s : State) (f : Sealed → Sealed) : (s.onSealed f).fog = s.fog := rfl
@[simp] theorem onSealed_gate (s : State) (f : Sealed → Sealed) : (s.onSealed f).gate = s.gate := rfl
@[simp] theorem onSealed_store (s : State) (f : Sealed → Sealed) : (s.onSealed f).store = s.store := rfl
@[simp] theorem onSealed_time (s : State) (f : Sealed → Sealed) : (s.onSealed f).time = s.time := rfl
@[simp] theorem onSealed_tbl (s : State) (f : Sealed → Sealed) : (s.onSealed f).tbl = s.tbl := rfl
@[simp] theorem onSealed_sec (s : State) (f : Sealed → Sealed) : (s.onSealed f).sec = s.sec := rfl
@[simp] theorem onSealed_cp (s : State) (f : Sealed → Sealed) : (s.onSealed f).cp = s.cp := rfl
@[simp] theorem onSealed_metro (s : State) (f : Sealed → Sealed) : (s.onSealed f).metro = s.metro := rfl
@[simp] theorem onSealed_tier (s : State) (f : Sealed → Sealed) : (s.onSealed f).tier = s.tier := rfl
@[simp] theorem onSealed_plc (s : State) (f : Sealed → Sealed) : (s.onSealed f).plc = s.plc := rfl
@[simp] theorem onSealed_radios (s : State) (f : Sealed → Sealed) : (s.onSealed f).radios = s.radios := rfl
@[simp] theorem onSealed_bal (s : State) (f : Sealed → Sealed) : (s.onSealed f).bal = s.bal := rfl
@[simp] theorem onSealed_camps (s : State) (f : Sealed → Sealed) : (s.onSealed f).camps = s.camps := rfl
@[simp] theorem onSealed_panel (s : State) (f : Sealed → Sealed) : (s.onSealed f).panel = s.panel := rfl
@[simp] theorem onSealed_pending (s : State) (f : Sealed → Sealed) : (s.onSealed f).pending = s.pending := rfl
@[simp] theorem onSealed_free (s : State) (f : Sealed → Sealed) : (s.onSealed f).free = s.free := rfl

@[simp] theorem onMetro_metro (s : State) (f : Metro → Metro) : (s.onMetro f).metro = f s.metro := rfl
@[simp] theorem onMetro_power (s : State) (f : Metro → Metro) : (s.onMetro f).power = s.power := rfl
@[simp] theorem onMetro_straps (s : State) (f : Metro → Metro) : (s.onMetro f).straps = s.straps := rfl
@[simp] theorem onMetro_host (s : State) (f : Metro → Metro) : (s.onMetro f).host = s.host := rfl
@[simp] theorem onMetro_fabric (s : State) (f : Metro → Metro) : (s.onMetro f).fabric = s.fabric := rfl
@[simp] theorem onMetro_recd (s : State) (f : Metro → Metro) : (s.onMetro f).recd = s.recd := rfl
@[simp] theorem onMetro_cfg (s : State) (f : Metro → Metro) : (s.onMetro f).cfg = s.cfg := rfl
@[simp] theorem onMetro_fog (s : State) (f : Metro → Metro) : (s.onMetro f).fog = s.fog := rfl
@[simp] theorem onMetro_gate (s : State) (f : Metro → Metro) : (s.onMetro f).gate = s.gate := rfl
@[simp] theorem onMetro_store (s : State) (f : Metro → Metro) : (s.onMetro f).store = s.store := rfl
@[simp] theorem onMetro_time (s : State) (f : Metro → Metro) : (s.onMetro f).time = s.time := rfl
@[simp] theorem onMetro_tbl (s : State) (f : Metro → Metro) : (s.onMetro f).tbl = s.tbl := rfl
@[simp] theorem onMetro_sec (s : State) (f : Metro → Metro) : (s.onMetro f).sec = s.sec := rfl
@[simp] theorem onMetro_cp (s : State) (f : Metro → Metro) : (s.onMetro f).cp = s.cp := rfl
@[simp] theorem onMetro_sealedDie (s : State) (f : Metro → Metro) : (s.onMetro f).sealedDie = s.sealedDie := rfl
@[simp] theorem onMetro_tier (s : State) (f : Metro → Metro) : (s.onMetro f).tier = s.tier := rfl
@[simp] theorem onMetro_plc (s : State) (f : Metro → Metro) : (s.onMetro f).plc = s.plc := rfl
@[simp] theorem onMetro_radios (s : State) (f : Metro → Metro) : (s.onMetro f).radios = s.radios := rfl
@[simp] theorem onMetro_bal (s : State) (f : Metro → Metro) : (s.onMetro f).bal = s.bal := rfl
@[simp] theorem onMetro_camps (s : State) (f : Metro → Metro) : (s.onMetro f).camps = s.camps := rfl
@[simp] theorem onMetro_panel (s : State) (f : Metro → Metro) : (s.onMetro f).panel = s.panel := rfl
@[simp] theorem onMetro_pending (s : State) (f : Metro → Metro) : (s.onMetro f).pending = s.pending := rfl
@[simp] theorem onMetro_free (s : State) (f : Metro → Metro) : (s.onMetro f).free = s.free := rfl

@[simp] theorem onBal_bal (s : State) (f : Bal → Bal) : (s.onBal f).bal = f s.bal := rfl
@[simp] theorem onBal_power (s : State) (f : Bal → Bal) : (s.onBal f).power = s.power := rfl
@[simp] theorem onBal_straps (s : State) (f : Bal → Bal) : (s.onBal f).straps = s.straps := rfl
@[simp] theorem onBal_host (s : State) (f : Bal → Bal) : (s.onBal f).host = s.host := rfl
@[simp] theorem onBal_fabric (s : State) (f : Bal → Bal) : (s.onBal f).fabric = s.fabric := rfl
@[simp] theorem onBal_recd (s : State) (f : Bal → Bal) : (s.onBal f).recd = s.recd := rfl
@[simp] theorem onBal_cfg (s : State) (f : Bal → Bal) : (s.onBal f).cfg = s.cfg := rfl
@[simp] theorem onBal_fog (s : State) (f : Bal → Bal) : (s.onBal f).fog = s.fog := rfl
@[simp] theorem onBal_gate (s : State) (f : Bal → Bal) : (s.onBal f).gate = s.gate := rfl
@[simp] theorem onBal_store (s : State) (f : Bal → Bal) : (s.onBal f).store = s.store := rfl
@[simp] theorem onBal_time (s : State) (f : Bal → Bal) : (s.onBal f).time = s.time := rfl
@[simp] theorem onBal_tbl (s : State) (f : Bal → Bal) : (s.onBal f).tbl = s.tbl := rfl
@[simp] theorem onBal_sec (s : State) (f : Bal → Bal) : (s.onBal f).sec = s.sec := rfl
@[simp] theorem onBal_cp (s : State) (f : Bal → Bal) : (s.onBal f).cp = s.cp := rfl
@[simp] theorem onBal_sealedDie (s : State) (f : Bal → Bal) : (s.onBal f).sealedDie = s.sealedDie := rfl
@[simp] theorem onBal_metro (s : State) (f : Bal → Bal) : (s.onBal f).metro = s.metro := rfl
@[simp] theorem onBal_tier (s : State) (f : Bal → Bal) : (s.onBal f).tier = s.tier := rfl
@[simp] theorem onBal_plc (s : State) (f : Bal → Bal) : (s.onBal f).plc = s.plc := rfl
@[simp] theorem onBal_radios (s : State) (f : Bal → Bal) : (s.onBal f).radios = s.radios := rfl
@[simp] theorem onBal_camps (s : State) (f : Bal → Bal) : (s.onBal f).camps = s.camps := rfl
@[simp] theorem onBal_panel (s : State) (f : Bal → Bal) : (s.onBal f).panel = s.panel := rfl
@[simp] theorem onBal_pending (s : State) (f : Bal → Bal) : (s.onBal f).pending = s.pending := rfl
@[simp] theorem onBal_free (s : State) (f : Bal → Bal) : (s.onBal f).free = s.free := rfl

@[simp] theorem onPanel_panel (s : State) (f : Panel → Panel) : (s.onPanel f).panel = f s.panel := rfl
@[simp] theorem onPanel_power (s : State) (f : Panel → Panel) : (s.onPanel f).power = s.power := rfl
@[simp] theorem onPanel_straps (s : State) (f : Panel → Panel) : (s.onPanel f).straps = s.straps := rfl
@[simp] theorem onPanel_host (s : State) (f : Panel → Panel) : (s.onPanel f).host = s.host := rfl
@[simp] theorem onPanel_fabric (s : State) (f : Panel → Panel) : (s.onPanel f).fabric = s.fabric := rfl
@[simp] theorem onPanel_recd (s : State) (f : Panel → Panel) : (s.onPanel f).recd = s.recd := rfl
@[simp] theorem onPanel_cfg (s : State) (f : Panel → Panel) : (s.onPanel f).cfg = s.cfg := rfl
@[simp] theorem onPanel_fog (s : State) (f : Panel → Panel) : (s.onPanel f).fog = s.fog := rfl
@[simp] theorem onPanel_gate (s : State) (f : Panel → Panel) : (s.onPanel f).gate = s.gate := rfl
@[simp] theorem onPanel_store (s : State) (f : Panel → Panel) : (s.onPanel f).store = s.store := rfl
@[simp] theorem onPanel_time (s : State) (f : Panel → Panel) : (s.onPanel f).time = s.time := rfl
@[simp] theorem onPanel_tbl (s : State) (f : Panel → Panel) : (s.onPanel f).tbl = s.tbl := rfl
@[simp] theorem onPanel_sec (s : State) (f : Panel → Panel) : (s.onPanel f).sec = s.sec := rfl
@[simp] theorem onPanel_cp (s : State) (f : Panel → Panel) : (s.onPanel f).cp = s.cp := rfl
@[simp] theorem onPanel_sealedDie (s : State) (f : Panel → Panel) : (s.onPanel f).sealedDie = s.sealedDie := rfl
@[simp] theorem onPanel_metro (s : State) (f : Panel → Panel) : (s.onPanel f).metro = s.metro := rfl
@[simp] theorem onPanel_tier (s : State) (f : Panel → Panel) : (s.onPanel f).tier = s.tier := rfl
@[simp] theorem onPanel_plc (s : State) (f : Panel → Panel) : (s.onPanel f).plc = s.plc := rfl
@[simp] theorem onPanel_radios (s : State) (f : Panel → Panel) : (s.onPanel f).radios = s.radios := rfl
@[simp] theorem onPanel_bal (s : State) (f : Panel → Panel) : (s.onPanel f).bal = s.bal := rfl
@[simp] theorem onPanel_camps (s : State) (f : Panel → Panel) : (s.onPanel f).camps = s.camps := rfl
@[simp] theorem onPanel_pending (s : State) (f : Panel → Panel) : (s.onPanel f).pending = s.pending := rfl
@[simp] theorem onPanel_free (s : State) (f : Panel → Panel) : (s.onPanel f).free = s.free := rfl

@[simp] theorem onQueue_power (s : State) (q : Nat) (f : Queue → Queue) : (s.onQueue q f).power = s.power := rfl
@[simp] theorem onQueue_straps (s : State) (q : Nat) (f : Queue → Queue) : (s.onQueue q f).straps = s.straps := rfl
@[simp] theorem onQueue_host (s : State) (q : Nat) (f : Queue → Queue) : (s.onQueue q f).host = s.host := rfl
@[simp] theorem onQueue_recd (s : State) (q : Nat) (f : Queue → Queue) : (s.onQueue q f).recd = s.recd := rfl
@[simp] theorem onQueue_cfg (s : State) (q : Nat) (f : Queue → Queue) : (s.onQueue q f).cfg = s.cfg := rfl
@[simp] theorem onQueue_fog (s : State) (q : Nat) (f : Queue → Queue) : (s.onQueue q f).fog = s.fog := rfl
@[simp] theorem onQueue_gate (s : State) (q : Nat) (f : Queue → Queue) : (s.onQueue q f).gate = s.gate := rfl
@[simp] theorem onQueue_store (s : State) (q : Nat) (f : Queue → Queue) : (s.onQueue q f).store = s.store := rfl
@[simp] theorem onQueue_time (s : State) (q : Nat) (f : Queue → Queue) : (s.onQueue q f).time = s.time := rfl
@[simp] theorem onQueue_tbl (s : State) (q : Nat) (f : Queue → Queue) : (s.onQueue q f).tbl = s.tbl := rfl
@[simp] theorem onQueue_sec (s : State) (q : Nat) (f : Queue → Queue) : (s.onQueue q f).sec = s.sec := rfl
@[simp] theorem onQueue_cp (s : State) (q : Nat) (f : Queue → Queue) : (s.onQueue q f).cp = s.cp := rfl
@[simp] theorem onQueue_sealedDie (s : State) (q : Nat) (f : Queue → Queue) : (s.onQueue q f).sealedDie = s.sealedDie := rfl
@[simp] theorem onQueue_metro (s : State) (q : Nat) (f : Queue → Queue) : (s.onQueue q f).metro = s.metro := rfl
@[simp] theorem onQueue_tier (s : State) (q : Nat) (f : Queue → Queue) : (s.onQueue q f).tier = s.tier := rfl
@[simp] theorem onQueue_plc (s : State) (q : Nat) (f : Queue → Queue) : (s.onQueue q f).plc = s.plc := rfl
@[simp] theorem onQueue_radios (s : State) (q : Nat) (f : Queue → Queue) : (s.onQueue q f).radios = s.radios := rfl
@[simp] theorem onQueue_bal (s : State) (q : Nat) (f : Queue → Queue) : (s.onQueue q f).bal = s.bal := rfl
@[simp] theorem onQueue_camps (s : State) (q : Nat) (f : Queue → Queue) : (s.onQueue q f).camps = s.camps := rfl
@[simp] theorem onQueue_panel (s : State) (q : Nat) (f : Queue → Queue) : (s.onQueue q f).panel = s.panel := rfl
@[simp] theorem onQueue_pending (s : State) (q : Nat) (f : Queue → Queue) : (s.onQueue q f).pending = s.pending := rfl
@[simp] theorem onQueue_free (s : State) (q : Nat) (f : Queue → Queue) : (s.onQueue q f).free = s.free := rfl

@[simp] theorem onPort_power (s : State) (p : Nat) (f : PlcPort → PlcPort) : (s.onPort p f).power = s.power := rfl
@[simp] theorem onPort_straps (s : State) (p : Nat) (f : PlcPort → PlcPort) : (s.onPort p f).straps = s.straps := rfl
@[simp] theorem onPort_host (s : State) (p : Nat) (f : PlcPort → PlcPort) : (s.onPort p f).host = s.host := rfl
@[simp] theorem onPort_fabric (s : State) (p : Nat) (f : PlcPort → PlcPort) : (s.onPort p f).fabric = s.fabric := rfl
@[simp] theorem onPort_recd (s : State) (p : Nat) (f : PlcPort → PlcPort) : (s.onPort p f).recd = s.recd := rfl
@[simp] theorem onPort_cfg (s : State) (p : Nat) (f : PlcPort → PlcPort) : (s.onPort p f).cfg = s.cfg := rfl
@[simp] theorem onPort_fog (s : State) (p : Nat) (f : PlcPort → PlcPort) : (s.onPort p f).fog = s.fog := rfl
@[simp] theorem onPort_gate (s : State) (p : Nat) (f : PlcPort → PlcPort) : (s.onPort p f).gate = s.gate := rfl
@[simp] theorem onPort_store (s : State) (p : Nat) (f : PlcPort → PlcPort) : (s.onPort p f).store = s.store := rfl
@[simp] theorem onPort_time (s : State) (p : Nat) (f : PlcPort → PlcPort) : (s.onPort p f).time = s.time := rfl
@[simp] theorem onPort_tbl (s : State) (p : Nat) (f : PlcPort → PlcPort) : (s.onPort p f).tbl = s.tbl := rfl
@[simp] theorem onPort_sec (s : State) (p : Nat) (f : PlcPort → PlcPort) : (s.onPort p f).sec = s.sec := rfl
@[simp] theorem onPort_cp (s : State) (p : Nat) (f : PlcPort → PlcPort) : (s.onPort p f).cp = s.cp := rfl
@[simp] theorem onPort_sealedDie (s : State) (p : Nat) (f : PlcPort → PlcPort) : (s.onPort p f).sealedDie = s.sealedDie := rfl
@[simp] theorem onPort_metro (s : State) (p : Nat) (f : PlcPort → PlcPort) : (s.onPort p f).metro = s.metro := rfl
@[simp] theorem onPort_tier (s : State) (p : Nat) (f : PlcPort → PlcPort) : (s.onPort p f).tier = s.tier := rfl
@[simp] theorem onPort_radios (s : State) (p : Nat) (f : PlcPort → PlcPort) : (s.onPort p f).radios = s.radios := rfl
@[simp] theorem onPort_bal (s : State) (p : Nat) (f : PlcPort → PlcPort) : (s.onPort p f).bal = s.bal := rfl
@[simp] theorem onPort_camps (s : State) (p : Nat) (f : PlcPort → PlcPort) : (s.onPort p f).camps = s.camps := rfl
@[simp] theorem onPort_panel (s : State) (p : Nat) (f : PlcPort → PlcPort) : (s.onPort p f).panel = s.panel := rfl
@[simp] theorem onPort_pending (s : State) (p : Nat) (f : PlcPort → PlcPort) : (s.onPort p f).pending = s.pending := rfl
@[simp] theorem onPort_free (s : State) (p : Nat) (f : PlcPort → PlcPort) : (s.onPort p f).free = s.free := rfl

@[simp] theorem onRadio_power (s : State) (n : Nat) (f : Radio → Radio) : (s.onRadio n f).power = s.power := rfl
@[simp] theorem onRadio_straps (s : State) (n : Nat) (f : Radio → Radio) : (s.onRadio n f).straps = s.straps := rfl
@[simp] theorem onRadio_host (s : State) (n : Nat) (f : Radio → Radio) : (s.onRadio n f).host = s.host := rfl
@[simp] theorem onRadio_fabric (s : State) (n : Nat) (f : Radio → Radio) : (s.onRadio n f).fabric = s.fabric := rfl
@[simp] theorem onRadio_recd (s : State) (n : Nat) (f : Radio → Radio) : (s.onRadio n f).recd = s.recd := rfl
@[simp] theorem onRadio_cfg (s : State) (n : Nat) (f : Radio → Radio) : (s.onRadio n f).cfg = s.cfg := rfl
@[simp] theorem onRadio_fog (s : State) (n : Nat) (f : Radio → Radio) : (s.onRadio n f).fog = s.fog := rfl
@[simp] theorem onRadio_gate (s : State) (n : Nat) (f : Radio → Radio) : (s.onRadio n f).gate = s.gate := rfl
@[simp] theorem onRadio_store (s : State) (n : Nat) (f : Radio → Radio) : (s.onRadio n f).store = s.store := rfl
@[simp] theorem onRadio_time (s : State) (n : Nat) (f : Radio → Radio) : (s.onRadio n f).time = s.time := rfl
@[simp] theorem onRadio_tbl (s : State) (n : Nat) (f : Radio → Radio) : (s.onRadio n f).tbl = s.tbl := rfl
@[simp] theorem onRadio_sec (s : State) (n : Nat) (f : Radio → Radio) : (s.onRadio n f).sec = s.sec := rfl
@[simp] theorem onRadio_cp (s : State) (n : Nat) (f : Radio → Radio) : (s.onRadio n f).cp = s.cp := rfl
@[simp] theorem onRadio_sealedDie (s : State) (n : Nat) (f : Radio → Radio) : (s.onRadio n f).sealedDie = s.sealedDie := rfl
@[simp] theorem onRadio_metro (s : State) (n : Nat) (f : Radio → Radio) : (s.onRadio n f).metro = s.metro := rfl
@[simp] theorem onRadio_tier (s : State) (n : Nat) (f : Radio → Radio) : (s.onRadio n f).tier = s.tier := rfl
@[simp] theorem onRadio_plc (s : State) (n : Nat) (f : Radio → Radio) : (s.onRadio n f).plc = s.plc := rfl
@[simp] theorem onRadio_bal (s : State) (n : Nat) (f : Radio → Radio) : (s.onRadio n f).bal = s.bal := rfl
@[simp] theorem onRadio_camps (s : State) (n : Nat) (f : Radio → Radio) : (s.onRadio n f).camps = s.camps := rfl
@[simp] theorem onRadio_panel (s : State) (n : Nat) (f : Radio → Radio) : (s.onRadio n f).panel = s.panel := rfl
@[simp] theorem onRadio_pending (s : State) (n : Nat) (f : Radio → Radio) : (s.onRadio n f).pending = s.pending := rfl
@[simp] theorem onRadio_free (s : State) (n : Nat) (f : Radio → Radio) : (s.onRadio n f).free = s.free := rfl

@[simp] theorem onNode_power (s : State) (n : Nat) (f : BalNode → BalNode) : (s.onNode n f).power = s.power := rfl
@[simp] theorem onNode_straps (s : State) (n : Nat) (f : BalNode → BalNode) : (s.onNode n f).straps = s.straps := rfl
@[simp] theorem onNode_host (s : State) (n : Nat) (f : BalNode → BalNode) : (s.onNode n f).host = s.host := rfl
@[simp] theorem onNode_fabric (s : State) (n : Nat) (f : BalNode → BalNode) : (s.onNode n f).fabric = s.fabric := rfl
@[simp] theorem onNode_recd (s : State) (n : Nat) (f : BalNode → BalNode) : (s.onNode n f).recd = s.recd := rfl
@[simp] theorem onNode_cfg (s : State) (n : Nat) (f : BalNode → BalNode) : (s.onNode n f).cfg = s.cfg := rfl
@[simp] theorem onNode_fog (s : State) (n : Nat) (f : BalNode → BalNode) : (s.onNode n f).fog = s.fog := rfl
@[simp] theorem onNode_gate (s : State) (n : Nat) (f : BalNode → BalNode) : (s.onNode n f).gate = s.gate := rfl
@[simp] theorem onNode_store (s : State) (n : Nat) (f : BalNode → BalNode) : (s.onNode n f).store = s.store := rfl
@[simp] theorem onNode_time (s : State) (n : Nat) (f : BalNode → BalNode) : (s.onNode n f).time = s.time := rfl
@[simp] theorem onNode_tbl (s : State) (n : Nat) (f : BalNode → BalNode) : (s.onNode n f).tbl = s.tbl := rfl
@[simp] theorem onNode_sec (s : State) (n : Nat) (f : BalNode → BalNode) : (s.onNode n f).sec = s.sec := rfl
@[simp] theorem onNode_cp (s : State) (n : Nat) (f : BalNode → BalNode) : (s.onNode n f).cp = s.cp := rfl
@[simp] theorem onNode_sealedDie (s : State) (n : Nat) (f : BalNode → BalNode) : (s.onNode n f).sealedDie = s.sealedDie := rfl
@[simp] theorem onNode_metro (s : State) (n : Nat) (f : BalNode → BalNode) : (s.onNode n f).metro = s.metro := rfl
@[simp] theorem onNode_tier (s : State) (n : Nat) (f : BalNode → BalNode) : (s.onNode n f).tier = s.tier := rfl
@[simp] theorem onNode_plc (s : State) (n : Nat) (f : BalNode → BalNode) : (s.onNode n f).plc = s.plc := rfl
@[simp] theorem onNode_radios (s : State) (n : Nat) (f : BalNode → BalNode) : (s.onNode n f).radios = s.radios := rfl
@[simp] theorem onNode_camps (s : State) (n : Nat) (f : BalNode → BalNode) : (s.onNode n f).camps = s.camps := rfl
@[simp] theorem onNode_panel (s : State) (n : Nat) (f : BalNode → BalNode) : (s.onNode n f).panel = s.panel := rfl
@[simp] theorem onNode_pending (s : State) (n : Nat) (f : BalNode → BalNode) : (s.onNode n f).pending = s.pending := rfl
@[simp] theorem onNode_free (s : State) (n : Nat) (f : BalNode → BalNode) : (s.onNode n f).free = s.free := rfl

@[simp] theorem onSb_power (s : State) (i : Nat) (f : Sb → Sb) : (s.onSb i f).power = s.power := rfl
@[simp] theorem onSb_straps (s : State) (i : Nat) (f : Sb → Sb) : (s.onSb i f).straps = s.straps := rfl
@[simp] theorem onSb_host (s : State) (i : Nat) (f : Sb → Sb) : (s.onSb i f).host = s.host := rfl
@[simp] theorem onSb_fabric (s : State) (i : Nat) (f : Sb → Sb) : (s.onSb i f).fabric = s.fabric := rfl
@[simp] theorem onSb_recd (s : State) (i : Nat) (f : Sb → Sb) : (s.onSb i f).recd = s.recd := rfl
@[simp] theorem onSb_cfg (s : State) (i : Nat) (f : Sb → Sb) : (s.onSb i f).cfg = s.cfg := rfl
@[simp] theorem onSb_fog (s : State) (i : Nat) (f : Sb → Sb) : (s.onSb i f).fog = s.fog := rfl
@[simp] theorem onSb_gate (s : State) (i : Nat) (f : Sb → Sb) : (s.onSb i f).gate = s.gate := rfl
@[simp] theorem onSb_time (s : State) (i : Nat) (f : Sb → Sb) : (s.onSb i f).time = s.time := rfl
@[simp] theorem onSb_tbl (s : State) (i : Nat) (f : Sb → Sb) : (s.onSb i f).tbl = s.tbl := rfl
@[simp] theorem onSb_sec (s : State) (i : Nat) (f : Sb → Sb) : (s.onSb i f).sec = s.sec := rfl
@[simp] theorem onSb_cp (s : State) (i : Nat) (f : Sb → Sb) : (s.onSb i f).cp = s.cp := rfl
@[simp] theorem onSb_sealedDie (s : State) (i : Nat) (f : Sb → Sb) : (s.onSb i f).sealedDie = s.sealedDie := rfl
@[simp] theorem onSb_metro (s : State) (i : Nat) (f : Sb → Sb) : (s.onSb i f).metro = s.metro := rfl
@[simp] theorem onSb_tier (s : State) (i : Nat) (f : Sb → Sb) : (s.onSb i f).tier = s.tier := rfl
@[simp] theorem onSb_plc (s : State) (i : Nat) (f : Sb → Sb) : (s.onSb i f).plc = s.plc := rfl
@[simp] theorem onSb_radios (s : State) (i : Nat) (f : Sb → Sb) : (s.onSb i f).radios = s.radios := rfl
@[simp] theorem onSb_bal (s : State) (i : Nat) (f : Sb → Sb) : (s.onSb i f).bal = s.bal := rfl
@[simp] theorem onSb_camps (s : State) (i : Nat) (f : Sb → Sb) : (s.onSb i f).camps = s.camps := rfl
@[simp] theorem onSb_panel (s : State) (i : Nat) (f : Sb → Sb) : (s.onSb i f).panel = s.panel := rfl
@[simp] theorem onSb_pending (s : State) (i : Nat) (f : Sb → Sb) : (s.onSb i f).pending = s.pending := rfl
@[simp] theorem onSb_free (s : State) (i : Nat) (f : Sb → Sb) : (s.onSb i f).free = s.free := rfl

@[simp] theorem onEp_power (s : State) (e : Nat) (f : Ep → Ep) : (s.onEp e f).power = s.power := rfl
@[simp] theorem onEp_straps (s : State) (e : Nat) (f : Ep → Ep) : (s.onEp e f).straps = s.straps := rfl
@[simp] theorem onEp_host (s : State) (e : Nat) (f : Ep → Ep) : (s.onEp e f).host = s.host := rfl
@[simp] theorem onEp_fabric (s : State) (e : Nat) (f : Ep → Ep) : (s.onEp e f).fabric = s.fabric := rfl
@[simp] theorem onEp_recd (s : State) (e : Nat) (f : Ep → Ep) : (s.onEp e f).recd = s.recd := rfl
@[simp] theorem onEp_cfg (s : State) (e : Nat) (f : Ep → Ep) : (s.onEp e f).cfg = s.cfg := rfl
@[simp] theorem onEp_fog (s : State) (e : Nat) (f : Ep → Ep) : (s.onEp e f).fog = s.fog := rfl
@[simp] theorem onEp_gate (s : State) (e : Nat) (f : Ep → Ep) : (s.onEp e f).gate = s.gate := rfl
@[simp] theorem onEp_store (s : State) (e : Nat) (f : Ep → Ep) : (s.onEp e f).store = s.store := rfl
@[simp] theorem onEp_time (s : State) (e : Nat) (f : Ep → Ep) : (s.onEp e f).time = s.time := rfl
@[simp] theorem onEp_tbl (s : State) (e : Nat) (f : Ep → Ep) : (s.onEp e f).tbl = s.tbl := rfl
@[simp] theorem onEp_sec (s : State) (e : Nat) (f : Ep → Ep) : (s.onEp e f).sec = s.sec := rfl
@[simp] theorem onEp_cp (s : State) (e : Nat) (f : Ep → Ep) : (s.onEp e f).cp = s.cp := rfl
@[simp] theorem onEp_metro (s : State) (e : Nat) (f : Ep → Ep) : (s.onEp e f).metro = s.metro := rfl
@[simp] theorem onEp_tier (s : State) (e : Nat) (f : Ep → Ep) : (s.onEp e f).tier = s.tier := rfl
@[simp] theorem onEp_plc (s : State) (e : Nat) (f : Ep → Ep) : (s.onEp e f).plc = s.plc := rfl
@[simp] theorem onEp_radios (s : State) (e : Nat) (f : Ep → Ep) : (s.onEp e f).radios = s.radios := rfl
@[simp] theorem onEp_bal (s : State) (e : Nat) (f : Ep → Ep) : (s.onEp e f).bal = s.bal := rfl
@[simp] theorem onEp_camps (s : State) (e : Nat) (f : Ep → Ep) : (s.onEp e f).camps = s.camps := rfl
@[simp] theorem onEp_panel (s : State) (e : Nat) (f : Ep → Ep) : (s.onEp e f).panel = s.panel := rfl
@[simp] theorem onEp_pending (s : State) (e : Nat) (f : Ep → Ep) : (s.onEp e f).pending = s.pending := rfl
@[simp] theorem onEp_free (s : State) (e : Nat) (f : Ep → Ep) : (s.onEp e f).free = s.free := rfl

@[simp] theorem onCand_power (s : State) (i : Nat) (f : Cand → Cand) : (s.onCand i f).power = s.power := rfl
@[simp] theorem onCand_straps (s : State) (i : Nat) (f : Cand → Cand) : (s.onCand i f).straps = s.straps := rfl
@[simp] theorem onCand_host (s : State) (i : Nat) (f : Cand → Cand) : (s.onCand i f).host = s.host := rfl
@[simp] theorem onCand_fabric (s : State) (i : Nat) (f : Cand → Cand) : (s.onCand i f).fabric = s.fabric := rfl
@[simp] theorem onCand_recd (s : State) (i : Nat) (f : Cand → Cand) : (s.onCand i f).recd = s.recd := rfl
@[simp] theorem onCand_cfg (s : State) (i : Nat) (f : Cand → Cand) : (s.onCand i f).cfg = s.cfg := rfl
@[simp] theorem onCand_fog (s : State) (i : Nat) (f : Cand → Cand) : (s.onCand i f).fog = s.fog := rfl
@[simp] theorem onCand_gate (s : State) (i : Nat) (f : Cand → Cand) : (s.onCand i f).gate = s.gate := rfl
@[simp] theorem onCand_store (s : State) (i : Nat) (f : Cand → Cand) : (s.onCand i f).store = s.store := rfl
@[simp] theorem onCand_tbl (s : State) (i : Nat) (f : Cand → Cand) : (s.onCand i f).tbl = s.tbl := rfl
@[simp] theorem onCand_sec (s : State) (i : Nat) (f : Cand → Cand) : (s.onCand i f).sec = s.sec := rfl
@[simp] theorem onCand_cp (s : State) (i : Nat) (f : Cand → Cand) : (s.onCand i f).cp = s.cp := rfl
@[simp] theorem onCand_sealedDie (s : State) (i : Nat) (f : Cand → Cand) : (s.onCand i f).sealedDie = s.sealedDie := rfl
@[simp] theorem onCand_metro (s : State) (i : Nat) (f : Cand → Cand) : (s.onCand i f).metro = s.metro := rfl
@[simp] theorem onCand_tier (s : State) (i : Nat) (f : Cand → Cand) : (s.onCand i f).tier = s.tier := rfl
@[simp] theorem onCand_plc (s : State) (i : Nat) (f : Cand → Cand) : (s.onCand i f).plc = s.plc := rfl
@[simp] theorem onCand_radios (s : State) (i : Nat) (f : Cand → Cand) : (s.onCand i f).radios = s.radios := rfl
@[simp] theorem onCand_bal (s : State) (i : Nat) (f : Cand → Cand) : (s.onCand i f).bal = s.bal := rfl
@[simp] theorem onCand_camps (s : State) (i : Nat) (f : Cand → Cand) : (s.onCand i f).camps = s.camps := rfl
@[simp] theorem onCand_panel (s : State) (i : Nat) (f : Cand → Cand) : (s.onCand i f).panel = s.panel := rfl
@[simp] theorem onCand_pending (s : State) (i : Nat) (f : Cand → Cand) : (s.onCand i f).pending = s.pending := rfl
@[simp] theorem onCand_free (s : State) (i : Nat) (f : Cand → Cand) : (s.onCand i f).free = s.free := rfl

end Sys2Proof.Laws
end

