-- ==== Sys2Proof/Laws/Frames.lean ====
section
/-! SUPPORT. What the operations that several blocks share leave alone: raising an event, sending a packet, taking and completing a host
command, and what the sealed die emits. -/

namespace Sys2Proof.Laws
open Sys2Proof Sys2Proof.Machine

/-! ### What raising events and sending packets leave alone: all but the queue fabric and the recorder. -/

/-- What raising events and sending packets leave alone: all but the queue fabric and the recorder. -/
def exceptFabric (s : State) : State := { s with fabric := {}, recd := {} }

theorem foldl_exceptFabric {α : Type} (f : State → α → State) (h : ∀ t x, exceptFabric (f t x) = exceptFabric t) (l : List α) (s : State) :
    exceptFabric (l.foldl f s) = exceptFabric s := by
  induction l generalizing s with
  | nil => rfl
  | cons x l ih => simp [ih, h]

@[simp] theorem onFabric_exceptFabric (s : State) (f : Fabric → Fabric) : exceptFabric (State.onFabric s f) = exceptFabric s := by
  rfl

@[simp] theorem onRec_exceptFabric (s : State) (f : Rec → Rec) : exceptFabric (State.onRec s f) = exceptFabric s := by
  rfl

@[simp] theorem onQueue_exceptFabric (s : State) (q : Nat) (f : Queue → Queue) : exceptFabric (State.onQueue s q f) = exceptFabric s := by
  rfl

@[simp] theorem countOpen_exceptFabric (s : State) (q : Nat) : exceptFabric (State.countOpen s q) = exceptFabric s := by
  simp [State.countOpen, apply_ite exceptFabric]

@[simp] theorem closeOn_exceptFabric (s : State) (q : Nat) (producer : Nat) (payload : Bytes) : exceptFabric (State.closeOn s q producer payload) = exceptFabric s := by
  rfl

@[simp] theorem suppress_exceptFabric (s : State) (src : Nat) : exceptFabric (State.suppress s src) = exceptFabric s := by
  rfl

@[simp] theorem raiseCore_exceptFabric (s : State) (src : Nat) (data : Bytes) : exceptFabric (State.raiseCore s src data) = exceptFabric s := by
  simp only [State.raiseCore]
  (repeat' split) <;> simp_all

@[simp] theorem poolCheck_exceptFabric (s : State) (before : Nat) : exceptFabric (State.poolCheck s before) = exceptFabric s := by
  simp [State.poolCheck, foldl_exceptFabric]

@[simp] theorem raise_exceptFabric (s : State) (src : Nat) (data : Bytes) : exceptFabric (State.raise s src data) = exceptFabric s := by
  simp [State.raise, apply_ite exceptFabric]

@[simp] theorem raiseEvery_exceptFabric (s : State) (period : Nat) (src : Nat) (inst : Nat) (data : Bytes) : exceptFabric (State.raiseEvery s period src inst data) = exceptFabric s := by
  simp [State.raiseEvery, apply_ite exceptFabric]

@[simp] theorem refuseOpen_exceptFabric (s : State) (producer : Nat) (q : Nat) (c : Nat) : exceptFabric (State.refuseOpen s producer q c) = exceptFabric s := by
  simp [State.refuseOpen]

@[simp] theorem limitRefusal_exceptFabric (s : State) (q : Nat) : exceptFabric (State.limitRefusal s q) = exceptFabric s := by
  simp [State.limitRefusal, apply_ite exceptFabric]

@[simp] theorem skipCopy_exceptFabric (s : State) (q : Nat) : exceptFabric (State.skipCopy s q) = exceptFabric s := by
  simp [State.skipCopy, apply_ite exceptFabric]

@[simp] theorem notGranted_exceptFabric (s : State) (producer : Nat) (q : Nat) (c : Nat) (payload : Option Bytes) (atLimit : Bool) (refused : Bool) : exceptFabric (State.notGranted s producer q c payload atLimit refused) = exceptFabric s := by
  simp [State.notGranted, apply_ite exceptFabric]

@[simp] theorem push_exceptFabric (s : State) (producer : Nat) (q : Nat) (payload : Bytes) : exceptFabric (State.push s producer q payload).1 = exceptFabric s := by
  simp only [State.push]
  (repeat' split) <;> simp_all

@[simp] theorem send_exceptFabric (s : State) (producer : Nat) (q : Nat) (payload : Bytes) : exceptFabric (State.send s producer q payload) = exceptFabric s := by
  simp [State.send]

@[simp] theorem raisePlc_exceptFabric (s : State) (p : Nat) (k : Nat) (d : Bytes) : exceptFabric (State.raisePlc s p k d) = exceptFabric s := by
  simp [State.raisePlc]

@[simp] theorem quarantinePacket_exceptFabric (s : State) (q : Nat) (p : Packet) : exceptFabric (State.quarantinePacket s q p) = exceptFabric s := by
  simp [State.quarantinePacket, apply_ite exceptFabric]

@[simp] theorem edgeFailure_exceptFabric (s : State) (stage : Nat) (q : Nat) (p : Packet) : exceptFabric (State.edgeFailure s stage q p) = exceptFabric s := by
  simp [State.edgeFailure, apply_ite exceptFabric]

@[simp] theorem takeHead_exceptFabric (s : State) (q : Nat) : exceptFabric (State.takeHead s q).2 = exceptFabric s := by
  simp [State.takeHead, foldl_exceptFabric]

@[simp] theorem reclaim_exceptFabric (s : State) (producer : Nat) : exceptFabric (State.reclaim s producer).2 = exceptFabric s := by
  simp [State.reclaim]

@[simp] theorem clearQueue_exceptFabric (s : State) (q : Nat) : exceptFabric (State.clearQueue s q) = exceptFabric s := by
  rfl

/-! ### What taking and completing a host command leave alone: all but the fabric, the recorder and the mailbox's own lists and counts. -/

/-- What taking and completing a host command leave alone: all but the fabric, the recorder and the mailbox's own lists and counts. -/
def exceptMailbox (s : State) : State := { s with fabric := {}, recd := {}, host := { s.host with inflight := [], counters := {}, headDeniedSince := 0, headOut := [], headIn := [], timedOut := [], cmdStamp := (0, 0) } }

theorem foldl_exceptMailbox {α : Type} (f : State → α → State) (h : ∀ t x, exceptMailbox (f t x) = exceptMailbox t) (l : List α) (s : State) :
    exceptMailbox (l.foldl f s) = exceptMailbox s := by
  induction l generalizing s with
  | nil => rfl
  | cons x l ih => simp [ih, h]

theorem exceptMailbox_of_fabric {s t : State} (h : exceptFabric t = exceptFabric s) : exceptMailbox t = exceptMailbox s := by
  have h2 := congrArg (fun u : State => { u with host := { u.host with
    inflight := [], counters := {}, headDeniedSince := 0, headOut := [], headIn := [], timedOut := [], cmdStamp := (0, 0) } }) h
  exact h2

@[simp] theorem send_exceptMailbox (s : State) (producer q : Nat) (payload : Bytes) : exceptMailbox (s.send producer q payload) = exceptMailbox s :=
  exceptMailbox_of_fabric (send_exceptFabric ..)


@[simp] theorem raise_exceptMailbox (s : State) (src : Nat) (data : Bytes) : exceptMailbox (s.raise src data) = exceptMailbox s :=
  exceptMailbox_of_fabric (raise_exceptFabric ..)


@[simp] theorem takeHead_exceptMailbox (s : State) (q : Nat) : exceptMailbox (s.takeHead q).2 = exceptMailbox s :=
  exceptMailbox_of_fabric (takeHead_exceptFabric ..)


@[simp] theorem dropInflight_exceptMailbox (s : State) (hd : Bool) (tag : Nat) : exceptMailbox (State.dropInflight s hd tag) = exceptMailbox s := by
  rfl

@[simp] theorem markInflight_exceptMailbox (s : State) (hd : Bool) (tag : Nat) (final : Bool) : exceptMailbox (State.markInflight s hd tag final) = exceptMailbox s := by
  rfl

theorem onHost_exceptMailbox (s : State) (f : HostIf → HostIf)
    (h : { f s.host with inflight := [], counters := {}, headDeniedSince := 0, headOut := [], headIn := [], timedOut := [], cmdStamp := (0, 0) } =
      { s.host with inflight := [], counters := {}, headDeniedSince := 0, headOut := [], headIn := [], timedOut := [], cmdStamp := (0, 0) }) :
    exceptMailbox (s.onHost f) = exceptMailbox s := by
  unfold exceptMailbox State.onHost
  dsimp only
  rw [h]

@[simp] theorem sendCompletion_exceptMailbox (s : State) (hd : Bool) (op tag status : Nat) (data : Bytes) (final : Bool) :
    exceptMailbox (s.sendCompletion hd op tag status data final) = exceptMailbox s := by
  unfold State.sendCompletion
  split
  · exact onHost_exceptMailbox _ _ rfl
  · exact foldl_exceptMailbox _ (fun t x => send_exceptMailbox ..) ..


@[simp] theorem complete_exceptMailbox (s : State) (hd : Bool) (op tag status : Nat) (data : Bytes) (final : Bool) :
    exceptMailbox (s.complete hd op tag status data final) = exceptMailbox s := by
  unfold State.complete
  split
  · exact onHost_exceptMailbox _ _ rfl
  · dsimp only
    split <;> simp


@[simp] theorem headendDenied_exceptMailbox (s : State) (op : Nat) : exceptMailbox (s.headendDenied op) = exceptMailbox s := by
  unfold State.headendDenied
  rw [onHost_exceptMailbox _ _ rfl, raise_exceptMailbox, onHost_exceptMailbox _ _ rfl]


@[simp] theorem releaseFrame_exceptMailbox (s : State) (op : Nat) (c : HostCmd) : exceptMailbox (s.releaseFrame op c) = exceptMailbox s := by
  unfold State.releaseFrame
  split
  · exact onHost_exceptMailbox _ _ rfl
  · (repeat' split) <;> simp


@[simp] theorem taken_exceptMailbox (s : State) (op : Nat) (c : HostCmd) : exceptMailbox (s.taken op c) = exceptMailbox s := by
  unfold State.taken
  rw [onHost_exceptMailbox _ _ rfl, releaseFrame_exceptMailbox]


/-! ### What the sealed die's own operations leave alone: all but the sealed die. -/

/-- What the sealed die's own operations leave alone: all but the sealed die. -/
def exceptSealed (s : State) : State := { s with sealedDie := {} }

theorem foldl_exceptSealed {α : Type} (f : State → α → State) (h : ∀ t x, exceptSealed (f t x) = exceptSealed t) (l : List α) (s : State) :
    exceptSealed (l.foldl f s) = exceptSealed s := by
  induction l generalizing s with
  | nil => rfl
  | cons x l ih => simp [ih, h]

@[simp] theorem onSealed_exceptSealed (s : State) (f : Sealed → Sealed) : exceptSealed (State.onSealed s f) = exceptSealed s := by
  rfl

@[simp] theorem onEp_exceptSealed (s : State) (eix : Nat) (f : Ep → Ep) : exceptSealed (State.onEp s eix f) = exceptSealed s := by
  rfl

@[simp] theorem pushOut_exceptSealed (s : State) (i : OutItem) : exceptSealed (State.pushOut s i) = exceptSealed s := by
  rfl

@[simp] theorem closeBatch_exceptSealed (s : State) (reason : Nat) : exceptSealed (State.closeBatch s reason) = exceptSealed s := by
  simp [State.closeBatch, apply_ite exceptSealed]

@[simp] theorem joinBatch_exceptSealed (s : State) (i : OutItem) : exceptSealed (State.joinBatch s i) = exceptSealed s := by
  simp [State.joinBatch, apply_ite exceptSealed]

@[simp] theorem drainReading_exceptSealed (n : Nat) (s : State) : exceptSealed (State.drainReading n s) = exceptSealed s := by
  induction n generalizing s with
  | zero => rfl
  | succ n ih => unfold State.drainReading; (repeat' split) <;> simp [ih]


@[simp] theorem drainRecord_exceptSealed (n : Nat) (s : State) : exceptSealed (State.drainRecord n s) = exceptSealed s := by
  induction n generalizing s with
  | zero => rfl
  | succ n ih => unfold State.drainRecord; (repeat' split) <;> simp [ih]


@[simp] theorem drainImages_exceptSealed (n : Nat) (s : State) : exceptSealed (State.drainImages n s) = exceptSealed s := by
  induction n generalizing s with
  | zero => rfl
  | succ n ih => unfold State.drainImages; (repeat' split) <;> simp [ih]


@[simp] theorem drainOut_exceptSealed (s : State) : exceptSealed s.drainOut = exceptSealed s := by
  simp [State.drainOut]

@[simp] theorem emit_exceptSealed (s : State) (is : List OutItem) : exceptSealed (State.emit s is) = exceptSealed s := by
  simp [State.emit]

@[simp] theorem sealedRecordMsg_exceptSealed (s : State) (code : Nat) (b19 : Nat) (data : Bytes) : exceptSealed (State.sealedRecordMsg s code b19 data) = exceptSealed s := by
  simp [State.sealedRecordMsg]

@[simp] theorem raiseSealed_exceptSealed (s : State) (src : Nat) (data : Bytes) : exceptSealed (State.raiseSealed s src data) = exceptSealed s := by
  simp [State.raiseSealed, apply_ite exceptSealed]

@[simp] theorem sealedAnchor_exceptSealed (s : State) (code : Nat) : exceptSealed (State.sealedAnchor s code) = exceptSealed s := by
  simp [State.sealedAnchor]

@[simp] theorem sealRecord_exceptSealed (s : State) (stream : Nat) (plain : Bytes) : exceptSealed (State.sealRecord s stream plain).1 = exceptSealed s := by
  rfl

@[simp] theorem writeSealed_exceptSealed (s : State) (stream : Nat) (plain : Bytes) : exceptSealed (State.writeSealed s stream plain) = exceptSealed s := by
  simp [State.writeSealed, apply_ite exceptSealed]

@[simp] theorem pumpJournal_exceptSealed (s : State) : exceptSealed (State.pumpJournal s) = exceptSealed s := by
  simp only [State.pumpJournal]
  (repeat' split) <;> simp_all

@[simp] theorem transact_exceptSealed (s : State) (kind : Nat) (flags : Nat) (items : List Bytes) (outputs : List OutItem) (images : List Nat) (mark : optParam (Option (Nat × Nat)) none) : exceptSealed (State.transact s kind flags items outputs images mark) = exceptSealed s := by
  simp [State.transact, apply_ite exceptSealed]

@[simp] theorem txnDone_exceptSealed (s : State) (t : Txn) : exceptSealed (State.txnDone s t) = exceptSealed s := by
  simp [State.txnDone]

@[simp] theorem partResult_exceptSealed (s : State) (refused : Bool) : exceptSealed (State.partResult s refused) = exceptSealed s := by
  unfold State.partResult
  (repeat' split) <;> simp

@[simp] theorem reofferPart_exceptSealed (s : State) : exceptSealed (State.reofferPart s) = exceptSealed s := by
  unfold State.reofferPart
  (repeat' split) <;> simp

@[simp] theorem reofferRecords_exceptSealed (s : State) : exceptSealed (State.reofferRecords s) = exceptSealed s := by
  simp [State.reofferRecords]

@[simp] theorem batchAge_exceptSealed (s : State) : exceptSealed (State.batchAge s) = exceptSealed s := by
  simp [State.batchAge, apply_ite exceptSealed]

@[simp] theorem writeAnchors__exceptSealed (s : State) : exceptSealed (State.writeAnchors_ s) = exceptSealed s := by
  rfl

@[simp] theorem freeOut_exceptSealed (s : State) (sq : Nat) : exceptSealed (State.freeOut s sq) = exceptSealed s := by
  rfl

theorem fabricOnly_of {s t : State} (h : exceptFabric t = exceptFabric s) : fabricOnly s t := by
  have h2 := congrArg (fun u : State => { u with fabric := t.fabric, recd := t.recd }) h
  exact h2

theorem mailboxOnly_of {s t : State} (h : exceptMailbox t = exceptMailbox s) : mailboxOnly s t := by
  have h2 := congrArg (fun u : State => { u with fabric := t.fabric, recd := t.recd, host := { u.host with
    inflight := t.host.inflight, counters := t.host.counters, headDeniedSince := t.host.headDeniedSince
    headOut := t.host.headOut, headIn := t.host.headIn, timedOut := t.host.timedOut, cmdStamp := t.host.cmdStamp } }) h
  exact h2

theorem sealedOnly_of {s t : State} (h : exceptSealed t = exceptSealed s) : sealedOnly s t := by
  have h2 := congrArg (fun u : State => { u with sealedDie := t.sealedDie }) h
  exact h2

@[simp] theorem raise_power (s : State) (src : Nat) (data : Bytes) : (State.raise s src data).power = s.power := by
  have h := congrArg State.power (raise_exceptFabric s src data)
  exact h
@[simp] theorem raise_straps (s : State) (src : Nat) (data : Bytes) : (State.raise s src data).straps = s.straps := by
  have h := congrArg State.straps (raise_exceptFabric s src data)
  exact h
@[simp] theorem raise_host (s : State) (src : Nat) (data : Bytes) : (State.raise s src data).host = s.host := by
  have h := congrArg State.host (raise_exceptFabric s src data)
  exact h
@[simp] theorem raise_cfg (s : State) (src : Nat) (data : Bytes) : (State.raise s src data).cfg = s.cfg := by
  have h := congrArg State.cfg (raise_exceptFabric s src data)
  exact h
@[simp] theorem raise_fog (s : State) (src : Nat) (data : Bytes) : (State.raise s src data).fog = s.fog := by
  have h := congrArg State.fog (raise_exceptFabric s src data)
  exact h
@[simp] theorem raise_gate (s : State) (src : Nat) (data : Bytes) : (State.raise s src data).gate = s.gate := by
  have h := congrArg State.gate (raise_exceptFabric s src data)
  exact h
@[simp] theorem raise_store (s : State) (src : Nat) (data : Bytes) : (State.raise s src data).store = s.store := by
  have h := congrArg State.store (raise_exceptFabric s src data)
  exact h
@[simp] theorem raise_time (s : State) (src : Nat) (data : Bytes) : (State.raise s src data).time = s.time := by
  have h := congrArg State.time (raise_exceptFabric s src data)
  exact h
@[simp] theorem raise_tbl (s : State) (src : Nat) (data : Bytes) : (State.raise s src data).tbl = s.tbl := by
  have h := congrArg State.tbl (raise_exceptFabric s src data)
  exact h
@[simp] theorem raise_sec (s : State) (src : Nat) (data : Bytes) : (State.raise s src data).sec = s.sec := by
  have h := congrArg State.sec (raise_exceptFabric s src data)
  exact h
@[simp] theorem raise_cp (s : State) (src : Nat) (data : Bytes) : (State.raise s src data).cp = s.cp := by
  have h := congrArg State.cp (raise_exceptFabric s src data)
  exact h
@[simp] theorem raise_sealedDie (s : State) (src : Nat) (data : Bytes) : (State.raise s src data).sealedDie = s.sealedDie := by
  have h := congrArg State.sealedDie (raise_exceptFabric s src data)
  exact h
@[simp] theorem raise_metro (s : State) (src : Nat) (data : Bytes) : (State.raise s src data).metro = s.metro := by
  have h := congrArg State.metro (raise_exceptFabric s src data)
  exact h
@[simp] theorem raise_tier (s : State) (src : Nat) (data : Bytes) : (State.raise s src data).tier = s.tier := by
  have h := congrArg State.tier (raise_exceptFabric s src data)
  exact h
@[simp] theorem raise_plc (s : State) (src : Nat) (data : Bytes) : (State.raise s src data).plc = s.plc := by
  have h := congrArg State.plc (raise_exceptFabric s src data)
  exact h
@[simp] theorem raise_radios (s : State) (src : Nat) (data : Bytes) : (State.raise s src data).radios = s.radios := by
  have h := congrArg State.radios (raise_exceptFabric s src data)
  exact h
@[simp] theorem raise_bal (s : State) (src : Nat) (data : Bytes) : (State.raise s src data).bal = s.bal := by
  have h := congrArg State.bal (raise_exceptFabric s src data)
  exact h
@[simp] theorem raise_camps (s : State) (src : Nat) (data : Bytes) : (State.raise s src data).camps = s.camps := by
  have h := congrArg State.camps (raise_exceptFabric s src data)
  exact h
@[simp] theorem raise_panel (s : State) (src : Nat) (data : Bytes) : (State.raise s src data).panel = s.panel := by
  have h := congrArg State.panel (raise_exceptFabric s src data)
  exact h
@[simp] theorem raise_pending (s : State) (src : Nat) (data : Bytes) : (State.raise s src data).pending = s.pending := by
  have h := congrArg State.pending (raise_exceptFabric s src data)
  exact h
@[simp] theorem raise_free (s : State) (src : Nat) (data : Bytes) : (State.raise s src data).free = s.free := by
  have h := congrArg State.free (raise_exceptFabric s src data)
  exact h
@[simp] theorem send_power (s : State) (p q : Nat) (b : Bytes) : (State.send s p q b).power = s.power := by
  have h := congrArg State.power (send_exceptFabric s p q b)
  exact h
@[simp] theorem send_straps (s : State) (p q : Nat) (b : Bytes) : (State.send s p q b).straps = s.straps := by
  have h := congrArg State.straps (send_exceptFabric s p q b)
  exact h
@[simp] theorem send_host (s : State) (p q : Nat) (b : Bytes) : (State.send s p q b).host = s.host := by
  have h := congrArg State.host (send_exceptFabric s p q b)
  exact h
@[simp] theorem send_cfg (s : State) (p q : Nat) (b : Bytes) : (State.send s p q b).cfg = s.cfg := by
  have h := congrArg State.cfg (send_exceptFabric s p q b)
  exact h
@[simp] theorem send_fog (s : State) (p q : Nat) (b : Bytes) : (State.send s p q b).fog = s.fog := by
  have h := congrArg State.fog (send_exceptFabric s p q b)
  exact h
@[simp] theorem send_gate (s : State) (p q : Nat) (b : Bytes) : (State.send s p q b).gate = s.gate := by
  have h := congrArg State.gate (send_exceptFabric s p q b)
  exact h
@[simp] theorem send_store (s : State) (p q : Nat) (b : Bytes) : (State.send s p q b).store = s.store := by
  have h := congrArg State.store (send_exceptFabric s p q b)
  exact h
@[simp] theorem send_time (s : State) (p q : Nat) (b : Bytes) : (State.send s p q b).time = s.time := by
  have h := congrArg State.time (send_exceptFabric s p q b)
  exact h
@[simp] theorem send_tbl (s : State) (p q : Nat) (b : Bytes) : (State.send s p q b).tbl = s.tbl := by
  have h := congrArg State.tbl (send_exceptFabric s p q b)
  exact h
@[simp] theorem send_sec (s : State) (p q : Nat) (b : Bytes) : (State.send s p q b).sec = s.sec := by
  have h := congrArg State.sec (send_exceptFabric s p q b)
  exact h
@[simp] theorem send_cp (s : State) (p q : Nat) (b : Bytes) : (State.send s p q b).cp = s.cp := by
  have h := congrArg State.cp (send_exceptFabric s p q b)
  exact h
@[simp] theorem send_sealedDie (s : State) (p q : Nat) (b : Bytes) : (State.send s p q b).sealedDie = s.sealedDie := by
  have h := congrArg State.sealedDie (send_exceptFabric s p q b)
  exact h
@[simp] theorem send_metro (s : State) (p q : Nat) (b : Bytes) : (State.send s p q b).metro = s.metro := by
  have h := congrArg State.metro (send_exceptFabric s p q b)
  exact h
@[simp] theorem send_tier (s : State) (p q : Nat) (b : Bytes) : (State.send s p q b).tier = s.tier := by
  have h := congrArg State.tier (send_exceptFabric s p q b)
  exact h
@[simp] theorem send_plc (s : State) (p q : Nat) (b : Bytes) : (State.send s p q b).plc = s.plc := by
  have h := congrArg State.plc (send_exceptFabric s p q b)
  exact h
@[simp] theorem send_radios (s : State) (p q : Nat) (b : Bytes) : (State.send s p q b).radios = s.radios := by
  have h := congrArg State.radios (send_exceptFabric s p q b)
  exact h
@[simp] theorem send_bal (s : State) (p q : Nat) (b : Bytes) : (State.send s p q b).bal = s.bal := by
  have h := congrArg State.bal (send_exceptFabric s p q b)
  exact h
@[simp] theorem send_camps (s : State) (p q : Nat) (b : Bytes) : (State.send s p q b).camps = s.camps := by
  have h := congrArg State.camps (send_exceptFabric s p q b)
  exact h
@[simp] theorem send_panel (s : State) (p q : Nat) (b : Bytes) : (State.send s p q b).panel = s.panel := by
  have h := congrArg State.panel (send_exceptFabric s p q b)
  exact h
@[simp] theorem send_pending (s : State) (p q : Nat) (b : Bytes) : (State.send s p q b).pending = s.pending := by
  have h := congrArg State.pending (send_exceptFabric s p q b)
  exact h
@[simp] theorem send_free (s : State) (p q : Nat) (b : Bytes) : (State.send s p q b).free = s.free := by
  have h := congrArg State.free (send_exceptFabric s p q b)
  exact h
@[simp] theorem complete_power (s : State) (hd : Bool) (op tag st : Nat) (d : Bytes) (fin : Bool) : (State.complete s hd op tag st d fin).power = s.power := by
  have h := congrArg State.power (complete_exceptMailbox s hd op tag st d fin)
  exact h
@[simp] theorem complete_straps (s : State) (hd : Bool) (op tag st : Nat) (d : Bytes) (fin : Bool) : (State.complete s hd op tag st d fin).straps = s.straps := by
  have h := congrArg State.straps (complete_exceptMailbox s hd op tag st d fin)
  exact h
@[simp] theorem complete_cfg (s : State) (hd : Bool) (op tag st : Nat) (d : Bytes) (fin : Bool) : (State.complete s hd op tag st d fin).cfg = s.cfg := by
  have h := congrArg State.cfg (complete_exceptMailbox s hd op tag st d fin)
  exact h
@[simp] theorem complete_fog (s : State) (hd : Bool) (op tag st : Nat) (d : Bytes) (fin : Bool) : (State.complete s hd op tag st d fin).fog = s.fog := by
  have h := congrArg State.fog (complete_exceptMailbox s hd op tag st d fin)
  exact h
@[simp] theorem complete_gate (s : State) (hd : Bool) (op tag st : Nat) (d : Bytes) (fin : Bool) : (State.complete s hd op tag st d fin).gate = s.gate := by
  have h := congrArg State.gate (complete_exceptMailbox s hd op tag st d fin)
  exact h
@[simp] theorem complete_store (s : State) (hd : Bool) (op tag st : Nat) (d : Bytes) (fin : Bool) : (State.complete s hd op tag st d fin).store = s.store := by
  have h := congrArg State.store (complete_exceptMailbox s hd op tag st d fin)
  exact h
@[simp] theorem complete_time (s : State) (hd : Bool) (op tag st : Nat) (d : Bytes) (fin : Bool) : (State.complete s hd op tag st d fin).time = s.time := by
  have h := congrArg State.time (complete_exceptMailbox s hd op tag st d fin)
  exact h
@[simp] theorem complete_tbl (s : State) (hd : Bool) (op tag st : Nat) (d : Bytes) (fin : Bool) : (State.complete s hd op tag st d fin).tbl = s.tbl := by
  have h := congrArg State.tbl (complete_exceptMailbox s hd op tag st d fin)
  exact h
@[simp] theorem complete_sec (s : State) (hd : Bool) (op tag st : Nat) (d : Bytes) (fin : Bool) : (State.complete s hd op tag st d fin).sec = s.sec := by
  have h := congrArg State.sec (complete_exceptMailbox s hd op tag st d fin)
  exact h
@[simp] theorem complete_cp (s : State) (hd : Bool) (op tag st : Nat) (d : Bytes) (fin : Bool) : (State.complete s hd op tag st d fin).cp = s.cp := by
  have h := congrArg State.cp (complete_exceptMailbox s hd op tag st d fin)
  exact h
@[simp] theorem complete_sealedDie (s : State) (hd : Bool) (op tag st : Nat) (d : Bytes) (fin : Bool) : (State.complete s hd op tag st d fin).sealedDie = s.sealedDie := by
  have h := congrArg State.sealedDie (complete_exceptMailbox s hd op tag st d fin)
  exact h
@[simp] theorem complete_metro (s : State) (hd : Bool) (op tag st : Nat) (d : Bytes) (fin : Bool) : (State.complete s hd op tag st d fin).metro = s.metro := by
  have h := congrArg State.metro (complete_exceptMailbox s hd op tag st d fin)
  exact h
@[simp] theorem complete_tier (s : State) (hd : Bool) (op tag st : Nat) (d : Bytes) (fin : Bool) : (State.complete s hd op tag st d fin).tier = s.tier := by
  have h := congrArg State.tier (complete_exceptMailbox s hd op tag st d fin)
  exact h
@[simp] theorem complete_plc (s : State) (hd : Bool) (op tag st : Nat) (d : Bytes) (fin : Bool) : (State.complete s hd op tag st d fin).plc = s.plc := by
  have h := congrArg State.plc (complete_exceptMailbox s hd op tag st d fin)
  exact h
@[simp] theorem complete_radios (s : State) (hd : Bool) (op tag st : Nat) (d : Bytes) (fin : Bool) : (State.complete s hd op tag st d fin).radios = s.radios := by
  have h := congrArg State.radios (complete_exceptMailbox s hd op tag st d fin)
  exact h
@[simp] theorem complete_bal (s : State) (hd : Bool) (op tag st : Nat) (d : Bytes) (fin : Bool) : (State.complete s hd op tag st d fin).bal = s.bal := by
  have h := congrArg State.bal (complete_exceptMailbox s hd op tag st d fin)
  exact h
@[simp] theorem complete_camps (s : State) (hd : Bool) (op tag st : Nat) (d : Bytes) (fin : Bool) : (State.complete s hd op tag st d fin).camps = s.camps := by
  have h := congrArg State.camps (complete_exceptMailbox s hd op tag st d fin)
  exact h
@[simp] theorem complete_panel (s : State) (hd : Bool) (op tag st : Nat) (d : Bytes) (fin : Bool) : (State.complete s hd op tag st d fin).panel = s.panel := by
  have h := congrArg State.panel (complete_exceptMailbox s hd op tag st d fin)
  exact h
@[simp] theorem complete_pending (s : State) (hd : Bool) (op tag st : Nat) (d : Bytes) (fin : Bool) : (State.complete s hd op tag st d fin).pending = s.pending := by
  have h := congrArg State.pending (complete_exceptMailbox s hd op tag st d fin)
  exact h
@[simp] theorem complete_free (s : State) (hd : Bool) (op tag st : Nat) (d : Bytes) (fin : Bool) : (State.complete s hd op tag st d fin).free = s.free := by
  have h := congrArg State.free (complete_exceptMailbox s hd op tag st d fin)
  exact h
@[simp] theorem taken_power (s : State) (op : Nat) (c : HostCmd) : (State.taken s op c).power = s.power := by
  have h := congrArg State.power (taken_exceptMailbox s op c)
  exact h
@[simp] theorem taken_straps (s : State) (op : Nat) (c : HostCmd) : (State.taken s op c).straps = s.straps := by
  have h := congrArg State.straps (taken_exceptMailbox s op c)
  exact h
@[simp] theorem taken_cfg (s : State) (op : Nat) (c : HostCmd) : (State.taken s op c).cfg = s.cfg := by
  have h := congrArg State.cfg (taken_exceptMailbox s op c)
  exact h
@[simp] theorem taken_fog (s : State) (op : Nat) (c : HostCmd) : (State.taken s op c).fog = s.fog := by
  have h := congrArg State.fog (taken_exceptMailbox s op c)
  exact h
@[simp] theorem taken_gate (s : State) (op : Nat) (c : HostCmd) : (State.taken s op c).gate = s.gate := by
  have h := congrArg State.gate (taken_exceptMailbox s op c)
  exact h
@[simp] theorem taken_store (s : State) (op : Nat) (c : HostCmd) : (State.taken s op c).store = s.store := by
  have h := congrArg State.store (taken_exceptMailbox s op c)
  exact h
@[simp] theorem taken_time (s : State) (op : Nat) (c : HostCmd) : (State.taken s op c).time = s.time := by
  have h := congrArg State.time (taken_exceptMailbox s op c)
  exact h
@[simp] theorem taken_tbl (s : State) (op : Nat) (c : HostCmd) : (State.taken s op c).tbl = s.tbl := by
  have h := congrArg State.tbl (taken_exceptMailbox s op c)
  exact h
@[simp] theorem taken_sec (s : State) (op : Nat) (c : HostCmd) : (State.taken s op c).sec = s.sec := by
  have h := congrArg State.sec (taken_exceptMailbox s op c)
  exact h
@[simp] theorem taken_cp (s : State) (op : Nat) (c : HostCmd) : (State.taken s op c).cp = s.cp := by
  have h := congrArg State.cp (taken_exceptMailbox s op c)
  exact h
@[simp] theorem taken_sealedDie (s : State) (op : Nat) (c : HostCmd) : (State.taken s op c).sealedDie = s.sealedDie := by
  have h := congrArg State.sealedDie (taken_exceptMailbox s op c)
  exact h
@[simp] theorem taken_metro (s : State) (op : Nat) (c : HostCmd) : (State.taken s op c).metro = s.metro := by
  have h := congrArg State.metro (taken_exceptMailbox s op c)
  exact h
@[simp] theorem taken_tier (s : State) (op : Nat) (c : HostCmd) : (State.taken s op c).tier = s.tier := by
  have h := congrArg State.tier (taken_exceptMailbox s op c)
  exact h
@[simp] theorem taken_plc (s : State) (op : Nat) (c : HostCmd) : (State.taken s op c).plc = s.plc := by
  have h := congrArg State.plc (taken_exceptMailbox s op c)
  exact h
@[simp] theorem taken_radios (s : State) (op : Nat) (c : HostCmd) : (State.taken s op c).radios = s.radios := by
  have h := congrArg State.radios (taken_exceptMailbox s op c)
  exact h
@[simp] theorem taken_bal (s : State) (op : Nat) (c : HostCmd) : (State.taken s op c).bal = s.bal := by
  have h := congrArg State.bal (taken_exceptMailbox s op c)
  exact h
@[simp] theorem taken_camps (s : State) (op : Nat) (c : HostCmd) : (State.taken s op c).camps = s.camps := by
  have h := congrArg State.camps (taken_exceptMailbox s op c)
  exact h
@[simp] theorem taken_panel (s : State) (op : Nat) (c : HostCmd) : (State.taken s op c).panel = s.panel := by
  have h := congrArg State.panel (taken_exceptMailbox s op c)
  exact h
@[simp] theorem taken_pending (s : State) (op : Nat) (c : HostCmd) : (State.taken s op c).pending = s.pending := by
  have h := congrArg State.pending (taken_exceptMailbox s op c)
  exact h
@[simp] theorem taken_free (s : State) (op : Nat) (c : HostCmd) : (State.taken s op c).free = s.free := by
  have h := congrArg State.free (taken_exceptMailbox s op c)
  exact h
@[simp] theorem raiseSealed_power (s : State) (src : Nat) (data : Bytes) : (State.raiseSealed s src data).power = s.power := by
  have h := congrArg State.power (raiseSealed_exceptSealed s src data)
  exact h
@[simp] theorem raiseSealed_straps (s : State) (src : Nat) (data : Bytes) : (State.raiseSealed s src data).straps = s.straps := by
  have h := congrArg State.straps (raiseSealed_exceptSealed s src data)
  exact h
@[simp] theorem raiseSealed_host (s : State) (src : Nat) (data : Bytes) : (State.raiseSealed s src data).host = s.host := by
  have h := congrArg State.host (raiseSealed_exceptSealed s src data)
  exact h
@[simp] theorem raiseSealed_fabric (s : State) (src : Nat) (data : Bytes) : (State.raiseSealed s src data).fabric = s.fabric := by
  have h := congrArg State.fabric (raiseSealed_exceptSealed s src data)
  exact h
@[simp] theorem raiseSealed_recd (s : State) (src : Nat) (data : Bytes) : (State.raiseSealed s src data).recd = s.recd := by
  have h := congrArg State.recd (raiseSealed_exceptSealed s src data)
  exact h
@[simp] theorem raiseSealed_cfg (s : State) (src : Nat) (data : Bytes) : (State.raiseSealed s src data).cfg = s.cfg := by
  have h := congrArg State.cfg (raiseSealed_exceptSealed s src data)
  exact h
@[simp] theorem raiseSealed_fog (s : State) (src : Nat) (data : Bytes) : (State.raiseSealed s src data).fog = s.fog := by
  have h := congrArg State.fog (raiseSealed_exceptSealed s src data)
  exact h
@[simp] theorem raiseSealed_gate (s : State) (src : Nat) (data : Bytes) : (State.raiseSealed s src data).gate = s.gate := by
  have h := congrArg State.gate (raiseSealed_exceptSealed s src data)
  exact h
@[simp] theorem raiseSealed_store (s : State) (src : Nat) (data : Bytes) : (State.raiseSealed s src data).store = s.store := by
  have h := congrArg State.store (raiseSealed_exceptSealed s src data)
  exact h
@[simp] theorem raiseSealed_time (s : State) (src : Nat) (data : Bytes) : (State.raiseSealed s src data).time = s.time := by
  have h := congrArg State.time (raiseSealed_exceptSealed s src data)
  exact h
@[simp] theorem raiseSealed_tbl (s : State) (src : Nat) (data : Bytes) : (State.raiseSealed s src data).tbl = s.tbl := by
  have h := congrArg State.tbl (raiseSealed_exceptSealed s src data)
  exact h
@[simp] theorem raiseSealed_sec (s : State) (src : Nat) (data : Bytes) : (State.raiseSealed s src data).sec = s.sec := by
  have h := congrArg State.sec (raiseSealed_exceptSealed s src data)
  exact h
@[simp] theorem raiseSealed_cp (s : State) (src : Nat) (data : Bytes) : (State.raiseSealed s src data).cp = s.cp := by
  have h := congrArg State.cp (raiseSealed_exceptSealed s src data)
  exact h
@[simp] theorem raiseSealed_metro (s : State) (src : Nat) (data : Bytes) : (State.raiseSealed s src data).metro = s.metro := by
  have h := congrArg State.metro (raiseSealed_exceptSealed s src data)
  exact h
@[simp] theorem raiseSealed_tier (s : State) (src : Nat) (data : Bytes) : (State.raiseSealed s src data).tier = s.tier := by
  have h := congrArg State.tier (raiseSealed_exceptSealed s src data)
  exact h
@[simp] theorem raiseSealed_plc (s : State) (src : Nat) (data : Bytes) : (State.raiseSealed s src data).plc = s.plc := by
  have h := congrArg State.plc (raiseSealed_exceptSealed s src data)
  exact h
@[simp] theorem raiseSealed_radios (s : State) (src : Nat) (data : Bytes) : (State.raiseSealed s src data).radios = s.radios := by
  have h := congrArg State.radios (raiseSealed_exceptSealed s src data)
  exact h
@[simp] theorem raiseSealed_bal (s : State) (src : Nat) (data : Bytes) : (State.raiseSealed s src data).bal = s.bal := by
  have h := congrArg State.bal (raiseSealed_exceptSealed s src data)
  exact h
@[simp] theorem raiseSealed_camps (s : State) (src : Nat) (data : Bytes) : (State.raiseSealed s src data).camps = s.camps := by
  have h := congrArg State.camps (raiseSealed_exceptSealed s src data)
  exact h
@[simp] theorem raiseSealed_panel (s : State) (src : Nat) (data : Bytes) : (State.raiseSealed s src data).panel = s.panel := by
  have h := congrArg State.panel (raiseSealed_exceptSealed s src data)
  exact h
@[simp] theorem raiseSealed_pending (s : State) (src : Nat) (data : Bytes) : (State.raiseSealed s src data).pending = s.pending := by
  have h := congrArg State.pending (raiseSealed_exceptSealed s src data)
  exact h
@[simp] theorem raiseSealed_free (s : State) (src : Nat) (data : Bytes) : (State.raiseSealed s src data).free = s.free := by
  have h := congrArg State.free (raiseSealed_exceptSealed s src data)
  exact h
@[simp] theorem emit_power (s : State) (l : List OutItem) : (State.emit s l).power = s.power := by
  have h := congrArg State.power (emit_exceptSealed s l)
  exact h
@[simp] theorem emit_straps (s : State) (l : List OutItem) : (State.emit s l).straps = s.straps := by
  have h := congrArg State.straps (emit_exceptSealed s l)
  exact h
@[simp] theorem emit_host (s : State) (l : List OutItem) : (State.emit s l).host = s.host := by
  have h := congrArg State.host (emit_exceptSealed s l)
  exact h
@[simp] theorem emit_fabric (s : State) (l : List OutItem) : (State.emit s l).fabric = s.fabric := by
  have h := congrArg State.fabric (emit_exceptSealed s l)
  exact h
@[simp] theorem emit_recd (s : State) (l : List OutItem) : (State.emit s l).recd = s.recd := by
  have h := congrArg State.recd (emit_exceptSealed s l)
  exact h
@[simp] theorem emit_cfg (s : State) (l : List OutItem) : (State.emit s l).cfg = s.cfg := by
  have h := congrArg State.cfg (emit_exceptSealed s l)
  exact h
@[simp] theorem emit_fog (s : State) (l : List OutItem) : (State.emit s l).fog = s.fog := by
  have h := congrArg State.fog (emit_exceptSealed s l)
  exact h
@[simp] theorem emit_gate (s : State) (l : List OutItem) : (State.emit s l).gate = s.gate := by
  have h := congrArg State.gate (emit_exceptSealed s l)
  exact h
@[simp] theorem emit_store (s : State) (l : List OutItem) : (State.emit s l).store = s.store := by
  have h := congrArg State.store (emit_exceptSealed s l)
  exact h
@[simp] theorem emit_time (s : State) (l : List OutItem) : (State.emit s l).time = s.time := by
  have h := congrArg State.time (emit_exceptSealed s l)
  exact h
@[simp] theorem emit_tbl (s : State) (l : List OutItem) : (State.emit s l).tbl = s.tbl := by
  have h := congrArg State.tbl (emit_exceptSealed s l)
  exact h
@[simp] theorem emit_sec (s : State) (l : List OutItem) : (State.emit s l).sec = s.sec := by
  have h := congrArg State.sec (emit_exceptSealed s l)
  exact h
@[simp] theorem emit_cp (s : State) (l : List OutItem) : (State.emit s l).cp = s.cp := by
  have h := congrArg State.cp (emit_exceptSealed s l)
  exact h
@[simp] theorem emit_metro (s : State) (l : List OutItem) : (State.emit s l).metro = s.metro := by
  have h := congrArg State.metro (emit_exceptSealed s l)
  exact h
@[simp] theorem emit_tier (s : State) (l : List OutItem) : (State.emit s l).tier = s.tier := by
  have h := congrArg State.tier (emit_exceptSealed s l)
  exact h
@[simp] theorem emit_plc (s : State) (l : List OutItem) : (State.emit s l).plc = s.plc := by
  have h := congrArg State.plc (emit_exceptSealed s l)
  exact h
@[simp] theorem emit_radios (s : State) (l : List OutItem) : (State.emit s l).radios = s.radios := by
  have h := congrArg State.radios (emit_exceptSealed s l)
  exact h
@[simp] theorem emit_bal (s : State) (l : List OutItem) : (State.emit s l).bal = s.bal := by
  have h := congrArg State.bal (emit_exceptSealed s l)
  exact h
@[simp] theorem emit_camps (s : State) (l : List OutItem) : (State.emit s l).camps = s.camps := by
  have h := congrArg State.camps (emit_exceptSealed s l)
  exact h
@[simp] theorem emit_panel (s : State) (l : List OutItem) : (State.emit s l).panel = s.panel := by
  have h := congrArg State.panel (emit_exceptSealed s l)
  exact h
@[simp] theorem emit_pending (s : State) (l : List OutItem) : (State.emit s l).pending = s.pending := by
  have h := congrArg State.pending (emit_exceptSealed s l)
  exact h
@[simp] theorem emit_free (s : State) (l : List OutItem) : (State.emit s l).free = s.free := by
  have h := congrArg State.free (emit_exceptSealed s l)
  exact h
@[simp] theorem writeSealed_power (s : State) (n : Nat) (b : Bytes) : (State.writeSealed s n b).power = s.power := by
  have h := congrArg State.power (writeSealed_exceptSealed s n b)
  exact h
@[simp] theorem writeSealed_straps (s : State) (n : Nat) (b : Bytes) : (State.writeSealed s n b).straps = s.straps := by
  have h := congrArg State.straps (writeSealed_exceptSealed s n b)
  exact h
@[simp] theorem writeSealed_host (s : State) (n : Nat) (b : Bytes) : (State.writeSealed s n b).host = s.host := by
  have h := congrArg State.host (writeSealed_exceptSealed s n b)
  exact h
@[simp] theorem writeSealed_fabric (s : State) (n : Nat) (b : Bytes) : (State.writeSealed s n b).fabric = s.fabric := by
  have h := congrArg State.fabric (writeSealed_exceptSealed s n b)
  exact h
@[simp] theorem writeSealed_recd (s : State) (n : Nat) (b : Bytes) : (State.writeSealed s n b).recd = s.recd := by
  have h := congrArg State.recd (writeSealed_exceptSealed s n b)
  exact h
@[simp] theorem writeSealed_cfg (s : State) (n : Nat) (b : Bytes) : (State.writeSealed s n b).cfg = s.cfg := by
  have h := congrArg State.cfg (writeSealed_exceptSealed s n b)
  exact h
@[simp] theorem writeSealed_fog (s : State) (n : Nat) (b : Bytes) : (State.writeSealed s n b).fog = s.fog := by
  have h := congrArg State.fog (writeSealed_exceptSealed s n b)
  exact h
@[simp] theorem writeSealed_gate (s : State) (n : Nat) (b : Bytes) : (State.writeSealed s n b).gate = s.gate := by
  have h := congrArg State.gate (writeSealed_exceptSealed s n b)
  exact h
@[simp] theorem writeSealed_store (s : State) (n : Nat) (b : Bytes) : (State.writeSealed s n b).store = s.store := by
  have h := congrArg State.store (writeSealed_exceptSealed s n b)
  exact h
@[simp] theorem writeSealed_time (s : State) (n : Nat) (b : Bytes) : (State.writeSealed s n b).time = s.time := by
  have h := congrArg State.time (writeSealed_exceptSealed s n b)
  exact h
@[simp] theorem writeSealed_tbl (s : State) (n : Nat) (b : Bytes) : (State.writeSealed s n b).tbl = s.tbl := by
  have h := congrArg State.tbl (writeSealed_exceptSealed s n b)
  exact h
@[simp] theorem writeSealed_sec (s : State) (n : Nat) (b : Bytes) : (State.writeSealed s n b).sec = s.sec := by
  have h := congrArg State.sec (writeSealed_exceptSealed s n b)
  exact h
@[simp] theorem writeSealed_cp (s : State) (n : Nat) (b : Bytes) : (State.writeSealed s n b).cp = s.cp := by
  have h := congrArg State.cp (writeSealed_exceptSealed s n b)
  exact h
@[simp] theorem writeSealed_metro (s : State) (n : Nat) (b : Bytes) : (State.writeSealed s n b).metro = s.metro := by
  have h := congrArg State.metro (writeSealed_exceptSealed s n b)
  exact h
@[simp] theorem writeSealed_tier (s : State) (n : Nat) (b : Bytes) : (State.writeSealed s n b).tier = s.tier := by
  have h := congrArg State.tier (writeSealed_exceptSealed s n b)
  exact h
@[simp] theorem writeSealed_plc (s : State) (n : Nat) (b : Bytes) : (State.writeSealed s n b).plc = s.plc := by
  have h := congrArg State.plc (writeSealed_exceptSealed s n b)
  exact h
@[simp] theorem writeSealed_radios (s : State) (n : Nat) (b : Bytes) : (State.writeSealed s n b).radios = s.radios := by
  have h := congrArg State.radios (writeSealed_exceptSealed s n b)
  exact h
@[simp] theorem writeSealed_bal (s : State) (n : Nat) (b : Bytes) : (State.writeSealed s n b).bal = s.bal := by
  have h := congrArg State.bal (writeSealed_exceptSealed s n b)
  exact h
@[simp] theorem writeSealed_camps (s : State) (n : Nat) (b : Bytes) : (State.writeSealed s n b).camps = s.camps := by
  have h := congrArg State.camps (writeSealed_exceptSealed s n b)
  exact h
@[simp] theorem writeSealed_panel (s : State) (n : Nat) (b : Bytes) : (State.writeSealed s n b).panel = s.panel := by
  have h := congrArg State.panel (writeSealed_exceptSealed s n b)
  exact h
@[simp] theorem writeSealed_pending (s : State) (n : Nat) (b : Bytes) : (State.writeSealed s n b).pending = s.pending := by
  have h := congrArg State.pending (writeSealed_exceptSealed s n b)
  exact h
@[simp] theorem writeSealed_free (s : State) (n : Nat) (b : Bytes) : (State.writeSealed s n b).free = s.free := by
  have h := congrArg State.free (writeSealed_exceptSealed s n b)
  exact h

end Sys2Proof.Laws
end

