-- ==== Sys2Proof/Laws/Serve.lean ====
section
/-! SUPPORT. What serving a host command can do, once for all commands: the accepted, the completed and the refused command. -/

namespace Sys2Proof.Laws
open Sys2Proof Sys2Proof.Machine

/-- One step of the search for the lowest failing status. -/
def lowest (m : Option Nat) (c : Bool × Nat) : Option Nat :=
  if c.1 then (match m with | some x => some (min x c.2) | none => some c.2) else m

theorem firstFailure_eq (l : List (Bool × Nat)) : firstFailure l = l.foldl lowest none := rfl

theorem foldl_lowest_pass {l : List (Bool × Nat)} (h : ∀ x ∈ l, x.1 = false) (m : Option Nat) : l.foldl lowest m = m := by
  induction l generalizing m with
  | nil => rfl
  | cons x l ih =>
    rw [List.foldl_cons, show lowest m x = m by simp [lowest, h x (by simp)]]
    exact ih (fun y hy => h y (by simp [hy])) m

/-- No failing check, no status. -/
theorem firstFailure_append {l k : List (Bool × Nat)} (hl : firstFailure l = none) (hk : ∀ x ∈ k, x.1 = false) :
    firstFailure (l ++ k) = none := by
  rw [firstFailure_eq, List.foldl_append, ← firstFailure_eq, hl]
  exact foldl_lowest_pass hk none

/-- What an accepted command has passed. -/
theorem accepts_iff {s : State} {op : Nat} {c : HostCmd} : s.accepts op c = true ↔ s.takes op c = true ∧ s.verdict op c [] = none := by
  simp [State.accepts]

theorem foldl_lowest_some (l : List (Bool × Nat)) : ∀ k, ∃ j, l.foldl lowest (some k) = some j := by
  induction l with
  | nil => exact fun k => ⟨k, rfl⟩
  | cons x l ih =>
    intro k
    rw [List.foldl_cons]
    cases hx : x.1
    · simpa [lowest, hx] using ih k
    · simpa [lowest, hx] using ih (min k x.2)

theorem firstFailure_none {l : List (Bool × Nat)} (h : firstFailure l = none) : ∀ x ∈ l, x.1 = false := by
  intro x hx
  induction l with
  | nil => cases hx
  | cons y l ih =>
    rw [firstFailure_eq, List.foldl_cons] at h
    cases hy : y.1
    · have hl : firstFailure l = none := by simpa [lowest, hy, firstFailure_eq] using h
      rcases List.mem_cons.mp hx with rfl | hm
      · exact hy
      · exact ih hl hm
    · obtain ⟨j, hj⟩ := foldl_lowest_some l y.2
      simp [lowest, hy, hj] at h

/-- A command that is accepted, whose own checks pass: only its body decides. -/
theorem verdict_none {s : State} {op : Nat} {c : HostCmd} {k : List (Bool × Nat)} (ha : s.accepts op c = true)
    (hk : ∀ x ∈ k, x.1 = false) : s.verdict op c k = none :=
  firstFailure_append (l := [_, _, _]) (accepts_iff.mp ha).2 hk

theorem accepts_not_denied {s : State} {op : Nat} {c : HostCmd} (ha : s.accepts op c = true) : headendDenies op c = false :=
  firstFailure_none (accepts_iff.mp ha).2 (headendDenies op c, stDeniedAuth) (by simp)

/-- An accepted command whose own checks pass runs its body on the taken state. -/
theorem serve_accepted {s : State} {op : Nat} {c : HostCmd} {checks : State → List (Bool × Nat)} {body : State → State × Reply}
    {post : State → State} (ha : s.accepts op c = true) (hk : ∀ x ∈ checks s, x.1 = false) :
    s.serve op c checks body post = (match (body (s.taken op c)).2 with
      | .done d => post ((body (s.taken op c)).1.complete c.headend op c.tag stDone d true)
      | .status code d => (body (s.taken op c)).1.complete c.headend op c.tag code d true
      | .accepted => post ((body (s.taken op c)).1.complete c.headend op c.tag stAccepted [] false)
      | .acceptedWith d => (body (s.taken op c)).1.complete c.headend op c.tag stAccepted d false
      | .later => (body (s.taken op c)).1) := by
  have ht := (accepts_iff.mp ha).1
  simp only [State.takes, Bool.and_eq_true, decide_eq_true_eq, Bool.not_eq_true'] at ht
  unfold State.serve
  rw [if_neg ht.1.1, if_neg (by simpa using ht.1.2), if_neg (by simp [ht.2]), verdict_none ha hk, accepts_not_denied ha] <;> rfl

/-- A command that is taken and fails a check completes with the lowest failing status; nothing else of its rule happens. -/
theorem serve_refused {s : State} {op : Nat} {c : HostCmd} {checks : State → List (Bool × Nat)} {body : State → State × Reply}
    {post : State → State} {k : Nat} (ht : s.takes op c = true) (hv : s.verdict op c (checks s) = some k) (hd : headendDenies op c = false)
    (hf : s.tagInFlight c = false) :
    s.serve op c checks body post = (s.taken op c).complete c.headend op c.tag k [] true := by
  simp only [State.takes, Bool.and_eq_true, decide_eq_true_eq, Bool.not_eq_true'] at ht
  unfold State.serve
  simp only [if_neg ht.1.1, if_neg (show ¬(c.headend = true ∧ s.cfgN 0x0010 2 = 0) by simpa using ht.1.2), ht.2, hv, hd, hf, Bool.not_true, Bool.false_eq_true, if_false, false_and]

/-- A query: accepted and with its checks passed, it completes with its data. -/
theorem serveQuery_accepted {s : State} {op : Nat} {c : HostCmd} {n : Nat} {bad : State → Bool} {data : State → Bytes}
    (ha : s.accepts op c = true) (hn : c.req.length = n) (hb : bad s = false) :
    s.serveQuery op c n bad data = (s.taken op c).complete c.headend op c.tag stDone (data (s.taken op c)) true := by
  unfold State.serveQuery
  rw [serve_accepted ha (by simp [lenIs, badField, hn, hb])]
  rfl

end Sys2Proof.Laws
end

