-- ==== Sys2Proof/WellFormed.lean ====
section
/-! DEFINITION. Well-formed commands: every operand within the width or the range that the spec gives it. The meanings are total on
every operand; this says which terms stand for something outside the block. -/

namespace Sys2Proof

/-- A frame's fields fit their widths, and the frame is no longer than R448 allows. -/
def HostCmd.wf (c : HostCmd) : Bool :=
  decide (c.flags < 2 ^ 16) && decide (c.tag < 2 ^ 32) && decide (c.cmdset < 2 ^ 16) && decide (c.reserved < 2 ^ 16) && decide (c.req.length ≤ 262172)

/-- A stamp: nanoseconds within their second, fraction and step count of 8 bits (R10, R259). -/
def Stamp.wf (t : Stamp) : Bool := decide (t.ns < 1000000000) && decide (t.frac < 256) && decide (t.count < 256)

/-- A received PLC frame: PAN and addresses as wide as R14 has them, three paths, a stamp within its second. -/
def PlcRx.wf (f : PlcRx) : Bool :=
  decide (f.pan < 2 ^ 16) && (f.kind = 0 && f.src.length = 8 || f.kind = 1 && f.src.length = 2) && f.paths.length = 3 &&
  decide (f.mod < 8) && decide (f.counter < 256) && f.stamp.wf

/-- A received radio frame. -/
def RfRx.wf (f : RfRx) : Bool :=
  decide (f.pan < 2 ^ 16) && (f.kind = 0 && f.src.length = 8 || f.kind = 1 && f.src.length = 2) && f.stamp.wf

/-- A short address. -/
def half (a : Nat) : Bool := decide (a < 2 ^ 16)
/-- A register word. -/
def word (v : Nat) : Bool := decide (v < 2 ^ 32)
/-- A voltage channel with zero-crossing detection (R101). -/
def phase (ch : Nat) : Bool := decide (1 ≤ ch) && decide (ch ≤ 3)

/-- Whether every operand of a command lies in its range. -/
def Instr.wellFormed : Instr → Bool
  | .plcFrameReceive port f => decide (port < 4) && f.wf
  | .rfFrameReceive n f => decide (n < 4) && f.wf
  | .receivedFrameHandle q => decide (q < 512)
  | .profileRead eix => decide (eix < 2 ^ 18)
  | .gateInboundMessage received => received.all (fun b => decide (b.length ≤ 65552))
  | .reassemblyTimeout eix => decide (eix < 2 ^ 18)
  | .gateLinkReset cause => decide (cause < 256)
  | .stampChange input _ => decide (input < 2)
  | .metroSample volts _ currents neutrals => decide (volts.length = 3) && decide (currents.length = 12) && decide (neutrals.length = 4)
  | .zxLost channel => phase channel
  | .zxRegained channel => phase channel
  | .orderAttempt eix => decide (eix < 2 ^ 18)
  | .orderResponse eix => decide (eix < 2 ^ 18)
  | .controlStateRead eix _ => decide (eix < 2 ^ 18)
  | .orderGetTimeout eix => decide (eix < 2 ^ 18)
  | .nodeSafePoint n => decide (n < 12)
  | .intervalCloseWait n _ => decide (n < 12)
  | .balanceSolveDone n => decide (n < 12)
  | .memberSilent eix => decide (eix < 2 ^ 18)
  | .plcTransmit port _ => decide (port < 4)
  | .plcAckTimeout port _ _ => decide (port < 4)
  | .plcFltFall port => decide (port < 4)
  | .plcFaultClear port => decide (port < 4)
  | .plcFaultPersist port => decide (port < 4)
  | .plcPortWatchdog port => decide (port < 4)
  | .rreqReceived port hop _ _ => decide (port < 4) && half hop
  | .rrepReceived port dest hop _ _ => decide (port < 4) && half dest && half hop
  | .rerrReceived port dest => decide (port < 4) && half dest
  | .rlcreqReceived link => decide (link.port < 4) && half link.hop
  | .rlcrepReceived port hop _ => decide (port < 4) && half hop
  | .rreqWaitExpiry eix => decide (eix < 2 ^ 18)
  | .repeaterWaitExpiry eix => decide (eix < 2 ^ 18)
  | .routeExpiry port short => decide (port < 4) && half short
  | .blacklistExpiry port short => decide (port < 4) && half short
  | .sightingExpiry eix => decide (eix < 2 ^ 18)
  | .lbpJoin port eui what _ _ stamp => decide (port < 8) && eui.length = 8 && decide (what < 5) && stamp.wf
  | .endpointLeave eix => decide (eix < 2 ^ 18)
  | .plcTimeDelivery port eix _ => decide (port < 4) && decide (eix < 2 ^ 18)
  | .rfTimeslot n _ _ _ _ _ => decide (n < 4)
  | .rfAckTimeout n => decide (n < 4)
  | .sleepyMiss n eix => decide (n < 4) && decide (eix < 2 ^ 18)
  | .rescueCellEmpty n => decide (n < 4)
  | .walExhausted n eix => decide (n < 4) && decide (eix < 2 ^ 18)
  | .rfWatchdog n => decide (n < 4)
  | .rfTimeDelivery n eix _ => decide (n < 4) && decide (eix < 2 ^ 18)
  | .ptpSync port _ _ _ => decide (port < 2)
  | .ptpDelayResp port _ _ _ => decide (port < 2)
  | .ptpAnnounce port _ _ _ => decide (port < 2)
  | .ptpAnnounceTimeout port => decide (port < 2)
  | .ptpSyncLoss port => decide (port < 2)
  | .ptpLocked port => decide (port < 2)
  | .ptpSyncTx port _ => decide (port < 2)
  | .ptpDelayReqTx port => decide (port < 2)
  | .ptpDelayReqReceived port _ requester _ => decide (port < 2) && requester.length = 10
  | .ptpManagement port _ _ _ => decide (port < 2)
  | .ethLinkChange port _ => decide (port < 2)
  | .lookup kind _ port _ _ _ _ => decide (kind < 3) && decide (port < 16)
  | .proofingScan region _ _ => decide (region < 6)
  | .tblRead inst get => decide (inst < 2) && decide (get.kind < 16)
  | .tblWrite inst kind mode => decide (inst < 2) && decide (kind < 16) && decide (mode < 2)
  | .tblDelete inst kind => decide (inst < 2) && decide (kind < 16)
  | .tblSearch inst get => decide (inst < 2) && decide (get.kind < 16)
  | .tblNext inst get => decide (inst < 2) && decide (get.kind < 16)
  | .tblFlushPort inst mode => decide (inst < 2) && decide (mode < 2)
  | .queueOpen producer q _ => decide (producer < 32) && decide (q < 512)
  | .queueClose producer q _ => decide (producer < 32) && decide (q < 512)
  | .consumerRead q _ => decide (q < 512)
  | .openTimeout producer q => decide (producer < 32) && decide (q < 512)
  | .headExpiry q => decide (q < 512)
  | .creditWaitLong q _ _ => decide (q < 512)
  | .storeRecordAccept q => decide (64 ≤ q) && decide (q < 72)
  | .pageBufferTimeout stream => decide (stream < 16)
  | .eraseDone _ die => decide (die < 8)
  | .pageReadDone stream _ _ _ _ _ => decide (stream < 16)
  | .dieHang die => decide (die < 8)
  | .dieRetry die _ => decide (die < 8)
  | .bucketRefill src => decide (src < 256)
  | .protectedRecordRx header _ => header.length = 16
  | .transportEpochRoll ch => decide (ch < 8)
  | .contentLoaded c => decide (c < 8)
  | .multicastFrame c => decide (c < 8)
  | .memberResponse c eix _ _ _ => decide (c < 8) && decide (eix < 2 ^ 18)
  | .memberRequestTimeout c eix => decide (c < 8) && decide (eix < 2 ^ 18)
  | .verifyPoll c eix => decide (c < 8) && decide (eix < 2 ^ 18)
  | .verifyTimeout c eix => decide (c < 8) && decide (eix < 2 ^ 18)
  | .activationDue c => decide (c < 8)
  | .powerFailWarning source _ => decide (source < 2)
  | .vioFault bank _ => decide (bank < 2)
  | .tamperInput n _ => decide (n < 6)
  | .lockstepReset pair => decide (pair < 256)
  | .resetRelease _ _ _ diesOk pipesOk => diesOk.length = 8 && pipesOk.length = 2
  | .doorbell tail _ _ => decide (tail < 2 ^ 32)
  | .mailboxEnable v => word v
  | .completionHeadWrite v => word v
  | .notificationHeadWrite v => word v
  | .notificationEnable v => word v
  | .registerWrite addr v => decide (addr < 2 ^ 32) && word v
  | .commandTimeout _ tag => word tag
  | .pcieLinkReset kind => decide (kind < 3)
  | .msiCoalesce vector => decide (vector < 16)
  | .peerLoss m => decide (m < 256)
  | .hostLinkUp rate width => decide (rate < 4) && decide (width < 3)
  | .orderResponseWindow eix => decide (eix < 2 ^ 18)
  | .sysIdent c | .sysEcho c | .mbxStatus c | .sysPowerStatus c | .sysRestart c | .sysShutdown c | .sysClocks c | .cfgStatus c
  | .cfgDescribe c | .cfgRead c | .cfgBegin c | .cfgStage c | .cfgValidate c | .cfgCommit c | .cfgAbort c | .cfgRevert c | .cfgProveNow c
  | .cfgFactory c | .tblStatus c | .tblOp c | .tblRehash c | .tblNotices c | .tblProof c | .ledgerRead c | .ledgerReadClose c
  | .ledgerReadSnapshots c | .ledgerList c | .ledgerSummary c | .orderRetry c | .tariffStatus c | .tariffReadDoc c | .tariffEvaluate c
  | .tariffStepLog c | .storeStatus c | .storeDies c | .storeRead c | .storeRefreshNow c | .storeStreamInfo c | .storeBatchList c
  | .storeBatchRead c | .storeBatchAck c | .storeRelease c | .volCreate c | .volDelete c | .volWrite c | .volRead c | .volTrim c
  | .recStatus c | .recRead c | .recExposeOpen c | .recExposeRead c | .recExposeClose c | .recAnchorNow c | .secStatus c | .submitOpenDoc c
  | .lifecycleAdvance c | .keyWrite c | .attest c | .rngRead c | .certRead c | .transportRekey c | .fwBegin c | .fwWrite c | .fwVerify c
  | .fwActivate c | .fwConfirm c | .fwStatus c | .distStatus c | .distCreate c | .distMembers c | .distStart c | .distReadMembers c
  | .distCancel c | .distActivate c | .timeStatus c | .timeSet c | .timeGet c | .timeSources c | .timeOfferNow c | .balStatus c
  | .balSetMembers c | .balGetMember c | .balReadScores c | .balReadIntervals c | .balSolveNow c | .balApplyPhase c | .plcPortStatus c
  | .plcNeighbours c | .plcRouteRead c | .plcRouteDiscover c | .plcPhaseShare c | .plcSetPsk c | .plcGmkRotate c | .plcPortReset c
  | .plcTimeDeliver c | .rfStatus c | .rfSyncRead c | .rfScheduleRead c | .rfSetWake c | .rfAirtime c | .rfKeyRotate c | .rfRadioReset c
  | .rfTimeDeliver c | .panelStatus c | .panelWrite c | .panelUpdate c | .panelLoad c | .panelBlink c | .panelContactSheet c
  | .panelReadLedger c | .panelRebalance c | .tierStatus c | .tierPeers c | .tierPromote c | .gateStatus c | .readIdent c | .closeBatch c
  | .submitDocument c | .requestReport c | .submitDocSegment c | .metroLatest c | .metroZxStatus c | .metroReadObject c
  | .metroVerifyMirror c | .metroReadHistory c | .fogStatus c | .fogInject c | .fogLock c => c.wf
  | .gateTransmit | .sealedApduProcess | .batchAgeExpiry | .batchTrailerReady | .sealedOutputResume | .gateOutboundReceive _ | .ackUnit
  | .storeResultUnit | .responseUnit | .secondMarker _ | .readRequestUnit | .readReturnUnit | .releaseUnit | .journalPartReoffer
  | .timeOffer | .tariffDoc | .creditTxn | .sealedConfig | .sealedFirmwareSegment | .segmentTimeout | .sealNChange _ | .sealSessionExpiry
  | .sealedDieStart _ | .sealedCheckpoint | .calendarExecution | .minuteEvaluation | .stateEmit | .metroPeriodEnd | .zxStampsSend
  | .sealedTemperature _ | .cpSealedPacket | .balInPacket | .balanceRebuildDone _ | .hostSourceLost | .holdoverExpiry | .otTick
  | .markerLost | .zxInPacket | .timeOfferDecision | .noticeDecision _ | .noticeTtlExpiry _ | .agingPass | .shadowCommit
  | .rehashComplete _ | .openGrant | .fanoutPacket | .pageProgramDone _ | .expiryWeek | .development _ | .garbageCollection _ | .refresh _
  | .weightedAge _ _ | .mapCheckpoint _ | .recorderPacket | .sealedEventRecord | .anchorPeriodic | .exposureExpiry _ | .trngHealthFail _ _
  | .trngRestart _ _ | .drbgReseed | .debugAttach | .debugWindowExpiry | .fwConfirmTimeout | .fwActivateRestart | .uploadBatchSend _
  | .uploadAck _ _ | .uploadAckTimeout _ | .headendCommand _ | .holdupStep _ | .vinUndervoltage _ | .pfwCleared _ | .vinStart _
  | .vbatLow _ | .vbatLost _ | .railFault _ _ | .thermalReading _ | .clockMonitor _ _ | .tcxoAbsent | .idleEntry | .idleWake _
  | .holdExpiry | .resetPin | .watchdogReset | .startComplete _ | .ntfLostRead | .queRefusedRead | .qspiStatusRead | .completionWrite _
  | .provingEnd | .heartbeatSend | .heartbeatReceive _ _ | .directoryFrame _ | .batchSegmentFrame _ | .batchAckFrame _ | .subscribeFrame _
  | .contribFrame _ | .bufferAgeDay | .panelFrame | .panelRailUp | .pwrgoodTimeout | .panelRailRetry | .railHoldExpiry | .pwrgoodLost
  | .panelTemperature _ | .contactSheetHold | .unlockExpiry => true

end Sys2Proof
end

