-- ==== Sys2Proof/Tests/Slice0.lean ====
section
/-! SUPPORT. The model's own tests: an ill-formed term for each check of WellFormed, the spec's worked figures, and for every
statement with hypotheses a state and operands that meet all of them together. -/

set_option Elab.async false
set_option linter.unusedVariables false

namespace Sys2Proof.Tests
open Sys2Proof Sys2Proof.Machine

/-! ### Every check of WellFormed refuses an ill-formed term -/

/-- Fields of a host command's frame beyond their widths, and a frame longer than R448 allows. -/
theorem test_illFormed_frames : [Instr.sysEcho { tag := 0, flags := 2 ^ 16 }, .sysEcho { tag := 2 ^ 32 }, .sysEcho { tag := 0, cmdset := 2 ^ 16 },
    .sysEcho { tag := 0, reserved := 2 ^ 16 }].all (fun i => !i.wellFormed) = true := by decide

theorem test_illFormed_frame_length (b : Bytes) (h : b.length = 262173) : (Instr.sysEcho { tag := 0, req := b }).wellFormed = false := by
  simp [Instr.wellFormed, HostCmd.wf, h]

/-- A well-formed frame of each kind of port, from which each check's ill-formed one is made. -/
def tPlcRx : PlcRx := { pan := 0, kind := 1, src := [0, 0], hop := 0, paths := [{}, {}, {}] }
def tRfRx : RfRx := { pan := 0, kind := 1, src := [0, 0] }

/-- Power-line and radio frames: ports, addresses, stamps, short addresses and path lists. -/
theorem test_illFormed_power_line : [Instr.plcFrameReceive 4 tPlcRx, .plcFrameReceive 0 { tPlcRx with pan := 65536 }, .plcFrameReceive 0 { tPlcRx with src := [0] },
    .plcFrameReceive 0 { tPlcRx with kind := 2 }, .plcFrameReceive 0 { tPlcRx with paths := [] }, .plcFrameReceive 0 { tPlcRx with mod := 8 },
    .plcFrameReceive 0 { tPlcRx with counter := 256 }, .plcFrameReceive 0 { tPlcRx with stamp := { ns := 1000000000 } },
    .plcFrameReceive 0 { tPlcRx with stamp := { frac := 256 } }, .plcFrameReceive 0 { tPlcRx with stamp := { count := 256 } }, .plcTransmit 4 {},
    .plcAckTimeout 4 false {}, .plcFltFall 4, .plcFaultClear 4, .plcFaultPersist 4, .plcPortWatchdog 4, .rreqReceived 4 0 1 false,
    .rreqReceived 0 65536 1 false, .rrepReceived 4 0 0 0 0, .rrepReceived 0 65536 0 0 0, .rrepReceived 0 0 65536 0 0, .rerrReceived 4 0, .rerrReceived 0 65536,
    .rlcreqReceived { port := 4, hop := 0 }, .rlcreqReceived { port := 0, hop := 65536 }, .rlcrepReceived 4 0 0, .rlcrepReceived 0 65536 0, .rreqWaitExpiry (2 ^ 18), .repeaterWaitExpiry (2 ^ 18),
    .routeExpiry 4 0, .routeExpiry 0 65536, .blacklistExpiry 4 0, .blacklistExpiry 0 65536, .sightingExpiry (2 ^ 18), .lbpJoin 8 (zeros 8) 0 0 [] {},
    .lbpJoin 0 [] 0 0 [] {}, .lbpJoin 0 (zeros 8) 5 0 [] {}, .lbpJoin 0 (zeros 8) 0 0 [] { ns := 1000000000 }, .endpointLeave (2 ^ 18),
    .plcTimeDelivery 4 0 true, .plcTimeDelivery 0 (2 ^ 18) true].all (fun i => !i.wellFormed) = true := by decide

theorem test_illFormed_radio : [Instr.rfFrameReceive 4 tRfRx, .rfFrameReceive 0 { tRfRx with pan := 65536 }, .rfFrameReceive 0 { tRfRx with kind := 0 },
    .rfFrameReceive 0 { tRfRx with stamp := { ns := 1000000000 } }, .rfTimeslot 4 0 30 60 [] true, .rfAckTimeout 4, .sleepyMiss 4 0, .sleepyMiss 0 (2 ^ 18),
    .rescueCellEmpty 4, .walExhausted 4 0, .walExhausted 0 (2 ^ 18), .rfWatchdog 4, .rfTimeDelivery 4 0 true, .rfTimeDelivery 0 (2 ^ 18) true].all (fun i => !i.wellFormed) = true := by decide

/-- Time and the tables. -/
theorem test_illFormed_time_and_tables : [Instr.ptpSync 2 0 0 0, .ptpDelayResp 2 0 0 0, .ptpAnnounce 2 [] [] none, .ptpAnnounceTimeout 2, .ptpSyncLoss 2,
    .ptpLocked 2, .ptpSyncTx 2 false, .ptpDelayReqTx 2, .ptpDelayReqReceived 2 0 (zeros 10) 0, .ptpDelayReqReceived 0 0 [] 0, .ptpManagement 2 0 0 [],
    .ethLinkChange 2 true, .lookup 3 [] 0 0 0 0 0, .lookup 0 [] 16 0 0 0 0, .proofingScan 6 0 [], .tblRead 2 { kind := 0 }, .tblRead 0 { kind := 16 }, .tblWrite 2 0 0,
    .tblWrite 0 16 0, .tblWrite 0 0 2, .tblDelete 2 0, .tblDelete 0 16, .tblSearch 2 { kind := 0 }, .tblSearch 0 { kind := 16 }, .tblNext 2 { kind := 0 }, .tblNext 0 { kind := 16 },
    .tblFlushPort 2 0, .tblFlushPort 0 2].all (fun i => !i.wellFormed) = true := by decide

/-- The fabric, the store, the recorder, security, distribution. -/
theorem test_illFormed_fabric_and_store : [Instr.receivedFrameHandle 512, .queueOpen 32 0 0, .queueOpen 0 512 0, .queueClose 32 0 [], .queueClose 0 512 [],
    .consumerRead 512 0, .openTimeout 32 0, .openTimeout 0 512, .headExpiry 512, .creditWaitLong 512 0 none, .storeRecordAccept 63, .storeRecordAccept 72,
    .pageBufferTimeout 16, .eraseDone true 8, .pageReadDone 16 0 false false 0 0, .dieHang 8, .dieRetry 8 true, .bucketRefill 256,
    .protectedRecordRx [] [], .transportEpochRoll 8, .contentLoaded 8, .multicastFrame 8, .memberResponse 8 0 true [] [],
    .memberResponse 0 (2 ^ 18) true [] [], .memberRequestTimeout 8 0, .memberRequestTimeout 0 (2 ^ 18), .verifyPoll 8 0, .verifyPoll 0 (2 ^ 18),
    .verifyTimeout 8 0, .verifyTimeout 0 (2 ^ 18), .activationDue 8].all (fun i => !i.wellFormed) = true := by decide

/-- The gate, the sealed die, metrology, orders, balance, power, registers and the tier. -/
theorem test_illFormed_sealed_and_power : [Instr.profileRead (2 ^ 18), .reassemblyTimeout (2 ^ 18), .gateLinkReset 256, .stampChange 2 true, .metroSample [] 0 (List.replicate 12 0) (List.replicate 4 0), .metroSample [0, 0, 0] 0 [] (List.replicate 4 0), .metroSample [0, 0, 0] 0 (List.replicate 12 0) [],
    .zxLost 0, .zxLost 4, .zxRegained 0, .zxRegained 4, .orderAttempt (2 ^ 18), .orderResponse (2 ^ 18), .controlStateRead (2 ^ 18) none,
    .orderGetTimeout (2 ^ 18), .orderResponseWindow (2 ^ 18), .nodeSafePoint 12, .intervalCloseWait 12 0, .balanceSolveDone 12, .memberSilent (2 ^ 18),
    .powerFailWarning 2 0, .vioFault 2 0, .tamperInput 6 true, .lockstepReset 256, .resetRelease 0 none 0 [] [true, true],
    .resetRelease 0 none 0 (List.replicate 8 true) [], .doorbell (2 ^ 32) [] false, .mailboxEnable (2 ^ 32), .completionHeadWrite (2 ^ 32),
    .notificationHeadWrite (2 ^ 32), .notificationEnable (2 ^ 32), .registerWrite (2 ^ 32) 0, .registerWrite 0 (2 ^ 32), .commandTimeout false (2 ^ 32),
    .pcieLinkReset 3, .msiCoalesce 16, .peerLoss 256, .hostLinkUp 4 0, .hostLinkUp 0 3].all (fun i => !i.wellFormed) = true := by decide

theorem test_illFormed_gate_message (b : Bytes) (h : b.length = 65553) : (Instr.gateInboundMessage (some b)).wellFormed = false := by
  simp [Instr.wellFormed, h]

/-- Terms at the ends of their ranges are well-formed. -/
theorem test_wellFormed_ends : [Instr.plcFltFall 3, .plcFrameReceive 3 { tPlcRx with mod := 7 }, .rfFrameReceive 3 tRfRx, .metroSample [0, 0, 0] 0 (List.replicate 12 0) (List.replicate 4 0),
    .lbpJoin 7 (zeros 8) 4 0 [] {}, .zxLost 1, .zxLost 3, .consumerRead 511 2, .storeRecordAccept 64, .storeRecordAccept 71, .bucketRefill 255,
    .registerWrite (2 ^ 32 - 1) (2 ^ 32 - 1), .sysEcho { tag := 2 ^ 32 - 1 }, .otTick].all (·.wellFormed) = true := by decide

/-- No row of the table has bits, so no word spells a command. -/
theorem test_no_word_spells_a_command : decodeTableWord 0 0 = none ∧ (State.reset.withFetchWord 16 0x1234).pending = [] := by decide

/-! ### The spec's worked figures -/

/-- R15: the edge code of the nine ASCII bytes "123456789" and how it is stored. -/
theorem test_edge_code : withEdge (ascii "123456789") = ascii "123456789" ++ [0x83, 0x92, 0x06, 0xE3] := by decide +kernel

/-- 05, "A month end worked through", step 2: 300,000 mWh in block 1, 200,000 in block 2, 15,000 standing: 545,000 units, no carry. -/
theorem test_price_across_a_threshold :
    priceCell 100000000 300000000 [900000, 1300000, 1800000] none 1440000 0 0 99700000 500000 0 900 = (545000, 0, 0, 0) := by decide

/-- The same example at 00:15: 480,000 mWh at 950,000 and 16,000 standing: 472,000 units. -/
theorem test_price_in_the_new_period :
    priceCell 100000000 300000000 [950000, 1300000, 1800000] none 1536000 0 0 0 480000 0 900 = (472000, 0, 0, 0) := by decide

/-- 08, worked example: the guard of slotframe 2 for an endpoint of 10 ppm is 1,636 µs. -/
theorem test_wake_guard : State.reset.guardFor 0 2 10 = 1636 := by decide +kernel

/-- 15, worked example: an image of 600,000 bytes has 4,688 symbols. -/
theorem test_image_symbols : Campaign.blocks { kind := 1, volume := 0, first := 0, length := 600000, digest := [], obis := [], actNt := 0, ident := [] } = 4688 := by
  decide

/-- R22: a bad length goes before a bad field, whatever the numbers of the codes. -/
theorem test_length_before_field : orderedFailure [(true, stBadLength), (true, stBadField)] = some stBadLength := by decide

/-- R316: an OPEN on HOST_OUT in an empty fabric is granted at once. -/
theorem test_open_granted : State.reset.openAnswer 40 1 1 = .granted := by decide +kernel

/-- Step takes the command at the front and leaves the rest. -/
theorem test_step_takes_the_front : ∃ t, step { State.reset with pending := [.expiryWeek, .otTick] } = .next t ∧ t.pending = [.otTick] :=
  ⟨_, rfl, by decide +kernel⟩

/-! ### Witnesses for the hypotheses of the statements -/

/-- The block in RUN, READY for commands. -/
def wRun : State := State.reset.onHost (fun h => { h with phase := 2 }) |>.onPower fun p => { p with state := .run }
/-- A staging is open on the generation in force. -/
def wStaging : State := wRun.onCfg fun x => { x with staging := some { base := wRun.cfg.force.number, values := [] } }
/-- A record of CFG_STAGE: tier_id, field 0 of object 0xE000. -/
def cfgRec1 : Bytes := le 2 0xE000 ++ le 1 0 ++ le 1 0 ++ le 2 1 ++ zeros 2 ++ le 4 1
/-- A CLOSE record of EIX 5, period 2, stored in stream 6. -/
def wCloseRec : StoreRec := { stream := 6, kind := 0x82, seq := 0, committed := true, data := le 4 5 ++ le 1 1 ++ zeros 51 ++ le 4 2 }
def wClose : State := wRun.onStore fun t => { t with recs := [(0, wCloseRec)] }
/-- An order of EIX 5 whose schedule is under way. -/
def wOrder : State := wRun.onCp fun x => { x with orders := [(5, { number := 1, kind := 1 })] }
/-- Version 1 of a tariff document is active from sealed time 1,000 on. -/
def wDoc : Bytes := zeros 12 ++ le 4 1 ++ zeros 40
def wDocT : TDoc := { version := 1, activation := 1000, order := 1, body := zeros 64 }
def wTariff : State := wRun.onCp fun x => { x with tariff := { x.tariff with active := some wDocT }, acceptedDocs := [(1, wDoc)] }
/-- Batch 1 is complete and delivered. -/
def wBatch : State := wRun.onStore fun t => { t with
  batches := [(1, { header := 0, trailer := 1, first := 0, cells := 0, complete := true, delivered := true })]
  recs := [(0, { stream := 1, kind := 0x86, seq := 0, committed := true, data := zeros 64 }), (1, { stream := 1, kind := 0x87, seq := 1, committed := true, data := zeros 3384 })] }
/-- Volume 0 exists, 1 MiB. -/
def wVol : State := wRun.onStore fun t => { t with vols := [(0, { sizeMib := 1, days := 0 })] }
/-- Exposure 0 of channel 0 is open. -/
def wExp : State := wRun.onRec fun r => { r with exposures := [{ handle := 0, channel := 0, low := 0, stop := 5, lastOt := 0 }], nextHandle := 1 }
/-- A defined image campaign, number 0. -/
def wCampaign : Campaign := { kind := 1, volume := 0, first := 0, length := 4096, digest := [], obis := [], actNt := 0, ident := [65] }
def wCamp : State := { wRun with camps := [(0, wCampaign)] }
/-- A member of the balance with a phase result. -/
def wMem : Member := { feeder := 0, mask := 1, flags := 0, result := some 2 }
def wMember : State := wRun.onBal fun b => { b with members := [(5, wMem)] }
/-- An offer is allowed. -/
def wOffer : State := wRun.onTime fun t => { t with level := 3, markers := [{ sec := 0, delta := 0, count := 0 }], firstOffer := true }
def wBal : State := wRun.onBal fun b => { b with rebuilding := false }
def wSet (s : State) (o f : Nat) (v : Int) : State := s.onCfg fun x => { x with running := cfgSet x.running o f 0 v }
def wPorts : State := wRun.onCp fun x => { x with portsEnabled := true }
/-- EIX 5 is bound to PLC port 0, which works. -/
def wPlc : State := (wSet wPorts 0x4000 0 1).onTbl fun t => { t with dir := [(5, { eui := zeros 8, short := 7, port := 0 })] }
def wPlcBare : State := wPlc.onTbl fun t => { t with dir := [] }
def wRoute : State := wPlc.onPlc fun p => { p with routes := [(7, { hop := 7, cost := 1, hops := 1 })] }
/-- EIX 5 is bound to radio 0, which works. -/
def wRfEp : State := (wSet wPorts 0x5000 0 1).onTbl fun t => { t with dir := [(5, { eui := zeros 8, short := 7, port := 4 })] }
def wKek : State := wRun.onSec fun x => x.writeSlot 2 (zeros 32)
def wPanel : State := (wSet wRun 0xD000 0 1).onPanel fun p => { p with table := some [] }
def wStandby : State := { wSet (wSet wRun 0xE000 0 7) 0x0010 2 1 with straps := { wRun.straps with tier := 3 } }
def wMirror : State := wRun.onCp fun x => { x with mirror := [(0x1000, [1])] }
def wFog : State := wRun.onFog fun f => { f with unlock := some { classes := 0xFF, duration := 100, since := 0, version := 1 } }
def wPkt : OpenPacket := { queue := 40, producer := 11, cells := 2 }
def wOpen : State := wRun.onFabric fun f => { f with opened := [wPkt] }
def edgeSample : Bytes := withEdge (zeros 16)
def wWaiter : State := wRun.onFabric fun f => { f with waiters := [{ queue := 40, producer := 11, cells := 1, payload := none }] }
def wGateOut : State := wRun.onQueue 48 fun x => { x with pkts := [{ producer := 12, seq := 0, cells := 1, payload := withEdge (zeros 16) }] }
def wRank3 : State := wRun.onQueue 32 fun x => { x with pkts := [{ producer := 9, seq := 0, cells := 1, payload := [] }] }
def wUnreadPkt : Packet := { producer := 13, seq := 0, cells := 2, payload := withEdge (le 4 0x81 ++ le 4 0 ++ le 4 9 ++ zeros 64) }
def wUnread : State := (wRun.onStore fun t => { t with mapReady := true }).onQueue 64 fun x => { x with pkts := [wUnreadPkt] }
def wBuffered : State := wRun.onStore fun t => { t with buffers := [(1, [(0, 100)])] }
def wFlashRec : StoreRec := { wCloseRec with place := .flash 40 0 0 }
def wFlash : State := wRun.onStore fun t => { t with recs := [(0, wFlashRec)] }
def wErase : State := wRun.onStore fun t => { t with eraseQ := [40] }
def wHung : State := wRun.onDie 0 fun y => { y with hung := true, retries := 2 }
def wReserved : State := (wRun.onSb 28 fun b => { b with phase := .opened }).onStore fun t => { t with
  recs := [(0, { wCloseRec with place := .flash 28 0 0 })] }
def wVictims : State := wRun.onSb 40 fun b => { b with phase := .verified, week := 0xFFFF }
def wRefresh : State := wVictims.onStore fun t => { t with refreshQ := [(40, 2)] }
/-- A record packet of producer `k` in queue 71; a sealed one carries sequence 7. -/
def wRecPacket (k : Nat) : Packet := { producer := k, seq := 0, cells := 1, payload := withEdge (le 4 0x85 ++ zeros 8 ++ le 8 7 ++ zeros 24) }
def wRecPkt (k : Nat) : State := wRun.onQueue 71 fun x => { x with pkts := [wRecPacket k] }
def wProg : PageProgram := { stream := 1, parts := [(0, true)], sb := 0, page := 0 }
def wProgram : State := wRun.onStore fun t => { t with programs := [wProg] }
def wHostPkt : Packet := { producer := 11, seq := 0, cells := 1, payload := completionFrame 0x0101 0 7 0 true true [] }
def wHostOut : State := (wRun.onQueue 40 fun x => { x with pkts := [wHostPkt] }).onHost fun h => { h with mbxCtrl := 1 }
def wInflight : Inflight := { headend := false, tag := 7, opcode := 0x0101 }
/-- The gate's link is up and both dies run. -/
def wGate : State := (wRun.onGate fun g => { g with up := true }).onSealed fun x => { x with running := true }
def wOfferPkt : Packet := { producer := 14, seq := 0, cells := 1, payload := withEdge (gateMsg 4 0 (zeros 32)) }
def wWireBytes : Bytes := withEdge (le 4 (4 + 256) ++ le 4 48 ++ le 4 0 ++ zeros 32)
def wWire : State := wGate.onGate fun g => { g with wire := some wWireBytes }
def wInMsg (k : Nat) (payload : Bytes) : InboundMsg := { seq := 0, kind := k, bytes := zeros 12 ++ payload ++ zeros 4, origin := 0, key := 0 }
def wAdmit (k : Nat) (payload : Bytes) : State := wGate.onGate fun g => { g with admitted := [wInMsg k payload] }
def wOutMsg : State := wGate.onSealed fun x => { x with outBuf := [{ seq := 0, kind := 0x85, payload := zeros 32 }] }
def wResult : StoreResult := { seq := 0, refused := false, status := 0, storeState := 0 }
def wSealedRec : Bytes := ascii "SLSR" ++ le 2 1 ++ le 2 1 ++ zeros 16 ++ le 4 0 ++ zeros 20
def wReadReq : ReadReq := { stream := 1, epoch := 0, recNo := 0, left := 4 }
def wReading : State := wGate.onGate fun g => { g with readReturns := [wSealedRec], readOpen := some wReadReq }
def wReasm : Reasm := { eix := 5, last := 0, data := [], at_ := 0 }
def wSession : SealSession := { number := 1, permitted := 0, operator := [], opened := 0, openedElapsed := 0, maxS := 0, digestBefore := [] }
def wClosed : Signing := { header := zeros 64, cells := [] }
def wTxn : Txn := { number := 1, parts := [], record := some (zeros 48), refused := true }
def wDue : State := wGate.onSealed fun x => { x with started := true, timeState := .valid, elapsed := 120000000000, markActivation := some 0, pendingDoc := some { wDocT with activation := 60 } }
def wStarted : State := wGate.onSealed fun x => { x with started := true }
def wMinute : State := wGate.onSealed fun x => { x with started := true, timeState := .valid, elapsed := 120000000000 }
/-- A frame from an unknown source, and one that carries a general-glo-ciphering APDU from EIX 5. -/
def wRxPkt : Packet := { producer := 0, seq := 0, cells := 2, payload := withEdge (zeros 40) }
def wRxQueue : State := wRun.onQueue 0 fun x => { x with pkts := [wRxPkt] }
def wReadPkt : Packet := { producer := 0, seq := 0, cells := 2, payload := withEdge (rxPacket 1 0 0 (le 2 7) {} 4059 (be 2 1 ++ be 2 1 ++ be 2 1 ++ be 2 1 ++ le 1 0xDB)) }
def wRxKnown : State := (wPlc.onTbl fun t => { t with direct := [(7, 5)] }).onQueue 0 fun x => { x with pkts := [wReadPkt] }
def wOrderWith (o : Order) (ot : Nat) : State := (wRun.onCp fun x => { x with orders := [(5, o)] }).onPower fun p => { p with ot := ot }
def wOrderWait : State := wOrderWith { number := 1, kind := 1, awaiting := true } 0
def wOrderGet : State := wOrderWith { number := 1, kind := 1, getSent := true } 0
def wOrderLate : State := wOrderWith { number := 1, kind := 1, awaiting := true, attempts := 4 } 10
def wCopy : State := wRun.onQueue 58 fun x => { x with pkts := [{ producer := 13, seq := 0, cells := 1, payload := withEdge (zeros 16) }] }
def wPlcRx : PlcRx := { pan := wPlc.plcN 0 2, kind := 1, src := le 2 7, hop := 5 }
def wPlcTx : PlcTx := { bytes := [], eix := 5, dest := .hop 7 }
def wDisc : PlcDisc := { port := 0 }
def wJoin : State := (wPlc.onSec fun x => { x with psks := [(0, zeros 16)] }).onTbl fun t =>
  let h := dirHash t.dirSeed0 t.dirSeed1 (zeros 8)
  { t with index := [(h.1, 5, h.2.2)] }
def wTimeDue : State := ((wPlc.onHost fun h => { h with deferred := [{ kind := workTime, key := 5, headend := false, opcode := 0x0C09, tag := 7 }] }).onTime
  fun t => { t with level := 7 })
def wRfRun : State := wRfEp.onRadio 0 fun x => { x with s0 := some 0, asn := 41 }
def wRfDue : State := ((wRfRun.onHost fun h => { h with deferred := [{ kind := workRfTime, key := 5, headend := false, opcode := 0x0D08, tag := 7 }] }).onTime
  fun t => { t with level := 7 })
def wPtp (r : PtpRole) : State := (wSet wRun 0x6010 0 1).onPtp 0 fun p => { p with role := r }
def wMaster : State := (wSet (wPtp .master) 0x6010 4 1).onTime fun t => { t with level := 6 }
def wNote : LearnNotice := { kind := 0, frames := 1, number := 1, eix := noEix, key := [], first := 0, sightings := [] }
def wNotice : State := wRun.onTbl fun t => { t with notices := [(0, wNote)] }
def wSighted : State := (wNotice.onTbl fun t => { t with
  dir := [(5, { eui := zeros 8, short := 7, port := 0xF })], notices := [(0, { wNote with eix := 5, sightings := [{ port := 0, cost := 1, ms := 0 }] })] })
def wReb : Rebuild := { table := 0, seed0 := 1, seed1 := 2 }
def wUpload : State := wSet (wBatch.onStore fun t => { t with batches := [(1, { header := 0, trailer := 1, first := 0, cells := 0, complete := true, delivered := false })] }) 0xB000 3 1
def wTier : State := ({ wSet wRun 0xE000 0 7 with straps := { wRun.straps with tier := 2 } }.onTier fun t => { t with peers := [(1, { live := true })] }).onPower
  fun p => { p with ot := 5 }
/-- Balance node 0 exists: its feeder has a calibrated channel. -/
def wNode : State := (wSet (wSet wBal 0x2000 0 1) 0x2010 0 1).onCp fun x => { x with mirror := [(0x1204, zeros 8)] }
def wNodeLate : State := wNode.onTime fun t => { t with nt := { t.nt with sec := 86400 } }
def wSolve : SolveIn := { r := [], cols := [], lam := 0, tol := 0, passes := 0, intercept := false }
def wHead56 : Packet := { producer := 13, seq := 0, cells := 1, payload := withEdge (zeros 16) }
def wCampIn (p : CampPhase) : State := { wRun with camps := [(0, { wCampaign with phase := p })] }
def wCampRound : State := { wRun with camps := [(0, { wCampaign with phase := .round, left := [.source 0, .source 1] })] }
def wDistMem : DistMember := { mode := 0, request := some .attribute3 }
def wVerMem : DistMember := { mode := 0, state := .verify }
def wCampMember : State := { wRun with camps := [(0, { wCampaign with phase := .preparing, members := [(5, wDistMem)] })] }
def wCampVerify : State := { wRun with camps := [(0, { wCampaign with phase := .preparing, members := [(5, wVerMem)] })] }
def wDueCamp : Campaign := { wCampaign with phase := .unicast, actNt := 1 }
def wCampDue : State := { wRun with camps := [(0, wDueCamp)], time := { wRun.time with level := 2, nt := { wRun.time.nt with sec := 1 } } }
def wProving : State := wRun.onCfg fun c => { c with genState := .proving, remaining := 0, paused := false, adopting := [], prior := some { values := cfgSet [] 0x0020 1 0 0 } }
/-- Endpoint 5 was sighted through the neighbour with short address 9. -/
def wSight : State := (wPlc.onPort 0 fun y => { y with neighs := [(9, { eix := 6 })] }).onPlc fun p => { p with sightings := [(5, [(9, 0)])] }

theorem test_witness_StepRunsTheFrontCommand_1 :
    ∃ (c : Instr) (rest : List Instr) (s : State), (s.pending = c :: rest) :=
  ⟨.otTick, [], { wRun with pending := [.otTick] }, by decide +kernel⟩

theorem test_witness_StepRunsTheFrontCommand_2 :
    ∃ (s : State), (s.pending = []) :=
  ⟨wRun, by decide +kernel⟩

theorem test_witness_StepTakesOnlyTheFront :
    ∃ t : State, step { wRun with pending := [.otTick, .expiryWeek] } = .next t ∧ t.pending = [.expiryWeek] :=
  ⟨_, rfl, by decide +kernel⟩

theorem test_witness_StepKeepsMemoryCanonical :
    ∃ t : State, step { wRun with pending := [.notificationHeadWrite 1] } = .next t ∧ ({ wRun with pending := [.notificationHeadWrite 1] } : State).memoryWf :=
  ⟨_, rfl, by unfold State.memoryWf; decide +kernel⟩

theorem test_witness_OnlyRingCommandsWriteRingMemory : ∃ t : State, writesRings .otTick = false ∧ exec .otTick wRun = .next t :=
  ⟨_, rfl, rfl⟩

theorem test_witness_QueriesChangeOnlyTheMailbox : ∃ t : State, exec (.sysClocks { tag := 7, req := [] }) wRun = .next t ∧ t.host.counters.taken = 1 :=
  ⟨_, rfl, by decide +kernel⟩

theorem test_witness_RefusedCommandsChangeOnlyTheMailbox :
    wRun.takes 0x0101 { tag := 7, req := [1#8] } = true ∧ wRun.verdict 0x0101 { tag := 7, req := [1#8] } [lenIs { tag := 7, req := [1#8] } 0] = some stBadLength := by
  decide +kernel

theorem test_witness_LowestOrFirstFailingStatus :
    firstFailure [(true, 5), (false, 1), (true, 3)] = some 3 ∧ orderedFailure [(false, 1), (true, 5), (true, 3)] = some 5 := by decide

theorem test_witness_SentPacketsJoinTheTail :
    ∃ (s : State) (producer q : Nat) (payload : Bytes), (q ≠ 71) :=
  ⟨wRun, 11, 40, withEdge [1#8], by decide +kernel⟩

theorem test_witness_ConsumersTakePacketsInOrder :
    ∃ (s : State) (q : Nat), (q ≠ 71) :=
  ⟨wRun, 40, by decide +kernel⟩

theorem test_witness_EdgeCodesAndNumbersRoundTrip :
    withEdge (ascii "123456789") = ascii "123456789" ++ [0x83#8, 0x92#8, 0x06#8, 0xE3#8] ∧
    ([1#8, 0#8, 0#8, 0#8] : Bytes) ≠ le 4 (edgeCode []) ∧ toSigned 2 (fromLE (leI 2 (-3))) = -3 := by decide +kernel

theorem test_witness_CompletionSegmentsRejoin :
    ∃ (n op status tag : Nat) (final : Bool) (data : Bytes), (0 < n) :=
  ⟨1380, 0x0101, 0, 7, true, [], by decide +kernel⟩

theorem test_witness_PricingChargesEachUnitAtItsBlock :
    ∃ (thr1 thr2 : Nat) (prices : List Nat) (exPrice : Option Nat) (standing : Nat) (carryE : Int) (carryS p dI dE charged : Nat), (thr1 ≤ thr2) :=
  ⟨100, 200, [1, 2, 3], some 4, 5, 6, 7, 90, 150, 10, 900, by decide +kernel⟩

theorem test_witness_CreditNumbersAreUsedOnce :
    ∃ (l : Ledger) (v : Nat), (txnNumberOk l v = true) :=
  ⟨{}, 5, by decide +kernel⟩

theorem test_witness_SpentBucketsSuppressEvents :
    ∃ (s : State) (src : Nat) (data : Bytes), (s.openRuns = true) ∧ (0 < s.cfgN (0xA010 + eventChannel src) 2) ∧ (s.cfgN (0xA010 + eventChannel src) 2 ≤ (s.recd.buckets.getD src {}).spent) :=
  ⟨wRun.onRec (fun r => { r with buckets := [(100, { spent := 16 })] }), 100, [], by decide +kernel⟩

theorem test_witness_GrantsKeepLimitsAndFloors :
    ∃ (s : State) (q c k : Nat), (s.fogN 3 = 0) ∧ (s.fogN 0 = 0) ∧ (s.fabric.waiters.any (·.queue = q) = false) :=
  ⟨wRun, 40, 1, 1, by decide +kernel⟩

theorem test_witness_ChannelZeroGapsAndResends_1 :
    ∃ (s u : State) (p : Packet) (last : Nat) (r : Bytes), (s.recorderNext = (some p, u)) ∧ (p.producer = 13) ∧ (r = (p.payload.drop 12).take 32) ∧ (u.recd.sealedLast = some last) ∧ (last + 1 < getLE 0 8 r) :=
  ⟨(wRecPkt 13).onRec (fun x => { x with sealedLast := some 3 }), ((wRecPkt 13).onRec (fun x => { x with sealedLast := some 3 })).recorderNext.2, wRecPacket 13, 3, ((wRecPacket 13).payload.drop 12).take 32, by decide +kernel⟩

theorem test_witness_ChannelZeroGapsAndResends_2 :
    ∃ (s u : State) (p : Packet) (last : Nat), (s.recorderNext = (some p, u)) ∧ (p.producer = 13) ∧ (u.recd.sealedLast = some last) ∧ (getLE 0 8 ((p.payload.drop 12).take 32) ≤ last) :=
  ⟨(wRecPkt 13).onRec (fun x => { x with sealedLast := some 7 }), ((wRecPkt 13).onRec (fun x => { x with sealedLast := some 7 })).recorderNext.2, wRecPacket 13, 7, by decide +kernel⟩

theorem test_witness_OpenPacketsExpire_1 :
    ∃ (s : State) (producer q : Nat) (o : OpenPacket), (s.fabric.opened.find? (fun o => o.queue = q ∧ o.producer = producer) = some o) :=
  ⟨wOpen, 11, 40, wPkt, by decide +kernel⟩

theorem test_witness_OpenPacketsExpire_2 :
    ∃ (s : State) (producer q : Nat) (payload : Bytes), ((s.fabric.opened.filter (fun o => o.queue = q ∧ o.producer = producer)).length = 1) :=
  ⟨wOpen, 11, 40, withEdge [], by decide +kernel⟩

theorem test_witness_BalanceNodesExist_1 :
    ∃ (s : State) (f p : Nat), (f ≤ 3) ∧ (1 ≤ p) ∧ (p ≤ 3) :=
  ⟨wRun, 3, 3, by decide +kernel⟩

theorem test_witness_BalanceNodesExist_2 :
    ∃ (s : State) (n : Nat), (12 ≤ n) :=
  ⟨wRun, 12, by decide +kernel⟩

theorem test_witness_PhaselessElectionsFail_1 :
    ∃ (s : State) (port eix short : Nat), (s.bestPhase port eix = 0) ∧ (short ∈ s.candidates port eix) :=
  ⟨wSight, 0, 5, 9, by decide +kernel⟩

theorem test_witness_PhaselessElectionsFail_2 :
    ∃ (s : State) (eix : Nat) (d : PlcDisc), (s.plc.discs.get? eix = some d) ∧ (d.attempts = 0) ∧ (s.cfgN 0x4012 0 = 1) ∧ (s.bestPhase d.port eix = 0) ∧ (s.plc.sightings.getD eix [] = []) :=
  ⟨wSet (wPlc.onPlc fun p => { p with discs := [(5, { port := 0 })] }) 0x4012 0 1, 5, { port := 0 }, by decide +kernel⟩

theorem test_witness_GenerationNumbersAreFresh_1 :
    ∃ (s : State) (cause : Nat) (p : Generation), (s.cfg.prior = some p) :=
  ⟨wRun.onCfg (fun x => { x with prior := some {} }), 2, {}, by decide +kernel⟩

theorem test_witness_GenerationNumbersAreFresh_2 :
    ∃ (s : State) (c : HostCmd), (s.accepts 0x020B c = true) ∧ (c.req.length = 4) ∧ (s.cfg.staging = none) ∧ (getLE 0 4 c.req ≠ s.cfg.highest + 1) :=
  ⟨wRun, { tag := 7, req := le 4 9 }, by decide +kernel⟩

theorem test_witness_SystemCommandsComplete_1 :
    ∃ (s : State) (c : HostCmd), (s.accepts 0x0101 c = true) ∧ (c.req.length = 0) :=
  ⟨wRun, { tag := 7, req := [] }, by decide +kernel⟩

theorem test_witness_SystemCommandsComplete_2 :
    ∃ (s : State) (c : HostCmd), (s.accepts 0x0102 c = true) ∧ (c.req.length ≤ 4096) :=
  ⟨wRun, { tag := 7, req := [1#8, 2#8] }, by decide +kernel⟩

theorem test_witness_SystemCommandsComplete_3 :
    ∃ (s : State) (c : HostCmd), (s.accepts 0x0103 c = true) ∧ (c.req.length = 0) :=
  ⟨wRun, { tag := 7, req := [] }, by decide +kernel⟩

theorem test_witness_SystemCommandsComplete_4 :
    ∃ (s : State) (c : HostCmd), (s.accepts 0x0120 c = true) ∧ (c.req.length = 0) :=
  ⟨wRun, { tag := 7, req := [] }, by decide +kernel⟩

theorem test_witness_SystemCommandsComplete_5 :
    ∃ (s : State) (c : HostCmd), (s.accepts 0x0121 c = true) ∧ (c.req.length = 0) :=
  ⟨wRun, { tag := 7, req := [] }, by decide +kernel⟩

theorem test_witness_SystemCommandsComplete_6 :
    ∃ (s : State) (c : HostCmd), (s.accepts 0x0122 c = true) ∧ (c.req.length = 0) :=
  ⟨wRun, { tag := 7, req := [] }, by decide +kernel⟩

theorem test_witness_SystemCommandsComplete_7 :
    ∃ (s : State) (c : HostCmd), (s.accepts 0x0123 c = true) ∧ (c.req.length = 0) :=
  ⟨wRun, { tag := 7, req := [] }, by decide +kernel⟩

theorem test_witness_ConfigurationCommandsComplete_1 :
    ∃ (s : State) (c : HostCmd), (s.accepts 0x0201 c = true) ∧ (c.req.length = 0) :=
  ⟨wRun, { tag := 7, req := [] }, by decide +kernel⟩

theorem test_witness_ConfigurationCommandsComplete_2 :
    ∃ (s : State) (c : HostCmd), (s.accepts 0x0202 c = true) ∧ (c.req.length = 4) ∧ (zeroAt 2 2 c.req = true) ∧ ((describe (getLE 0 2 c.req)).isSome = true) :=
  ⟨wRun, { tag := 7, req := [0#8, 0xE0#8, 0#8, 0#8] }, by decide +kernel⟩

theorem test_witness_ConfigurationCommandsComplete_3 :
    ∃ (s : State) (c : HostCmd), (s.accepts 0x0203 c = true) ∧ (c.req.length = 4) ∧ (getLE 0 1 c.req ≤ 3) ∧ (zeroAt 1 1 c.req = true) ∧ ((s.readObject (getLE 0 1 c.req) (getLE 2 2 c.req)).isSome = true) :=
  ⟨wRun, { tag := 7, req := [0#8, 0#8, 0#8, 0xE0#8] }, by decide +kernel⟩

theorem test_witness_ConfigurationCommandsComplete_4 :
    ∃ (s : State) (c : HostCmd), (s.accepts 0x0204 c = true) ∧ (c.req.length = 4) ∧ (getLE 0 4 c.req = s.cfg.force.number) ∧ (s.cfg.staging = none) :=
  ⟨wRun, { tag := 7, req := le 4 wRun.cfg.force.number }, by decide +kernel⟩

theorem test_witness_ConfigurationCommandsComplete_5 :
    ∃ (s : State) (c : HostCmd) (vs : Tab Int), (s.accepts 0x0205 c = true) ∧ (s.stageResult c.req = .inr vs) :=
  ⟨wStaging, { tag := 7, req := le 4 1 ++ cfgRec1 }, [(cfgKey 0xE000 0 0, 1)], by decide +kernel⟩

theorem test_witness_ConfigurationCommandsComplete_6 :
    ∃ (s : State) (c : HostCmd), (s.accepts 0x0206 c = true) ∧ (c.req.length = 0) ∧ (((s.taken 0x0206 c).cfg.staging.map (s.taken 0x0206 c).stagingFailure) = some none) :=
  ⟨wStaging, { tag := 7, req := [] }, by decide +kernel⟩

theorem test_witness_ConfigurationCommandsComplete_7 :
    ∃ (s : State) (c : HostCmd) (g : Staging), (s.accepts 0x0207 c = true) ∧ (c.req.length = 4) ∧ (s.cfg.staging = some g) ∧ (g.base = s.cfg.force.number) ∧ (getLE 0 4 c.req = s.nextGen) ∧ (s.cfg.genState = .proven) ∧ ((s.taken 0x0207 c).validate (overImage (s.baseImage g) g.values) g.values = none) :=
  ⟨wStaging, { tag := 7, req := le 4 wStaging.nextGen }, { base := wRun.cfg.force.number, values := [] }, by decide +kernel⟩

theorem test_witness_ConfigurationCommandsComplete_8 :
    ∃ (s : State) (c : HostCmd), (s.accepts 0x0208 c = true) ∧ (c.req.length = 0) ∧ (s.cfg.staging.isSome = true) :=
  ⟨wStaging, { tag := 7, req := [] }, by decide +kernel⟩

theorem test_witness_ConfigurationCommandsComplete_9 :
    ∃ (s : State) (c : HostCmd) (p : Generation), (s.accepts 0x0209 c = true) ∧ (c.req.length = 0) ∧ (s.cfg.prior = some p) :=
  ⟨wRun.onCfg (fun x => { x with prior := some {} }), { tag := 7 }, {}, by decide +kernel⟩

theorem test_witness_ConfigurationCommandsComplete_10 :
    ∃ (s : State) (c : HostCmd), (s.accepts 0x020A c = true) ∧ (c.req.length = 0) ∧ (s.cfg.genState = .proving) ∧ (s.cfg.adopting = []) :=
  ⟨wRun.onCfg (fun x => { x with genState := .proving }), { tag := 7, req := [] }, by decide +kernel⟩

theorem test_witness_ConfigurationCommandsComplete_11 :
    ∃ (s : State) (c : HostCmd), (s.accepts 0x020B c = true) ∧ (c.req.length = 4) ∧ (s.cfg.staging = none) ∧ (getLE 0 4 c.req = s.nextGen) ∧ (s.cfg.genState = .proven) ∧ ((s.taken 0x020B c).validate [] [] = none) :=
  ⟨wRun, { tag := 7, req := le 4 wRun.nextGen }, by decide +kernel⟩

theorem test_witness_TableCommandsComplete_1 :
    ∃ (s : State) (c : HostCmd), (s.accepts 0x0301 c = true) ∧ (c.req.length = 0) :=
  ⟨wRun, { tag := 7, req := [] }, by decide +kernel⟩

theorem test_witness_TableCommandsComplete_2 :
    ∃ (s : State) (c : HostCmd) (r : TblRegs), (s.accepts 0x0302 c = true) ∧ (c.req.length = 44) ∧ (r = { s.tbl.cpRegs with
      cmd := getLE 0 4 c.req % 512, key := getLE 4 4 c.req, cursor := getLE 8 4 c.req % 2 ^ 20, data := padTo 32 (c.req.drop 12), count := 0 }) ∧ (tblReserved (getLE 0 4 c.req) (getLE 4 4 c.req) (getLE 8 4 c.req) = false) :=
  ⟨wRun, { tag := 7, req := le 4 4 ++ zeros 40 }, { cmd := 4, data := zeros 32 }, by decide +kernel⟩

theorem test_witness_TableCommandsComplete_3 :
    ∃ (s : State) (c : HostCmd), (s.accepts 0x0303 c = true) ∧ (c.req.length = 12) ∧ (s.tbl.rebuild = none) ∧ (getLE 0 1 c.req ≤ 1) ∧ (zeroAt 1 3 c.req = true) ∧ (getLE 0 1 c.req = 1 → getLE 8 4 c.req = 0) :=
  ⟨wRun, { tag := 7, req := zeros 12 }, by decide +kernel⟩

theorem test_witness_TableCommandsComplete_4 :
    ∃ (s : State) (c : HostCmd), (s.accepts 0x0304 c = true) ∧ (c.req.length = 8) ∧ (getLE 0 4 c.req < 4096) ∧ (1 ≤ getLE 4 4 c.req) ∧ (getLE 4 4 c.req ≤ 64) :=
  ⟨wRun, { tag := 7, req := le 4 0 ++ le 4 1 }, by decide +kernel⟩

theorem test_witness_TableCommandsComplete_5 :
    ∃ (s : State) (c : HostCmd), (s.accepts 0x0305 c = true) ∧ (c.req.length = 12 ∨ c.req.length = 12 + 4 * getLE 8 4 c.req) ∧ (zeroAt 1 3 c.req = true) ∧ (1 ≤ getLE 8 4 c.req) ∧ (getLE 8 4 c.req ≤ 256) ∧ (getLE 4 4 c.req + getLE 8 4 c.req ≤ proofGroups (getLE 0 1 c.req)) :=
  ⟨wRun, { tag := 7, req := zeros 8 ++ le 4 1 }, by decide +kernel⟩

theorem test_witness_LedgerAndTariffCommandsComplete_1 :
    ∃ (s : State) (c : HostCmd) (r : Bytes), (s.accepts 0x0401 c = true) ∧ (c.req.length = 4) ∧ (getLE 0 4 c.req < 2 ^ 18) ∧ (s.cp.current.get? (getLE 0 4 c.req) = some r) :=
  ⟨wRun.onCp (fun x => { x with current := [(5, le 4 5)] }), { tag := 7, req := le 4 5 }, le 4 5, by decide +kernel⟩

theorem test_witness_LedgerAndTariffCommandsComplete_2 :
    ∃ (s : State) (c : HostCmd) (r : StoreRec), (s.accepts 0x0402 c = true) ∧ (c.req.length = 8) ∧ (getLE 0 4 c.req < 2 ^ 18) ∧ ((s.meetsOffline 6 fun r => r.kind = 0x82 && getLE 0 4 r.data = getLE 0 4 c.req && getLE 4 1 r.data = 1 && getLE 56 4 r.data = getLE 4 4 c.req) = false) ∧ ((((s.images (getLE 0 4 c.req) 1).filter (fun r => getLE 56 4 r.data = getLE 4 4 c.req))).getLast? = some r) :=
  ⟨wClose, { tag := 7, req := le 4 5 ++ le 4 2 }, wCloseRec, by decide +kernel⟩

theorem test_witness_LedgerAndTariffCommandsComplete_3 :
    ∃ (s : State) (c : HostCmd), (s.accepts 0x0403 c = true) ∧ (c.req.length = 16) ∧ (getLE 0 4 c.req < 2 ^ 18) ∧ (1 ≤ getLE 12 4 c.req) ∧ (getLE 12 4 c.req ≤ 64) ∧ ((s.meetsOffline 6 fun r => r.kind = 0x82 && getLE 0 4 r.data = getLE 0 4 c.req && getLE 4 1 r.data = 2 &&
      decide (getLE 4 8 c.req + s.power.ot ≤ s.time.nt.sec + r.ot)) = false) :=
  ⟨wRun, { tag := 7, req := zeros 12 ++ le 4 1 }, by decide +kernel⟩

theorem test_witness_LedgerAndTariffCommandsComplete_4 :
    ∃ (s : State) (c : HostCmd), (s.accepts 0x0404 c = true) ∧ (c.req.length = 12) ∧ (getLE 1 1 c.req ≤ 2) ∧ (zeroAt 3 1 c.req = true) ∧ (getLE 4 4 c.req < 2 ^ 18) ∧ (1 ≤ getLE 8 4 c.req) ∧ (getLE 8 4 c.req ≤ 1024) :=
  ⟨wRun, { tag := 7, req := zeros 8 ++ le 4 1 }, by decide +kernel⟩

theorem test_witness_LedgerAndTariffCommandsComplete_5 :
    ∃ (s : State) (c : HostCmd), (s.accepts 0x0405 c = true) ∧ (c.req.length = 0) :=
  ⟨wRun, { tag := 7, req := [] }, by decide +kernel⟩

theorem test_witness_LedgerAndTariffCommandsComplete_6 :
    ∃ (s : State) (c : HostCmd), (s.accepts 0x0406 c = true) ∧ (c.req.length = 4) ∧ (getLE 0 4 c.req < 2 ^ 18) ∧ (s.orderRetryable (getLE 0 4 c.req) = true) :=
  ⟨wOrder, { tag := 7, req := le 4 5 }, by decide +kernel⟩

theorem test_witness_LedgerAndTariffCommandsComplete_7 :
    ∃ (s : State) (c : HostCmd), (s.accepts 0x0501 c = true) ∧ (c.req.length = 0) :=
  ⟨wRun, { tag := 7, req := [] }, by decide +kernel⟩

theorem test_witness_LedgerAndTariffCommandsComplete_8 :
    ∃ (s : State) (c : HostCmd) (b : Bytes), (s.accepts 0x0502 c = true) ∧ (c.req.length = 4) ∧ (getLE 0 1 c.req ≤ 2) ∧ (zeroAt 1 3 c.req = true) ∧ (s.heldDoc (getLE 0 1 c.req) = some b) :=
  ⟨wTariff, { tag := 7, req := zeros 4 }, wDoc.take 56, by decide +kernel⟩

theorem test_witness_LedgerAndTariffCommandsComplete_9 :
    ∃ (s : State) (c : HostCmd) (d : TDoc) (w : Bool), (s.accepts 0x0503 c = true) ∧ (c.req.length = 12) ∧ (1 ≤ getLE 8 4 c.req) ∧ (getLE 8 4 c.req ≤ getLE 0 8 c.req) ∧ (s.tariffView.docFor ((getLE 0 8 c.req : Int) - (getLE 8 4 c.req : Nat)) = some (d, w)) :=
  ⟨wTariff, { tag := 7, req := le 8 1900 ++ le 4 900 }, wDocT, false, by decide +kernel⟩

theorem test_witness_LedgerAndTariffCommandsComplete_10 :
    ∃ (s : State) (c : HostCmd), (s.accepts 0x0504 c = true) ∧ (c.req.length = 0) :=
  ⟨wRun, { tag := 7, req := [] }, by decide +kernel⟩

theorem test_witness_StorageCommandsComplete_1 :
    ∃ (s : State) (c : HostCmd), (s.accepts 0x0601 c = true) ∧ (c.req.length = 0) :=
  ⟨wRun, { tag := 7, req := [] }, by decide +kernel⟩

theorem test_witness_StorageCommandsComplete_2 :
    ∃ (s : State) (c : HostCmd), (s.accepts 0x0602 c = true) ∧ (c.req.length = 0) :=
  ⟨wRun, { tag := 7, req := [] }, by decide +kernel⟩

theorem test_witness_StorageCommandsComplete_3 :
    ∃ (s : State) (c : HostCmd), (s.accepts 0x0603 c = true) ∧ (c.req.length = 16) ∧ (streamExists (getLE 0 1 c.req) = true) ∧ (getLE 0 1 c.req = 1 ∨ 6 ≤ getLE 0 1 c.req) ∧ (1 ≤ getLE 12 4 c.req) ∧ (getLE 12 4 c.req ≤ 1024) ∧ (zeroAt 1 3 c.req = true) ∧ (((((s.validRecs (getLE 0 1 c.req)).filter (fun r => decide (getLE 4 8 c.req ≤ r.seq))).take (getLE 12 4 c.req)).any fun r => !s.readable r) = false) :=
  ⟨wRun, { tag := 7, req := le 4 1 ++ zeros 8 ++ le 4 1 }, by decide +kernel⟩

theorem test_witness_StorageCommandsComplete_4 :
    ∃ (s : State) (c : HostCmd), (s.accepts 0x0604 c = true) ∧ (c.req.length = 4) ∧ (getLE 0 2 c.req ≤ 959) ∧ (zeroAt 2 2 c.req = true) ∧ ((s.sb (getLE 0 2 c.req)).phase = .closed ∨ (s.sb (getLE 0 2 c.req)).phase = .verified ∨ (s.sb (getLE 0 2 c.req)).phase = .full) :=
  ⟨wRun.onSb 3 (fun b => { b with phase := .closed }), { tag := 7, req := le 4 3 }, by decide +kernel⟩

theorem test_witness_StorageCommandsComplete_5 :
    ∃ (s : State) (c : HostCmd), (s.accepts 0x0605 c = true) ∧ (c.req.length = 4) ∧ (streamExists (getLE 0 1 c.req) = true) ∧ (zeroAt 1 3 c.req = true) :=
  ⟨wRun, { tag := 7, req := le 4 1 }, by decide +kernel⟩

theorem test_witness_StorageCommandsComplete_6 :
    ∃ (s : State) (c : HostCmd), (s.accepts 0x0606 c = true) ∧ (c.req.length = 12) ∧ (1 ≤ getLE 8 4 c.req) ∧ (getLE 8 4 c.req ≤ 256) :=
  ⟨wRun, { tag := 7, req := zeros 8 ++ le 4 1 }, by decide +kernel⟩

theorem test_witness_StorageCommandsComplete_7 :
    ∃ (s : State) (c : HostCmd) (b : Bytes), (s.accepts 0x0607 c = true) ∧ (c.req.length = 16) ∧ (s.batchBytes (getLE 0 8 c.req) = some b) ∧ ((s.taken 0x0607 c).batchBytes (getLE 0 8 c.req) = some b) ∧ (getLE 8 4 c.req < b.length) ∧ (1 ≤ getLE 12 4 c.req) ∧ (getLE 12 4 c.req ≤ 262144) ∧ (s.batchOffline (getLE 0 8 c.req) = false) :=
  ⟨wBatch, { tag := 7, req := le 8 1 ++ le 4 0 ++ le 4 16 }, (wBatch.batchBytes 1).getD [], by decide +kernel⟩

theorem test_witness_StorageCommandsComplete_8 :
    ∃ (s : State) (c : HostCmd), (s.accepts 0x0608 c = true) ∧ (c.req.length = 8) :=
  ⟨wRun, { tag := 7, req := le 8 1 }, by decide +kernel⟩

theorem test_witness_StorageCommandsComplete_9 :
    ∃ (s : State) (c : HostCmd) (b : BatchEntry), (s.accepts 0x0609 c = true) ∧ (c.req.length = 8) ∧ (s.store.batches.get? (getLE 0 8 c.req) = some b) ∧ (b.delivered = true) :=
  ⟨wBatch, { tag := 7, req := le 8 1 }, { header := 0, trailer := 1, first := 0, cells := 0, complete := true, delivered := true }, by decide +kernel⟩

theorem test_witness_VolumeCommandsComplete_1 :
    ∃ (s : State) (c : HostCmd), (s.accepts 0x0610 c = true) ∧ (c.req.length = 12) ∧ (getLE 0 1 c.req ≤ 15) ∧ (zeroAt 1 3 c.req = true) ∧ (s.store.vols.has (getLE 0 1 c.req) = false) ∧ ((s.store.vols.vals.map (·.sizeMib)).sum + getLE 4 4 c.req ≤ s.cfgN 0x9000 14) :=
  ⟨wRun, { tag := 7, req := zeros 4 ++ le 4 1 ++ le 4 30 }, by decide +kernel⟩

theorem test_witness_VolumeCommandsComplete_2 :
    ∃ (s : State) (c : HostCmd), (s.accepts 0x0611 c = true) ∧ (c.req.length = 4) ∧ (getLE 0 1 c.req ≤ 15) ∧ (zeroAt 1 3 c.req = true) ∧ (s.store.vols.has (getLE 0 1 c.req) = true) :=
  ⟨wVol, { tag := 7, req := zeros 4 }, by decide +kernel⟩

theorem test_witness_VolumeCommandsComplete_3 :
    ∃ (s : State) (c : HostCmd), (s.accepts 0x0612 c = true) ∧ ((c.req.drop 8).length % 4096 = 0) ∧ (1 ≤ (c.req.drop 8).length / 4096) ∧ ((c.req.drop 8).length / 4096 ≤ 64) ∧ (getLE 0 1 c.req ≤ 15) ∧ (zeroAt 1 3 c.req = true) ∧ (s.store.vols.has (getLE 0 1 c.req) = true) ∧ (getLE 4 4 c.req + (c.req.drop 8).length / 4096 ≤ s.volBlocks (getLE 0 1 c.req)) ∧ (s.store.state = .normal) ∧ ((pushVolume (s.taken 0x0612 c) (getLE 0 1 c.req) (getLE 4 4 c.req) (c.req.drop 8)).2 = ((volPackets 6 (getLE 0 1 c.req) (getLE 4 4 c.req) (c.req.drop 8)).length, true)) :=
  ⟨wVol, { tag := 7, req := zeros 4104 }, by decide +kernel⟩

theorem test_witness_VolumeCommandsComplete_4 :
    ∃ (s : State) (c : HostCmd), (s.accepts 0x0613 c = true) ∧ (c.req.length = 12) ∧ (getLE 0 1 c.req ≤ 15) ∧ (zeroAt 1 3 c.req = true) ∧ (s.store.vols.has (getLE 0 1 c.req) = true) ∧ (1 ≤ getLE 8 4 c.req) ∧ (getLE 8 4 c.req ≤ 64) ∧ (getLE 4 4 c.req + getLE 8 4 c.req ≤ s.volBlocks (getLE 0 1 c.req)) ∧ ((List.range (getLE 8 4 c.req)).any (fun k => (s.taken 0x0613 c).volOffline (getLE 0 1 c.req) (getLE 4 4 c.req + k)) = false) :=
  ⟨wVol, { tag := 7, req := zeros 8 ++ le 4 1 }, by decide +kernel⟩

theorem test_witness_VolumeCommandsComplete_5 :
    ∃ (s : State) (c : HostCmd), (s.accepts 0x0614 c = true) ∧ (c.req.length = 12) ∧ (getLE 0 1 c.req ≤ 15) ∧ (zeroAt 1 3 c.req = true) ∧ (s.store.vols.has (getLE 0 1 c.req) = true) ∧ (getLE 4 4 c.req + getLE 8 4 c.req ≤ s.volBlocks (getLE 0 1 c.req)) :=
  ⟨wVol, { tag := 7, req := zeros 8 ++ le 4 1 }, by decide +kernel⟩

theorem test_witness_RecorderCommandsComplete_1 :
    ∃ (s : State) (c : HostCmd), (s.accepts 0x0701 c = true) ∧ (c.req.length = 0) :=
  ⟨wRun, { tag := 7, req := [] }, by decide +kernel⟩

theorem test_witness_RecorderCommandsComplete_2 :
    ∃ (s : State) (c : HostCmd), (s.accepts 0x0702 c = true) ∧ (c.req.length = 16) ∧ (getLE 0 1 c.req ≤ 15) ∧ (zeroAt 1 3 c.req = true) ∧ (1 ≤ getLE 12 4 c.req) ∧ (getLE 12 4 c.req ≤ 256) ∧ ((((s.channelRecs (getLE 0 1 c.req)).filter (fun r => decide (getLE 4 8 c.req ≤ recSeqOf r.data))).take (getLE 12 4 c.req)).any (fun r => !s.readable r) = false) :=
  ⟨wRun, { tag := 7, req := zeros 12 ++ le 4 1 }, by decide +kernel⟩

theorem test_witness_RecorderCommandsComplete_3 :
    ∃ (s : State) (c : HostCmd), (s.accepts 0x0703 c = true) ∧ (c.req.length = 4) ∧ (recPrivileged (getLE 0 1 c.req) = true) ∧ (zeroAt 1 3 c.req = true) ∧ (s.recd.exposures.length < 4) ∧ ((s.taken 0x0703 c).recd.exposures = s.recd.exposures) :=
  ⟨wRun, { tag := 7, req := zeros 4 }, by decide +kernel⟩

theorem test_witness_RecorderCommandsComplete_4 :
    ∃ (s : State) (c : HostCmd) (e : Exposure), (s.accepts 0x0704 c = true) ∧ (c.req.length = 16) ∧ (1 ≤ getLE 12 4 c.req) ∧ (getLE 12 4 c.req ≤ 256) ∧ (s.recd.exposures.find? (·.handle = getLE 0 4 c.req) = some e) ∧ ((s.taken 0x0704 c).recd.exposures.find? (·.handle = getLE 0 4 c.req) = some e) ∧ (e.shows (getLE 4 8 c.req) = true) ∧ ((((s.channelRecs e.channel).filter (fun r => decide (getLE 4 8 c.req ≤ recSeqOf r.data) && e.shows (recSeqOf r.data))).take
      (getLE 12 4 c.req)).any (fun r => !s.readable r) = false) :=
  ⟨wExp, { tag := 7, req := zeros 12 ++ le 4 1 }, { handle := 0, channel := 0, low := 0, stop := 5, lastOt := 0 }, by decide +kernel⟩

theorem test_witness_RecorderCommandsComplete_5 :
    ∃ (s : State) (c : HostCmd) (e : Exposure), (s.accepts 0x0705 c = true) ∧ (c.req.length = 4) ∧ (s.recd.exposures.find? (·.handle = getLE 0 4 c.req) = some e) ∧ ((s.taken 0x0705 c).recd.exposures.find? (·.handle = getLE 0 4 c.req) = some e) :=
  ⟨wExp, { tag := 7, req := zeros 4 }, { handle := 0, channel := 0, low := 0, stop := 5, lastOt := 0 }, by decide +kernel⟩

theorem test_witness_RecorderCommandsComplete_6 :
    ∃ (s : State) (c : HostCmd), (s.accepts 0x0706 c = true) ∧ (c.req.length = 0) ∧ (2 ≤ s.time.level) :=
  ⟨wRun.onTime (fun t => { t with level := 2 }), { tag := 7 }, by decide +kernel⟩

theorem test_witness_SecurityCommandsComplete_1 :
    ∃ (s : State) (c : HostCmd), (s.accepts 0x0801 c = true) ∧ (c.req.length = 0) :=
  ⟨wRun, { tag := 7, req := [] }, by decide +kernel⟩

theorem test_witness_SecurityCommandsComplete_2 :
    ∃ (s : State) (c : HostCmd), (s.accepts 0x0802 c = true) ∧ (3368 ≤ c.req.length) :=
  ⟨wRun, { tag := 7, req := zeros 3368 }, by decide +kernel⟩

theorem test_witness_SecurityCommandsComplete_3 :
    ∃ (s : State) (c : HostCmd), (s.accepts 0x0803 c = true) ∧ (c.req.length = 4) ∧ (getLE 0 1 c.req = 2) ∧ (zeroAt 1 3 c.req = true) ∧ (s.sec.lifecycle = 1) ∧ ((s.sec.slot 1).content.isSome = true) ∧ ((s.sec.slot 2).content.isSome = true) :=
  ⟨wRun.onSec (fun x => ({ x with lifecycle := 1 }.writeSlot 1 (zeros 4)).writeSlot 2 (zeros 32)), { tag := 7, req := le 4 2 }, by decide +kernel⟩

theorem test_witness_SecurityCommandsComplete_4 :
    ∃ (s : State) (c : HostCmd), (s.accepts 0x0804 c = true) ∧ (s.keyWriteFailure c.req = none) :=
  ⟨wRun.onSec (fun x => { x with lifecycle := 1 }), { tag := 7, req := le 4 2 ++ le 4 (slotKeyLength 2) ++ zeros (slotKeyLength 2) }, by decide +kernel⟩

theorem test_witness_SecurityCommandsComplete_5 :
    ∃ (s : State) (c : HostCmd), (s.accepts 0x0805 c = true) ∧ (c.req.length = 32) ∧ (s.sec.debugSeen = false) :=
  ⟨wRun, { tag := 7, req := zeros 32 }, by decide +kernel⟩

theorem test_witness_SecurityCommandsComplete_6 :
    ∃ (s : State) (c : HostCmd), (s.accepts 0x0806 c = true) ∧ (c.req.length = 4) ∧ (1 ≤ getLE 0 4 c.req) ∧ (getLE 0 4 c.req ≤ 4096) ∧ (s.sec.trngStopped = false) :=
  ⟨wRun, { tag := 7, req := le 4 16 }, by decide +kernel⟩

theorem test_witness_SecurityCommandsComplete_7 :
    ∃ (s : State) (c : HostCmd), (s.accepts 0x0807 c = true) ∧ (c.req.length = 4) ∧ (1 ≤ getLE 0 1 c.req) ∧ (getLE 0 1 c.req ≤ 2) ∧ (zeroAt 1 3 c.req = true) :=
  ⟨wRun, { tag := 7, req := le 4 1 }, by decide +kernel⟩

theorem test_witness_SecurityCommandsComplete_8 :
    ∃ (s : State) (c : HostCmd), (s.accepts 0x0809 c = true) ∧ (c.req.length = 4) ∧ (1 ≤ getLE 0 1 c.req) ∧ (getLE 0 1 c.req ≤ 3) ∧ (zeroAt 1 3 c.req = true) ∧ (s.sec.debugSeen = false) :=
  ⟨wRun, { tag := 7, req := le 4 1 }, by decide +kernel⟩

theorem test_witness_FirmwareCommandsComplete_1 :
    ∃ (s : State) (c : HostCmd), (s.accepts 0x0810 c = true) ∧ (c.req.length = 4) ∧ (5393 ≤ getLE 0 4 c.req) ∧ (getLE 0 4 c.req ≤ 16777216) ∧ (s.sec.trial = none) ∧ (s.sec.lifecycle ≠ 4) :=
  ⟨wRun, { tag := 7, req := le 4 6000 }, by decide +kernel⟩

theorem test_witness_FirmwareCommandsComplete_2 :
    ∃ (s : State) (c : HostCmd), (s.accepts 0x0811 c = true) ∧ (c.req.length = 8 + getLE 4 4 c.req) ∧ (1 ≤ getLE 4 4 c.req) ∧ (getLE 4 4 c.req ≤ 65536) ∧ (s.sec.trial = none) ∧ (s.sec.lifecycle ≠ 4) ∧ ((s.sec.fw.getD s.idleSlot {}).valid = false) ∧ (getLE 0 4 c.req = (s.sec.fw.getD s.idleSlot {}).data.length) ∧ ((s.sec.fw.getD s.idleSlot {}).data.length + getLE 4 4 c.req ≤ (s.sec.fw.getD s.idleSlot {}).length) :=
  ⟨wRun.onFw wRun.idleSlot (fun _ => { length := 6000 }), { tag := 7, req := le 4 0 ++ le 4 4 ++ zeros 4 }, by decide +kernel⟩

theorem test_witness_FirmwareCommandsComplete_3 :
    ∃ (s : State) (c : HostCmd), (s.accepts 0x0812 c = true) ∧ (c.req.length = 0) ∧ (s.sec.lifecycle ≠ 4) :=
  ⟨wRun, { tag := 7, req := [] }, by decide +kernel⟩

theorem test_witness_FirmwareCommandsComplete_4 :
    ∃ (s : State) (c : HostCmd), (s.accepts 0x0813 c = true) ∧ (c.req.length = 0) ∧ (s.sec.trial = none) ∧ (s.sec.lifecycle ≠ 4) ∧ ((s.sec.fw.getD s.idleSlot {}).valid = true) :=
  ⟨wRun.onFw wRun.idleSlot (fun f => { f with valid := true }), { tag := 7, req := [] }, by decide +kernel⟩

theorem test_witness_FirmwareCommandsComplete_5 :
    ∃ (s : State) (c : HostCmd), (s.accepts 0x0814 c = true) ∧ (c.req.length = 0) ∧ (s.sec.lifecycle ≠ 4) ∧ (s.sec.trial = some s.sec.running) :=
  ⟨wRun.onSec (fun x => { x with trial := some x.running }), { tag := 7, req := [] }, by decide +kernel⟩

theorem test_witness_FirmwareCommandsComplete_6 :
    ∃ (s : State) (c : HostCmd), (s.accepts 0x0815 c = true) ∧ (c.req.length = 0) :=
  ⟨wRun, { tag := 7, req := [] }, by decide +kernel⟩

theorem test_witness_DistributionCommandsComplete_1 :
    ∃ (s : State) (c : HostCmd), (s.accepts 0x0901 c = true) ∧ (c.req.length = 4) ∧ (getLE 0 1 c.req ≤ 7) ∧ (zeroAt 1 3 c.req = true) ∧ (s.camps.has (getLE 0 1 c.req) = true) :=
  ⟨wCamp, { tag := 7, req := le 4 0 }, by decide +kernel⟩

theorem test_witness_DistributionCommandsComplete_2 :
    ∃ (s : State) (c : HostCmd) (k : Nat), (s.accepts 0x0902 c = true) ∧ (c.req.length = 96 + getLE 92 1 c.req) ∧ (s.badCreate c.req = false) ∧ (s.freeCampaign = some k) ∧ ((getLE 0 1 c.req = 1 → (s.camps.filter (fun x => x.2.kind = 1 && x.2.phase ≠ .ended)).length < 4)) :=
  ⟨wVol, { tag := 7, req := le 4 1 ++ le 4 0 ++ le 4 4096 ++ zeros 64 ++ zeros 6 ++ zeros 2 ++ zeros 8 ++ le 4 1 ++ [65] }, 0, by decide +kernel⟩

theorem test_witness_DistributionCommandsComplete_3 :
    ∃ (s : State) (c : HostCmd), (s.accepts 0x0903 c = true) ∧ (c.req.length = 8 + 8 * getLE 4 4 c.req) ∧ (getLE 0 1 c.req ≤ 7) ∧ (zeroAt 1 3 c.req = true) ∧ (s.camps.has (getLE 0 1 c.req) = true) ∧ (1 ≤ getLE 4 4 c.req) ∧ (getLE 4 4 c.req ≤ 512) ∧ (((distEntries c.req).map (·.1)).eraseDups.length = (distEntries c.req).length) ∧ ((distEntries c.req).all (fun e => decide (e.1 < 2 ^ 18) && (decide (e.2.1 ≤ 2) || e.2.1 == 0xFF) && e.2.2) = true) ∧ ((distEntries c.req).any (fun e => e.2.1 ≠ 0 && e.2.1 ≠ 0xFF && s.isSleepy e.1) = false) ∧ ((s.camps.get? (getLE 0 1 c.req)).any (fun x => x.phase = .ended || (distEntries c.req).any (fun e => e.2.1 = 0xFF && !x.members.has e.1)) = false) ∧ ((s.camps.get? (getLE 0 1 c.req)).any (fun x => (distEntries c.req).any (fun e => e.2.1 ≠ 0xFF && (s.inOther (getLE 0 1 c.req) x.kind e.1 || (x.phase ≠ .defined && (x.members.get? e.1).any (fun m => m.state ≠ .cancelled))))) = false) :=
  ⟨wCamp, { tag := 7, req := le 4 0 ++ le 4 1 ++ le 4 5 ++ le 4 0 }, by decide +kernel⟩

theorem test_witness_DistributionCommandsComplete_4 :
    ∃ (s : State) (c : HostCmd), (s.accepts 0x0904 c = true) ∧ (c.req.length = 4) ∧ (getLE 0 1 c.req ≤ 7) ∧ (zeroAt 1 3 c.req = true) ∧ ((s.camps.get? (getLE 0 1 c.req)).map (fun x => x.phase) = some CampPhase.defined) :=
  ⟨wCamp, { tag := 7, req := le 4 0 }, by decide +kernel⟩

theorem test_witness_DistributionCommandsComplete_5 :
    ∃ (s : State) (c : HostCmd), (s.accepts 0x0905 c = true) ∧ (c.req.length = 12) ∧ (1 ≤ getLE 8 4 c.req) ∧ (getLE 8 4 c.req ≤ 256) ∧ (getLE 0 1 c.req ≤ 7) ∧ (zeroAt 1 3 c.req = true) ∧ (s.camps.has (getLE 0 1 c.req) = true) :=
  ⟨wCamp, { tag := 7, req := zeros 8 ++ le 4 1 }, by decide +kernel⟩

theorem test_witness_DistributionCommandsComplete_6 :
    ∃ (s : State) (c : HostCmd), (s.accepts 0x0906 c = true) ∧ (c.req.length = 4) ∧ (getLE 0 1 c.req ≤ 7) ∧ (zeroAt 1 3 c.req = true) ∧ (s.camps.has (getLE 0 1 c.req) = true) :=
  ⟨wCamp, { tag := 7, req := le 4 0 }, by decide +kernel⟩

theorem test_witness_DistributionCommandsComplete_7 :
    ∃ (s : State) (c : HostCmd) (x : Campaign), (s.accepts 0x0907 c = true) ∧ (c.req.length = 4) ∧ (getLE 0 1 c.req ≤ 7) ∧ (zeroAt 1 3 c.req = true) ∧ (s.camps.get? (getLE 0 1 c.req) = some x) ∧ (x.actNt = 0) :=
  ⟨wCamp, { tag := 7, req := le 4 0 }, wCampaign, by decide +kernel⟩

theorem test_witness_TimeCommandsComplete_1 :
    ∃ (s : State) (c : HostCmd), (s.accepts 0x0A01 c = true) ∧ (c.req.length = 0) :=
  ⟨wRun, { tag := 7, req := [] }, by decide +kernel⟩

theorem test_witness_TimeCommandsComplete_2 :
    ∃ (s : State) (c : HostCmd), (s.accepts 0x0A02 c = true) ∧ (c.req.length = 16) ∧ (getLE 12 4 c.req ≤ 2000) ∧ (getLE 8 4 c.req ≤ 999999999) ∧ (s.strongSource = false) :=
  ⟨wRun, { tag := 7, req := le 8 1000 ++ le 4 5 ++ le 4 100 }, by decide +kernel⟩

theorem test_witness_TimeCommandsComplete_3 :
    ∃ (s : State) (c : HostCmd), (s.accepts 0x0A03 c = true) ∧ (c.req.length = 0) :=
  ⟨wRun, { tag := 7, req := [] }, by decide +kernel⟩

theorem test_witness_TimeCommandsComplete_4 :
    ∃ (s : State) (c : HostCmd), (s.accepts 0x0A04 c = true) ∧ (c.req.length = 0) :=
  ⟨wRun, { tag := 7, req := [] }, by decide +kernel⟩

theorem test_witness_TimeCommandsComplete_5 :
    ∃ (s : State) (c : HostCmd), (s.accepts 0x0A05 c = true) ∧ (c.req.length = 0) ∧ (s.offerAllowed = true) ∧ (s.offerFits = true) :=
  ⟨wOffer, { tag := 7, req := [] }, by decide +kernel⟩

theorem test_witness_BalanceCommandsComplete_1 :
    ∃ (s : State) (c : HostCmd), (s.accepts 0x0B01 c = true) ∧ (c.req.length = 0) :=
  ⟨wRun, { tag := 7, req := [] }, by decide +kernel⟩

theorem test_witness_BalanceCommandsComplete_2 :
    ∃ (s : State) (c : HostCmd), (s.accepts 0x0B02 c = true) ∧ (c.req.length = 4 + 8 * getLE 0 2 c.req) ∧ (s.badMembers c.req = false) :=
  ⟨wRun, { tag := 7, req := le 4 1 ++ le 4 5 ++ le 4 0x100 }, by decide +kernel⟩

theorem test_witness_BalanceCommandsComplete_3 :
    ∃ (s : State) (c : HostCmd) (m : Member), (s.accepts 0x0B03 c = true) ∧ (c.req.length = 4) ∧ (reqEix c < 2 ^ 18) ∧ (s.bal.members.get? (reqEix c) = some m) :=
  ⟨wMember, { tag := 7, req := le 4 5 }, wMem, by decide +kernel⟩

theorem test_witness_BalanceCommandsComplete_4 :
    ∃ (s : State) (c : HostCmd), (s.accepts 0x0B04 c = true) ∧ (c.req.length = 12) ∧ (getLE 0 1 c.req ≤ 11) ∧ (zeroAt 1 3 c.req = true) ∧ (1 ≤ getLE 8 4 c.req) ∧ (getLE 8 4 c.req ≤ 256) ∧ (s.bal.rebuilding = false) :=
  ⟨wBal, { tag := 7, req := zeros 8 ++ le 4 1 }, by decide +kernel⟩

theorem test_witness_BalanceCommandsComplete_5 :
    ∃ (s : State) (c : HostCmd), (s.accepts 0x0B05 c = true) ∧ (c.req.length = 16) ∧ (getLE 0 1 c.req ≤ 11) ∧ (zeroAt 1 3 c.req = true) ∧ (1 ≤ getLE 12 4 c.req) ∧ (getLE 12 4 c.req ≤ 256) ∧ (s.bal.rebuilding = false) :=
  ⟨wBal, { tag := 7, req := zeros 12 ++ le 4 1 }, by decide +kernel⟩

theorem test_witness_BalanceCommandsComplete_6 :
    ∃ (s : State) (c : HostCmd) (ns : List Nat), (s.accepts 0x0B06 c = true) ∧ (c.req.length = 4) ∧ (1 ≤ getLE 0 4 c.req) ∧ (getLE 0 4 c.req < 4096) ∧ (s.bal.rebuilding = false) ∧ (ns = (s.taken 0x0B06 c).solveNodes c) :=
  ⟨wBal, { tag := 7, req := le 4 1 }, (wBal.taken 0x0B06 { tag := 7, req := le 4 1 }).solveNodes { tag := 7, req := le 4 1 }, by decide +kernel⟩

theorem test_witness_BalanceCommandsComplete_7 :
    ∃ (s : State) (c : HostCmd) (m : Member) (p : Nat), (s.accepts 0x0B07 c = true) ∧ (c.req.length = 4) ∧ (reqEix c < 2 ^ 18) ∧ (s.bal.members.get? (reqEix c) = some m) ∧ (m.result = some p) ∧ (s.overfull [(reqEix c, m.feeder, 2 ^ (p - 1), m.flags)] = false) :=
  ⟨wMember, { tag := 7, req := le 4 5 }, wMem, 2, by decide +kernel⟩

theorem test_witness_PowerLineCommandsComplete_1 :
    ∃ (s : State) (c : HostCmd), (s.accepts 0x0C01 c = true) ∧ (c.req.length = 4) ∧ (getLE 0 1 c.req ≤ 3) ∧ (zeroAt 1 3 c.req = true) :=
  ⟨wRun, { tag := 7, req := le 4 1 }, by decide +kernel⟩

theorem test_witness_PowerLineCommandsComplete_2 :
    ∃ (s : State) (c : HostCmd), (s.accepts 0x0C02 c = true) ∧ (c.req.length = 12) ∧ (getLE 0 1 c.req ≤ 3) ∧ (zeroAt 1 3 c.req = true) ∧ (1 ≤ getLE 8 4 c.req) ∧ (getLE 8 4 c.req ≤ 256) :=
  ⟨wRun, { tag := 7, req := le 4 1 ++ le 4 0 ++ le 4 1 }, by decide +kernel⟩

theorem test_witness_PowerLineCommandsComplete_3 :
    ∃ (s : State) (c : HostCmd), (s.accepts 0x0C03 c = true) ∧ (c.req.length = 4) ∧ (reqEix c < 2 ^ 18) ∧ ((s.routeOf (reqEix c)).isSome = true) :=
  ⟨wRoute, { tag := 7, req := le 4 5 }, by decide +kernel⟩

theorem test_witness_PowerLineCommandsComplete_4 :
    ∃ (s : State) (c : HostCmd), (s.accepts 0x0C04 c = true) ∧ (c.req.length = 4) ∧ (reqEix c < 2 ^ 18) ∧ (s.plcUp (s.portOfEix (reqEix c)) = true) :=
  ⟨wPlc, { tag := 7, req := le 4 5 }, by decide +kernel⟩

theorem test_witness_PowerLineCommandsComplete_5 :
    ∃ (s : State) (c : HostCmd), (s.accepts 0x0C05 c = true) ∧ (c.req.length = 4) ∧ (reqEix c < 2 ^ 18) ∧ (s.tbl.dir.has (reqEix c) = true) :=
  ⟨wPlc, { tag := 7, req := le 4 5 }, by decide +kernel⟩

theorem test_witness_PowerLineCommandsComplete_6 :
    ∃ (s : State) (c : HostCmd), (s.accepts 0x0C06 c = true) ∧ (c.req.length = 52) ∧ (s.sec.lifecycle < 3) ∧ ((s.sec.slot 2).content.isSome = true) ∧ (s.sec.debugSeen = false) ∧ ((s.sec.psks.length < 16384 ∨ s.sec.psks.has (getLE 0 8 c.req) = true)) :=
  ⟨wKek, { tag := 7, req := zeros 52 }, by decide +kernel⟩

theorem test_witness_PowerLineCommandsComplete_7 :
    ∃ (s : State) (c : HostCmd) (js : List Nat), (s.accepts 0x0C07 c = true) ∧ (c.req.length = 4) ∧ (getLE 0 1 c.req ≤ 3) ∧ (zeroAt 1 3 c.req = true) ∧ ((s.port (getLE 0 1 c.req)).gmkPending = []) ∧ (s.sec.trngStopped = false) ∧ (js = ((s.taken 0x0C07 c).plc.joined.filter (fun j => j.2 = getLE 0 1 c.req)).map (·.1)) :=
  ⟨wRun, { tag := 7, req := le 4 1 }, [], by decide +kernel⟩

theorem test_witness_PowerLineCommandsComplete_8 :
    ∃ (s : State) (c : HostCmd), (s.accepts 0x0C08 c = true) ∧ (c.req.length = 4) ∧ (getLE 0 1 c.req ≤ 3) ∧ (zeroAt 1 3 c.req = true) :=
  ⟨wRun, { tag := 7, req := le 4 1 }, by decide +kernel⟩

theorem test_witness_PowerLineCommandsComplete_9 :
    ∃ (s : State) (c : HostCmd), (s.accepts 0x0C09 c = true) ∧ (c.req.length = 4) ∧ (reqEix c < 2 ^ 18) ∧ (s.plcUp (s.portOfEix (reqEix c)) = true) :=
  ⟨wPlc, { tag := 7, req := le 4 5 }, by decide +kernel⟩

theorem test_witness_RadioCommandsComplete_1 :
    ∃ (s : State) (c : HostCmd), (s.accepts 0x0D01 c = true) ∧ (c.req.length = 4) ∧ (getLE 0 1 c.req ≤ 3) ∧ (zeroAt 1 3 c.req = true) :=
  ⟨wRun, { tag := 7, req := le 4 1 }, by decide +kernel⟩

theorem test_witness_RadioCommandsComplete_2 :
    ∃ (s : State) (c : HostCmd), (s.accepts 0x0D02 c = true) ∧ (c.req.length = 12) ∧ (getLE 0 1 c.req ≤ 3) ∧ (zeroAt 1 3 c.req = true) ∧ (1 ≤ getLE 8 4 c.req) ∧ (getLE 8 4 c.req ≤ 256) :=
  ⟨wRun, { tag := 7, req := le 4 1 ++ le 4 0 ++ le 4 1 }, by decide +kernel⟩

theorem test_witness_RadioCommandsComplete_3 :
    ∃ (s : State) (c : HostCmd), (s.accepts 0x0D03 c = true) ∧ (c.req.length = 12) ∧ (getLE 0 1 c.req ≤ 3) ∧ (getLE 1 1 c.req ≤ 3) ∧ (zeroAt 2 2 c.req = true) ∧ (1 ≤ getLE 8 4 c.req) ∧ (getLE 8 4 c.req ≤ 1024) :=
  ⟨wRun, { tag := 7, req := le 4 1 ++ le 4 0 ++ le 4 1 }, by decide +kernel⟩

theorem test_witness_RadioCommandsComplete_4 :
    ∃ (s : State) (c : HostCmd), (s.accepts 0x0D04 c = true) ∧ (c.req.length = 8) ∧ (reqEix c < 2 ^ 18) ∧ (getLE 4 1 c.req = 0) ∧ (zeroAt 6 2 c.req = true) ∧ (4 ≤ s.portOfEix (reqEix c)) ∧ (s.portOfEix (reqEix c) ≤ 7) ∧ ((s.radio (s.portOfEix (reqEix c) - 4)).macq.any (fun f => f.wake.isSome && f.eix = some (reqEix c)) = false) :=
  ⟨wRfEp, { tag := 7, req := le 4 5 ++ zeros 4 }, by decide +kernel⟩

theorem test_witness_RadioCommandsComplete_5 :
    ∃ (s : State) (c : HostCmd) (n sf ep k : Nat), (s.accepts 0x0D04 c = true) ∧ (c.req.length = 8) ∧ (reqEix c < 2 ^ 18) ∧ (getLE 4 1 c.req = sf) ∧ ((sf = 2 ∨ sf = 3)) ∧ (zeroAt 6 2 c.req = true) ∧ (s.portOfEix (reqEix c) = 4 + n) ∧ (n ≤ 3) ∧ (ep = (if getLE 5 1 c.req = 0 then s.cfgN 0x5020 2 else getLE 5 1 c.req)) ∧ (s.guardFor n sf ep ≤ 2000) ∧ ((s.radio n).macq.any (fun f => f.wake.isSome && f.eix = some (reqEix c)) = false) ∧ (s.freePair n sf (reqEix c) = some k) :=
  ⟨wRfEp, { tag := 7, req := le 4 5 ++ le 1 2 ++ zeros 3 }, 0, 2, (if 0 = 0 then wRfEp.cfgN 0x5020 2 else 0), (wRfEp.freePair 0 2 5).getD 0, by decide +kernel⟩

theorem test_witness_RadioCommandsComplete_6 :
    ∃ (s : State) (c : HostCmd), (s.accepts 0x0D05 c = true) ∧ (c.req.length = 4) ∧ (rfModeValid (getLE 0 1 c.req) = true) ∧ (zeroAt 1 1 c.req = true) :=
  ⟨wRun, { tag := 7, req := le 4 1 }, by decide +kernel⟩

theorem test_witness_RadioCommandsComplete_7 :
    ∃ (s : State) (c : HostCmd) (js : List Nat), (s.accepts 0x0D06 c = true) ∧ (c.req.length = 4) ∧ (getLE 0 1 c.req ≤ 3) ∧ (zeroAt 1 3 c.req = true) ∧ ((s.radio (getLE 0 1 c.req)).keyPending = []) ∧ (s.sec.trngStopped = false) ∧ (js = ((s.taken 0x0D06 c).plc.joined.filter (fun j => j.2 = 4 + getLE 0 1 c.req)).map (·.1)) :=
  ⟨wRun, { tag := 7, req := le 4 1 }, [], by decide +kernel⟩

theorem test_witness_RadioCommandsComplete_8 :
    ∃ (s : State) (c : HostCmd), (s.accepts 0x0D07 c = true) ∧ (c.req.length = 4) ∧ (getLE 0 1 c.req ≤ 3) ∧ (zeroAt 1 3 c.req = true) :=
  ⟨wRun, { tag := 7, req := le 4 1 }, by decide +kernel⟩

theorem test_witness_RadioCommandsComplete_9 :
    ∃ (s : State) (c : HostCmd), (s.accepts 0x0D08 c = true) ∧ (c.req.length = 4) ∧ (reqEix c < 2 ^ 18) ∧ (4 ≤ s.portOfEix (reqEix c)) ∧ (s.radioUp (s.portOfEix (reqEix c) - 4) = true) :=
  ⟨wRfEp, { tag := 7, req := le 4 5 }, by decide +kernel⟩

theorem test_witness_PanelAndTierCommandsComplete_1 :
    ∃ (s : State) (c : HostCmd), (s.accepts 0x0E01 c = true) ∧ (c.req.length = 0) :=
  ⟨wRun, { tag := 7, req := [] }, by decide +kernel⟩

theorem test_witness_PanelAndTierCommandsComplete_2 :
    ∃ (s : State) (c : HostCmd) (r : Rect), (s.accepts 0x0E02 c = true) ∧ (r = rectOf c.req) ∧ (s.panelN 0 ≠ 0) ∧ (c.req.length = 8 + r.w * r.h / 2) ∧ (r.w * r.h / 2 ≤ 65536) ∧ (s.rectBad r = false) :=
  ⟨wPanel, { tag := 7, req := le 4 0 ++ le 2 2 ++ le 2 1 ++ zeros 1 }, rectOf (le 4 0 ++ le 2 2 ++ le 2 1 ++ zeros 1), by decide +kernel⟩

theorem test_witness_PanelAndTierCommandsComplete_3 :
    ∃ (s : State) (c : HostCmd) (r : Rect), (s.accepts 0x0E03 c = true) ∧ (r = rectOf c.req) ∧ (c.req.length = 12) ∧ (getLE 8 1 c.req ≤ 3) ∧ (zeroAt 9 3 c.req = true) ∧ (s.panelN 0 ≠ 0) ∧ (s.rectBad r = false) ∧ (s.panel.table.isSome = true) ∧ (s.panel.rails ≠ .failed) ∧ (s.panel.queue.length < 16) ∧ (s.panel.blinks.vals.any (fun b => b.rect.overlaps r) = false) :=
  ⟨wPanel, { tag := 7, req := le 4 0 ++ le 2 2 ++ le 2 1 ++ le 4 0 }, rectOf (le 4 0 ++ le 2 2 ++ le 2 1 ++ le 4 0), by decide +kernel⟩

theorem test_witness_PanelAndTierCommandsComplete_4 :
    ∃ (s : State) (c : HostCmd), (s.accepts 0x0E04 c = true) ∧ (13 ≤ c.req.length) ∧ (c.req.length ≤ 65548) ∧ (getLE 0 1 c.req ≤ 1) ∧ (getLE 1 1 c.req ≤ 7) ∧ (zeroAt 2 2 c.req = true) ∧ (getLE 8 4 c.req = 0) ∧ (c.req.length - 12 < getLE 4 4 c.req) :=
  ⟨wPanel, { tag := 7, req := le 4 0 ++ le 4 100 ++ le 4 0 ++ zeros 1 }, by decide +kernel⟩

theorem test_witness_PanelAndTierCommandsComplete_5 :
    ∃ (s : State) (c : HostCmd) (r : Rect), (s.accepts 0x0E05 c = true) ∧ (c.req.length = 16) ∧ (s.panelN 0 ≠ 0) ∧ (getLE 0 1 c.req ≤ 7) ∧ (zeroAt 5 3 c.req = true) ∧ (getLE 1 1 c.req = 1) ∧ (getLE 2 1 c.req ≤ 15) ∧ (getLE 3 1 c.req ≤ 15) ∧ (getLE 4 1 c.req ≠ 0) ∧ (r = rectOf (c.req.drop 8)) ∧ (s.rectBad r = false) ∧ (s.panel.active.any (fun j => j.rects.any r.overlaps) = false) ∧ (s.panel.blinks.vals.any (fun b => b.rect.overlaps r) = false) ∧ (s.panel.blinks.has (getLE 0 1 c.req) = false) :=
  ⟨wPanel, { tag := 7, req := le 1 0 ++ le 1 1 ++ le 1 0 ++ le 1 15 ++ le 1 2 ++ zeros 3 ++ le 4 0 ++ le 2 2 ++ le 2 1 }, rectOf (le 4 0 ++ le 2 2 ++ le 2 1), by decide +kernel⟩

theorem test_witness_PanelAndTierCommandsComplete_6 :
    ∃ (s : State) (c : HostCmd), (s.accepts 0x0E06 c = true) ∧ (c.req.length = 4) ∧ (s.panelN 0 ≠ 0) ∧ (getLE 0 4 c.req ≤ 3600) ∧ (s.panel.table.isSome = true) ∧ (s.panel.rails ≠ .failed) ∧ (s.panel.active = []) ∧ (s.panel.blinks = []) :=
  ⟨wPanel, { tag := 7, req := le 4 60 }, by decide +kernel⟩

theorem test_witness_PanelAndTierCommandsComplete_7 :
    ∃ (s : State) (c : HostCmd) (r : Rect), (s.accepts 0x0E07 c = true) ∧ (c.req.length = 8) ∧ (s.panelN 0 ≠ 0) ∧ (r = rectOf c.req) ∧ (s.rectBad r = false) ∧ (r.w * r.h ≤ 65536) :=
  ⟨wPanel, { tag := 7, req := le 4 0 ++ le 2 2 ++ le 2 1 }, rectOf (le 4 0 ++ le 2 2 ++ le 2 1), by decide +kernel⟩

theorem test_witness_PanelAndTierCommandsComplete_8 :
    ∃ (s : State) (c : HostCmd) (r : Rect), (s.accepts 0x0E08 c = true) ∧ (r = rectOf c.req) ∧ (c.req.length = 8) ∧ (s.panelN 0 ≠ 0) ∧ (s.rectBad r = false) ∧ (s.panel.table.isSome = true) ∧ (s.panel.rails ≠ .failed) ∧ (s.panel.queue.length < 16) ∧ (s.panel.blinks.vals.any (fun b => b.rect.overlaps r) = false) :=
  ⟨wPanel, { tag := 7, req := le 4 0 ++ le 2 2 ++ le 2 1 }, rectOf (le 4 0 ++ le 2 2 ++ le 2 1), by decide +kernel⟩

theorem test_witness_PanelAndTierCommandsComplete_9 :
    ∃ (s : State) (c : HostCmd), (s.accepts 0x0F01 c = true) ∧ (c.req.length = 0) :=
  ⟨wRun, { tag := 7, req := [] }, by decide +kernel⟩

theorem test_witness_PanelAndTierCommandsComplete_10 :
    ∃ (s : State) (c : HostCmd), (s.accepts 0x0F02 c = true) ∧ (c.req.length = 0) :=
  ⟨wRun, { tag := 7, req := [] }, by decide +kernel⟩

theorem test_witness_PanelAndTierCommandsComplete_11 :
    ∃ (s : State) (c : HostCmd), (s.accepts 0x0F03 c = true) ∧ (c.headend = true) ∧ (c.req.length = 4) ∧ (getLE 0 1 c.req ≤ 15) ∧ (zeroAt 1 3 c.req = true) ∧ (s.cfgN 0xE000 0 ≠ 0) ∧ (s.role = 3) ∧ (s.memberHeard (getLE 0 1 c.req) = false) :=
  ⟨wStandby, { tag := 7, headend := true, req := le 4 1 }, by decide +kernel⟩

theorem test_witness_GateMetrologyAndFogCommandsComplete_1 :
    ∃ (s : State) (c : HostCmd), (s.accepts 0x1001 c = true) ∧ (c.req.length = 0) :=
  ⟨wRun, { tag := 7, req := [] }, by decide +kernel⟩

theorem test_witness_GateMetrologyAndFogCommandsComplete_2 :
    ∃ (s : State) (c : HostCmd), (s.accepts 0x1002 c = true) ∧ (c.req.length = 0) ∧ (s.cp.ident ≠ []) :=
  ⟨wRun.onCp (fun x => { x with ident := zeros 176 }), { tag := 7, req := [] }, by decide +kernel⟩

theorem test_witness_GateMetrologyAndFogCommandsComplete_3 :
    ∃ (s : State) (c : HostCmd), (s.accepts 0x1003 c = true) ∧ (c.req.length = 0) :=
  ⟨wRun, { tag := 7, req := [] }, by decide +kernel⟩

theorem test_witness_GateMetrologyAndFogCommandsComplete_4 :
    ∃ (s : State) (c : HostCmd), (s.accepts 0x1004 c = true) ∧ (2 ≤ c.req.length) ∧ ((getLE 0 1 c.req = 2 ∨ getLE 0 1 c.req = 3 ∨ getLE 0 1 c.req = 5)) ∧ (getLE 4 2 (c.req.drop 1) ≠ 0x15) :=
  ⟨wRun, { tag := 7, req := le 4 2 ++ zeros 60 }, by decide +kernel⟩

theorem test_witness_GateMetrologyAndFogCommandsComplete_5 :
    ∃ (s : State) (c : HostCmd), (s.accepts 0x1005 c = true) ∧ (c.req.length = 0) :=
  ⟨wRun, { tag := 7, req := [] }, by decide +kernel⟩

theorem test_witness_GateMetrologyAndFogCommandsComplete_6 :
    ∃ (s : State) (c : HostCmd), (s.accepts 0x1006 c = true) ∧ (17 ≤ c.req.length) :=
  ⟨wRun, { tag := 7, req := zeros 17 }, by decide +kernel⟩

theorem test_witness_GateMetrologyAndFogCommandsComplete_7 :
    ∃ (s : State) (c : HostCmd), (s.accepts 0x1020 c = true) ∧ (c.req.length = 4) ∧ (getLE 0 1 c.req ≤ 15) ∧ (zeroAt 1 3 c.req = true) ∧ (((List.range 12).any fun i => bit (getLE 0 1 c.req) (i / 3) &&
      (((s.validRecs 7).filter (fun r => getLE 0 1 r.data = i / 3 && getLE 1 1 r.data = i % 3 + 1)).getLast?.map (fun r => !s.readable r)).getD false) = false) :=
  ⟨wRun, { tag := 7, req := le 4 1 }, by decide +kernel⟩

theorem test_witness_GateMetrologyAndFogCommandsComplete_8 :
    ∃ (s : State) (c : HostCmd), (s.accepts 0x1021 c = true) ∧ (c.req.length = 0) :=
  ⟨wRun, { tag := 7, req := [] }, by decide +kernel⟩

theorem test_witness_GateMetrologyAndFogCommandsComplete_9 :
    ∃ (s : State) (c : HostCmd), (s.accepts 0x1022 c = true) ∧ (c.req.length = 4) ∧ (getLE 0 2 c.req / 4096 = 1) ∧ (zeroAt 2 2 c.req = true) ∧ ((s.mirrored (getLE 0 2 c.req)).isSome = true) :=
  ⟨wMirror, { tag := 7, req := le 4 0x1000 }, by decide +kernel⟩

theorem test_witness_GateMetrologyAndFogCommandsComplete_10 :
    ∃ (s : State) (c : HostCmd), (s.accepts 0x1023 c = true) ∧ (c.req.length = 0) :=
  ⟨wRun, { tag := 7, req := [] }, by decide +kernel⟩

theorem test_witness_GateMetrologyAndFogCommandsComplete_11 :
    ∃ (s : State) (c : HostCmd), (s.accepts 0x1024 c = true) ∧ (c.req.length = 16) ∧ (getLE 0 1 c.req ≤ 3) ∧ (1 ≤ getLE 1 1 c.req) ∧ (getLE 1 1 c.req ≤ 3) ∧ (zeroAt 2 2 c.req = true) ∧ (1 ≤ getLE 12 4 c.req) ∧ (getLE 12 4 c.req ≤ 256) ∧ ((s.meetsOffline 7 fun r => getLE 0 1 r.data = getLE 0 1 c.req && getLE 1 1 r.data = getLE 1 1 c.req && decide (getLE 4 8 c.req ≤ getLE 8 8 r.data)) = false) :=
  ⟨wRun, { tag := 7, req := le 1 0 ++ le 1 1 ++ zeros 10 ++ le 4 1 }, by decide +kernel⟩

theorem test_witness_GateMetrologyAndFogCommandsComplete_12 :
    ∃ (s : State) (c : HostCmd), (s.accepts 0x1F01 c = true) ∧ (c.req.length = 0) :=
  ⟨wRun, { tag := 7, req := [] }, by decide +kernel⟩

theorem test_witness_GateMetrologyAndFogCommandsComplete_13 :
    ∃ (s : State) (c : HostCmd), (s.accepts 0x1F02 c = true) ∧ (c.req.length = 8) ∧ (badInjection c.req = false) ∧ (s.fogActs (if getLE 0 1 c.req = 3 then 5 else 2) = true) :=
  ⟨wFog, { tag := 7, req := le 4 1 ++ le 4 3 }, by decide +kernel⟩

theorem test_witness_GateMetrologyAndFogCommandsComplete_14 :
    ∃ (s : State) (c : HostCmd), (s.accepts 0x1F03 c = true) ∧ (c.req.length = 0) ∧ (s.fog.unlock.isSome = true) :=
  ⟨wFog, { tag := 7, req := [] }, by decide +kernel⟩

theorem test_witness_FabricEventsComplete_1 :
    ∃ (s : State) (producer q n : Nat), ((s.countOpen q).openAnswer q n (s.countOpen q).fabric.bpCount = .granted) :=
  ⟨wRun, 11, 40, 2, by decide +kernel⟩

theorem test_witness_FabricEventsComplete_2 :
    ∃ (s : State) (producer q : Nat) (payload : Bytes) (o : OpenPacket), (s.fabric.opened.find? (fun o => o.queue = q ∧ o.producer = producer) = some o) ∧ (cellsFor payload.length ≤ o.cells) ∧ (edgeOk payload = true) :=
  ⟨wOpen, 11, 40, edgeSample, wPkt, by decide +kernel⟩

theorem test_witness_FabricEventsComplete_3 :
    ∃ (s : State) (producer q : Nat) (payload : Bytes) (o : OpenPacket), (s.fabric.opened.find? (fun o => o.queue = q ∧ o.producer = producer) = some o) ∧ (o.cells < cellsFor payload.length) :=
  ⟨wOpen, 11, 40, zeros 4096, wPkt, by decide +kernel⟩

theorem test_witness_FabricEventsComplete_4 :
    ∃ (s : State) (w : Waiter), (s.fabric.waiters = [w]) ∧ (s.nextWaiter = some w) :=
  ⟨wWaiter, { queue := 40, producer := 11, cells := 1, payload := none }, by decide +kernel⟩

theorem test_witness_FabricEventsComplete_5 :
    ∃ (s : State) (p : Packet) (qs : List Nat), (s.peekHead 48 = some p) ∧ (qs = fanoutQueues (getLE 0 1 p.payload) (getLE 12 4 p.payload / 2 ^ 18 % 16)) ∧ (qs.all (fun q => ((queueRow q).map (·.lossy)).getD false || (s.grantable q p.cells && !s.fabric.waiters.any (·.queue = q))) = true) :=
  ⟨wGateOut, { producer := 12, seq := 0, cells := 1, payload := withEdge (zeros 16) }, [], by decide +kernel⟩

theorem test_witness_FabricEventsComplete_6 :
    ∃ (s : State) (producer q : Nat) (o : OpenPacket), (s.fabric.opened.find? (fun o => o.queue = q ∧ o.producer = producer) = some o) :=
  ⟨wOpen, 11, 40, wPkt, by decide +kernel⟩

theorem test_witness_FabricEventsComplete_7 :
    ∃ (s : State) (q r : Nat), ((queueRow q).map (·.rank) = some r) ∧ ((r = 3 ∨ r = 4)) ∧ ((s.queue q).pkts ≠ []) :=
  ⟨wRank3, 32, 3, by decide +kernel⟩

theorem test_witness_FabricEventsComplete_8 :
    ∃ (s : State) (q ms : Nat), (s.cfgN 0x8000 3 ≤ ms) ∧ (s.fabric.waiters.any (·.queue = q) = true) :=
  ⟨wWaiter, 40, 100000, by decide +kernel⟩

theorem test_witness_StorageEventsComplete_1 :
    ∃ (s : State) (q st kind flags sq : Nat) (p : Packet) (d : Bytes), (s.store.mapReady = true) ∧ ([64, 66, 67, 68, 69].contains q = true) ∧ ((s.nextUnread q).1 = some p) ∧ (storeTarget q p.body = some (st, kind, flags, sq, d)) :=
  ⟨wUnread, 64, 1, 0x81, 0, 9, wUnreadPkt, wUnreadPkt.body.drop 12, by decide +kernel⟩

theorem test_witness_StorageEventsComplete_2 :
    ∃ (s : State) (stream i : Nat), (s.store.buffers.getD stream [] ≠ []) ∧ (s.store.state ≠ .frozen) ∧ ((s.latentFor (streamHot stream) (streamCritical stream)).1 = some i) :=
  ⟨wBuffered, 1, 0, by decide +kernel⟩

theorem test_witness_StorageEventsComplete_3 :
    ∃ (s : State) (p : PageProgram) (rest : List PageProgram), (s.store.programs = p :: rest) ∧ ((s.takeInjection 1 (p.page % 8)).1 = false) :=
  ⟨wProgram, wProg, [], by decide +kernel⟩

theorem test_witness_StorageEventsComplete_4 :
    ∃ (s : State) (d i : Nat) (rest : List Nat), (s.store.eraseQ = i :: rest) ∧ (s.eraseInjected = []) :=
  ⟨wErase, 0, 40, [], by decide +kernel⟩

theorem test_witness_StorageEventsComplete_5 :
    ∃ (s : State) (st sq retry pct id i f l : Nat) (r : StoreRec), (s.recId st sq = some id) ∧ (s.store.recs.get? id = some r) ∧ (r.place = .flash i f l) :=
  ⟨wFlash, 6, 0, 0, 80, 0, 40, 0, 0, wFlashRec, by decide +kernel⟩

theorem test_witness_StorageEventsComplete_6 :
    ∃ (s : State) (d : Nat), ((s.store.dies.getD (d % 8) {}).hung = true) :=
  ⟨wHung, 0, by decide +kernel⟩

theorem test_witness_StorageEventsComplete_7 :
    ∃ (s : State) (d : Nat), ((s.store.dies.getD (d % 8) {}).hung = true) ∧ (2 ≤ (s.store.dies.getD (d % 8) {}).retries) :=
  ⟨wHung, 0, by decide +kernel⟩

theorem test_witness_StorageEventsComplete_8 :
    ∃ (s : State) (d : Nat), ((s.store.dies.getD (d % 8) {}).hung = true) ∧ ((s.store.dies.getD (d % 8) {}).retries < 2) :=
  ⟨wRun.onDie 0 (fun y => { y with hung := true }), 0, by decide +kernel⟩

theorem test_witness_StorageEventsComplete_9 :
    ∃ (s : State) (pct i : Nat), (s.store.stopped = false) ∧ (s.store.state ≠ .frozen) ∧ (0 < s.freeTlc) ∧ (([28, 29, 30, 31] : List Nat).find? (fun i => ((s.sb i).phase = .full || (s.sb i).phase = .opened) && !(s.sb i).copying && !(s.idsIn i).isEmpty) = some i) :=
  ⟨wReserved, 0, 28, by decide +kernel⟩

theorem test_witness_StorageEventsComplete_10 :
    ∃ (s : State) (pct : Nat), (s.store.stopped = false) ∧ (s.store.state ≠ .frozen) :=
  ⟨wRun, 0, by decide +kernel⟩

theorem test_witness_StorageEventsComplete_11 :
    ∃ (s : State) (i : Nat), (s.gcBest = some i) :=
  ⟨wVictims, 40, by decide +kernel⟩

theorem test_witness_StorageEventsComplete_12 :
    ∃ (s : State) (pct i cause : Nat) (rest : List (Nat × Nat)), (s.store.stopped = false) ∧ (s.store.state ≠ .frozen) ∧ (s.store.refreshQ = (i, cause) :: rest) ∧ (cause ≠ 0) ∧ ((s.sb i).phase = .full ∨ (s.sb i).phase = .closed ∨ (s.sb i).phase = .verified) :=
  ⟨wRefresh, 0, 40, 2, [], by decide +kernel⟩

theorem test_witness_StorageEventsComplete_13 :
    ∃ (s : State) (pct i cause : Nat) (rest : List (Nat × Nat)), (s.store.stopped = false) ∧ (s.store.state ≠ .frozen) ∧ (s.store.refreshQ = (i, cause) :: rest) ∧ ((s.sb i).phase ≠ .full) ∧ ((s.sb i).phase ≠ .closed) ∧ ((s.sb i).phase ≠ .verified) :=
  ⟨wRun.onStore (fun t => { t with refreshQ := [(40, 2)] }), 0, 40, 2, [], by decide +kernel⟩

theorem test_witness_StorageEventsComplete_14 :
    ∃ (s : State), (s.store.state ≠ .frozen) :=
  ⟨wRun, by decide +kernel⟩

theorem test_witness_RecorderEventsComplete_1 :
    ∃ (s : State) (handle : Nat) (e : Exposure), (s.recd.exposures.find? (·.handle = handle) = some e) ∧ (e.lastOt + s.cfgN 0xA000 1 ≤ s.power.ot) :=
  ⟨wExp.onPower (fun p => { p with ot := 1000000 }), 0, { handle := 0, channel := 0, low := 0, stop := 5, lastOt := 0 }, by decide +kernel⟩

theorem test_witness_RecorderEventsComplete_2 :
    ∃ (s : State) (p : Packet), (s.recorderNext.1 = some p) ∧ (p.producer ≠ 13) :=
  ⟨wRecPkt 18, wRecPacket 18, by decide +kernel⟩

theorem test_witness_RecorderEventsComplete_3 :
    ∃ (s : State) (p : Packet) (last : Nat) (r : Bytes), (s.recorderNext.1 = some p) ∧ (p.producer = 13) ∧ (r = (p.payload.drop 12).take 32) ∧ (s.recorderNext.2.holdRecorder.recd.sealedLast = some last) ∧ (getLE 0 8 r = last + 1) :=
  ⟨(wRecPkt 13).onRec (fun x => { x with sealedLast := some 6 }), wRecPacket 13, 6, ((wRecPacket 13).payload.drop 12).take 32, by decide +kernel⟩

theorem test_witness_RecorderEventsComplete_4 :
    ∃ (s : State), (s.recd.lastAnchorOt + s.cfgN 0xA000 0 ≤ s.power.ot) ∧ (2 ≤ s.time.level) :=
  ⟨(wRun.onTime (fun t => { t with level := 3 })).onPower (fun p => { p with ot := 100000000 }), by decide +kernel⟩

theorem test_witness_PowerFailureEventsComplete_1 :
    ∃ (s : State) (mv : Nat), (s.cfgN 0x0000 1 ≠ 1) ∧ (mv ≤ s.cfgN 0x0000 0) ∧ (s.alive = true) ∧ (s.power.pfw = false) :=
  ⟨wRun, 1000, by decide +kernel⟩

theorem test_witness_PowerFailureEventsComplete_2 :
    ∃ (s : State) (ms k : Nat), (s.power.holdup = some k) ∧ (k < 6) :=
  ⟨wRun.onPower (fun p => { p with holdup := some 1 }), 5, 1, by decide +kernel⟩

theorem test_witness_PowerFailureEventsComplete_3 :
    ∃ (s : State) (mv : Nat), (mv < 2600) ∧ (s.power.state = .run) :=
  ⟨wRun, 100, by decide +kernel⟩

theorem test_witness_PowerFailureEventsComplete_4 :
    ∃ (s : State) (mv : Nat), (s.power.pfw = true) ∧ (s.power.holdup.isSome = true) ∧ (s.cfgN 0x0000 0 + 200 < mv) ∧ (s.power.vinRecovered = false) :=
  ⟨wRun.onPower (fun p => { p with pfw := true, holdup := some 1 }), 60000, by decide +kernel⟩

theorem test_witness_PowerFailureEventsComplete_5 :
    ∃ (s : State) (mv : Nat), ((s.power.state = .hold ∨ s.power.state = .off ∨ s.power.state = .unpowered)) ∧ (2900 ≤ mv) ∧ (s.power.vioHUp = true) ∧ (s.power.vioPUp = true) ∧ (s.power.thermalShutdown = false) :=
  ⟨wRun.onPower (fun p => { p with state := .off }), 12000, by decide +kernel⟩

theorem test_witness_PowerFailureEventsComplete_6 :
    ∃ (s : State) (mv : Nat), (s.vbatStateAt mv ≠ s.power.vbatState) ∧ (s.power.state = .run) :=
  ⟨wRun, 0, by decide +kernel⟩

theorem test_witness_PowerFailureEventsComplete_7 :
    ∃ (s : State) (mv : Nat), (s.power.vioHUp = true) ∧ (mv < 1620) :=
  ⟨wRun, 0, by decide +kernel⟩

theorem test_witness_PowerFailureEventsComplete_8 :
    ∃ (s : State) (mv : Nat), (s.power.vioPUp = true) ∧ (mv < 1620) :=
  ⟨wRun, 0, by decide +kernel⟩

theorem test_witness_PowerFailureEventsComplete_9 :
    ∃ (s : State) (rail mv : Nat), (s.alive = true) :=
  ⟨wRun, 1, 100, by decide +kernel⟩

theorem test_witness_PowerFailureEventsComplete_10 :
    ∃ (s : State), (s.power.state = .hold) ∧ (s.power.holdSince + s.cfgN 0x0000 3 ≤ s.power.ot) :=
  ⟨wRun.onPower (fun p => { p with state := .hold, ot := 100000000 }), by decide +kernel⟩

theorem test_witness_PowerFailureEventsComplete_11 :
    ∃ (s : State), (s.power.state = .run) ∧ (s.power.pfw = false) ∧ (s.cfgN 0x0000 4 = 1) ∧ (s.fabric.queues.all (fun q => q.2.pkts.isEmpty) = true) ∧ (s.host.crHead = s.host.crTail) ∧ (s.store.programs = []) ∧ (s.store.eraseQ = []) :=
  ⟨wSet wRun 0x0000 4 1, by decide +kernel⟩

theorem test_witness_PowerFailureEventsComplete_12 :
    ∃ (s : State) (ms : Nat), (s.power.state = .idle) :=
  ⟨wRun.onPower (fun p => { p with state := .idle }), 3, by decide +kernel⟩

theorem test_witness_PowerFailureEventsComplete_13 :
    ∃ (s : State) (n : Nat) (level : Bool), (n < 6) ∧ (s.power.state ≠ .unpowered) ∧ (s.power.tampLevel.getD n true ≠ level) :=
  ⟨wRun, 0, false, by decide +kernel⟩

theorem test_witness_ResetAndStartEventsComplete_1 :
    ∃ (s : State) (ticks mapMs : Nat) (off : Option Nat) (diesOk pipesOk : List Bool), (s.power.state = .starting) ∧ (s.power.stage = .resetHeld) ∧ (s.power.pfw = false) ∧ (s.power.tcxoPresent = true) ∧ (s.power.vioHUp = true) ∧ (s.power.vioPUp = true) ∧ (s.host.phase ≠ 3) :=
  ⟨State.reset, 0, 0, none, [], [], by decide +kernel⟩

theorem test_witness_ResetAndStartEventsComplete_2 :
    ∃ (s : State) (ms : Nat), (s.power.state = .starting) ∧ (s.power.stage = .booted) ∧ (s.power.pfw = false) ∧ (s.sealedDie.running = true) ∧ (s.sealedDie.started = true) :=
  ⟨(wRun.onPower fun p => { p with state := .starting, stage := .booted }).onSealed (fun x => { x with running := true, started := true }), 10, by decide +kernel⟩

theorem test_witness_ResetAndStartEventsComplete_3 :
    ∃ (s : State), (s.sec.trial = some s.sec.running) ∧ (s.sec.runStartOt + s.sec.trialConfirm ≤ s.power.ot) ∧ (s.power.pfw = false) ∧ (s.openRuns = true) :=
  ⟨(wRun.onSec fun x => { x with trial := some x.running }).onPower (fun p => { p with ot := 100000000 }), by decide +kernel⟩

theorem test_witness_ResetAndStartEventsComplete_4 :
    ∃ (s : State), (s.sec.activateDue = true) ∧ (s.power.pfw = false) ∧ (s.openRuns = true) :=
  ⟨wRun.onSec (fun x => { x with activateDue := true }), by decide +kernel⟩

theorem test_witness_ResetAndStartEventsComplete_5 :
    ∃ (s : State), (s.alive = true) :=
  ⟨wRun, by decide +kernel⟩

theorem test_witness_ResetAndStartEventsComplete_6 :
    ∃ (s : State), (s.alive = true) ∧ (s.power.holdup = none) :=
  ⟨wRun, by decide +kernel⟩

theorem test_witness_ResetAndStartEventsComplete_7 :
    ∃ (s : State), (s.openRuns = true) ∧ (s.power.holdup = none) :=
  ⟨wRun, by decide +kernel⟩

theorem test_witness_ResetAndStartEventsComplete_8 :
    ∃ (s : State) (c : Int), (s.power.thermalShutdown = false) ∧ (s.alive = true) ∧ (c < 11000) ∧ (thermalStep s.power.thermalLevel c ≠ s.power.thermalLevel) :=
  ⟨wRun, 10500, by decide +kernel⟩

theorem test_witness_ResetAndStartEventsComplete_9 :
    ∃ (s : State) (ppm : Int), (s.power.tcxoDeviating = false) ∧ (100 < ppm.natAbs) ∧ (s.power.aonCrystal = true) :=
  ⟨wRun, 200, by decide +kernel⟩

theorem test_witness_ResetAndStartEventsComplete_10 :
    ∃ (s : State) (pair : Nat), (s.openRuns = true) ∧ (s.store.mapReady = false) :=
  ⟨wRun, 0, by decide +kernel⟩

theorem test_witness_ResetAndStartEventsComplete_11 :
    ∃ (s : State), (s.power.state = .hold) :=
  ⟨wRun.onPower (fun p => { p with state := .hold }), by decide +kernel⟩

theorem test_witness_ResetAndStartEventsComplete_12 :
    ∃ (s : State), (s.openRuns = true) :=
  ⟨wRun, by decide +kernel⟩

theorem test_witness_MailboxEventsComplete_1 :
    ∃ (s : State) (tail : Nat) (written : Bytes), (tail < s.crSlots) :=
  ⟨wRun, 1, [], by decide +kernel⟩

theorem test_witness_MailboxEventsComplete_2 :
    ∃ (s : State) (tail : Nat) (written : Bytes) (dmaFail : Bool), (s.crSlots ≤ tail) :=
  ⟨wRun, 1000000, [], false, by decide +kernel⟩

theorem test_witness_MailboxEventsComplete_3 :
    ∃ (s : State) (v : Nat), (v % 2 = 1) ∧ (s.mbxEnabled = false) :=
  ⟨wRun, 1, by decide +kernel⟩

theorem test_witness_MailboxEventsComplete_4 :
    ∃ (s : State) (v : Nat), (v % 2 = 0) :=
  ⟨wRun, 0, by decide +kernel⟩

theorem test_witness_MailboxEventsComplete_5 :
    ∃ (s : State) (v : Nat), (v < s.cprSlots) :=
  ⟨wRun, 1, by decide +kernel⟩

theorem test_witness_MailboxEventsComplete_6 :
    ∃ (s : State) (v : Nat), (v < s.ntfEntries) :=
  ⟨wRun, 1, by decide +kernel⟩

theorem test_witness_MailboxEventsComplete_7 :
    ∃ (s : State) (v : Nat), (v % 2 = 1) ∧ (s.ntfEnabled = false) :=
  ⟨wRun, 1, by decide +kernel⟩

theorem test_witness_MailboxEventsComplete_8 :
    ∃ (s : State) (v : Nat), (v % 2 = 0) :=
  ⟨wRun, 0, by decide +kernel⟩

theorem test_witness_MailboxEventsComplete_9 :
    ∃ (s : State) (p : Packet) (rest : List Packet), ((s.queue 40).pkts = p :: rest) ∧ (s.mbxEnabled = true) ∧ (p.good = true) ∧ (s.fabric.hostPackets.contains p.seq = false) ∧ (s.cprRoom p.payload.length = true) :=
  ⟨wHostOut, wHostPkt, [], by decide +kernel⟩

theorem test_witness_MailboxEventsComplete_10 :
    ∃ (s : State) (hd : Bool) (tag : Nat) (i : Inflight), (s.inflightOf hd tag = some i) ∧ (i.first = false) :=
  ⟨wRun.onHost (fun h => { h with inflight := [wInflight] }), false, 7, wInflight, by decide +kernel⟩

theorem test_witness_MailboxEventsComplete_11 :
    ∃ (s : State) (kind : Nat), (s.qspi = false) ∧ (s.host.linkUp = true) :=
  ⟨wRun.onHost (fun h => { h with linkUp := true }), 0, by decide +kernel⟩

theorem test_witness_MailboxEventsComplete_12 :
    ∃ (s : State) (vector : Nat), (s.host.vecPending.contains vector = true) :=
  ⟨wRun.onHost (fun h => { h with vecPending := [1] }), 1, by decide +kernel⟩

theorem test_witness_MailboxEventsComplete_13 :
    ∃ (s : State) (addr v : Nat), (s.openRuns = true) ∧ (addr % 4 = 0) :=
  ⟨wRun, 4096, 1, by decide +kernel⟩

theorem test_witness_MailboxEventsComplete_14 :
    ∃ (s : State) (part : Bytes), (s.host.phase = 2) ∧ (s.cfgN 0x0010 2 ≠ 0) ∧ (s.host.headPartial = []) ∧ (getLE 8 4 part = part.length) ∧ (20 ≤ part.length) ∧ (part.length ≤ 262192) ∧ (edgeOk part = true) ∧ (opcodeAssigned (getLE 0 2 part) = true) :=
  ⟨wSet wRun 0x0010 2 1, withEdge (le 4 0x0101 ++ le 4 9 ++ le 4 20 ++ zeros 4), by decide +kernel⟩

theorem test_witness_SecurityEventsComplete_1 :
    ∃ (s : State), (2 ^ 20 ≤ s.sec.requests) ∧ (s.sec.trngStopped = false) :=
  ⟨wRun.onSec (fun x => { x with requests := 2 ^ 20 }), by decide +kernel⟩

theorem test_witness_SecurityEventsComplete_2 :
    ∃ (s : State), ((s.sec.lifecycle ≤ 1 ∨ (s.sec.lifecycle = 3 ∧ s.sec.debugSince.isSome = true))) :=
  ⟨wRun, by decide +kernel⟩

theorem test_witness_SecurityEventsComplete_3 :
    ∃ (s : State) (t d : Nat), (s.sec.debugSince = some (t, d)) ∧ (t + d ≤ s.power.ot) :=
  ⟨wRun.onSec (fun x => { x with debugSince := some (0, 0) }), 0, 0, by decide +kernel⟩

theorem test_witness_SecurityEventsComplete_4 :
    ∃ (s : State) (test samples : Nat), (s.sec.trngStopped = false) :=
  ⟨wRun, 1, 10, by decide +kernel⟩

theorem test_witness_SecurityEventsComplete_5 :
    ∃ (s : State) (samples : Nat), (s.sec.trngRestarting = true) :=
  ⟨wRun.onSec (fun x => { x with trngRestarting := true }), 10, by decide +kernel⟩

theorem test_witness_SecurityEventsComplete_6 :
    ∃ (s : State) (ch : Nat), (1 ≤ ch) ∧ (ch ≤ 3) ∧ (2 ^ 32 ≤ (s.chan ch).sendNum) :=
  ⟨wRun.onChan 1 (fun x => { x with sendNum := 2 ^ 32 }), 1, by decide +kernel⟩

theorem test_witness_SecurityEventsComplete_7 :
    ∃ (s : State) (u : Unlock), (s.fog.unlock = some u) ∧ (u.since + u.duration ≤ s.power.ot) :=
  ⟨wFog.onPower (fun p => { p with ot := 100 }), { classes := 0xFF, duration := 100, since := 0, version := 1 }, by decide +kernel⟩

theorem test_witness_GateEventsComplete_1 :
    ∃ (s : State) (q : Nat) (p : Packet), (s.gate.up = true) ∧ (s.openRuns = true) ∧ (s.gate.unanswered = []) ∧ (s.gateHead = some (q, p)) :=
  ⟨wGate.onQueue 18 (fun x => { x with pkts := [wOfferPkt] }), 18, wOfferPkt, by decide +kernel⟩

theorem test_witness_GateEventsComplete_2 :
    ∃ (s : State) (b : Bytes), (s.gate.wire = some b) ∧ (s.sealedDie.running = true) ∧ ((s.onGate fun g => { g with wire := none }).inboundRefusal b = none) :=
  ⟨wWire, wWireBytes, by decide +kernel⟩

theorem test_witness_GateEventsComplete_3 :
    ∃ (s : State) (b : Bytes) (k st : Nat), (s.gate.wire = some b) ∧ (s.sealedDie.running = true) ∧ ((s.onGate fun g => { g with wire := none }).inboundRefusal b = some (k, st)) :=
  ⟨wWire.onGate (fun g => { g with wire := some (zeros 20) }), zeros 20, ((wWire.inboundRefusal (zeros 20)).getD (0, 0)).1, ((wWire.inboundRefusal (zeros 20)).getD (0, 0)).2, by decide +kernel⟩

theorem test_witness_GateEventsComplete_4 :
    ∃ (s : State) (m : OutMsg), (s.settlePlaced = s) ∧ (s.gate.up = true) ∧ (s.openRuns = true) ∧ (s.sealedDie.running = true) ∧ (s.gate.outPlaced = none) ∧ (s.sealedDie.outBuf.find? (fun m => !m.sent) = some m) ∧ (s.gate.ackRegister = none) :=
  ⟨wOutMsg, { seq := 0, kind := 0x85, payload := zeros 32 }, by decide +kernel⟩

theorem test_witness_GateEventsComplete_5 :
    ∃ (s : State) (cause : Nat), (s.sealedDie.running = true) ∧ (s.cfg.genState ≠ .proving) :=
  ⟨wGate, 3, by decide +kernel⟩

theorem test_witness_GateEventsComplete_6 :
    ∃ (s : State) (sq st : Nat) (m : InboundMsg) (rest : List InboundMsg) (us : List GateUnit), (s.gate.units = .response sq st :: us) ∧ (s.gate.unanswered = m :: rest) ∧ (st = stNoCredit) :=
  ⟨wGate.onGate (fun g => { g with units := [.response 0 stNoCredit], unanswered := [wInMsg 1 []] }), 0, stNoCredit, wInMsg 1 [], [], [], by decide +kernel⟩

theorem test_witness_GateEventsComplete_7 :
    ∃ (s : State) (sq st : Nat) (m : InboundMsg) (rest : List InboundMsg) (us : List GateUnit), (s.gate.units = .response sq st :: us) ∧ (s.gate.unanswered = m :: rest) ∧ (m.kind = 3) ∧ (m.origin = 17) ∧ (st ≠ stNoCredit) :=
  ⟨wGate.onGate (fun g => { g with units := [.response 0 stDone], unanswered := [{ wInMsg 3 [] with origin := 17 }] }), 0, stDone, { wInMsg 3 [] with origin := 17 }, [], [], by decide +kernel⟩

theorem test_witness_GateEventsComplete_8 :
    ∃ (s : State) (a : Nat) (rest : List Nat), (s.gate.acks = a :: rest) :=
  ⟨wGate.onGate (fun g => { g with acks := [0] }), 0, [], by decide +kernel⟩

theorem test_witness_GateEventsComplete_9 :
    ∃ (s : State) (r : StoreResult) (rest : List StoreResult), (s.gate.storeResults = r :: rest) :=
  ⟨wGate.onGate (fun g => { g with storeResults := [wResult] }), wResult, [], by decide +kernel⟩

theorem test_witness_GateEventsComplete_10 :
    ∃ (s : State) (st e r c : Nat) (us : List GateUnit), (s.gate.units = .readRequest st e r c :: us) ∧ (s.store.mapReady = true) ∧ (s.openRuns = true) :=
  ⟨(wGate.onStore fun t => { t with mapReady := true }).onGate (fun g => { g with units := [.readRequest 1 0 0 16] }), 1, 0, 0, 16, [], by decide +kernel⟩

theorem test_witness_GateEventsComplete_11 :
    ∃ (s : State) (b : Bytes) (rest : List Bytes) (q : ReadReq), (s.gate.readReturns = b :: rest) ∧ (s.gate.readOpen = some q) ∧ (b.take 4 = ascii "SLSR") ∧ (getLE 4 2 b = q.stream) ∧ (getLE 24 4 b + 48 = b.length) ∧ (0 < q.left) :=
  ⟨wReading, wSealedRec, [], wReadReq, by decide +kernel⟩

theorem test_witness_GateEventsComplete_12 :
    ∃ (s : State) (st e : Nat) (us : List GateUnit), (s.gate.units = .release st e :: us) ∧ (s.openRuns = true) :=
  ⟨wGate.onGate (fun g => { g with units := [.release 1 0] }), 1, 0, [], by decide +kernel⟩

theorem test_witness_GateEventsComplete_13 :
    ∃ (s : State) (eix : Nat) (r : Reasm), (s.sealedDie.reasm.find? (fun r => r.eix = eix) = some r) ∧ (r.at_ + 60000000000 ≤ s.sealedDie.elapsed) :=
  ⟨(wGate.onSealed fun x => { x with elapsed := 60000000000, reasm := [wReasm] }), 5, wReasm, by decide +kernel⟩

theorem test_witness_SealedDocumentEventsComplete_1 :
    ∃ (s : State) (m : InboundMsg), (s.admittedOf 1 = some m) ∧ (s.corePaused = false) :=
  ⟨wAdmit 1 [], wInMsg 1 [], by decide +kernel⟩

theorem test_witness_SealedDocumentEventsComplete_2 :
    ∃ (s : State) (m : InboundMsg), (s.admittedOf 4 = some m) ∧ (s.sealedDie.pfw = false) ∧ (s.corePaused = false) :=
  ⟨wAdmit 4 [], wInMsg 4 [], by decide +kernel⟩

theorem test_witness_SealedDocumentEventsComplete_3 :
    ∃ (s : State) (m : InboundMsg), (s.admittedOf 2 = some m) ∧ (s.sealedDie.pfw = false) ∧ (s.corePaused = false) :=
  ⟨wAdmit 2 [], wInMsg 2 [], by decide +kernel⟩

theorem test_witness_SealedDocumentEventsComplete_4 :
    ∃ (s : State) (m : InboundMsg), (s.admittedOf 3 = some m) ∧ (s.sealedDie.pfw = false) ∧ (s.corePaused = false) :=
  ⟨wAdmit 3 [], wInMsg 3 [], by decide +kernel⟩

theorem test_witness_SealedDocumentEventsComplete_5 :
    ∃ (s : State) (m : InboundMsg), (s.admittedOf 5 = some m) ∧ (s.sealedDie.pfw = false) ∧ (s.corePaused = false) :=
  ⟨wAdmit 5 (zeros 60), wInMsg 5 (zeros 60), by decide +kernel⟩

theorem test_witness_SealedDocumentEventsComplete_6 :
    ∃ (s : State), (s.sealedDie.running = true) :=
  ⟨wGate, by decide +kernel⟩

theorem test_witness_SealedDocumentEventsComplete_7 :
    ∃ (s : State) (input : Nat) (level : Bool), (input ≤ 1) ∧ (s.sealedDie.stamps.getD input true ≠ level) ∧ (s.sealedDie.running = true) ∧ (s.sealedDie.started = true) :=
  ⟨wStarted, 0, false, by decide +kernel⟩

theorem test_witness_SealedDocumentEventsComplete_8 :
    ∃ (s : State) (input : Nat) (level : Bool), (input ≤ 1) ∧ (s.sealedDie.stamps.getD input true ≠ level) ∧ (s.sealedDie.running = false) :=
  ⟨wRun.onSealed (fun x => { x with running := false }), 0, false, by decide +kernel⟩

theorem test_witness_SealedDocumentEventsComplete_9 :
    ∃ (s : State) (f : FwPartial), (s.sealedDie.fwPartial = some f) ∧ (f.at_ + 600000000000 ≤ s.sealedDie.elapsed) :=
  ⟨(wGate.onSealed fun x => { x with elapsed := 600000000000, fwPartial := some { length := 10, data := [], at_ := 0 } }), { length := 10, data := [], at_ := 0 }, by decide +kernel⟩

theorem test_witness_SealedDocumentEventsComplete_10 :
    ∃ (s : State) (q : SealSession), (s.sealedDie.session = some q) ∧ (q.openedElapsed + q.maxS * 1000000000 ≤ s.sealedDie.elapsed) :=
  ⟨(wGate.onSealed fun x => { x with session := some wSession }), wSession, by decide +kernel⟩

theorem test_witness_SealedDocumentEventsComplete_11 :
    ∃ (s : State) (offNs : Nat), (s.sealedDie.running = false) ∧ (s.sealedFed = true) :=
  ⟨wRun.onSealed (fun x => { x with running := false }), 0, by decide +kernel⟩

theorem test_witness_SealedDocumentEventsComplete_12 :
    ∃ (s : State) (centiC : Int), (s.sealedDie.running = true) :=
  ⟨wGate, 2500, by decide +kernel⟩

theorem test_witness_SealedDocumentEventsComplete_13 :
    ∃ (s : State), (0 < s.sealedDie.batch.count) ∧ (s.sealedDie.batch.openedElapsed + s.sealedDie.batch.ageS * 1000000000 ≤ s.sealedDie.elapsed) :=
  ⟨wGate.onSealed (fun x => { x with batch := { x.batch with count := 1, ageS := 0 } }), by decide +kernel⟩

theorem test_witness_SealedDocumentEventsComplete_14 :
    ∃ (s : State) (g : Signing) (rest : List Signing), (s.sealedDie.signing = g :: rest) :=
  ⟨wGate.onSealed (fun x => { x with signing := [wClosed] }), wClosed, [], by decide +kernel⟩

theorem test_witness_SealedDocumentEventsComplete_15 :
    ∃ (s : State) (r : Bytes) (t : Txn) (rest : List Txn), (s.sealedDie.txns = t :: rest) ∧ (t.refused = true) ∧ (t.offered = false) ∧ (t.record = some r) :=
  ⟨wGate.onSealed (fun x => { x with txns := [wTxn] }), zeros 48, wTxn, [], by decide +kernel⟩

theorem test_witness_SealedDocumentEventsComplete_16 :
    ∃ (s : State), (s.checkpointDue = true) :=
  ⟨wGate.onSealed (fun x => { x with started := true, txnSinceCkpt := 131072 }), by decide +kernel⟩

theorem test_witness_MetrologyAndLedgerEventsComplete_1 :
    ∃ (s : State) (volts : List Int) (vne : Int) (currents neutrals : List Int), (s.sealedDie.running = true) :=
  ⟨wGate, [], 0, [], [], by decide +kernel⟩

theorem test_witness_MetrologyAndLedgerEventsComplete_2 :
    ∃ (s : State) (channel : Nat), (1 ≤ channel) ∧ (channel ≤ 3) ∧ ((s.zx (channel - 1)).lost = false) ∧ (8 ≤ (s.zx (channel - 1)).missed) :=
  ⟨wGate.onZx 0 (fun x => { x with lost := false, missed := 8 }), 1, by decide +kernel⟩

theorem test_witness_MetrologyAndLedgerEventsComplete_3 :
    ∃ (s : State) (channel : Nat), (1 ≤ channel) ∧ (channel ≤ 3) ∧ ((s.zx (channel - 1)).lost = true) ∧ (5 ≤ (s.zx (channel - 1)).regain) :=
  ⟨wGate.onZx 0 (fun x => { x with lost := true, regain := 5 }), 1, by decide +kernel⟩

theorem test_witness_MetrologyAndLedgerEventsComplete_4 :
    ∃ (s : State) (e : Nat), (s.metro.nextEnd = some e) ∧ (s.sealedDie.running = true) ∧ (s.sealedDie.started = true) ∧ (e ≤ s.sealedSec) :=
  ⟨wStarted.onMetro (fun m => { m with nextEnd := some 0 }), 0, by decide +kernel⟩

theorem test_witness_MetrologyAndLedgerEventsComplete_5 :
    ∃ (s : State), (32 ≤ s.metro.zxMsg.length) :=
  ⟨wGate.onMetro (fun m => { m with zxMsg := List.replicate 32 [] }), by decide +kernel⟩

theorem test_witness_MetrologyAndLedgerEventsComplete_6 :
    ∃ (s : State) (d : Due), (s.calendarRuns = true) ∧ (s.corePaused = false) ∧ (firstDue s.calendarDue = some d) :=
  ⟨wDue, { typ := 3, boundary := 60, item := 0xFF }, by decide +kernel⟩

theorem test_witness_MetrologyAndLedgerEventsComplete_7 :
    ∃ (s : State), (s.sealedDie.running = true) ∧ (s.sealedDie.started = true) ∧ (s.sealedDie.pfw = false) ∧ (s.sealedDie.timeState ≠ .invalid) ∧ (s.sealedDie.storeFault = false) ∧ (s.corePaused = false) ∧ (s.sealedDie.lastMinute < s.sealedSec / 60) :=
  ⟨wMinute, by decide +kernel⟩

theorem test_witness_MetrologyAndLedgerEventsComplete_8 :
    ∃ (s : State), (s.sealedDie.running = true) ∧ (s.sealedDie.started = true) ∧ (s.corePaused = false) :=
  ⟨wGate.onSealed (fun x => { x with started := true }), by decide +kernel⟩

theorem test_witness_ReadingAndOrderEventsComplete_1 :
    ∃ (s : State) (q : Nat) (p : Packet), (q ≤ 7) ∧ (s.openRuns = true) ∧ ((s.takeHead q).1 = some p) ∧ (((s.takeHead q).2.resolveFrame p.body).2 = none) :=
  ⟨wRxQueue, 0, wRxPkt, by decide +kernel⟩

theorem test_witness_ReadingAndOrderEventsComplete_2 :
    ∃ (s : State) (q e : Nat) (p : Packet), (q ≤ 7) ∧ (s.openRuns = true) ∧ ((s.takeHead q).1 = some p) ∧ (((s.takeHead q).2.resolveFrame p.body).2 = some e) ∧ (((s.takeHead q).2.resolveFrame p.body).1.tbl.last.isBlocked = false) ∧ (((s.takeHead q).2.resolveFrame p.body).1.tbl.pendingNotice (getLE 0 1 p.body) (frameKey p.body) = false) ∧ (getLE 24 2 p.body = 4059) ∧ (getBE 0 2 (p.body.drop 28) = 1) ∧ (9 ≤ (p.body.drop 28).length) ∧ (getLE 0 1 ((p.body.drop 28).drop 8) = 0xDB) :=
  ⟨wRxKnown, 0, 5, wReadPkt, by decide +kernel⟩

theorem test_witness_ReadingAndOrderEventsComplete_3 :
    ∃ (s : State) (q : Nat), (q ≤ 7) ∧ (s.openRuns = true) ∧ ((s.takeHead q).1 = none) :=
  ⟨wRun, 0, by decide +kernel⟩

theorem test_witness_ReadingAndOrderEventsComplete_4 :
    ∃ (s : State) (eix : Nat) (e : DirEntry), (s.tbl.dir.get? eix = some e) ∧ (e.port ≤ 7) ∧ (s.openRuns = true) ∧ ((s.cp.profileReads.filter (fun r => decide (r.1 = e.port) && decide (r.2 ≠ eix))).length < 4) :=
  ⟨wPlc, 5, { eui := zeros 8, short := 7, port := 0 }, by decide +kernel⟩

theorem test_witness_ReadingAndOrderEventsComplete_5 :
    ∃ (s : State) (eix : Nat) (o : Order), (s.cp.orders.get? eix = some o) ∧ (o.finished = false) ∧ (o.getSent = false) ∧ (o.nextOt ≤ s.power.ot) ∧ (s.openRuns = true) ∧ (s.power.pfw = false) :=
  ⟨wOrder, 5, { number := 1, kind := 1 }, by decide +kernel⟩

theorem test_witness_ReadingAndOrderEventsComplete_6 :
    ∃ (s : State) (eix : Nat) (o : Order), (s.cp.orders.get? eix = some o) ∧ (o.finished = false) ∧ (o.awaiting = true) ∧ (s.power.ot ≤ o.lastOt + 10) :=
  ⟨wOrderWait, 5, { number := 1, kind := 1, awaiting := true }, by decide +kernel⟩

theorem test_witness_ReadingAndOrderEventsComplete_7 :
    ∃ (s : State) (eix : Nat) (o : Order) (result : Option Nat), (s.cp.orders.get? eix = some o) ∧ (o.finished = false) ∧ (o.getSent = true) :=
  ⟨wOrderGet, 5, { number := 1, kind := 1, getSent := true }, none, by decide +kernel⟩

theorem test_witness_ReadingAndOrderEventsComplete_8 :
    ∃ (s : State) (eix : Nat) (o : Order), (s.cp.orders.get? eix = some o) ∧ (o.finished = false) ∧ (o.awaiting = true) ∧ (o.lastOt + 10 ≤ s.power.ot) ∧ (4 ≤ o.attempts) ∧ (o.undelivered = false) :=
  ⟨wOrderLate, 5, { number := 1, kind := 1, awaiting := true, attempts := 4 }, by decide +kernel⟩

theorem test_witness_ReadingAndOrderEventsComplete_9 :
    ∃ (s : State) (p : Packet), (s.openRuns = true) ∧ ((s.takeHead 58).1 = some p) :=
  ⟨wCopy, { producer := 13, seq := 0, cells := 1, payload := withEdge (zeros 16) }, by decide +kernel⟩

theorem test_witness_PowerLineEventsComplete_1 :
    ∃ (s : State) (p : Nat) (f : PlcRx), (s.plcUp p = true) ∧ (f.overlap = false) ∧ (100 * s.erasedSymbols p f ≤ s.plcN p 13 * f.symbols) ∧ (f.fcsOk = true) ∧ (f.pan = s.plcN p 2) :=
  ⟨wPlc, 0, wPlcRx, by decide +kernel⟩

theorem test_witness_PowerLineEventsComplete_2 :
    ∃ (s : State) (p : Nat) (f : PlcRx), (s.plcUp p = true) ∧ (f.overlap = false) ∧ (f.fcsOk = false) :=
  ⟨wPlc, 0, { wPlcRx with fcsOk := false }, by decide +kernel⟩

theorem test_witness_PowerLineEventsComplete_3 :
    ∃ (s : State) (p k : Nat) (air : PlcAir), (((s.mediumFree p).portSafePoint p).plcPrio p = some k) ∧ (((s.mediumFree p).portSafePoint p).mediumTaken p k = false) :=
  ⟨wPlc.onPort 0 (fun y => { y with ready := [wPlcTx] }), 0, 0, { acked := true }, by decide +kernel⟩

theorem test_witness_PowerLineEventsComplete_4 :
    ∃ (s : State) (p h : Nat) (imp : Bool) (air : PlcAir) (t : PlcTx), ((s.port p).tx = some t) ∧ (t.dest = .hop h) :=
  ⟨wPlc.onPort 0 (fun y => { y with tx := some wPlcTx }), 0, 7, true, {}, wPlcTx, by decide +kernel⟩

theorem test_witness_PowerLineEventsComplete_5 :
    ∃ (s : State) (p : Nat), (p ≤ 3) :=
  ⟨wPlc, 0, by decide +kernel⟩

theorem test_witness_PowerLineEventsComplete_6 :
    ∃ (s : State) (p t : Nat), (p ≤ 3) ∧ ((s.port p).fault = some t) ∧ (t + 10 < s.power.ot) :=
  ⟨(wPlc.onPort 0 (fun y => { y with fault := some 0 })).onPower (fun x => { x with ot := 100 }), 0, 0, by decide +kernel⟩

theorem test_witness_PowerLineEventsComplete_7 :
    ∃ (s : State) (p hop hops : Nat), (s.plcUp p = true) ∧ (hops ≤ s.cfgN 0x4011 0) ∧ ((s.port p).blacklist.has hop = false) :=
  ⟨wPlc, 0, 7, 1, by decide +kernel⟩

theorem test_witness_PowerLineEventsComplete_8 :
    ∃ (s : State) (p dest hop cost hops : Nat), (s.plcUp p = true) ∧ (hops ≤ s.cfgN 0x4011 0) ∧ ((s.port p).blacklist.has hop = false) ∧ (s.tbl.direct.get? (p * 65536 + dest) = none) :=
  ⟨wPlc, 0, 9, 7, 1, 1, by decide +kernel⟩

theorem test_witness_PowerLineEventsComplete_9 :
    ∃ (s : State) (p dest : Nat), (s.plcUp p = true) :=
  ⟨wPlc, 0, 7, by decide +kernel⟩

theorem test_witness_PowerLineEventsComplete_10 :
    ∃ (s : State) (p hop cost : Nat), (s.plcUp p = true) ∧ (s.cfgN 0x4011 4 = 1) :=
  ⟨wSet wPlc 0x4011 4 1, 0, 7, 1, by decide +kernel⟩

theorem test_witness_PowerLineEventsComplete_11 :
    ∃ (s : State) (eix : Nat) (d : PlcDisc), (s.plc.discs.get? eix = some d) ∧ (d.electing = false) ∧ (d.sinceOt * 1000 + s.cfgN 0x4011 2 ≤ s.power.ot * 1000) ∧ (d.rreqs ≤ s.cfgN 0x4011 1) :=
  ⟨(wPlc.onPlc fun x => { x with discs := [(5, wDisc)] }).onPower (fun x => { x with ot := 1000 }), 5, wDisc, by decide +kernel⟩

theorem test_witness_PowerLineEventsComplete_12 :
    ∃ (s : State) (eix : Nat) (d : PlcDisc), (s.plc.discs.get? eix = some d) ∧ (d.electing = true) ∧ (d.sinceOt * 1000 + s.cfgN 0x4012 5 ≤ s.power.ot * 1000) :=
  ⟨(wPlc.onPlc fun x => { x with discs := [(5, { wDisc with electing := true })] }).onPower (fun x => { x with ot := 1000 }), 5, { wDisc with electing := true }, by decide +kernel⟩

theorem test_witness_PowerLineEventsComplete_13 :
    ∃ (s : State) (p short : Nat) (r : PlcRoute), (s.plc.routes.get? (p * 65536 + short) = some r) ∧ (r.expiry ≤ s.power.ot) :=
  ⟨wRoute, 0, 7, { hop := 7, cost := 1, hops := 1 }, by decide +kernel⟩

theorem test_witness_PowerLineEventsComplete_14 :
    ∃ (s : State) (p short t : Nat), ((s.port p).blacklist.get? short = some t) ∧ (t + s.cfgN 0x4011 6 ≤ s.power.ot) :=
  ⟨(wPlc.onPort 0 (fun y => { y with blacklist := [(7, 0)] })).onPower (fun x => { x with ot := 100000000 }), 0, 7, 0, by decide +kernel⟩

theorem test_witness_PowerLineEventsComplete_15 :
    ∃ (s : State) (p what cost e : Nat) (eui data psk : Bytes) (st : Stamp), (s.portUp p = true) ∧ (what ≠ 4) ∧ ((s.lookupSource 0 (padTo 8 eui) p cost (st.sec * 1000000000 + st.ns)).2 = some e) ∧ (s.tbl.findEui (padTo 8 eui) = some e) ∧ (bit (((s.tbl.dir.get? e).map (·.flags)).getD 0) 4 = false) ∧ (s.sec.psks.get? (fromLE (padTo 8 eui)) = some psk) :=
  ⟨wJoin, 0, 0, 0, 5, zeros 8, [], zeros 16, {}, by decide +kernel⟩

theorem test_witness_PowerLineEventsComplete_16 :
    ∃ (s : State) (p what cost : Nat) (eui data : Bytes) (st : Stamp), (s.portUp p = true) ∧ (what ≠ 4) ∧ ((s.lookupSource 0 (padTo 8 eui) p cost (st.sec * 1000000000 + st.ns)).2 = none) ∧ (s.tbl.findEui (padTo 8 eui) = none) :=
  ⟨wPlcBare, 0, 0, 0, zeros 8, [], {}, by decide +kernel⟩

theorem test_witness_PowerLineEventsComplete_17 :
    ∃ (s : State) (eix p : Nat), (s.plc.joined.get? eix = some p) :=
  ⟨wPlc.onPlc (fun x => { x with joined := [(5, 0)] }), 5, 0, by decide +kernel⟩

theorem test_witness_PowerLineEventsComplete_18 :
    ∃ (s : State) (p eix : Nat) (c : Bool) (e : DirEntry), (s.tbl.dir.get? eix = some e) ∧ (e.port = p) ∧ (s.plcUp p = true) ∧ (s.timeDue c workTime eix (s.cfgN 0x4013 0) (s.cfgN 0x4013 1) = true) ∧ (s.setQueued p eix = false) :=
  ⟨wTimeDue, 0, 5, true, { eui := zeros 8, short := 7, port := 0 }, by decide +kernel⟩

theorem test_witness_RadioEventsComplete_1 :
    ∃ (s : State) (n : Nat) (f : RfRx) (c : RfCell) (off : Int), (s.rxCell n f.offset = some (c, off)) ∧ (s.radioUp n = true) ∧ ((s.radio n).s0.isSome = true) ∧ (f.pan = s.rfN n 1) ∧ (s.rfAirtime n f.ackOctets ≤ s.maxAirtime n) ∧ (s.dutyAllows n (s.rfAirtime n f.ackOctets) false = true) ∧ (c = .shared) ∧ (f.relay = none) :=
  ⟨wRfRun, 0, { pan := wRfRun.rfN 0 1, kind := 1, src := [1], payload := [1] }, .shared, 0, by decide +kernel⟩

theorem test_witness_RadioEventsComplete_2 :
    ∃ (s : State) (n asn overhead beacon : Nat) (energy : List Int) (acked : Bool), (s.radioUp n = true) ∧ ((s.radio n).s0.isSome = true) ∧ ((s.radio n).asn ≤ asn) :=
  ⟨wRfRun, 0, 70, 30, 60, [], true, by decide +kernel⟩

theorem test_witness_RadioEventsComplete_3 :
    ∃ (s : State) (n i : Nat), ((s.radio n).waiting = some i) :=
  ⟨wRfEp.onRadio 0 (fun x => { x with waiting := some 0 }), 0, 0, by decide +kernel⟩

theorem test_witness_RadioEventsComplete_4 :
    ∃ (s : State) (n eix : Nat) (z : Sleepy), ((s.radio n).sleepy.get? eix = some z) ∧ (z.state = .synced) :=
  ⟨wRfEp.onRadio 0 (fun x => { x with sleepy := [(5, { sf := 2, wake := 0, epPpm := 0, g := 100 })] }), 0, 5, { sf := 2, wake := 0, epPpm := 0, g := 100 }, by decide +kernel⟩

theorem test_witness_RadioEventsComplete_5 :
    ∃ (s : State) (n : Nat), (n ≤ 3) :=
  ⟨wRfEp, 0, by decide +kernel⟩

theorem test_witness_RadioEventsComplete_6 :
    ∃ (s : State) (n eix : Nat) (z : Sleepy), ((s.radio n).sleepy.get? eix = some z) ∧ (n ≤ 3) ∧ (z.state = .wide) ∧ (s.cfgN 0x5020 5 ≤ z.c) :=
  ⟨wRfEp.onRadio 0 (fun x => { x with sleepy := [(5, { sf := 2, wake := 0, epPpm := 0, g := 100, state := .wide, c := 255 })] }), 0, 5, { sf := 2, wake := 0, epPpm := 0, g := 100, state := .wide, c := 255 }, by decide +kernel⟩

theorem test_witness_RadioEventsComplete_7 :
    ∃ (s : State) (n : Nat), (n ≤ 3) :=
  ⟨wRun, 0, by decide +kernel⟩

theorem test_witness_RadioEventsComplete_8 :
    ∃ (s : State) (n eix : Nat) (c : Bool), (s.portOfEix eix = n + 4) ∧ (s.radioUp n = true) ∧ (s.timeDue c workRfTime eix (s.cfgN 0x5020 6) (s.cfgN 0x5020 7) = true) ∧ ((s.radio n).macq.any (fun f => f.kind = .time && f.eix = some eix) = false) :=
  ⟨wRfDue, 0, 5, true, by decide +kernel⟩

theorem test_witness_TimeEventsComplete_1 :
    ∃ (s : State) (capture : Int) (c sec : Nat) (us : List GateUnit), (s.gate.units = .marker c sec :: us) :=
  ⟨wGate.onGate (fun g => { g with units := [.marker 0 1] }), 0, 0, 1, [], by decide +kernel⟩

theorem test_witness_TimeEventsComplete_2 :
    ∃ (s : State), (s.openRuns = true) ∧ (s.time.markerLost = false) ∧ (s.time.markerOt.getD s.sec.runStartOt + 3 ≤ s.power.ot) :=
  ⟨(wRun.onTime (fun x => { x with markerOt := some 0 })).onPower (fun p => { p with ot := 3 }), by decide +kernel⟩

theorem test_witness_TimeEventsComplete_3 :
    ∃ (s : State) (p : Packet), (s.openRuns = true) ∧ ((s.takeHead 59).1 = some p) :=
  ⟨wRun.onQueue 59 (fun x => { x with pkts := [{ producer := 13, seq := 0, cells := 1, payload := withEdge (zeros 32) }] }), { producer := 13, seq := 0, cells := 1, payload := withEdge (zeros 32) }, by decide +kernel⟩

theorem test_witness_TimeEventsComplete_4 :
    ∃ (s : State), (s.offerAllowed = true) ∧ (s.offerFits = true) ∧ (s.offerWanted = true) :=
  ⟨wOffer, by decide +kernel⟩

theorem test_witness_TimeEventsComplete_5 :
    ∃ (s : State) (port : Nat) (t1 t2 : Int) (count : Nat), (port ≤ 1) ∧ (s.cfgN (0x6010 + port) 0 = 1) ∧ ((s.time.ports.getD port {}).role = .slave) ∧ (((s.adopt 6).cand port).delays.isEmpty = true ∨ count ≠ s.time.stepCount % 256) :=
  ⟨wPtp .slave, 0, 0, 0, 0, by decide +kernel⟩

theorem test_witness_TimeEventsComplete_6 :
    ∃ (s : State) (port : Nat) (t1 t2 : Int), (port ≤ 1) ∧ (s.cfgN (0x6010 + port) 0 = 1) ∧ ((s.time.ports.getD port {}).role = .slave) ∧ (((s.adopt 6).cand port).delays.isEmpty = false) :=
  ⟨(wPtp .slave).onCand 0 (fun x => { x with delays := [0] }), 0, 0, 0, by decide +kernel⟩

theorem test_witness_TimeEventsComplete_7 :
    ∃ (s : State) (port : Nat) (t3 t4 : Int) (count : Nat), (port ≤ 1) ∧ ((s.cand port).haveSync = true) ∧ ((s.cand port).syncCount = count) :=
  ⟨(wPtp .slave).onCand 0 (fun x => { x with haveSync := true, syncCount := 0 }), 0, 0, 0, 0, by decide +kernel⟩

theorem test_witness_TimeEventsComplete_8 :
    ∃ (s : State) (port : Nat) (dataset : List Nat) (gm : Bytes) (utc : Option Int), (port ≤ 1) ∧ (s.cfgN (0x6010 + port) 0 = 1) ∧ ((s.cand port).best = []) ∧ (s.cfgN (0x6010 + port) 1 = 0) :=
  ⟨wPtp .listening, 0, [1, 2], [], none, by decide +kernel⟩

theorem test_witness_TimeEventsComplete_9 :
    ∃ (s : State) (port : Nat), (port ≤ 1) ∧ (s.cfgN (0x6010 + port) 1 = 0) :=
  ⟨wPtp .slave, 0, by decide +kernel⟩

theorem test_witness_TimeEventsComplete_10 :
    ∃ (s : State) (port : Nat), (port ≤ 1) ∧ (s.time.source ≠ some port) :=
  ⟨wPtp .slave, 0, by decide +kernel⟩

theorem test_witness_TimeEventsComplete_11 :
    ∃ (s : State) (port : Nat), (port ≤ 1) ∧ (s.time.source = some port) :=
  ⟨(wPtp .slave).onTime (fun t => { t with source := some 0 }), 0, by decide +kernel⟩

theorem test_witness_TimeEventsComplete_12 :
    ∃ (s : State) (port t : Nat), ((s.cand port).windowSince = some t) ∧ (port ≤ 1) ∧ (t + s.cfgN 0x6000 1 ≤ s.power.ot) ∧ ((s.cand port).up = true) :=
  ⟨((wPtp .slave).onCand 0 (fun c => { c with windowSince := some 0, up := true })).onPower (fun p => { p with ot := 100000000 }), 0, 0, by decide +kernel⟩

theorem test_witness_TimeEventsComplete_13 :
    ∃ (s : State) (port : Nat), (port ≤ 1) ∧ (s.cfg.adopting = []) ∧ ((s.time.ports.getD port {}).role = .master) ∧ ((s.time.ports.getD port {}).link = true) ∧ (2 ≤ s.time.level) ∧ (s.cfgN (0x6010 + port) 4 = 1) :=
  ⟨wMaster, 0, by decide +kernel⟩

theorem test_witness_TimeEventsComplete_14 :
    ∃ (s : State) (port : Nat), (port ≤ 1) ∧ ((s.time.ports.getD port {}).role = .slave) ∧ ((s.time.ports.getD port {}).link = true) :=
  ⟨wPtp .slave, 0, by decide +kernel⟩

theorem test_witness_TimeEventsComplete_15 :
    ∃ (s : State) (port seq t4 : Nat) (requester : Bytes), (port ≤ 1) ∧ ((s.time.ports.getD port {}).role = .master) ∧ (2 ≤ s.time.level) :=
  ⟨wMaster, 0, 1, 0, [], by decide +kernel⟩

theorem test_witness_TimeEventsComplete_16 :
    ∃ (s : State) (port : Nat), (port ≤ 1) :=
  ⟨wRun, 0, by decide +kernel⟩

theorem test_witness_TimeEventsComplete_17 :
    ∃ (s : State) (t : Nat), (s.time.hostSetOt = some t) ∧ (t + s.cfgN 0x6000 6 ≤ s.power.ot) ∧ ((s.cand 2).up = true) :=
  ⟨((wRun.onTime (fun x => { x with hostSetOt := some 0 })).onCand 2 (fun c => { c with up := true })).onPower (fun p => { p with ot := 100000000 }), 0, by decide +kernel⟩

theorem test_witness_TimeEventsComplete_18 :
    ∃ (s : State) (t : Nat), (s.time.holdoverSince = some t) ∧ (s.time.holdoverOver = false) ∧ (t + s.cfgN 0x6000 4 ≤ s.power.ot) :=
  ⟨(wRun.onTime (fun x => { x with holdoverSince := some 0, level := 4 })).onPower (fun p => { p with ot := 100000000 }), 0, by decide +kernel⟩

theorem test_witness_TimeEventsComplete_19 :
    ∃ (s : State) (port seq action : Nat) (tlv : Bytes), (port ≤ 1) ∧ (s.cfgN (0x6010 + port) 0 = 1) :=
  ⟨wPtp .slave, 0, 1, 0, [], by decide +kernel⟩

theorem test_witness_TableEventsComplete_1 :
    ∃ (s : State) (kind port cost stamp mismatches ecc : Nat) (key : Bytes), (s.fogN 4 = 0) ∧ (s.tbl.pipes.any id = true) ∧ (s.tbl.pipes.all id = true ∨ mismatches < 2) :=
  ⟨wRun, 0, 0, 0, 0, 0, 0, [], by decide +kernel⟩

theorem test_witness_TableEventsComplete_2 :
    ∃ (s : State) (number slot : Nat) (n : LearnNotice), (s.tbl.notices.find? (fun p => p.2.number = number) = some (slot, n)) ∧ (s.openRuns = true) ∧ (n.eix = noEix) ∧ (n.raised = false) :=
  ⟨wNotice, 1, 0, wNote, by decide +kernel⟩

theorem test_witness_TableEventsComplete_3 :
    ∃ (s : State) (number slot : Nat) (n : LearnNotice) (e : DirEntry) (g : Sighting) (gs : List Sighting), (s.tbl.notices.find? (fun p => p.2.number = number) = some (slot, n)) ∧ (s.openRuns = true) ∧ (n.eix ≠ noEix) ∧ (s.tbl.dir.get? n.eix = some e) ∧ (n.sightings = g :: gs) ∧ (s.tbl.rebuild = none) ∧ (e.port = 0xF) :=
  ⟨wSighted, 1, 0, { wNote with eix := 5, sightings := [{ port := 0, cost := 1, ms := 0 }] }, { eui := zeros 8, short := 7, port := 0xF }, { port := 0, cost := 1, ms := 0 }, [], by decide +kernel⟩

theorem test_witness_TableEventsComplete_4 :
    ∃ (s : State) (number slot : Nat) (n : LearnNotice), (s.tbl.notices.find? (fun p => p.2.number = number) = some (slot, n)) ∧ (n.eix = noEix) ∧ (n.otSince + s.cfgN 0x7000 4 ≤ s.power.ot) :=
  ⟨wNotice.onPower (fun p => { p with ot := 100000000 }), 1, 0, wNote, by decide +kernel⟩

theorem test_witness_TableEventsComplete_5 :
    ∃ (s : State) (us : Nat) (r : Rebuild) (t : Tbl), (s.tbl.rebuild = some r) ∧ (s.rebuilt r = some t) :=
  ⟨wRun.onTbl (fun t => { t with rebuild := some wReb }), 9, wReb, ((wRun.onTbl (fun t => { t with rebuild := some wReb })).rebuilt wReb).getD wRun.tbl, by decide +kernel⟩

theorem test_witness_TableEventsComplete_6 :
    ∃ (s : State), (s.cfgN 0x7000 0 = 1) ∧ (s.tbl.lastPassOt + s.cfgN 0x7000 1 ≤ s.power.ot) :=
  ⟨(wSet wRun 0x7000 0 1).onPower (fun p => { p with ot := 100000000 }), by decide +kernel⟩

theorem test_witness_TableEventsComplete_7 :
    ∃ (s : State) (region group : Nat) (upset : List Nat), (region ≠ 5) :=
  ⟨wRun, 0, 0, [], by decide +kernel⟩

theorem test_witness_TableEventsComplete_8 :
    ∃ (s : State) (group : Nat), (s.tbl.damaged = []) :=
  ⟨wRun, 0, by decide +kernel⟩

theorem test_witness_TierAndUploadEventsComplete_1 :
    ∃ (s : State) (n : Nat) (b : BatchEntry) (d : Bytes), (s.role ≠ 2) ∧ (s.headendAddr ≠ zeros 16) ∧ (s.store.batches.get? n = some b) ∧ (b.complete = true) ∧ (b.delivered = false) ∧ (s.sec.uploads.any (·.batch = n) = false) ∧ (s.sec.uploads.length < s.cfgN 0xB000 5) ∧ (s.batchBytes n = some d) :=
  ⟨wUpload, 1, { header := 0, trailer := 1, first := 0, cells := 0, complete := true, delivered := false }, (wUpload.batchBytes 1).getD [], by decide +kernel⟩

theorem test_witness_TierAndUploadEventsComplete_2 :
    ∃ (s : State) (n : Nat), (s.sec.uploads.any (·.batch = n) = true) :=
  ⟨wUpload.onSec (fun x => { x with uploads := [{ batch := 1, attempts := 0 }] }), 1, by decide +kernel⟩

theorem test_witness_TierAndUploadEventsComplete_3 :
    ∃ (s : State) (n m : Nat), ((s.tier.relay.getD m []).contains n = true) :=
  ⟨wTier.onTier (fun t => { t with relay := [(1, [7])] }), 7, 1, by decide +kernel⟩

theorem test_witness_TierAndUploadEventsComplete_4 :
    ∃ (s : State) (n : Nat) (u : Upload) (d : Bytes), (s.role ≠ 2) ∧ (s.sec.uploads.find? (·.batch = n) = some u) ∧ (u.attempts < s.cfgN 0xB000 7) ∧ (s.batchBytes n = some d) :=
  ⟨wUpload.onSec (fun x => { x with uploads := [{ batch := 1, attempts := 0 }] }), 1, { batch := 1, attempts := 0 }, (wUpload.batchBytes 1).getD [], by decide +kernel⟩

theorem test_witness_TierAndUploadEventsComplete_5 :
    ∃ (s : State) (m : Nat) (p : Peer), (s.tierOn = true) ∧ (s.tier.peers.get? m = some p) ∧ (p.live = true) ∧ (p.lastOt + 5 ≤ s.power.ot) :=
  ⟨wTier, 1, { live := true }, by decide +kernel⟩

theorem test_witness_TierAndUploadEventsComplete_6 :
    ∃ (s : State), (s.tierOn = true) :=
  ⟨wTier, by decide +kernel⟩

theorem test_witness_TierAndUploadEventsComplete_7 :
    ∃ (s : State) (t : Nat), (s.tier.managerLostOt = some t) ∧ (s.tier.lossDays < (s.power.ot - t) / 86400) ∧ (s.cfgN 0xE000 5 < (s.power.ot - t) / 86400) :=
  ⟨(wTier.onTier fun x => { x with managerLostOt := some 0 }).onPower (fun p => { p with ot := 86400000 }), 0, by decide +kernel⟩

theorem test_witness_BalanceEventsComplete_1 :
    ∃ (s : State) (n : Nat), (n ≤ 11) ∧ (s.openRuns = true) ∧ ((s.node n).solving = none) ∧ (s.nodeExists n = true) ∧ (s.cfgN 0x2000 0 ≠ 0) :=
  ⟨wNode, 0, by decide +kernel⟩

theorem test_witness_BalanceEventsComplete_2 :
    ∃ (s : State) (n t : Nat), (s.nodeExists n = true) ∧ (s.cfgN 0x2000 0 = 1) ∧ (s.openRuns = true) ∧ (t % s.balLen = 0) ∧ ((s.node n).ints.has t = false) ∧ (s.time.nt.sec < t + thirtyDays) ∧ (((t + s.cfgN 0x2000 4 : Nat) : Int) * 1000000000 < s.alignedNt) ∧ ((s.node n).due.contains t = false) :=
  ⟨wNodeLate, 0, 0, by decide +kernel⟩

theorem test_witness_BalanceEventsComplete_3 :
    ∃ (s : State) (n : Nat) (i : SolveIn), ((s.node n).solving = some i) ∧ (s.openRuns = true) :=
  ⟨wNode.onNode 0 (fun x => { x with solving := some wSolve }), 0, wSolve, by decide +kernel⟩

theorem test_witness_BalanceEventsComplete_4 :
    ∃ (s : State) (eix : Nat) (m : Member), (s.bal.members.get? eix = some m) ∧ (s.openRuns = true) ∧ (s.cfgN 0x2000 0 = 1) ∧ (m.silent = false) ∧ (m.lastOt + s.cfgN 0x2000 5 ≤ s.power.ot) :=
  ⟨(wNode.onBal fun b => { b with members := [(5, wMem)] }).onPower (fun p => { p with ot := 100000000 }), 5, wMem, by decide +kernel⟩

theorem test_witness_BalanceEventsComplete_5 :
    ∃ (s : State) (sec : Nat), (s.bal.rebuilding = true) ∧ (s.openRuns = true) ∧ (s.store.mapReady = true) :=
  ⟨wRun.onStore (fun t => { t with mapReady := true }), 3, by decide +kernel⟩

theorem test_witness_BalanceEventsComplete_6 :
    ∃ (s : State) (p : Packet), (s.openRuns = true) ∧ ((s.takeHead 56).1 = some p) ∧ ((((s.takeHead 56).2.fabric.lastNotice.get? 56).map (·.skipped)).getD 0 = 0) ∧ (s.cfgN 0x2000 0 = 1) :=
  ⟨wNode.onQueue 56 (fun x => { x with pkts := [wHead56] }), wHead56, by decide +kernel⟩

theorem test_witness_DistributionEventsComplete_1 :
    ∃ (s : State) (c : Nat) (x : Campaign), (s.camps.get? c = some x) ∧ (x.phase = .loading) ∧ (s.openRuns = true) ∧ ((x.kind ≠ 1 ∨ s.sec.trngStopped = false)) :=
  ⟨wCampIn .loading, 0, { wCampaign with phase := .loading }, by decide +kernel⟩

theorem test_witness_DistributionEventsComplete_2 :
    ∃ (s : State) (c : Nat) (f : DistFrame) (rest : List DistFrame) (x : Campaign), (s.camps.get? c = some x) ∧ (x.phase = .round) ∧ (s.openRuns = true) ∧ (s.power.thermalLevel = 0) ∧ (x.left = f :: rest) :=
  ⟨wCampRound, 0, .source 0, [.source 1], { wCampaign with phase := .round, left := [.source 0, .source 1] }, by decide +kernel⟩

theorem test_witness_DistributionEventsComplete_3 :
    ∃ (s : State) (c eix : Nat) (nums : List Nat) (data : Bytes) (x : Campaign) (m : DistMember) (r : DistReq), (s.camps.get? c = some x) ∧ (x.members.get? eix = some m) ∧ (m.request = some r) ∧ (s.openRuns = true) :=
  ⟨wCampMember, 0, 5, [], [], { wCampaign with phase := .preparing, members := [(5, wDistMem)] }, wDistMem, .attribute3, by decide +kernel⟩

theorem test_witness_DistributionEventsComplete_4 :
    ∃ (s : State) (c eix : Nat) (m : DistMember), ((s.camps.get? c).bind (fun x => x.members.get? eix) = some m) ∧ (m.request.isSome = true) ∧ (s.openRuns = true) :=
  ⟨wCampMember, 0, 5, wDistMem, by decide +kernel⟩

theorem test_witness_DistributionEventsComplete_5 :
    ∃ (s : State) (c : Nat) (x : Campaign), (s.camps.get? c = some x) ∧ (x.phase ≠ .defined) ∧ (x.phase ≠ .loading) ∧ (x.phase ≠ .ended) ∧ (s.openRuns = true) ∧ (x.due = false) ∧ (x.actNt ≠ 0) ∧ (x.actNt ≤ s.time.nt.sec) ∧ (2 ≤ s.time.level) :=
  ⟨wCampDue, 0, wDueCamp, by decide +kernel⟩

theorem test_witness_DistributionEventsComplete_6 :
    ∃ (s : State) (c eix : Nat) (x : Campaign) (m : DistMember), (s.camps.get? c = some x) ∧ (x.members.get? eix = some m) ∧ (x.kind = 1) ∧ ((m.state = .verify ∨ m.state = .activate)) ∧ (m.request = none) ∧ (s.openRuns = true) :=
  ⟨wCampVerify, 0, 5, { wCampaign with phase := .preparing, members := [(5, wVerMem)] }, wVerMem, by decide +kernel⟩

theorem test_witness_DistributionEventsComplete_7 :
    ∃ (s : State) (c eix : Nat) (x : Campaign) (m : DistMember), (s.camps.get? c = some x) ∧ (x.members.get? eix = some m) ∧ (x.kind = 1) ∧ ((m.state = .verify ∨ m.state = .activate)) ∧ (m.since + s.cfgN 0xC000 8 ≤ s.power.ot) ∧ (s.openRuns = true) :=
  ⟨wCampVerify.onPower (fun p => { p with ot := 100000000 }), 0, 5, { wCampaign with phase := .preparing, members := [(5, wVerMem)] }, wVerMem, by decide +kernel⟩

theorem test_witness_PanelAndProvingEventsComplete_1 :
    ∃ (s : State), (s.panelUp = true) ∧ (s.panel.rails = .on) ∧ (s.panelSafePoint.panelUp = true) ∧ (s.panelSafePoint.panel.rails = .on) :=
  ⟨wPanel.onPanel (fun p => { p with rails := .on }), by decide +kernel⟩

theorem test_witness_PanelAndProvingEventsComplete_2 :
    ∃ (s : State), (s.panelUp = true) :=
  ⟨wPanel, by decide +kernel⟩

theorem test_witness_PanelAndProvingEventsComplete_3 :
    ∃ (s : State), (s.panelUp = true) ∧ (s.panel.rails = .waking) ∧ (s.panel.attempts < 2) :=
  ⟨wPanel.onPanel (fun p => { p with rails := .waking }), by decide +kernel⟩

theorem test_witness_PanelAndProvingEventsComplete_4 :
    ∃ (s : State), (s.panelUp = true) ∧ (s.panel.rails = .waking) ∧ (2 ≤ s.panel.attempts) :=
  ⟨wPanel.onPanel (fun p => { p with rails := .waking, attempts := 2 }), by decide +kernel⟩

theorem test_witness_PanelAndProvingEventsComplete_5 :
    ∃ (s : State), (s.panel.rails = .on) ∧ (s.panel.scanning = false) ∧ (s.panel.active = []) ∧ (s.panel.queue = []) ∧ (s.panel.blinks = []) ∧ (s.panel.lastFrameOt * 1000 + s.panelN 12 < (s.power.ot + 1) * 1000) :=
  ⟨(wPanel.onPanel (fun p => { p with rails := .on })).onPower (fun p => { p with ot := 100000000 }), by decide +kernel⟩

theorem test_witness_PanelAndProvingEventsComplete_6 :
    ∃ (s : State), (s.panel.rails = .on) ∧ (s.panel.scanning = true) :=
  ⟨wPanel.onPanel (fun p => { p with rails := .on, scanning := true }), by decide +kernel⟩

theorem test_witness_PanelAndProvingEventsComplete_7 :
    ∃ (s : State) (t h : Nat), (s.panel.sheetHold = some (t, h)) ∧ (s.openRuns = true) ∧ (t + h ≤ s.power.ot) :=
  ⟨wPanel.onPanel (fun p => { p with sheetHold := some (0, 0) }), 0, 0, by decide +kernel⟩

theorem test_witness_PanelAndProvingEventsComplete_8 :
    ∃ (s : State) (t : Int), (s.openRuns = true) ∧ (s.panelN 0 = 1) ∧ (s.panelN 4 = 0) ∧ (s.panel.packageSource = false) :=
  ⟨wPanel, 20, by decide +kernel⟩

theorem test_witness_PanelAndProvingEventsComplete_9 :
    ∃ (s : State), (s.openRuns = true) ∧ (s.panelN 0 = 1) ∧ (s.panelN 4 = 0) ∧ (s.panel.packageSource = false) ∧ (2 ≤ s.panel.failedReads) :=
  ⟨wPanel.onPanel (fun p => { p with failedReads := 2 }), by decide +kernel⟩

theorem test_witness_PanelAndProvingEventsComplete_10 :
    ∃ (s : State), (s.beingProved = true) ∧ (s.cfg.paused = false) ∧ (s.cfg.remaining = 0) ∧ (bit (s.proveCfg 1) 2 = false) :=
  ⟨wProving, by decide +kernel⟩

end Sys2Proof.Tests
end

section
/-! The scope's statements: every step answers a state (R21), the lowest or the first failing status (R22), little-endian numbers and
the edge code (R8, R15), and the system commands (R432, R436, R460). -/

namespace Sys2Proof.Proofs
open Sys2Proof Sys2Proof.Machine Sys2Proof.Laws

/-! ### Every command answers (R21, R449) -/

/-- Each command's meaning has the form `.next t` in all of its branches. -/
theorem exec_completes (i : Instr) (s : State) : ∃ t, exec i s = .next t := by
  cases i <;> exact ⟨_, rfl⟩

/-- Settles O2: an idle block stays as it is, and a waiting command answers. -/
theorem everyStepCompletes : Obligations.EveryStepCompletes := by
  intro s
  unfold step
  cases s.pending with
  | nil => exact ⟨s, rfl⟩
  | cons c rest => exact exec_completes c { s with pending := rest }

/-! ### The lowest failing status, and the first (R22) -/

theorem firstFailure_eq_none_iff {l : List (Bool × Nat)} : firstFailure l = none ↔ ∀ x ∈ l, x.1 = false :=
  ⟨firstFailure_none, fun h => foldl_lowest_pass h none⟩

/-- What the search returns, started with a status found before: one it has met, and none it has met is lower. -/
theorem foldl_lowest_least {l : List (Bool × Nat)} {m : Option Nat} {k : Nat} (h : l.foldl lowest m = some k) :
    (m = some k ∨ (true, k) ∈ l) ∧ (∀ j ∈ m, k ≤ j) ∧ ∀ x ∈ l, x.1 = true → k ≤ x.2 := by
  induction l generalizing m with
  | nil =>
    obtain rfl : m = some k := h
    simp
  | cons c l ih =>
    obtain ⟨hfound, hstart, hrest⟩ := ih h
    obtain ⟨failed, status⟩ := c
    match failed, m with
    | false, m => exact ⟨by simpa [lowest] using hfound, hstart, by simpa using hrest⟩
    | true, none =>
      have hk : k ≤ status := hstart status rfl
      exact ⟨by simpa [lowest, eq_comm] using hfound, nofun, by simpa [hk] using hrest⟩
    | true, some j =>
      have hk : k ≤ min j status := hstart _ rfl
      have hj : k ≤ j := Nat.le_trans hk (Nat.min_le_left j status)
      have hstatus : k ≤ status := Nat.le_trans hk (Nat.min_le_right j status)
      refine ⟨?met, fun i hi => ?start, by simpa [hstatus] using hrest⟩
      case met => grind [lowest]
      case start =>
        obtain rfl : j = i := Option.some.inj hi
        exact hj

theorem firstFailure_least {l : List (Bool × Nat)} {k : Nat} (h : firstFailure l = some k) :
    (true, k) ∈ l ∧ ∀ x ∈ l, x.1 = true → k ≤ x.2 := by
  obtain ⟨hfound, -, hleast⟩ := foldl_lowest_least h
  exact ⟨hfound.resolve_left nofun, hleast⟩

theorem orderedFailure_first {l : List (Bool × Nat)} {k : Nat} (h : orderedFailure l = some k) :
    ∃ pre post, l = pre ++ (true, k) :: post ∧ ∀ x ∈ pre, x.1 = false := by
  obtain ⟨⟨failed, status⟩, hfind, rfl⟩ := Option.map_eq_some_iff.mp h
  obtain ⟨hfailed, pre, post, hl, hpre⟩ := List.find?_eq_some_iff_append.mp hfind
  obtain rfl : failed = true := hfailed
  exact ⟨pre, post, hl, by simpa using hpre⟩

/-- Settles O10. -/
theorem lowestOrFirstFailingStatus : Obligations.LowestOrFirstFailingStatus :=
  ⟨fun _ => firstFailure_eq_none_iff, fun _ _ => firstFailure_least, fun _ _ => orderedFailure_first⟩

/-! ### Numbers in little-endian bytes (R8) -/

@[simp] theorem le_length (n v : Nat) : (le n v).length = n := by
  induction n generalizing v with
  | zero => rfl
  | succ n ih => simp [le, ih]

theorem fromLE_le (n v : Nat) : fromLE (le n v) = v % 256 ^ n := by
  induction n generalizing v with
  | zero => simp [le, fromLE, Nat.mod_one]
  | succ n ih => simp [le, fromLE, ih, Nat.pow_succ', Nat.mod_mul]

theorem le_fromLE (b : Bytes) : le b.length (fromLE b) = b := by
  induction b with
  | nil => rfl
  | cons x b ih =>
    have hlow : BitVec.ofNat 8 (x.toNat + 256 * fromLE b) = x := by bv_omega
    have hhigh : (x.toNat + 256 * fromLE b) / 256 = fromLE b := by omega
    simp [le, fromLE, hlow, hhigh, ih]

/-- The two's complement of a number in range is itself, or lies one period above it when it is negative. -/
theorem toSigned_fromLE_leI {n : Nat} {v : Int} (hn : 0 < n) (hlo : -(2 ^ (8 * n - 1) : Int) ≤ v) (hhi : v < (2 ^ (8 * n - 1) : Int)) :
    toSigned n (fromLE (leI n v)) = v := by
  have hperiod : 2 ^ (8 * n) = 2 * 2 ^ (8 * n - 1) := by rw [← Nat.pow_succ']; congr 1; omega
  have hbytes : 256 ^ n = 2 ^ (8 * n) := by rw [Nat.pow_mul]
  have hhalf : ((2 ^ (8 * n - 1) : Nat) : Int) = 2 ^ (8 * n - 1) := by norm_cast
  unfold toSigned leI
  rw [fromLE_le, hbytes, hperiod]
  rw [← hhalf] at hlo hhi
  generalize 2 ^ (8 * n - 1) = half at *
  obtain hneg | hpos := Int.lt_or_le v 0
  · have hv : v % ((2 * half : Nat) : Int) = v + (2 * half : Nat) := by
      rw [← Int.add_emod_right, Int.emod_eq_of_lt (by omega) (by omega)]
    rw [hv, Nat.mod_eq_of_lt (by omega), if_neg (by omega)]
    omega
  · rw [Int.emod_eq_of_lt hpos (by omega), Nat.mod_eq_of_lt (by omega), if_pos (by omega)]
    omega

/-! ### The edge code (R15) -/

theorem crcBit_lt {c : Nat} (h : c < 2 ^ 32) : crcBit c < 2 ^ 32 := by
  have hhalf : c / 2 < 2 ^ 32 := by omega
  unfold crcBit
  split
  · exact Nat.xor_lt_two_pow hhalf (by decide)
  · exact hhalf

theorem crcByte_lt {c : Nat} (b : Byte) (h : c < 2 ^ 32) : crcByte c b < 2 ^ 32 := by
  have hbyte : Nat.xor c b.toNat < 2 ^ 32 := Nat.xor_lt_two_pow h (by omega)
  unfold crcByte
  iterate 8 apply crcBit_lt
  exact hbyte

theorem foldl_crcByte_lt (b : Bytes) {c : Nat} (h : c < 2 ^ 32) : b.foldl crcByte c < 2 ^ 32 := by
  induction b generalizing c with
  | nil => exact h
  | cons x b ih => exact ih (crcByte_lt x h)

/-- The edge code fits its four bytes. -/
theorem edgeCode_lt (b : Bytes) : edgeCode b < 2 ^ 32 :=
  Nat.xor_lt_two_pow (foldl_crcByte_lt b (by decide)) (by decide)

/-- Bytes followed by four more pass the check exactly when the four are their edge code. -/
theorem edgeOk_append_iff {b x : Bytes} (hx : x.length = 4) : edgeOk (b ++ x) = true ↔ x = le 4 (edgeCode b) := by
  have hcode : edgeOk (b ++ x) = true ↔ fromLE x = edgeCode b := by
    simp [edgeOk, getLE, slice, hx, List.take_of_length_le]
  rw [hcode]
  constructor
  · intro h
    rw [← h, ← hx, le_fromLE]
  · rintro rfl
    exact (fromLE_le 4 _).trans (Nat.mod_eq_of_lt (edgeCode_lt b))

/-- Settles O13. -/
theorem edgeCodesAndNumbersRoundTrip : Obligations.EdgeCodesAndNumbersRoundTrip := by
  refine ⟨fun b => ?pass, fun b x hx hne => ?fail, fun n v => ⟨fromLE_le n v, le_length n v⟩, fun n v => toSigned_fromLE_leI⟩
  case pass => exact (edgeOk_append_iff (le_length 4 _)).mpr rfl
  case fail => exact Bool.eq_false_iff.mpr (mt (edgeOk_append_iff hx).mp hne)

/-! ### Commands that end with DONE (R21, R450) -/

/-- An accepted command whose checks pass and whose body answers DONE ends with DONE on the state its body leaves. -/
theorem serve_done {s t : State} {op : Nat} {c : HostCmd} {checks : State → List (Bool × Nat)} {body : State → State × Reply}
    {post : State → State} {d : Bytes} (ha : s.accepts op c = true) (hk : ∀ x ∈ checks s, x.1 = false)
    (hb : body (s.taken op c) = (t, .done d)) : s.serve op c checks body post = post (t.ends op c stDone d) := by
  rw [serve_accepted ha hk, hb]
  rfl

theorem lenIs_passes {c : HostCmd} {n : Nat} (h : c.req.length = n) : ∀ x ∈ [lenIs c n], x.1 = false := by
  simp [lenIs, h]

/-- Settles O25: three queries, an echo, a drawn measurement, and two orders that follow their completion. -/
theorem systemCommandsComplete : Obligations.SystemCommandsComplete := by
  refine ⟨fun s c ha hn => ?ident, fun s c ha hn => ?echo, fun s c ha hn => ?mbxStatus, fun s c ha hn => ?powerStatus,
    fun s c ha hn => ?restart, fun s c ha hn => ?shutdown, fun s c ha hn => ?clocks⟩ <;> refine congrArg Host.Outcome.next ?_
  case ident | mbxStatus | clocks => exact serveQuery_accepted ha hn rfl
  case echo => exact serve_done ha (by simpa using hn) rfl
  case powerStatus | restart | shutdown => exact serve_done ha (lenIs_passes hn) rfl

end Sys2Proof.Proofs
end

section
/-! The reading path: received frames, profile reads, meter orders and the copies of sealed records (R24 to R28, R171, R182, R321). -/

namespace Sys2Proof.Proofs
open Sys2Proof Sys2Proof.Machine Sys2Proof.Laws

/-! ### Received frames (R24, R27) -/

section
variable {s t u : State} {q e : Nat} {p : Packet} (hq : q ≤ 7) (hrun : s.openRuns = true)
include hq hrun

theorem receivedFrame_of_noHead (htake : s.takeHead q = (none, t)) : s.receivedFrame q = t := by
  simp [State.receivedFrame, hrun, Nat.not_lt.mpr hq, htake]

theorem receivedFrame_of_unresolved (htake : s.takeHead q = (some p, t)) (hsource : t.resolveFrame p.body = (u, none)) :
    s.receivedFrame q = u := by
  simp [State.receivedFrame, hrun, Nat.not_lt.mpr hq, htake, hsource]

/-- A resolved general-glo APDU (tag 0xDB) in a DLMS wrapper is a candidate reading when it is addressed to the client; the tag is none
that ends a profile read. -/
theorem receivedFrame_of_ciphered (htake : s.takeHead q = (some p, t)) (hsource : t.resolveFrame p.body = (u, some e))
    (hopen : u.tbl.last.isBlocked = false) (hnotice : u.tbl.pendingNotice (getLE 0 1 p.body) (frameKey p.body) = false)
    (hudp : getLE 24 2 p.body = 4059) (hversion : getBE 0 2 (p.body.drop 28) = 1) (hlen : 9 ≤ (p.body.drop 28).length)
    (htag : getLE 0 1 ((p.body.drop 28).drop 8) = 0xDB) :
    s.receivedFrame q = if getBE 4 2 (p.body.drop 28) = clientPort then
        u.candidateReading e (getLE 1 1 p.body) (getLE 12 8 p.body) (getLE 20 4 p.body) ((p.body.drop 28).drop 8)
      else u := by
  unfold State.receivedFrame
  rw [if_neg (by simp [hrun, hq]), htake]
  by_cases hport : getBE 4 2 (p.body.drop 28) = clientPort
  · simp [-List.drop_drop, -List.length_drop, hsource, hopen, hnotice, hudp, hversion, hport, htag, Nat.not_lt.mpr hlen]
  · simp [hsource, hopen, hnotice, hport]

end

/-! ### Profile reads (R26) -/

theorem profileRead_of_free {s : State} {eix : Nat} {e : DirEntry} (hdir : s.tbl.dir.get? eix = some e) (hport : e.port ≤ 7)
    (hrun : s.openRuns = true)
    (hfree : (s.cp.profileReads.filter (fun r => decide (r.1 = e.port) && decide (r.2 ≠ eix))).length < 4) :
    s.profileRead eix = (s.onCp fun c => { c with
      profileReads := c.profileReads.filter (fun r => r.2 ≠ eix) ++ [(e.port, eix)]
      profileWait := c.profileWait.filter (· ≠ eix) }).sendEndpoint eix (profileGet Config.profileObis
        (cosemDate s.time.utcOffset (s.lastCellEnd eix : Int)) (cosemDate s.time.utcOffset (s.time.nt.sec : Int))) := by
  simp only [State.profileRead, hdir]
  rw [if_neg (by simp [hport, hrun]), if_neg (Nat.not_le.mpr hfree)]

/-! ### Meter orders (R182) -/

section
variable {s : State} {eix : Nat} {o : Order} (horder : s.cp.orders.get? eix = some o)
include horder

theorem orderAttempt_due (hopen : o.finished = false) (hget : o.getSent = false) (hdue : o.nextOt ≤ s.power.ot)
    (hrun : s.openRuns = true) (hpower : s.power.pfw = false) :
    s.orderAttempt eix = (s.onCp fun c => { c with orders := c.orders.set eix { o with
      attempts := o.attempts + 1
      lastOt := s.power.ot
      nextOt := attemptOt o.startOt (o.attempts + 1)
      awaiting := true } }).sendEndpoint eix o.apdu := by
  simp [State.orderAttempt, horder, hopen, hget, Nat.not_lt.mpr hdue, hrun, hpower]

theorem orderResponse_inTime (hopen : o.finished = false) (hwait : o.awaiting = true) (htime : s.power.ot ≤ o.lastOt + 10) :
    s.orderResponse eix = (s.onCp fun c => { c with orders := c.orders.set eix { o with
      awaiting := false
      getSent := true } }).sendEndpoint eix (controlStateGet (s.dcObis eix)) := by
  simp [State.orderResponse, horder, hopen, hwait, Nat.not_lt.mpr htime]

theorem finishOrder_held (outcome : Nat) :
    s.finishOrder eix outcome = (s.onCp fun c => { c with orders := c.orders.set eix { o with
      finished := true
      outcome := outcome
      awaiting := false
      getSent := false
      lastDone := o.number } }).orderOutcome eix outcome o.number := by
  simp [State.finishOrder, horder]

theorem controlStateRead_asked (result : Option Nat) (hopen : o.finished = false) (hget : o.getSent = true) :
    s.controlStateRead eix result = s.finishOrder eix (controlOutcome o.kind result) := by
  simp [State.controlStateRead, horder, hopen, hget]

theorem execOrderGetTimeout_asked (hopen : o.finished = false) (hget : o.getSent = true) :
    execOrderGetTimeout eix s = .next (s.finishOrder eix 1) := by
  simp [execOrderGetTimeout, horder, hopen, hget]

/-- The window of an attempt that is not before the 600 s one, on an order not yet reported. -/
theorem orderWindow_undelivered (hopen : o.finished = false) (hwait : o.awaiting = true) (hover : o.lastOt + 10 ≤ s.power.ot)
    (hlast : 4 ≤ o.attempts) (hnew : o.undelivered = false) :
    s.orderWindow eix = (s.onCp fun c => { c with orders := c.orders.set eix { o with
      awaiting := false
      undelivered := true
      outcome := 3 } }).orderOutcome eix 3 o.number := by
  simp [State.orderWindow, horder, hopen, hwait, Nat.not_lt.mpr hover, hlast, hnew]

end

/-! ### Copies of sealed records (R171, R321) -/

theorem cpSealed_of_head {s t : State} {p : Packet} (hrun : s.openRuns = true) (htake : s.takeHead 58 = (some p, t)) :
    let post := !t.cp.preStart.contains p.body
    s.cpSealed = ((t.onCp fun c => { c with preStart := c.preStart.erase p.body }).rereadLedger
      (getLE 0 1 p.body, p.body.drop 12) post).sealedCopy (getLE 0 1 p.body) (p.body.drop 12) post := by
  simp [State.cpSealed, hrun, htake]

/-- Settles O51. -/
theorem readingAndOrderEventsComplete : Obligations.ReadingAndOrderEventsComplete := by
  refine ⟨fun s q p hq hrun hhead hsource => ?unresolved,
    fun s q e p hq hrun hhead hsource hopen hnotice hudp hversion hlen htag => ?ciphered,
    fun s q hq hrun hhead => ?noHead, fun s eix e hdir hport hrun hfree => ?profile,
    fun s eix o horder hopen hget hdue hrun hpower => ?attempt, fun s eix o horder hopen hwait htime => ?response,
    fun s eix o result horder hopen hget => ⟨?answered, ?silent⟩,
    fun s eix o horder hopen hwait hover hlast hnew => ?window, fun s p hrun hhead => ?copy⟩
  case unresolved => exact congrArg Host.Outcome.next (receivedFrame_of_unresolved hq hrun (Prod.ext hhead rfl) (Prod.ext rfl hsource))
  case ciphered =>
    exact congrArg Host.Outcome.next (receivedFrame_of_ciphered hq hrun (Prod.ext hhead rfl) (Prod.ext rfl hsource) hopen hnotice
      hudp hversion hlen htag)
  case noHead => exact congrArg Host.Outcome.next (receivedFrame_of_noHead hq hrun (Prod.ext hhead rfl))
  case profile => exact congrArg Host.Outcome.next (profileRead_of_free hdir hport hrun hfree)
  case attempt => exact congrArg Host.Outcome.next (orderAttempt_due horder hopen hget hdue hrun hpower)
  case response => exact congrArg Host.Outcome.next (orderResponse_inTime horder hopen hwait htime)
  case answered =>
    exact congrArg Host.Outcome.next ((controlStateRead_asked horder result hopen hget).trans (finishOrder_held horder _))
  case silent =>
    exact (execOrderGetTimeout_asked horder hopen hget).trans (congrArg Host.Outcome.next (finishOrder_held horder 1))
  case window => exact congrArg Host.Outcome.next (orderWindow_undelivered horder hopen hwait hover hlast hnew)
  case copy => exact congrArg Host.Outcome.next (cpSealed_of_head hrun (Prod.ext hhead rfl))

end Sys2Proof.Proofs
end

section
/-! The sealed partition: the commands that reach the sealed die's gate, its metrology mirror and the fog registers (R81, R111, R519,
R522), the gate link (R61, R66, R67), and the sealed die's messages, sessions and start (R541, R63 to R82). -/

namespace Sys2Proof.Proofs
open Sys2Proof Sys2Proof.Machine Sys2Proof.Laws

/-! ### Served commands that read the store, wait for work, or fail (R22, R451) -/

/-- A read that meets no record of an offline partition ends with DONE and its data. -/
theorem serveRead_accepted {s : State} {op n : Nat} {c : HostCmd} {bad offline : State → Bool} {data : State → Bytes}
    (ha : s.accepts op c = true) (hn : c.req.length = n) (hb : bad s = false) (ho : offline s = false) :
    s.serveRead op c n bad offline data = (s.taken op c).ends op c stDone (data (s.taken op c)) :=
  serve_done ha (by simp [lenIs, badField, hn, hb, ho]) rfl

/-- A command whose one answer follows later leaves its body's state. -/
theorem serve_later {s t : State} {op : Nat} {c : HostCmd} {checks : State → List (Bool × Nat)} {body : State → State × Reply}
    {post : State → State} (ha : s.accepts op c = true) (hk : ∀ x ∈ checks s, x.1 = false)
    (hb : body (s.taken op c) = (t, .later)) : s.serve op c checks body post = t := by
  rw [serve_accepted ha hk, hb]

/-- A command whose work goes on is answered with ACCEPTED, which is not its last completion (R451). -/
theorem serve_ends_accepted {s t : State} {op : Nat} {c : HostCmd} {checks : State → List (Bool × Nat)} {body : State → State × Reply}
    {post : State → State} (ha : s.accepts op c = true) (hk : ∀ x ∈ checks s, x.1 = false)
    (hb : body (s.taken op c) = (t, .accepted)) : s.serve op c checks body post = post (t.ends op c stAccepted [] false) := by
  rw [serve_accepted ha hk, hb]
  rfl

theorem accepts_not_tagInFlight {s : State} {op : Nat} {c : HostCmd} (ha : s.accepts op c = true) : s.tagInFlight c = false := by
  have hframe : s.frameBad c = false := firstFailure_none (accepts_iff.mp ha).2 (s.frameBad c, stBadField) (by simp)
  simp only [State.frameBad, Bool.or_eq_false_iff] at hframe
  exact hframe.2

theorem firstFailure_append_of_none {l k : List (Bool × Nat)} (hl : firstFailure l = none) : firstFailure (l ++ k) = firstFailure k := by
  rw [firstFailure_eq, List.foldl_append, foldl_lowest_pass (firstFailure_none hl), ← firstFailure_eq]

/-- Only its own checks can still turn an accepted command away. -/
theorem verdict_of_accepts {s : State} {op : Nat} {c : HostCmd} {checks : List (Bool × Nat)} (ha : s.accepts op c = true) :
    s.verdict op c checks = firstFailure checks :=
  firstFailure_append_of_none (l := [_, _, _]) (accepts_iff.mp ha).2

/-- An accepted command that fails checks of its own ends with the lowest of their statuses (R22). -/
theorem serve_fails {s : State} {op k : Nat} {c : HostCmd} {checks : State → List (Bool × Nat)} {body : State → State × Reply}
    {post : State → State} (ha : s.accepts op c = true) (hk : firstFailure (checks s) = some k) :
    s.serve op c checks body post = (s.taken op c).ends op c k [] :=
  serve_refused (accepts_iff.mp ha).1 ((verdict_of_accepts ha).trans hk) (accepts_not_denied ha) (accepts_not_tagInFlight ha)

/-! ### Gate, metrology and fog commands (R81, R111, R519, R522) -/

/-- Settles O40: each accepted command passes its own checks and ends as its body answers, but for the verification of a mirror that
does not match, which is the one check that fails. -/
theorem gateMetrologyAndFogCommandsComplete : Obligations.GateMetrologyAndFogCommandsComplete := by
  refine ⟨fun s c ha hn => ?gateStatus, fun s c ha hn hident => ?readIdent, fun s c ha hn => ?closeBatch,
    fun s c ha hn hkind htyp => ?submitDocument, fun s c ha hn => ?requestReport, fun s c ha hn => ?submitDocSegment,
    fun s c ha hn hmask hzero honline => ?metroLatest, fun s c ha hn => ?metroZxStatus,
    fun s c ha hn hobj hzero hheld => ?metroReadObject, fun s c ha hn => ?metroVerifyMirror,
    fun s c ha hn hfeeder hlo hhi hzero hmin hmax honline => ?metroReadHistory, fun s c ha hn => ?fogStatus,
    fun s c ha hn hinjection hacts => ?fogInject, fun s c ha hn hlocked => ?fogLock⟩ <;> refine congrArg Host.Outcome.next ?_
  case gateStatus | metroZxStatus | fogStatus => exact serveQuery_accepted ha hn rfl
  case readIdent => exact serve_done ha (by simp [lenIs, hn, hident]) rfl
  case closeBatch | requestReport => exact serve_later ha (lenIs_passes hn) rfl
  case submitDocument =>
    have hlisted : ([2, 3, 5] : List Nat).contains (getLE 0 1 c.req) = true := by simpa using hkind
    exact serve_ends_accepted ha (by simp [-List.contains_eq_mem, -List.drop_one, badField, Nat.not_lt.mpr hn, hlisted, htyp]) rfl
  case submitDocSegment => exact serve_ends_accepted ha (by simp [Nat.not_lt.mpr hn]) rfl
  case metroLatest => exact serveRead_accepted ha hn (by simp [hmask, hzero]) honline
  case metroReadObject => exact serve_done ha (by simp [lenIs, badField, hn, hobj, hzero, hheld]) rfl
  case metroVerifyMirror =>
    cases hmirror : s.mirrorVerified with
    | true => exact serve_done ha (by simp [lenIs, hn, hmirror]) rfl
    | false => exact serve_fails ha (by simp [firstFailure, lenIs, hn, hmirror])
  case metroReadHistory =>
    refine serveRead_accepted ha hn ?_ honline
    simp [hfeeder, hzero, Nat.not_lt.mpr hhi, Nat.not_lt.mpr hmax, Nat.ne_of_gt hlo, Nat.ne_of_gt hmin]
  case fogInject => exact serve_done ha (by simp [lenIs, badField, hn, hinjection, hacts]) rfl
  case fogLock => exact serve_done ha (by simp [lenIs, hn, hlocked]) rfl

/-! ### The gate link (R61, R66, R67, R473) -/

@[simp] theorem drainOut_cfg (s : State) : s.drainOut.cfg = s.cfg := by
  have h := congrArg State.cfg (drainOut_exceptSealed s)
  exact h

@[simp] theorem requestRead_cfg (s : State) (stream epoch recNo : Nat) : (s.requestRead stream epoch recNo).cfg = s.cfg := rfl

@[simp] theorem requestAgain_cfg (s : State) : s.requestAgain.cfg = s.cfg := by
  unfold State.requestAgain
  split <;> simp

/-- Settles O48. A link reset touches no configuration, so a generation that is not proving has no criterion to count it for. -/
theorem gateEventsComplete : Obligations.GateEventsComplete := by
  refine ⟨fun s q p hup hrun hfree hhead => ?transmit, fun s b hwire hrun hpass => ?admitted,
    fun s b k st hwire hrun hfail => ?refused, fun s m hsettled hup hrun hsealed hplaced hnext hack => ⟨?queued, ?damaged⟩,
    fun s cause hrun hgen => ?linkReset, fun s sq st m rest us hunits hwaits hst => ?noCredit,
    fun s sq st m rest us hunits hwaits hkind horigin hst => ?answered, fun s a rest hacks => ?ack,
    fun s r rest hresults => ?storeResult, fun s st e r c us hunits hmap hrun => ?readRequest,
    fun s b rest q hreturns hopen hmagic hstream hlen hleft => ?readReturn, fun s st e us hunits hrun => ?release,
    fun s eix r hreasm hlate => ?reassembly⟩ <;> refine congrArg Host.Outcome.next ?_
  case transmit => simp [State.gateTransmit, hup, hrun, hfree, hhead]
  case admitted => simp [State.gateInbound, hwire, hrun, hpass]
  case refused => simp [State.gateInbound, hwire, hrun, hfail]
  case queued => simp [State.gateOutbound, hsettled, hup, hrun, hsealed, hplaced, hnext, hack]
  case damaged => simp [State.gateOutbound, hsettled, hup, hrun, hsealed, hplaced, hnext]
  case linkReset => exact (if_neg (by simp [hrun])).trans (if_neg (by simp [hgen]))
  case noCredit => simp [State.responseUnit, hunits, hwaits, hst]
  case answered => simp [State.responseUnit, hunits, hwaits, hst, hkind, horigin]
  case ack => simp [hacks]
  case storeResult => simp [hresults]
  case readRequest => simp [State.readRequest, hunits, hmap, hrun]
  case readReturn =>
    have hheld : b ≠ [] := List.ne_nil_of_length_pos (by omega)
    simp [State.readReturn, hreturns, hopen, hmagic, hstream, hlen, hleft, hheld]
  case release => simp [State.releaseUnit, hunits, hrun]
  case reassembly => simp [State.reasmTimeout, hreasm, hlate]

/-! ### Sealed-die messages, sessions and the start (R541, R63 to R82) -/

/-- The oldest admitted message of a kind, judged while the core runs: its answer and what the judging leaves (R421, R69). -/
theorem answer_judged {s : State} {kind : Nat} {m : InboundMsg} (f : State → Bytes → State × Nat)
    (hm : s.admittedOf kind = some m) (hpfw : s.sealedDie.pfw = false) (hcore : s.corePaused = false) :
    s.answer kind f = (f s m.payload).1.respond m (f s m.payload).2 := by
  simp [State.answer, hm, hpfw, hcore]

/-- Settles O49: offers, documents and segments are all answered through `answer_judged`; every other row acts when its condition holds. -/
theorem sealedDocumentEventsComplete : Obligations.SealedDocumentEventsComplete := by
  refine ⟨fun s m hm hcore => ?apdu, fun s m hm hpfw hcore => ?offer, fun s m hm hpfw hcore => ?tariff,
    fun s m hm hpfw hcore => ?credit, fun s m hm hpfw hcore => ⟨fun hwhole => ?config, fun hpart => ?firmware⟩,
    fun s hrun => ?sealHigh, fun s input level hinput hchange hrun hstarted => ?stampRunning,
    fun s input level hinput hchange hrun => ?stampStopped, fun s f hpart hlate => ?segmentTimeout,
    fun s q hopen hlate => ?sessionExpiry, fun s offNs hrun hfed => ?start, fun s centiC hrun => ?temperature,
    fun s hcells hage => ?batchAge, fun s g rest hsigning => ?trailer, fun s => ?resume,
    fun s r t rest htxns hrefused hoffered hrecord => ?reoffer, fun s hdue => ?checkpoint⟩ <;> refine congrArg Host.Outcome.next ?_
  case apdu =>
    cases hjudged : s.apduRefusal m.payload m.bytes.length with
    | some st => simp [State.sealedApdu, hm, hcore, hjudged]
    | none => simp [State.sealedApdu, hm, hcore, hjudged]
  case offer => exact answer_judged _ hm hpfw hcore
  case tariff =>
    rw [answer_judged _ hm hpfw hcore]
    split <;> rfl
  case credit =>
    rw [answer_judged _ hm hpfw hcore]
    split
    · rfl
    · split <;> rfl
  case config =>
    simp only [hm, hwhole, Bool.false_eq_true, if_false]
    exact answer_judged _ hm hpfw hcore
  case firmware =>
    simp only [hm, hpart, if_true]
    exact answer_judged _ hm hpfw hcore
  case sealHigh => simp [State.sealNChange, hrun]
  case stampRunning => exact (if_neg (not_or.mpr ⟨Nat.not_lt.mpr hinput, hchange⟩)).trans (if_pos ⟨hrun, hstarted⟩)
  case stampStopped =>
    have hcounts : (s.sealedDie.running = true ∨ s.power.state = .hold) ↔ s.power.state = .hold := by simp [hrun]
    refine (if_neg (not_or.mpr ⟨Nat.not_lt.mpr hinput, hchange⟩)).trans ((if_neg ?stopped).trans ?unreported)
    case stopped => simp [hrun]
    case unreported => exact ite_congr (propext hcounts) (fun _ => rfl) (fun _ => rfl)
  case segmentTimeout => simp [State.segmentTimeout, hpart, hlate]
  case sessionExpiry => simp [State.sessionExpiry, hopen, hlate]
  case start => exact if_neg (by simp [hrun, hfed])
  case temperature => exact if_neg (by simp [hrun])
  case batchAge => exact if_pos ⟨hcells, hage⟩
  case trailer => simp [State.trailerReady, hsigning]
  case resume => rfl
  case reoffer => simp [State.reofferPart, htxns, hrefused, hoffered, hrecord]
  case checkpoint => exact if_pos hdue

end Sys2Proof.Proofs
end

section
/-! Metrology and the ledger's own clock: samples, zero crossings and period ends (R86, R93, R101, R102), calendar executions (R153),
minute evaluations (R179, R187) and CURRENT records (R170). -/

namespace Sys2Proof.Proofs
open Sys2Proof Sys2Proof.Machine Sys2Proof.Laws

/-- Settles O50: an event that is not due leaves the state, so each clause comes down to its guard, which its premises decide. -/
theorem metrologyAndLedgerEventsComplete : Obligations.MetrologyAndLedgerEventsComplete := by
  refine ⟨fun s volts vne currents neutrals hrun => ?sample, fun s channel hlo hhi hheld hmissed => ?lost,
    fun s channel hlo hhi hlost hregain => ?regained, fun s e hend hrun hstarted hpast => ?period, fun s hfull => ?stamps,
    fun s d hruns hcore hdue => ?calendar, fun s hrun hstarted hpfw htime hstore hcore hminute => ?minute,
    fun s hrun hstarted hcore => ?emit⟩ <;> refine congrArg Host.Outcome.next ?_
  case sample => exact if_neg (by simp [hrun])
  case lost => exact if_pos ⟨hlo, hhi, by simp [hheld], hmissed⟩
  case regained => exact if_pos ⟨hlo, hhi, hlost, hregain⟩
  case period => simp [State.metroPeriodEnd, hend, hrun, hstarted, hpast]
  case stamps =>
    have hsome : s.metro.zxMsg ≠ [] := List.ne_nil_of_length_pos (by omega)
    exact if_pos ⟨by simp [hsome], .inl hfull⟩
  case calendar => simp [State.calendarExecution, hruns, hcore, hdue]
  case minute => exact if_neg (by simp [hrun, hstarted, hpfw, htime, hstore, hcore, Nat.not_le.mpr hminute])
  case emit => exact if_neg (by simp [hrun, hstarted, hcore])

end Sys2Proof.Proofs
end

section
/-! Loss and theft detection: balance nodes (R112), the balance commands (R113, R136), and what falls due in the engine: node safe points,
interval waits, solves, silent members, the rebuild and its inputs (R114, R115, R124, R125, R130, R321). -/

namespace Sys2Proof.Proofs
open Sys2Proof Sys2Proof.Machine Sys2Proof.Laws

/-! ### Balance nodes (R112) -/

theorem nodeExists_iff {s : State} {n : Nat} :
    s.nodeExists n = true ↔ n < 12 ∧ s.cfgN (0x2010 + n) 0 = 1 ∧ s.feederUsed (n / 3) = true := by
  simp [State.nodeExists, and_assoc]

theorem nodeExists_feeder_phase {s : State} {f p : Nat} (hf : f ≤ 3) (hlo : 1 ≤ p) (hhi : p ≤ 3) :
    s.nodeExists (3 * f + (p - 1)) = true ↔ s.cfgN (0x2010 + (3 * f + (p - 1))) 0 = 1 ∧ s.feederUsed f = true := by
  have hnumber : 3 * f + (p - 1) < 12 := by omega
  have hfeeder : (3 * f + (p - 1)) / 3 = f := by omega
  rw [nodeExists_iff, hfeeder, and_iff_right hnumber]

/-- Settles O22. -/
theorem balanceNodesExist : Obligations.BalanceNodesExist := by
  refine ⟨fun s f p hf hlo hhi => nodeExists_feeder_phase hf hlo hhi, fun s n hn => ?_⟩
  exact Bool.eq_false_iff.mpr fun h => Nat.not_lt.mpr hn (nodeExists_iff.mp h).1

/-! ### Which state the nodes of a request are read from (R136) -/

theorem cfgN_of_cfg {s t : State} (h : t.cfg = s.cfg) (o f : Nat) : t.cfgN o f = s.cfgN o f := by
  simp only [State.cfgN, State.cfgE, h]

theorem mirrored_of_cp {s t : State} (h : t.cp = s.cp) (o : Nat) : t.mirrored o = s.mirrored o := by
  unfold State.mirrored
  rw [h]

/-- A node's existence is read from the configuration and the mirror alone. -/
theorem nodeExists_of_cfg_cp {s t : State} (hcfg : t.cfg = s.cfg) (hcp : t.cp = s.cp) (n : Nat) : t.nodeExists n = s.nodeExists n := by
  simp [State.nodeExists, State.feederUsed, cfgN_of_cfg hcfg, mirrored_of_cp hcp]

theorem solveNodes_of_cfg_cp {s t : State} (hcfg : t.cfg = s.cfg) (hcp : t.cp = s.cp) (c : HostCmd) : t.solveNodes c = s.solveNodes c := by
  simp only [State.solveNodes, nodeExists_of_cfg_cp hcfg hcp]

/-- What one node's change leaves alone, the same change of several nodes leaves alone. -/
theorem foldl_onNode_keeps {α : Type} {read : State → α} {g : BalNode → BalNode} (h : ∀ t n, read (t.onNode n g) = read t) (ns : List Nat)
    (s : State) : read (ns.foldl (fun t n => t.onNode n g) s) = read s := by
  induction ns generalizing s with
  | nil => rfl
  | cons n ns ih => exact (ih _).trans (h s n)

/-! ### Balance commands (R113, R136) -/

theorem eixCheck_passes {c : HostCmd} (h : reqEix c < 2 ^ 18) : (eixCheck c).1 = false :=
  decide_eq_false (Nat.not_le.mpr h)

theorem phaseMove_of_result {s : State} {eix p : Nat} {m : Member} (hm : s.bal.members.get? eix = some m) (hp : m.result = some p) :
    s.phaseMove eix = some (eix, m.feeder, 2 ^ (p - 1), m.flags) := by
  simp [State.phaseMove, hm, hp]

/-- An accepted BAL_SOLVE_NOW answers ACCEPTED; when none of its nodes exists its work is finished at once (R136, log 32). -/
theorem execBalSolveNow_accepted {s : State} {c : HostCmd} (ha : s.accepts 0x0B06 c = true) (hn : c.req.length = 4)
    (hlo : 1 ≤ getLE 0 4 c.req) (hhi : getLE 0 4 c.req < 4096) (hidle : s.bal.rebuilding = false) :
    let u := s.taken 0x0B06 c
    let ns := u.solveNodes c
    let v := ((ns.foldl (fun t n => t.onNode n fun x => { x with want := true }) (u.onBal fun b => { b with
        commands := if ns.isEmpty then b.commands else b.commands ++ [(u.bal.nextCommand, ns.map fun n => (n, (u.node n).starts + 1))]
        nextCommand := u.bal.nextCommand + 1 })).defer workSolve u.bal.nextCommand 0x0B06 c).ends 0x0B06 c stAccepted [] false
    execBalSolveNow c s = .next (if ns.isEmpty then v.finish workSolve u.bal.nextCommand stDone [] else v) := by
  intro u ns v
  have hcfg : v.cfg = u.cfg := (complete_cfg ..).trans (foldl_onNode_keeps (read := State.cfg) (fun _ _ => rfl) ns _)
  have hcp : v.cp = u.cp := (complete_cp ..).trans (foldl_onNode_keeps (read := State.cp) (fun _ _ => rfl) ns _)
  have hnext : v.bal.nextCommand = u.bal.nextCommand + 1 :=
    (congrArg Bal.nextCommand (complete_bal ..)).trans (foldl_onNode_keeps (read := fun t => t.bal.nextCommand) (fun _ _ => rfl) ns _)
  have hserved : execBalSolveNow c s = .next (if (v.solveNodes c).isEmpty then v.finish workSolve (v.bal.nextCommand - 1) stDone [] else v) :=
    congrArg Host.Outcome.next (serve_ends_accepted ha (by simp [lenIs, badField, hn, hhi, hidle, Nat.ne_of_gt hlo]) rfl)
  rw [hserved, solveNodes_of_cfg_cp hcfg hcp, hnext, Nat.add_sub_cancel]

/-- Settles O36: each accepted command passes its own checks and ends as its body answers. -/
theorem balanceCommandsComplete : Obligations.BalanceCommandsComplete := by
  refine ⟨fun s c ha hn => ?status, fun s c ha hn hgood => ?setMembers, fun s c m ha hn heix hm => ?getMember,
    fun s c ha hn hnode hzero hmin hmax hidle => ?readScores, fun s c ha hn hnode hzero hmin hmax hidle => ?readIntervals,
    fun s c ns ha hn hlo hhi hidle hns => ?solveNow, fun s c m p ha hn heix hm hp hroom => ?applyPhase⟩
  case solveNow =>
    subst hns
    exact execBalSolveNow_accepted ha hn hlo hhi hidle
  all_goals refine congrArg Host.Outcome.next ?_
  case status => exact serveQuery_accepted ha hn rfl
  case setMembers => exact serve_done ha (by simp [badField, hn, hgood]) rfl
  case getMember =>
    have hfound : s.bal.members.has (reqEix c) = true := by simp [Tab.has, hm]
    exact serve_done ha (by simp [lenIs, hn, hfound, eixCheck_passes heix]) (by simp [hm])
  case readScores =>
    exact serve_done ha (by simp [lenIs, badNode, badCount, badField, hn, hnode, hzero, hidle, Nat.not_lt.mpr hmax, Nat.ne_of_gt hmin]) rfl
  case readIntervals =>
    exact serve_done ha (by simp [lenIs, badNode, badField, hn, hnode, hzero, hidle, Nat.not_lt.mpr hmax, Nat.ne_of_gt hmin]) rfl
  case applyPhase =>
    have hmove := phaseMove_of_result hm hp
    have htaken : (s.taken 0x0B07 c).phaseMove (reqEix c) = some (reqEix c, m.feeder, 2 ^ (p - 1), m.flags) :=
      phaseMove_of_result (by rw [taken_bal]; exact hm) hp
    exact serve_done ha (by simp [lenIs, badField, hn, hmove, hroom, eixCheck_passes heix]) (by rw [htaken]; rfl)

/-! ### What falls due in the engine (R114 to R131) -/

/-- The five steps of R124 at the safe point of a node that exists and is not solving. -/
theorem nodeSafePoint_of_idle {s : State} {n : Nat} (hn : n ≤ 11) (hrun : s.openRuns = true) (hidle : (s.node n).solving = none)
    (hexists : s.nodeExists n = true) (henabled : s.cfgN 0x2000 0 ≠ 0) :
    let u := ((s.mergeInputs n).applyStaged).adoptNode n
    let v := (u.dueIntervals n).foldl (fun t x => t.closeInterval n x) u
    let w := ((s.node n).touched ++ u.dueIntervals n).foldl (fun t x => t.reverseFlow n x) ((v.nodeResidual n).neutralDetector (n / 3))
    s.nodeSafePoint n = (w.dailyStep n).startSolve n := by
  simp [State.nodeSafePoint, Nat.not_lt.mpr hn, hrun, hidle, hexists, henabled]

/-- The head of BAL_IN enters the engine as it is when no copy was skipped before it. -/
theorem balIn_of_head {s t : State} {p : Packet} (hrun : s.openRuns = true) (htake : s.takeHead 56 = (some p, t))
    (hskipped : ((t.fabric.lastNotice.get? 56).map (·.skipped)).getD 0 = 0) (henabled : s.cfgN 0x2000 0 = 1) :
    s.balIn = t.balInput (getLE 0 1 p.body) (p.body.drop 12) := by
  simp [State.balIn, hrun, htake, hskipped, henabled]

/-- Settles O57: each row acts when its condition holds, and leaves the state otherwise. -/
theorem balanceEventsComplete : Obligations.BalanceEventsComplete := by
  refine ⟨fun s n hn hrun hidle hexists henabled => ?safePoint,
    fun s n t hexists henabled hrun hend hopen hrecent hpast hnew => ?closeWait, fun s n i hsolving hrun => ?solveDone,
    fun s eix m hm hrun henabled hheard hlate => ?silent, fun s sec hrebuilding hrun hmap => ?rebuilt,
    fun s p hrun hhead hskipped henabled => ?balIn⟩ <;> refine congrArg Host.Outcome.next ?_
  case safePoint => exact congrArg State.sendSubscribes (nodeSafePoint_of_idle hn hrun hidle hexists henabled)
  case closeWait => exact if_pos ⟨hexists, henabled, hrun, hend, by rw [hopen]; rfl, hrecent, hpast, by rw [hnew]; rfl⟩
  case solveDone => simp [State.solveDone, hsolving, hrun]
  case silent => simp [State.memberSilent, hm, hrun, henabled, hheard, hlate]
  case rebuilt => exact if_neg (by simp [hrebuilding, hrun, hmap])
  case balIn => exact balIn_of_head hrun (Prod.ext hhead rfl) hskipped henabled

end Sys2Proof.Proofs
end

section
/-! Tariff accounting: the debit of a cell (R146, R147, R148) and the period and balance it reaches (R145, R174). -/

namespace Sys2Proof.Proofs
open Sys2Proof Sys2Proof.Machine Sys2Proof.Laws

/-! ### Each unit at the price of its block (R146) -/

/-- The block of the unit that follows the period import `x`, counted from 0. -/
def blockAt (thr1 thr2 x : Nat) : Nat := if x < thr1 then 0 else if x < thr2 then 1 else 2

/-- The units of `n` that lie in block 1 when the period import before them is `p`. -/
def firstPart (thr1 p n : Nat) : Nat := min n (thr1 - p)

/-- The units that lie in block 2. -/
def secondPart (thr1 thr2 p n : Nat) : Nat := min (n - firstPart thr1 p n) (thr2 - (p + firstPart thr1 p n))

/-- The units that lie in block 3. -/
def thirdPart (thr1 thr2 p n : Nat) : Nat := n - firstPart thr1 p n - secondPart thr1 thr2 p n

theorem blockAt_cases (thr1 thr2 x : Nat) : blockAt thr1 thr2 x = 0 ∨ blockAt thr1 thr2 x = 1 ∨ blockAt thr1 thr2 x = 2 := by
  unfold blockAt
  by_cases hfirst : x < thr1
  · exact .inl (if_pos hfirst)
  · by_cases hsecond : x < thr2
    · exact .inr (.inl (by rw [if_neg hfirst, if_pos hsecond]))
    · exact .inr (.inr (by rw [if_neg hfirst, if_neg hsecond]))

/-- One unit more lengthens the part of the block it lies in, and no other. -/
theorem parts_succ {thr1 thr2 : Nat} (h : thr1 ≤ thr2) (p n : Nat) :
    firstPart thr1 p (n + 1) = firstPart thr1 p n + (if blockAt thr1 thr2 (p + n) = 0 then 1 else 0) ∧
    secondPart thr1 thr2 p (n + 1) = secondPart thr1 thr2 p n + (if blockAt thr1 thr2 (p + n) = 1 then 1 else 0) ∧
    thirdPart thr1 thr2 p (n + 1) = thirdPart thr1 thr2 p n + (if blockAt thr1 thr2 (p + n) = 2 then 1 else 0) := by
  unfold thirdPart secondPart firstPart blockAt
  by_cases hfirst : p + n < thr1
  · simp only [hfirst, ↓reduceIte, Nat.reduceEqDiff]; omega
  · by_cases hsecond : p + n < thr2 <;> simp only [hfirst, hsecond, ↓reduceIte, Nat.reduceEqDiff] <;> omega

/-- The three parts at their blocks' prices are the sum over the units, each at the price of its own block. -/
theorem sum_unitPrices {thr1 thr2 : Nat} (h : thr1 ≤ thr2) (prices : List Nat) (p n : Nat) :
    ((List.range n).map fun k => prices.getD (blockAt thr1 thr2 (p + k)) 0).sum =
      firstPart thr1 p n * prices.getD 0 0 + secondPart thr1 thr2 p n * prices.getD 1 0 + thirdPart thr1 thr2 p n * prices.getD 2 0 := by
  induction n with
  | zero => simp [thirdPart, secondPart, firstPart]
  | succ n ih =>
    obtain ⟨hfirst, hsecond, hthird⟩ := parts_succ h p n
    rw [List.range_succ, List.map_append, List.sum_append_nat, ih, hfirst, hsecond, hthird, List.map_singleton, List.sum_singleton,
      Nat.add_mul, Nat.add_mul, Nat.add_mul]
    obtain hb | hb | hb := blockAt_cases thr1 thr2 (p + n) <;>
      simp only [hb, ↓reduceIte, Nat.reduceEqDiff, Nat.one_mul, Nat.zero_mul] <;> omega

/-! ### The debit and the carries (R147, R148) -/

theorem clampI_bounds {lo hi : Int} (h : lo ≤ hi) (v : Int) : lo ≤ clampI lo hi v ∧ clampI lo hi v ≤ hi := by
  unfold clampI
  by_cases hlow : v < lo
  · rw [if_pos hlow]; omega
  · by_cases hhigh : hi < v
    · rw [if_neg hlow, if_pos hhigh]; omega
    · rw [if_neg hlow, if_neg hhigh]; omega

/-- What a cell owes for energy, in millionths: the old carry and the priced import, less what was fed in. -/
def energyOwed (thr1 thr2 : Nat) (prices : List Nat) (exPrice : Option Nat) (carryE : Int) (p dI dE : Nat) : Int :=
  carryE + (((List.range dI).map fun k => prices.getD (blockAt thr1 thr2 (p + k)) 0).sum : Nat) -
    ((match exPrice with | some x => dE * x | none => 0 : Nat) : Int)

/-- The debit before it is limited to 32 bits: the whole units owed for energy and for standing. -/
def wholeDebit (acc : Int) (sacc : Nat) : Int := acc / 1000000 + ((sacc / 86400 : Nat) : Int)

/-- Pricing in terms of what is owed: the debit is the limited whole part, and what the limit cuts off stays in the energy carry. -/
theorem priceCell_eq {thr1 thr2 : Nat} (h : thr1 ≤ thr2) (prices : List Nat) (exPrice : Option Nat) (standing : Nat) (carryE : Int)
    (carryS p dI dE charged : Nat) :
    priceCell thr1 thr2 prices exPrice standing carryE carryS p dI dE charged =
      let acc := energyOwed thr1 thr2 prices exPrice carryE p dI dE
      let sacc := carryS + standing * charged
      let debit := clampI (-(2 ^ 31)) (2 ^ 31 - 1) (wholeDebit acc sacc)
      (debit, acc % 1000000 + (wholeDebit acc sacc - debit) * 1000000, sacc % 86400, wholeDebit acc sacc - debit) := by
  have hrem (acc : Int) : acc - acc / 1000000 * 1000000 = acc % 1000000 := by omega
  have hdiv (acc : Int) : acc.fdiv 1000000 = acc / 1000000 := Int.fdiv_eq_ediv_of_nonneg acc (by decide)
  cases exPrice <;>
    simp only [priceCell, energyOwed, wholeDebit, sum_unitPrices h, firstPart, secondPart, thirdPart, hdiv, hrem, Int.ofNat_zero, Int.sub_zero]

/-- Settles O15: the whole units and the remainders add up to what is owed, and the limit moves units to the carry. -/
theorem pricingChargesEachUnitAtItsBlock : Obligations.PricingChargesEachUnitAtItsBlock := by
  intro thr1 thr2 prices exPrice standing carryE carryS p dI dE charged hthr
  rw [priceCell_eq hthr]
  obtain ⟨hlo, hhi⟩ := clampI_bounds (lo := -(2 ^ 31)) (hi := 2 ^ 31 - 1) (by decide)
    (wholeDebit (energyOwed thr1 thr2 prices exPrice carryE p dI dE) (carryS + standing * charged))
  refine ⟨?accounted, rfl, hlo, Int.lt_of_le_sub_one hhi, fun hwhole => ?carry⟩
  case accounted =>
    change _ = energyOwed thr1 thr2 prices exPrice carryE p dI dE + _
    simp only [wholeDebit]
    omega
  case carry =>
    simp only at hwhole ⊢
    rw [hwhole]
    omega

/-! ### The period and the balance (R145, R174) -/

@[simp] theorem totals_setTotals (e : Ep) (opening : Bool) (t : Totals) : (e.setTotals opening t).totals opening = t := by
  cases opening <;> rfl

/-- A ledger record after a debit: the new carries, and outside mode NONE the balance and the lifetime debited. -/
def chargedLedger (l : Ledger) (debit carryE : Int) (carryS : Nat) : Ledger :=
  if l.mode = 0 then { l with carryE := carryE, carryS := carryS }
  else { l with carryE := carryE, carryS := carryS, balance := l.balance - debit, debited := l.debited + debit }

/-- An endpoint after a priced cell: its period totals, and its ledger record after the debit. -/
def chargedEp (e : Ep) (opening : Bool) (t : Totals) (debit carryE : Int) (carryS : Nat) : Ep :=
  { e.setTotals opening t with ledger := chargedLedger (e.setTotals opening t).ledger debit carryE carryS }

/-- Without a debit and with the carries kept, only the totals change. -/
theorem chargedEp_zero (e : Ep) (opening : Bool) (t : Totals) :
    chargedEp e opening t 0 e.ledger.carryE e.ledger.carryS = e.setTotals opening t := by
  cases opening <;> simp [chargedEp, chargedLedger, Ep.setTotals]

@[simp] theorem totals_chargedEp (e : Ep) (opening : Bool) (t : Totals) (debit carryE : Int) (carryS : Nat) :
    (chargedEp e opening t debit carryE carryS).totals opening = t := by
  unfold chargedEp chargedLedger
  cases opening <;> split <;> rfl

/-- What a debit does to the fields that no period total is among. -/
theorem chargedEp_account (e : Ep) (opening : Bool) (t : Totals) (debit carryE : Int) (carryS : Nat) :
    let l := (chargedEp e opening t debit carryE carryS).ledger
    l.balance = (if e.ledger.mode = 0 then e.ledger.balance else e.ledger.balance - debit) ∧
    l.debited = (if e.ledger.mode = 0 then e.ledger.debited else e.ledger.debited + debit) ∧
    l.credited = e.ledger.credited ∧ l.emergency = e.ledger.emergency ∧ l.mode = e.ledger.mode ∧ l.profile = e.ledger.profile ∧
    l.lastSeq = e.ledger.lastSeq := by
  by_cases hmode : e.ledger.mode = 0 <;> cases opening <;> simp [chargedEp, chargedLedger, Ep.setTotals, hmode]

/-- The demand rules leave the period's energies and debit. -/
theorem demandTotals_keeps (d : TDoc) (utcOff : Int) (recents : List (Nat × Nat × Bool)) (c : CellReq) (closes late : Bool) (t : Totals) :
    let r := demandTotals d utcOff recents c closes late t
    r.imp = t.imp ∧ r.exp = t.exp ∧ r.debit = t.debit := by
  simp only [demandTotals]
  repeat' split
  all_goals exact ⟨rfl, rfl, rfl⟩

/-- What pricing can do to an endpoint, with a document in force or without: its totals grow by the cell, and its record is debited. -/
theorem priceFor_charges (s : State) (e : Ep) (c : CellReq) (late opening : Bool) (recents : List (Nat × Nat × Bool)) :
    let r := s.priceFor e c late opening recents
    ∃ t carryE carryS, r.ep = chargedEp e opening t r.debit carryE carryS ∧
      t.imp = (e.totals opening).imp + (if c.first then 0 else c.imp - e.imp) ∧
      t.exp = (e.totals opening).exp + (if c.first then 0 else c.exp - e.exp) ∧ t.debit = (e.totals opening).debit + r.debit := by
  simp only [State.priceFor]
  split
  · exact ⟨_, _, _, (chargedEp_zero ..).symm, rfl, rfl, (Int.add_zero _).symm⟩
  · exact ⟨_, _, _, rfl, demandTotals_keeps ..⟩

/-- Settles O16: what pricing does to an endpoint is a debit of its record and of the totals of the cell's period. -/
theorem pricedDebitReachesTheAccount : Obligations.PricedDebitReachesTheAccount := by
  intro s e c late opening recents
  obtain ⟨t, carryE, carryS, hep, himp, hexp, hdebit⟩ := priceFor_charges s e c late opening recents
  simp only [hep, totals_chargedEp]
  exact ⟨himp, hexp, hdebit, chargedEp_account e opening t _ carryE carryS⟩

end Sys2Proof.Proofs
end

section
/-! The prepayment ledger: credit transaction numbers and their window (R173), and the ledger, order and tariff commands (R165, R191). -/

namespace Sys2Proof.Proofs
open Sys2Proof Sys2Proof.Machine Sys2Proof.Laws

/-! ### Bits of sums (R173) -/

/-- Adding a power of two whose bit is clear sets that bit and carries nothing. -/
theorem testBit_add_two_pow {v i : Nat} (h : v.testBit i = false) (j : Nat) :
    (v + 2 ^ i).testBit j = (decide (i = j) || v.testBit j) := by
  induction i generalizing v j with
  | zero =>
    have heven : v % 2 = 0 := Nat.mod_two_eq_zero_iff_testBit_zero.mpr h
    cases j with
    | zero => simp [Nat.add_mod, heven]
    | succ j =>
      have hhalf : (v + 1) / 2 = v / 2 := by omega
      simp [Nat.testBit_succ, hhalf]
  | succ i ih =>
    cases j with
    | zero => simp [Nat.pow_succ]
    | succ j =>
      have hhalf : (v + 2 ^ (i + 1)) / 2 = v / 2 + 2 ^ i := by omega
      rw [Nat.testBit_succ, hhalf, ih (by rwa [← Nat.testBit_succ])]
      simp [Nat.testBit_succ]

theorem bit_setBit_true (v i j : Nat) : bit (setBit v i true) j = (decide (i = j) || bit v j) := by
  simp only [bit, setBit, if_true]
  split
  case isTrue hset =>
    by_cases hij : i = j
    · simpa [hij] using hset
    · simp [hij]
  case isFalse hclear => exact testBit_add_two_pow (by simpa using hclear) j

/-! ### The window of transaction numbers (R173) -/

/-- Whether the window holds the number as used: its bit `i` stands for the number `i + 1` below the high. -/
def txnMarked (l : Ledger) (v : Nat) : Bool := bit l.txnWindow (l.txnHigh - 1 - v)

theorem txnNumberOk_iff {l : Ledger} {v : Nat} :
    txnNumberOk l v = true ↔ l.txnHigh < v ∨ v < l.txnHigh ∧ l.txnHigh < v + 33 ∧ txnMarked l v = false := by
  simp [txnNumberOk, txnMarked, and_assoc]

theorem txnHigh_markTxn (l : Ledger) (v : Nat) : (l.markTxn v).txnHigh = max l.txnHigh v := by
  unfold Ledger.markTxn
  split <;> simp <;> omega

/-- A number below the high marks itself and no other number below the high. -/
theorem txnMarked_markTxn_below {l : Ledger} {v w : Nat} (hv : v < l.txnHigh) (hw : w < l.txnHigh) :
    txnMarked (l.markTxn v) w = (decide (v = w) || txnMarked l w) := by
  have hbits : l.txnHigh - 1 - v = l.txnHigh - 1 - w ↔ v = w := by omega
  have hhigh : ¬l.txnHigh < v := Nat.not_lt.mpr (Nat.le_of_lt hv)
  simp only [txnMarked, Ledger.markTxn, if_neg hhigh, bit_setBit_true, hbits]

/-- A new high shifts the window: the number that was the high is marked, and lower numbers keep their marks. -/
theorem txnMarked_markTxn_above {l : Ledger} {v w : Nat} (hv : l.txnHigh < v) (hw : w ≤ l.txnHigh) (hlow : v < w + 33) :
    txnMarked (l.markTxn v) w = if w = l.txnHigh then decide (l.txnHigh ≠ 0) else txnMarked l w := by
  have hshift : ¬33 ≤ v - l.txnHigh := by omega
  have hbit : v - 1 - w < 32 := by omega
  have hmark : (if l.txnHigh = 0 then 0 else 2 ^ (v - l.txnHigh - 1)) < 2 ^ (v - l.txnHigh) := by
    split
    · exact Nat.two_pow_pos _
    · exact Nat.pow_lt_pow_right (by decide) (by omega)
  simp only [txnMarked, Ledger.markTxn, if_pos hv, if_neg hshift, bit, Nat.testBit_mod_two_pow, hbit, decide_true, Bool.true_and]
  rw [Nat.mul_comm, Nat.testBit_two_pow_mul_add _ hmark]
  obtain rfl | hbelow := Nat.eq_or_lt_of_le hw
  · have hlast : v - 1 - l.txnHigh = v - l.txnHigh - 1 := by omega
    have hinside : v - l.txnHigh - 1 < v - l.txnHigh := by omega
    rw [hlast, if_pos hinside]
    by_cases hzero : l.txnHigh = 0 <;> simp [hzero]
  · have houtside : ¬v - 1 - w < v - l.txnHigh := by omega
    have hkept : v - 1 - w - (v - l.txnHigh) = l.txnHigh - 1 - w := by omega
    rw [if_neg houtside, if_neg (Nat.ne_of_lt hbelow), hkept]

/-- What may be accepted after a number below the high could be accepted before, and is another number. -/
theorem txnNumberOk_of_markTxn_below {l : Ledger} {v w : Nat} (hv : v < l.txnHigh) (hw : txnNumberOk (l.markTxn v) w = true) :
    w ≠ v ∧ txnNumberOk l w = true := by
  rw [txnNumberOk_iff, txnHigh_markTxn, Nat.max_eq_left (Nat.le_of_lt hv)] at hw
  obtain hhigher | ⟨hlower, hwindow, hclear⟩ := hw
  · exact ⟨by omega, txnNumberOk_iff.mpr (.inl hhigher)⟩
  · rw [txnMarked_markTxn_below hv hlower, Bool.or_eq_false_iff, decide_eq_false_iff_not] at hclear
    obtain ⟨hother, hunmarked⟩ := hclear
    exact ⟨Ne.symm hother, txnNumberOk_iff.mpr (.inr ⟨hlower, hwindow, hunmarked⟩)⟩

/-- What may be accepted after a new high could be accepted before, and is another number; only number 0 before the first transaction
is not marked (log 25). -/
theorem txnNumberOk_of_markTxn_above {l : Ledger} {v w : Nat} (hv : l.txnHigh < v) (hw : txnNumberOk (l.markTxn v) w = true) :
    w ≠ v ∧ (0 < l.txnHigh ∨ 0 < w → txnNumberOk l w = true) := by
  rw [txnNumberOk_iff, txnHigh_markTxn, Nat.max_eq_right (Nat.le_of_lt hv)] at hw
  rw [txnNumberOk_iff]
  obtain hhigher | ⟨hlower, hwindow, hclear⟩ := hw
  · exact ⟨by omega, fun _ => .inl (by omega)⟩
  · refine ⟨by omega, fun hpos => ?_⟩
    obtain hnew | hold := Nat.lt_or_ge l.txnHigh w
    · exact .inl hnew
    · rw [txnMarked_markTxn_above hv hold hwindow] at hclear
      split at hclear
      case isTrue hlast =>
        have hused : l.txnHigh = 0 := by simpa using hclear
        omega
      case isFalse hother => exact .inr ⟨by omega, by omega, hclear⟩

/-- Settles O17: an accepted number becomes the high or is marked in the window, and no mark within the window is lost. -/
theorem creditNumbersAreUsedOnce : Obligations.CreditNumbersAreUsedOnce := by
  intro l v hv
  rw [Bool.eq_false_iff]
  obtain habove | ⟨hbelow, -, -⟩ := txnNumberOk_iff.mp hv
  · exact ⟨fun h => (txnNumberOk_of_markTxn_above habove h).1 rfl, fun w hpos h => (txnNumberOk_of_markTxn_above habove h).2 hpos⟩
  · exact ⟨fun h => (txnNumberOk_of_markTxn_below hbelow h).1 rfl, fun w _ h => (txnNumberOk_of_markTxn_below hbelow h).2⟩

/-! ### Which records and documents a taken command sees (R191, R165) -/

/-- Only recorder streams are read with the exposures; what another stream holds depends on the store and the OT alone. -/
theorem validRecs_of_power_store {s t : State} (hpower : t.power = s.power) (hstore : t.store = s.store) {st : Nat}
    (hopen : st ≠ 10) (hsealed : st ≠ 11) : t.validRecs st = s.validRecs st := by
  unfold State.validRecs
  rw [hstore]
  refine List.filter_congr fun r _ => ?_
  by_cases hr : r.stream = st
  · simp [State.recValid, State.weekPassed, hr, hopen, hsealed, hpower]
  · simp [hr]

theorem images_of_power_store {s t : State} (hpower : t.power = s.power) (hstore : t.store = s.store) (eix image : Nat) :
    t.images eix image = s.images eix image := by
  have hreadable : t.readable = s.readable := by funext r; simp only [State.readable, hstore]
  simp only [State.images, State.streamRecs, validRecs_of_power_store hpower hstore (st := 6) (by decide) (by decide), hreadable]

theorem tariffView_of_cp_time {s t : State} (hcp : t.cp = s.cp) (htime : t.time = s.time) : t.tariffView = s.tariffView := by
  simp only [State.tariffView, hcp, htime]

theorem heldDoc_of_cp_time {s t : State} (hcp : t.cp = s.cp) (htime : t.time = s.time) (which : Nat) :
    t.heldDoc which = s.heldDoc which := by
  simp only [State.heldDoc, tariffView_of_cp_time hcp htime, hcp]

/-! ### Ledger, order and tariff commands (R191, R165) -/

theorem badEix_passes {c : HostCmd} {off : Nat} (h : getLE off 4 c.req < 2 ^ 18) : badEix c off = false :=
  decide_eq_false (Nat.not_le.mpr h)

/-- Settles O28: each accepted command passes its own checks and answers from what the taken state holds. -/
theorem ledgerAndTariffCommandsComplete : Obligations.LedgerAndTariffCommandsComplete := by
  refine ⟨fun s c r ha hn heix hr => ?read, fun s c r ha hn heix honline hr => ?readClose,
    fun s c ha hn heix hmin hmax honline => ?readSnapshots, fun s c ha hn hsupply hzero heix hmin hmax => ?list,
    fun s c ha hn => ?summary, fun s c ha hn heix hretry => ?orderRetry, fun s c ha hn => ?tariffStatus,
    fun s c b ha hn hwhich hzero hb => ?readDoc, fun s c d w ha hn hmin hmax hd => ?evaluate, fun s c ha hn => ?stepLog⟩ <;>
    refine congrArg Host.Outcome.next ?_
  case summary | tariffStatus | stepLog => exact serveQuery_accepted ha hn rfl
  case read =>
    have hfound : s.cp.current.has (getLE 0 4 c.req) = true := by simp [Tab.has, hr]
    exact serve_done ha (by simp [lenIs, badField, hn, hfound, badEix_passes heix]) (by simp [Tab.getD, hr])
  case readClose =>
    have himages := images_of_power_store (taken_power s 0x0402 c) (taken_store s 0x0402 c) (getLE 0 4 c.req) 1
    have hfound := List.ne_nil_of_mem (List.mem_of_getLast? hr)
    exact serve_done ha (by simp [lenIs, badField, hn, honline, hfound, badEix_passes heix]) (by dsimp only; rw [himages, hr]; rfl)
  case readSnapshots =>
    exact serveRead_accepted ha hn (by simp [Nat.not_lt.mpr hmax, Nat.ne_of_gt hmin, badEix_passes heix]) honline
  case list =>
    exact serveQuery_accepted ha hn
      (by simp [Nat.not_lt.mpr hsupply, hzero, Nat.not_lt.mpr hmax, Nat.ne_of_gt hmin, badEix_passes heix])
  case orderRetry => exact serve_done ha (by simp [lenIs, badField, hn, hretry, badEix_passes heix]) rfl
  case readDoc =>
    have hheld := (heldDoc_of_cp_time (taken_cp s 0x0502 c) (taken_time s 0x0502 c) _).trans hb
    exact serve_done ha (by simp [lenIs, badField, hn, hzero, hb, Nat.not_lt.mpr hwhich]) (by rw [hheld]; rfl)
  case evaluate =>
    have hview := tariffView_of_cp_time (taken_cp s 0x0503 c) (taken_time s 0x0503 c)
    exact serve_done ha (by simp [lenIs, badField, hn, hd, Nat.not_lt.mpr hmax, Nat.ne_of_gt hmin]) (by rw [hview, hd])

end Sys2Proof.Proofs
end

section
/-! The power-line ports: elections for an endpoint without a best phase (R216), the PLC commands (R227), and the frames,
acknowledgements, faults, routes, joins and deliveries of a port (R195 to R227). -/

namespace Sys2Proof.Proofs
open Sys2Proof Sys2Proof.Machine Sys2Proof.Laws

/-! ### Elections (R215, R216) -/

theorem tab_get?_set_same {α : Type} (t : Tab α) (k : Nat) (v : α) : Tab.get? (Tab.set t k v) k = some v := by
  induction t with
  | nil => simp [Tab.set, Tab.get?]
  | cons x t ih =>
    obtain ⟨j, w⟩ := x
    unfold Tab.set
    split
    case isTrue => simp [Tab.get?]
    case isFalse =>
      split
      case isTrue => simp [Tab.get?]
      case isFalse hne => simp [Tab.get?, Ne.symm hne, ih]

/-- A repeater candidate has a sighting of the endpoint, or shares a best phase with it. -/
theorem sighted_or_bestPhase_of_mem_candidates {s : State} {p eix short : Nat} (h : short ∈ s.candidates p eix) :
    short ∈ (s.plc.sightings.getD eix []).map (·.1) ∨ s.bestPhase p eix ≠ 0 := by
  unfold State.candidates at h
  obtain ⟨x, hx, rfl⟩ := List.mem_map.mp (List.mem_of_mem_take h)
  obtain ⟨n, -, hn⟩ := List.mem_filterMap.mp (List.mem_mergeSort.mp hx)
  dsimp only at hn
  split at hn
  case isTrue => cases hn
  case isFalse =>
    split at hn
    case isTrue hseen =>
      cases hn
      exact .inl (List.contains_iff_mem.mp hseen)
    case isFalse =>
      split at hn
      case isTrue hphase => exact .inr (hphase.2 ▸ hphase.1)
      case isFalse => cases hn

theorem candidates_eq_nil {s : State} {p eix : Nat} (hphase : s.bestPhase p eix = 0) (hseen : s.plc.sightings.getD eix [] = []) :
    s.candidates p eix = [] := by
  refine List.eq_nil_iff_forall_not_mem.mpr fun short h => ?_
  obtain hsighted | hbest := sighted_or_bestPhase_of_mem_candidates h
  · simp [hseen] at hsighted
  · exact hbest hphase

theorem elect_enabled {s : State} {eix : Nat} {d : PlcDisc} (hdisc : s.plc.discs.get? eix = some d) (hrep : s.cfgN 0x4012 0 = 1) :
    s.elect eix = (s.onPlc fun y => { y with
      discs := y.discs.set eix { d with electing := true, cands := s.candidates d.port eix } }).nextRepeater eix := by
  simp [State.elect, hdisc, hrep]

theorem nextRepeater_exhausted {s : State} {eix : Nat} {d : PlcDisc} (hdisc : s.plc.discs.get? eix = some d) (hcands : d.cands = []) :
    s.nextRepeater eix = s.routeFailed eix true := by
  simp [State.nextRepeater, hdisc, hcands]

theorem routeFailed_event {s : State} {eix : Nat} {n : Nat} {d : PlcDisc} (hdisc : s.plc.discs.get? eix = some d) (hcount : d.attempts = n) :
    let u := ((s.onPlc fun x => { x with discs := x.discs.erase eix }).dropMesh d.port eix).finish workRoute eix stNotFound []
    s.routeFailed eix true = (if d.frames.any (fun f => f.kind = .time) then u.finish workTime eix stPeerLost [] else u).raisePlc
      d.port 4 (eix3 eix ++ le 1 n) := by
  simp [State.routeFailed, hdisc, hcount]

/-- Settles O23: an election that begins without candidates is exhausted at once, with the attempts it begins with. -/
theorem phaselessElectionsFail : Obligations.PhaselessElectionsFail := by
  refine ⟨fun s port eix short hphase h => ?sighted, fun s eix d hdisc hnone hrep hphase hseen => ?fails⟩
  case sighted => exact (sighted_or_bestPhase_of_mem_candidates h).resolve_right (not_not_intro hphase)
  case fails =>
    have hheld := tab_get?_set_same s.plc.discs eix { d with electing := true, cands := [] }
    rw [elect_enabled hdisc hrep, candidates_eq_nil hphase hseen, nextRepeater_exhausted hheld rfl]
    exact routeFailed_event (d := { d with electing := true, cands := [] }) hheld hnone

/-! ### PLC commands (R227) -/

theorem badPort_passes {c : HostCmd} (hport : getLE 0 1 c.req ≤ 3) (hzero : zeroAt 1 3 c.req = true) : (badPort c).1 = false := by
  simp [badPort, badField, hzero, Nat.not_lt.mpr hport]

/-- Settles O37: each accepted command passes its own checks and ends as its body answers. -/
theorem powerLineCommandsComplete : Obligations.PowerLineCommandsComplete := by
  refine ⟨fun s c ha hn hport hzero => ?portStatus, fun s c ha hn hport hzero hmin hmax => ?neighbours,
    fun s c ha hn heix hroute => ?routeRead, fun s c ha hn heix hup => ?routeDiscover, fun s c ha hn heix hdir => ?phaseShare,
    fun s c ha hn hstate hwrap hdebug hroom => ?setPsk, fun s c js ha hn hport hzero hidle htrng hjs => ?gmkRotate,
    fun s c ha hn hport hzero => ?portReset, fun s c ha hn heix hup => ?timeDeliver⟩ <;> refine congrArg Host.Outcome.next ?_
  case portStatus | portReset => exact serve_done ha (by simp [lenIs, hn, badPort_passes hport hzero]) rfl
  case neighbours =>
    have hcount : (badCount c 256).1 = false := by simp [badCount, badField, Nat.not_lt.mpr hmax, Nat.ne_of_gt hmin]
    exact serve_done ha (by simp [lenIs, hn, hcount, badPort_passes hport hzero]) rfl
  case routeRead => exact serve_done ha (by simp [lenIs, hn, hroute, eixCheck_passes heix]) rfl
  case routeDiscover | timeDeliver => exact serve_ends_accepted ha (by simp [lenIs, hn, hup, eixCheck_passes heix]) rfl
  case phaseShare => exact serve_done ha (by simp [lenIs, hn, hdir, eixCheck_passes heix]) rfl
  case setPsk =>
    have hfits : (decide (16384 ≤ s.sec.psks.length) && !s.sec.psks.has (getLE 0 8 c.req)) = false := by
      obtain hspace | hknown := hroom
      · simp [Nat.not_le.mpr hspace]
      · simp [hknown]
    rw [serve_accepted ha (by simp [lenIs, hn, hfits, hwrap, State.keysBlocked, hdebug, Nat.not_le.mpr hstate])]
    cases (s.taken 0x0C06 c).unwrapSlot (padTo 16 Config.openIdentity ++ le 1 0xFE ++ slice 0 8 c.req) (c.req.drop 8) with
    | none => rfl
    | some k => rfl
  case gmkRotate =>
    subst hjs
    exact serve_ends_accepted ha (by simp [lenIs, hn, hidle, htrng, badPort_passes hport hzero]) rfl

/-! ### Frames, faults, routes, joins and deliveries of a port (R195 to R227) -/

theorem heard_of_up_alone {s : State} {p : Nat} {f : PlcRx} (hup : s.plcUp p = true) (halone : f.overlap = false) :
    ¬((!s.plcUp p) = true ∨ f.overlap = true) := by
  simp [hup, halone]

/-- A joining frame of an endpoint with a PSK that is not BLOCKED runs the next step of EAP-PSK (R217). -/
theorem lbpJoin_of_psk {s t : State} {p what cost e : Nat} {eui data psk : Bytes} {st : Stamp} (hup : s.portUp p = true) (hwhat : what ≠ 4)
    (hsource : s.lookupSource 0 (padTo 8 eui) p cost (st.sec * 1000000000 + st.ns) = (t, some e))
    (hopen : bit (((s.tbl.dir.get? e).map (·.flags)).getD 0) 4 = false) (hpsk : s.sec.psks.get? (fromLE (padTo 8 eui)) = some psk) :
    s.lbpJoin p eui what cost data st = t.joinStep p e eui psk what data := by
  simp [State.lbpJoin, hup, hwhat, hsource, hopen, hpsk]

theorem lbpJoin_of_unresolved {s t : State} {p what cost : Nat} {eui data : Bytes} {st : Stamp} (hup : s.portUp p = true) (hwhat : what ≠ 4)
    (hsource : s.lookupSource 0 (padTo 8 eui) p cost (st.sec * 1000000000 + st.ns) = (t, none)) :
    s.lbpJoin p eui what cost data st = t.joinDecline p noEix eui := by
  simp [State.lbpJoin, hup, hwhat, hsource]

/-- Settles O52: each row acts when its condition holds, and leaves the state otherwise. -/
theorem powerLineEventsComplete : Obligations.PowerLineEventsComplete := by
  refine ⟨fun s p f hup halone hwhole hfcs hpan => ?usable, fun s p f hup halone hfcs => ?lost,
    fun s p k air hprio hfirst => ?transmit, fun s p h imp air t htx hdest => ?ackTimeout, fun s p hp => ?faultFall,
    fun s p => ?faultClear, fun s p t hp hfault hlong => ⟨?faultPersist, ?watchdog⟩,
    fun s p hop hops hup hmax hlisted => ?rreq, fun s p dest hop cost hops hup hmax hlisted hunknown => ?rrep,
    fun s p dest hup => ?rerr, fun s p hop cost hup hrlc => ⟨?rlcreq, ?rlcrep⟩,
    fun s eix d hdisc hwait hdue hmore => ?rreqWait, fun s eix d hdisc helect hdue => ?repeaterWait,
    fun s p short r hroute hdue => ?routeExpiry, fun s p short t hlisted hdue => ?blacklistExpiry, fun s eix => ?sightingExpiry,
    fun s p what cost e eui data psk st hup hwhat hsource heui hopen hpsk => ?join,
    fun s p what cost eui data st hup hwhat hsource heui => ?decline, fun s eix p hjoined => ?leave,
    fun s p eix c e hdir hport hup hdue hnew => ?delivery⟩ <;> refine congrArg Host.Outcome.next ?_
  case usable =>
    have hdecoded : ¬(s.plcN p 13 * f.symbols < 100 * s.erasedSymbols p f ∨ (!f.fcsOk) = true) := by simp [hfcs, hwhole]
    exact (if_neg (heard_of_up_alone hup halone)).trans ((if_neg hdecoded).trans (if_neg (not_not_intro hpan)))
  case lost => exact (if_neg (heard_of_up_alone hup halone)).trans (if_pos (.inr (by simp [hfcs])))
  case transmit => simp [State.plcTransmit, hprio, hfirst]
  case ackTimeout => simp [State.plcAckTimeout, htx, hdest]
  case faultFall => exact if_neg (Nat.not_lt.mpr hp)
  case faultClear => rfl
  case faultPersist =>
    simp only [hfault, if_pos hlong]
    exact if_neg (Nat.not_lt.mpr hp)
  case watchdog => exact if_neg (Nat.not_lt.mpr hp)
  case rreq => exact if_neg (by simp [hup, hlisted, Nat.not_lt.mpr hmax])
  case rrep => simp [State.rrepReceived, hup, hlisted, hunknown, Nat.not_lt.mpr hmax]
  case rerr => exact if_pos hup
  case rlcreq | rlcrep => exact if_pos ⟨hup, hrlc⟩
  case rreqWait => simp [State.rreqWait, hdisc, hwait, hmore, Nat.not_lt.mpr hdue]
  case repeaterWait => simp [State.repeaterWait, hdisc, helect, Nat.not_lt.mpr hdue]
  case routeExpiry => simp [hroute, hdue]
  case blacklistExpiry => simp [hlisted, hdue]
  case sightingExpiry => rfl
  case join =>
    rw [lbpJoin_of_psk hup hwhat (Prod.ext rfl hsource) hopen hpsk, heui, hpsk]
  case decline =>
    rw [lbpJoin_of_unresolved hup hwhat (Prod.ext rfl hsource), heui]
  case leave => simp [State.endpointLeave, hjoined]
  case delivery => simp [State.plcTimeDelivery, hdir, hport, hup, hdue, hnew]

end Sys2Proof.Proofs
end
section
/-! The radios: the RF commands (R232, R245, R257), and the frames, timeslots, misses, resets and clock deliveries of a radio (R235 to
R253). -/

namespace Sys2Proof.Proofs
open Sys2Proof Sys2Proof.Machine Sys2Proof.Laws

/-! ### What a radio command reads of the taken state (R245) -/

theorem portOfEix_of_tbl {s t : State} (h : t.tbl = s.tbl) (eix : Nat) : t.portOfEix eix = s.portOfEix eix := by
  simp only [State.portOfEix, h]

theorem sfLen_of_cfg {s t : State} (h : t.cfg = s.cfg) (n k : Nat) : t.sfLen n k = s.sfLen n k := by
  simp only [State.sfLen, State.cfgE, h]

theorem ownerOf_of_cfg {s t : State} (h : t.cfg = s.cfg) (n k : Nat) : t.ownerOf n k = s.ownerOf n k := by
  unfold State.ownerOf State.cfgE
  rw [h]

/-- The lowest free wake pair is read from the configuration and the radios alone. -/
theorem freePair_of_cfg_radios {s t : State} (hcfg : t.cfg = s.cfg) (hradios : t.radios = s.radios) (n sf eix : Nat) :
    t.freePair n sf eix = s.freePair n sf eix := by
  have hradio : t.radio n = s.radio n := by simp only [State.radio, hradios]
  simp only [State.freePair, sfLen_of_cfg hcfg, ownerOf_of_cfg hcfg, hradio]

/-! ### RF commands (R257) -/

theorem badCount_passes {c : HostCmd} {hi : Nat} (hmin : 1 ≤ getLE 8 4 c.req) (hmax : getLE 8 4 c.req ≤ hi) :
    (badCount c hi).1 = false := by
  simp [badCount, badField, Nat.not_lt.mpr hmax, Nat.ne_of_gt hmin]

/-- An accepted RF_SET_WAKE with slotframe 0 forgets the endpoint's wake pair; its DONE follows ACCEPTED at once (R245). -/
theorem execRfSetWake_clears {s : State} {c : HostCmd} (ha : s.accepts 0x0D04 c = true) (hn : c.req.length = 8) (heix : reqEix c < 2 ^ 18)
    (hsf : getLE 4 1 c.req = 0) (hzero : zeroAt 6 2 c.req = true) (hlo : 4 ≤ s.portOfEix (reqEix c)) (hhi : s.portOfEix (reqEix c) ≤ 7)
    (hidle : (s.radio (s.portOfEix (reqEix c) - 4)).macq.any (fun f => f.wake.isSome && f.eix = some (reqEix c)) = false) :
    execRfSetWake c s = .next (((((s.taken 0x0D04 c).onRadio ((s.taken 0x0D04 c).portOfEix (reqEix c) - 4) fun x => { x with
      sleepy := x.sleepy.erase (reqEix c) }).defer workWake (reqEix c) 0x0D04 c).ends 0x0D04 c stAccepted [] false).finish
        workWake (reqEix c) stDone []) := by
  refine congrArg Host.Outcome.next ((serve_ends_accepted ha ?checks rfl).trans ?answer)
  case checks => simp [lenIs, badField, hn, hsf, hzero, hidle, eixCheck_passes heix, Nat.not_lt.mpr hlo, Nat.not_lt.mpr hhi]
  case answer => simp only [hsf, if_true]

/-- An accepted RF_SET_WAKE with slotframe 2 or 3 sends the lowest free wake pair, and waits for its acknowledgement (R245). -/
theorem execRfSetWake_sends {s : State} {c : HostCmd} {n ep k : Nat} (ha : s.accepts 0x0D04 c = true) (hn : c.req.length = 8)
    (heix : reqEix c < 2 ^ 18) (hsf : getLE 4 1 c.req = 2 ∨ getLE 4 1 c.req = 3) (hzero : zeroAt 6 2 c.req = true)
    (hport : s.portOfEix (reqEix c) = 4 + n) (hradio : n ≤ 3)
    (hep : (if getLE 5 1 c.req = 0 then s.cfgN 0x5020 2 else getLE 5 1 c.req) = ep)
    (hguard : s.guardFor n (getLE 4 1 c.req) ep ≤ 2000)
    (hidle : (s.radio n).macq.any (fun f => f.wake.isSome && f.eix = some (reqEix c)) = false)
    (hpair : s.freePair n (getLE 4 1 c.req) (reqEix c) = some k) :
    execRfSetWake c s = .next ((((s.taken 0x0D04 c).setWake n (reqEix c) (getLE 4 1 c.req) ep k).defer workWake (reqEix c) 0x0D04 c).ends
      0x0D04 c stAccepted [] false) := by
  have hindex : s.portOfEix (reqEix c) - 4 = n := by omega
  have hset : getLE 4 1 c.req ≠ 0 := by omega
  have htakenIndex : (s.taken 0x0D04 c).portOfEix (reqEix c) - 4 = n := by rw [portOfEix_of_tbl (taken_tbl ..), hindex]
  have htakenEp : (if getLE 5 1 c.req = 0 then (s.taken 0x0D04 c).cfgN 0x5020 2 else getLE 5 1 c.req) = ep := by
    rw [cfgN_of_cfg (taken_cfg ..), hep]
  have htakenPair : (s.taken 0x0D04 c).freePair n (getLE 4 1 c.req) (reqEix c) = some k :=
    (freePair_of_cfg_radios (taken_cfg ..) (taken_radios ..) ..).trans hpair
  refine congrArg Host.Outcome.next ((serve_ends_accepted ha ?checks rfl).trans ?answer)
  case checks =>
    have hlo : ¬4 + n < 4 := by omega
    have hhi : ¬7 < 4 + n := by omega
    simpa [lenIs, badField, hn, hzero, hport, hlo, hhi, hep, hguard, hidle, hpair, eixCheck_passes heix] using fun _ => hsf.resolve_left
  case answer => simp only [if_neg hset, htakenIndex, htakenEp, htakenPair, Option.getD_some]

/-- Settles O38: each accepted command passes its own checks and ends as its body answers. -/
theorem radioCommandsComplete : Obligations.RadioCommandsComplete := by
  refine ⟨fun s c ha hn hradio hzero => ?status, fun s c ha hn hradio hzero hmin hmax => ?syncRead,
    fun s c ha hn hradio hframe hzero hmin hmax => ?scheduleRead, fun s c ha hn heix hsf hzero hlo hhi hidle => ?clearWake,
    fun s c n sf ep k ha hn heix hsf hset hzero hport hradio hep hguard hidle hpair => ?setWake, fun s c ha hn hmode hzero => ?airtime,
    fun s c js ha hn hradio hzero hidle htrng hjs => ?keyRotate, fun s c ha hn hradio hzero => ?radioReset,
    fun s c ha hn heix hport hup => ?timeDeliver⟩
  case clearWake => exact execRfSetWake_clears ha hn heix hsf hzero hlo hhi hidle
  case setWake =>
    subst hsf
    exact execRfSetWake_sends ha hn heix hset hzero hport hradio hep.symm hguard hidle hpair
  all_goals refine congrArg Host.Outcome.next ?_
  case status | radioReset => exact serve_done ha (by simp [lenIs, hn, badPort_passes hradio hzero]) rfl
  case syncRead => exact serve_done ha (by simp [lenIs, hn, badPort_passes hradio hzero, badCount_passes hmin hmax]) rfl
  case scheduleRead =>
    exact serve_done ha
      (by simp [lenIs, badField, hn, hzero, Nat.not_lt.mpr hradio, Nat.not_lt.mpr hframe, badCount_passes hmin hmax]) rfl
  case airtime => exact serve_done ha (by simp [lenIs, badField, hn, hmode, hzero]) rfl
  case keyRotate =>
    subst hjs
    exact serve_ends_accepted ha (by simp [lenIs, hn, hidle, htrng, badPort_passes hradio hzero]) rfl
  case timeDeliver => exact serve_ends_accepted ha (by simp [lenIs, hn, hup, eixCheck_passes heix, Nat.not_lt.mpr hport]) rfl

/-! ### What a radio receives, and what falls due on it (R235 to R253) -/

/-- Settles O53: each row acts when its condition holds. -/
theorem radioEventsComplete : Obligations.RadioEventsComplete := by
  refine ⟨fun s n f c off hcell hup hline hpan hair hduty hshared hdirect => ?frame,
    fun s n asn overhead beacon energy acked hup hline hnext => ?timeslot, fun s n i hwait => ?ackTimeout,
    fun s n eix z hsleepy hsynced => ?miss, fun s n hn => ?rescueEmpty, fun s n eix z hsleepy hn hwide hused => ?exhausted,
    fun s n hn => ?watchdog, fun s n eix c hport hup hdue hnew => ?delivery⟩
  case frame =>
    subst hshared
    refine congrArg Host.Outcome.next ?_
    cases hsender : s.eixOf (4 + n) f.kind f.src <;>
      simp [State.rfReceive, hcell, hup, hpan, hduty, hdirect, hsender, Option.isNone_eq_false_iff.mpr hline, Nat.not_lt.mpr hair]
  case timeslot =>
    have hbegins : ¬((!s.radioUp n) = true ∨ (s.radio n).s0.isNone = true ∨ asn < (s.radio n).asn) := by
      simp [hup, Option.isNone_eq_false_iff.mpr hline, Nat.not_lt.mpr hnext]
    dsimp only
    refine ⟨fun hwait => ?waits, fun hfree hcell => ?beacon, fun hfree hcell => ?shared, fun hfree hcell => ?rescue,
      fun hfree hcell => ?idle⟩ <;> refine congrArg Host.Outcome.next ((if_neg hbegins).trans ?_)
    case waits => exact if_pos hwait
    case beacon | shared | rescue | idle => simp only [hfree, hcell, Option.isSome_none, Bool.false_eq_true, if_false]
  all_goals refine congrArg Host.Outcome.next ?_
  case ackTimeout => simp [State.rfAckTimeout, hwait]
  case miss => simp [State.miss, hsleepy, hsynced]
  case rescueEmpty => exact if_pos (Nat.lt_succ_of_le hn)
  case exhausted => simp [State.walExhausted, hsleepy, hwide, hused, Nat.lt_succ_of_le hn]
  case watchdog => exact if_neg (Nat.not_lt.mpr hn)
  case delivery => simp [State.rfTimeDelivery, hport, hup, hdue, hnew]

end Sys2Proof.Proofs
end

section
/-! Network time: the time commands (R278), markers, stamps and offers (R270 to R272), the PTP ports (R264, R265), and the loss of
sources and of holdover (R263, R268). -/

namespace Sys2Proof.Proofs
open Sys2Proof Sys2Proof.Machine Sys2Proof.Laws

/-! ### Time commands (R260, R266, R272, R278) -/

/-- Settles O35: each accepted command passes its own checks; an offer is answered only when the sealed die has judged it. -/
theorem timeCommandsComplete : Obligations.TimeCommandsComplete := by
  refine ⟨fun s c ha hn => ?status, fun s c ha hn hunc hns hweak => ?set, fun s c ha hn => ?get, fun s c ha hn => ?sources,
    fun s c ha hn hallowed hfits => ?offer⟩ <;> refine congrArg Host.Outcome.next ?_
  case status | get | sources => exact serveQuery_accepted ha hn rfl
  case set => exact serve_done ha (by simp [lenIs, badField, hn, hweak, Nat.not_lt.mpr hunc, Nat.not_lt.mpr hns]) rfl
  case offer => exact serve_later ha (by simp [lenIs, hn, hallowed, hfits]) rfl

/-! ### Markers, stamps and offers (R270, R271, R272) -/

theorem secondMarker_of_head {s : State} {c sec : Nat} {us : List GateUnit} (hunits : s.gate.units = .marker c sec :: us) (capture : Int) :
    s.secondMarker capture = (s.onGate fun g => { g with units := g.units.erase (.marker c sec) }).markerArrives sec c capture := by
  simp [State.secondMarker, hunits]

theorem offerDecision_sends {s : State} (hallowed : s.offerAllowed = true) (hfits : s.offerFits = true) (hwanted : s.offerWanted = true) :
    s.offerDecision = s.sendOffer := by
  simp [State.offerDecision, hallowed, hfits, hwanted]

/-! ### PTP ports (R263, R264, R265) -/

/-- With every block at its values in force a safe point changes nothing (R470). -/
theorem adopt_of_settled {s : State} (h : s.cfg.adopting = []) (nibble : Nat) : s.adopt nibble = s := by
  simp [State.adopt, State.adoptObjs, h]

/-- A Sync is heeded on an enabled port that is slave. -/
theorem ptpSync_heeded {s : State} {port : Nat} (hport : port ≤ 1) (henabled : s.cfgN (0x6010 + port) 0 = 1)
    (hrole : (s.time.ports.getD port {}).role = .slave) :
    ¬(port > 1 ∨ s.cfgN (0x6010 + port) 0 = 0 ∨ (s.time.ports.getD port {}).role ≠ .slave) := by
  simp [-List.getD_eq_getElem?_getD, Nat.not_lt.mpr hport, henabled, hrole]

/-- Settles O54: each row's premises decide its guard. With no master followed yet, an announced data set is the best one, and a
slave-only port never is master itself. -/
theorem timeEventsComplete : Obligations.TimeEventsComplete := by
  refine ⟨fun s capture c sec us hunits => ?marker, fun s hrun hheld hlate => ?markerLost, fun s p hrun hhead => ?stamps,
    fun s hallowed hfits hwanted => ?offer, fun s port t1 t2 count hport henabled hrole hunmeasured => ?syncStored,
    fun s port t1 t2 hport henabled hrole hmeasured => ?syncFiltered, fun s port t3 t4 count hport hsync hcount => ?delayResp,
    fun s port dataset gm utc hport henabled hnone hslaveOnly => ?announce, fun s port hport hslaveOnly => ?announceTimeout,
    fun s port hport hother => ?otherLost, fun s port hport hselected => ?selectedLost,
    fun s port t hwindow hport hlong hup => ?locked, fun s port hport hsettled hrole hlink hlevel honeStep => ?syncTx,
    fun s port hport hrole hlink => ?delayReq, fun s port seq t4 requester hport hrole hlevel => ?delayReqReceived,
    fun s port hport => ⟨?linkUp, ?linkDown⟩, fun s t hset hover hup => ?hostLost,
    fun s t hsince hfirst hover => ?holdover, fun s port seq action tlv hport henabled => ?management⟩ <;>
    refine congrArg Host.Outcome.next ?_
  case marker => exact secondMarker_of_head hunits capture
  case markerLost => exact if_pos ⟨hrun, by simp [hheld], hlate⟩
  case stamps =>
    refine (if_pos hrun).trans ?_
    unfold State.zxInPacket
    dsimp only
    rw [hhead]
  case offer => exact offerDecision_sends hallowed hfits hwanted
  case syncStored => exact (if_neg (ptpSync_heeded hport henabled hrole)).trans (if_pos hunmeasured)
  case syncFiltered => exact (if_neg (ptpSync_heeded hport henabled hrole)).trans (if_neg (by simp [hmeasured]))
  case delayResp => exact if_neg (by simp [Nat.not_lt.mpr hport, hsync, hcount])
  case announce => simp [State.ptpAnnounce, Nat.not_lt.mpr hport, henabled, hnone, hslaveOnly]
  case announceTimeout => simp [State.ptpAnnounceTimeout, Nat.not_lt.mpr hport, hslaveOnly]
  case otherLost => simp [State.loseSource, hport, hother]
  case selectedLost => exact (if_pos hport).trans (if_pos hselected)
  case locked => simp [State.ptpLocked, hwindow, hport, hlong, hup]
  case syncTx =>
    rw [adopt_of_settled hsettled]
    simp [-List.getD_eq_getElem?_getD, State.ptpSyncTx, Nat.not_lt.mpr hport, hrole, hlink, Nat.not_le.mpr hlevel, honeStep]
  case delayReq => exact if_neg (by simp [-List.getD_eq_getElem?_getD, Nat.not_lt.mpr hport, hrole, hlink])
  case delayReqReceived => exact if_neg (by simp [-List.getD_eq_getElem?_getD, Nat.not_lt.mpr hport, hrole, Nat.not_le.mpr hlevel])
  case linkUp | linkDown => simp [State.ethLinkChange, Nat.not_lt.mpr hport]
  case hostLost => simp [State.hostSourceLost, hset, hover, hup]
  case holdover => simp [State.holdoverExpiry, hsince, hfirst, hover]
  case management => exact if_neg (by simp [Nat.not_lt.mpr hport, henabled])

end Sys2Proof.Proofs
end

section
/-! The endpoint tables: the table commands (R303, R305, R311), and the lookups, notices, rehashes, operations, aging passes and
proofing scans of the tables (R291 to R306). -/

namespace Sys2Proof.Proofs
open Sys2Proof Sys2Proof.Machine Sys2Proof.Laws

/-! ### Table commands (R303, R305, R311) -/

/-- A command whose body answers with a status of its own ends with it. -/
theorem serve_ends_status {s t : State} {op k : Nat} {c : HostCmd} {checks : State → List (Bool × Nat)} {body : State → State × Reply}
    {post : State → State} {d : Bytes} (ha : s.accepts op c = true) (hk : ∀ x ∈ checks s, x.1 = false)
    (hb : body (s.taken op c) = (t, .status k d)) : s.serve op c checks body post = t.ends op c k d := by
  rw [serve_accepted ha hk, hb]
  rfl

/-- Without a reserved bit that is set, TBL_OP runs its operation on the request's registers (R305). -/
theorem tblOpReply_of_unreserved {s : State} {c : HostCmd} {r : TblRegs}
    (hr : r = { s.tbl.cpRegs with
      cmd := getLE 0 4 c.req % 512, key := getLE 4 4 c.req, cursor := getLE 8 4 c.req % 2 ^ 20, data := padTo 32 (c.req.drop 12), count := 0 })
    (hzero : tblReserved (getLE 0 4 c.req) (getLE 4 4 c.req) (getLE 8 4 c.req) = false) :
    s.tblOpReply c = ((s.tblOperateEcc r 0).1.onTbl fun t => { t with cpRegs := (s.tblOperateEcc r 0).2 },
      .status (s.tblOperateEcc r 0).2.status (le 4 (s.tblOperateEcc r 0).2.key ++ le 4 (s.tblOperateEcc r 0).2.cursor ++
        le 4 (s.tblOperateEcc r 0).2.count ++ padTo 32 (s.tblOperateEcc r 0).2.data)) := by
  subst hr
  simp only [State.tblOpReply, hzero, Bool.false_eq_true, and_false, if_false]

/-- Settles O27: each accepted command passes its own checks and ends as its body answers. -/
theorem tableCommandsComplete : Obligations.TableCommandsComplete := by
  refine ⟨fun s c ha hn => ?status, fun s c r ha hn hr hzero => ?op, fun s c ha hn hidle htable hzero hseed => ?rehash,
    fun s c ha hn hslot hmin hmax => ?notices, fun s c ha hn hzero hmin hmax hgroups => ?proof⟩ <;> refine congrArg Host.Outcome.next ?_
  case status => exact serveQuery_accepted ha hn rfl
  case op =>
    rw [← taken_tbl s 0x0302 c] at hr
    exact serve_ends_status ha (lenIs_passes hn) (tblOpReply_of_unreserved hr hzero)
  case rehash =>
    exact serve_ends_accepted ha (by simpa [lenIs, badField, hn, hidle, hzero, Nat.not_lt.mpr htable] using hseed) rfl
  case notices => exact serveQuery_accepted ha hn (by simp [Nat.not_le.mpr hslot, Nat.ne_of_gt hmin, Nat.not_lt.mpr hmax])
  case proof =>
    have hlength : ¬(c.req.length ≠ 12 ∧ c.req.length ≠ 12 + 4 * getLE 8 4 c.req) := by omega
    have hregion : proofGroups (getLE 0 1 c.req) ≠ 0 := by omega
    exact serve_done ha
      (by simp [badField, hlength, hregion, hzero, Nat.ne_of_gt hmin, Nat.not_lt.mpr hmax, Nat.not_lt.mpr hgroups]) rfl

/-! ### Lookups, notices, operations and scans (R291 to R306) -/

/-- Settles O55: each row acts when its condition holds. A pair of units that differs twice is retired only while both pipelines serve,
and a scan that meets neither an upset nor a damaged position corrects nothing. -/
theorem tableEventsComplete : Obligations.TableEventsComplete := by
  refine ⟨fun s kind port cost stamp mismatches ecc key hsteady hserves hready => ?lookup,
    fun s number slot n hnotice hrun hunbound hfirst => ?reported,
    fun s number slot n e g gs hnotice hrun hknown hdir hsightings hidle hport => ?bound,
    fun s number slot n hnotice hunbound hdue => ?released, fun s us r t hrebuild hplaced => ?rehash,
    fun s kind mode ecc => ?operations, fun s hon hdue => ?aging, fun s => ?shadow,
    fun s region group upset hregion => ?scan, fun s group hwhole => ?filterScan⟩
  case operations => exact ⟨rfl, rfl, rfl, rfl, rfl, rfl, rfl, rfl, rfl, rfl, rfl, rfl⟩
  all_goals refine congrArg Host.Outcome.next ?_
  case lookup =>
    match mismatches with
    | 0 => simp [State.lookup, hsteady, hserves]
    | 1 => simp [State.lookup, hsteady, hserves]
    | m + 2 =>
      have hboth : s.tbl.pipes.all id = true := hready.resolve_right (by omega)
      simp [State.lookup, hsteady, hserves, hboth]
  case reported => simp [State.noticeDecision, hnotice, hrun, hunbound, hfirst]
  case bound => simp [State.noticeDecision, hnotice, hrun, hknown, hdir, hsightings, hidle, hport]
  case released => simp [State.noticeTtl, hnotice, hunbound, hdue]
  case rehash => simp [State.rehashComplete, hrebuild, hplaced]
  case aging => exact if_pos ⟨hon, hdue⟩
  case shadow => rfl
  case scan => exact if_neg hregion
  case filterScan => simp [State.proofingScan, hwhole]

end Sys2Proof.Proofs
end

section
/-! Steps, the queue of waiting commands and the rings' memory (R442, R447, R449, R450, R455, R457). -/

namespace Sys2Proof.Proofs
open Sys2Proof Sys2Proof.Machine Sys2Proof.Laws

/-! ### What a command does to the queue and the rings' memory (R442, R450, R455) -/

/-- A command that writes no ring leaves the queue and the rings' memory alone: each command by the law of its meaning. -/
theorem exec_kept {i : Instr} {s t : State} (hw : writesRings i = false) (h : exec i s = .next t) : kept t = kept s := by
  cases i with
  | plcFrameReceive => exact execPlcFrameReceive_kept (h := h)
  | rfFrameReceive => exact execRfFrameReceive_kept (h := h)
  | receivedFrameHandle => exact execReceivedFrameHandle_kept (h := h)
  | profileRead => exact execProfileRead_kept (h := h)
  | gateInboundMessage => exact execGateInboundMessage_kept (h := h)
  | reassemblyTimeout => exact execReassemblyTimeout_kept (h := h)
  | gateOutboundReceive => exact execGateOutboundReceive_kept (h := h)
  | secondMarker => exact execSecondMarker_kept (h := h)
  | gateLinkReset => exact execGateLinkReset_kept (h := h)
  | sealNChange => exact execSealNChange_kept (h := h)
  | stampChange => exact execStampChange_kept (h := h)
  | sealedDieStart => exact execSealedDieStart_kept (h := h)
  | metroSample => exact execMetroSample_kept (h := h)
  | zxLost => exact execZxLost_kept (h := h)
  | zxRegained => exact execZxRegained_kept (h := h)
  | sealedTemperature => exact execSealedTemperature_kept (h := h)
  | orderAttempt => exact execOrderAttempt_kept (h := h)
  | orderResponse => exact execOrderResponse_kept (h := h)
  | controlStateRead => exact execControlStateRead_kept (h := h)
  | orderGetTimeout => exact execOrderGetTimeout_kept (h := h)
  | nodeSafePoint => exact execNodeSafePoint_kept (h := h)
  | intervalCloseWait => exact execIntervalCloseWait_kept (h := h)
  | balanceSolveDone => exact execBalanceSolveDone_kept (h := h)
  | memberSilent => exact execMemberSilent_kept (h := h)
  | balanceRebuildDone => exact execBalanceRebuildDone_kept (h := h)
  | plcTransmit => exact execPlcTransmit_kept (h := h)
  | plcAckTimeout => exact execPlcAckTimeout_kept (h := h)
  | plcFltFall => exact execPlcFltFall_kept (h := h)
  | plcFaultClear => exact execPlcFaultClear_kept (h := h)
  | plcFaultPersist => exact execPlcFaultPersist_kept (h := h)
  | plcPortWatchdog => exact execPlcPortWatchdog_kept (h := h)
  | rreqReceived => exact execRreqReceived_kept (h := h)
  | rrepReceived => exact execRrepReceived_kept (h := h)
  | rerrReceived => exact execRerrReceived_kept (h := h)
  | rlcreqReceived => exact execRlcreqReceived_kept (h := h)
  | rlcrepReceived => exact execRlcrepReceived_kept (h := h)
  | rreqWaitExpiry => exact execRreqWaitExpiry_kept (h := h)
  | repeaterWaitExpiry => exact execRepeaterWaitExpiry_kept (h := h)
  | routeExpiry => exact execRouteExpiry_kept (h := h)
  | blacklistExpiry => exact execBlacklistExpiry_kept (h := h)
  | sightingExpiry => exact execSightingExpiry_kept (h := h)
  | lbpJoin => exact execLbpJoin_kept (h := h)
  | endpointLeave => exact execEndpointLeave_kept (h := h)
  | plcTimeDelivery => exact execPlcTimeDelivery_kept (h := h)
  | rfTimeslot => exact execRfTimeslot_kept (h := h)
  | rfAckTimeout => exact execRfAckTimeout_kept (h := h)
  | sleepyMiss => exact execSleepyMiss_kept (h := h)
  | rescueCellEmpty => exact execRescueCellEmpty_kept (h := h)
  | walExhausted => exact execWalExhausted_kept (h := h)
  | rfWatchdog => exact execRfWatchdog_kept (h := h)
  | rfTimeDelivery => exact execRfTimeDelivery_kept (h := h)
  | ptpSync => exact execPtpSync_kept (h := h)
  | ptpDelayResp => exact execPtpDelayResp_kept (h := h)
  | ptpAnnounce => exact execPtpAnnounce_kept (h := h)
  | ptpAnnounceTimeout => exact execPtpAnnounceTimeout_kept (h := h)
  | ptpSyncLoss => exact execPtpSyncLoss_kept (h := h)
  | ptpLocked => exact execPtpLocked_kept (h := h)
  | ptpSyncTx => exact execPtpSyncTx_kept (h := h)
  | ptpDelayReqTx => exact execPtpDelayReqTx_kept (h := h)
  | ptpDelayReqReceived => exact execPtpDelayReqReceived_kept (h := h)
  | ethLinkChange => exact execEthLinkChange_kept (h := h)
  | lookup => exact execLookup_kept (h := h)
  | noticeDecision => exact execNoticeDecision_kept (h := h)
  | noticeTtlExpiry => exact execNoticeTtlExpiry_kept (h := h)
  | rehashComplete => exact execRehashComplete_kept (h := h)
  | tblRead => exact execTblRead_kept (h := h)
  | tblWrite => exact execTblWrite_kept (h := h)
  | tblDelete => exact execTblDelete_kept (h := h)
  | tblSearch => exact execTblSearch_kept (h := h)
  | tblNext => exact execTblNext_kept (h := h)
  | tblFlushPort => exact execTblFlushPort_kept (h := h)
  | queueOpen => exact execQueueOpen_kept (h := h)
  | queueClose => exact execQueueClose_kept (h := h)
  | consumerRead => exact execConsumerRead_kept (h := h)
  | storeRecordAccept => exact execStoreRecordAccept_kept (h := h)
  | pageBufferTimeout => exact execPageBufferTimeout_kept (h := h)
  | pageProgramDone => exact execPageProgramDone_kept (h := h)
  | bucketRefill => exact execBucketRefill_kept (h := h)
  | exposureExpiry => exact execExposureExpiry_kept (h := h)
  | protectedRecordRx => exact execProtectedRecordRx_kept (h := h)
  | uploadBatchSend => exact execUploadBatchSend_kept (h := h)
  | uploadAck => exact execUploadAck_kept (h := h)
  | headendCommand => exact execHeadendCommand_kept (h := h)
  | contentLoaded => exact execContentLoaded_kept (h := h)
  | multicastFrame => exact execMulticastFrame_kept (h := h)
  | memberResponse => exact execMemberResponse_kept (h := h)
  | memberRequestTimeout => exact execMemberRequestTimeout_kept (h := h)
  | activationDue => exact execActivationDue_kept (h := h)
  | powerFailWarning => exact execPowerFailWarning_kept (h := h)
  | pfwCleared => exact execPfwCleared_kept (h := h)
  | vinStart => exact execVinStart_kept (h := h)
  | vbatLow => exact execVbatLow_kept (h := h)
  | idleWake => exact execIdleWake_kept (h := h)
  | tamperInput => exact execTamperInput_kept (h := h)
  | resetRelease => exact execResetRelease_kept (h := h)
  | startComplete => exact execStartComplete_kept (h := h)
  | mailboxEnable => exact execMailboxEnable_kept (h := h)
  | completionHeadWrite => exact execCompletionHeadWrite_kept (h := h)
  | notificationEnable => exact execNotificationEnable_kept (h := h)
  | commandTimeout => exact execCommandTimeout_kept (h := h)
  | pcieLinkReset => exact execPcieLinkReset_kept (h := h)
  | heartbeatReceive => exact execHeartbeatReceive_kept (h := h)
  | peerLoss => exact execPeerLoss_kept (h := h)
  | directoryFrame => exact execDirectoryFrame_kept (h := h)
  | batchSegmentFrame => exact execBatchSegmentFrame_kept (h := h)
  | batchAckFrame => exact execBatchAckFrame_kept (h := h)
  | subscribeFrame => exact execSubscribeFrame_kept (h := h)
  | contribFrame => exact execContribFrame_kept (h := h)
  | sysIdent => exact execSysIdent_kept (h := h)
  | sysEcho => exact execSysEcho_kept (h := h)
  | mbxStatus => exact execMbxStatus_kept (h := h)
  | sysPowerStatus => exact execSysPowerStatus_kept (h := h)
  | sysRestart => exact execSysRestart_kept (h := h)
  | sysShutdown => exact execSysShutdown_kept (h := h)
  | sysClocks => exact execSysClocks_kept (h := h)
  | cfgStatus => exact execCfgStatus_kept (h := h)
  | cfgDescribe => exact execCfgDescribe_kept (h := h)
  | cfgRead => exact execCfgRead_kept (h := h)
  | cfgBegin => exact execCfgBegin_kept (h := h)
  | cfgStage => exact execCfgStage_kept (h := h)
  | cfgValidate => exact execCfgValidate_kept (h := h)
  | cfgCommit => exact execCfgCommit_kept (h := h)
  | cfgAbort => exact execCfgAbort_kept (h := h)
  | cfgRevert => exact execCfgRevert_kept (h := h)
  | cfgProveNow => exact execCfgProveNow_kept (h := h)
  | cfgFactory => exact execCfgFactory_kept (h := h)
  | tblStatus => exact execTblStatus_kept (h := h)
  | tblOp => exact execTblOp_kept (h := h)
  | tblRehash => exact execTblRehash_kept (h := h)
  | tblNotices => exact execTblNotices_kept (h := h)
  | tblProof => exact execTblProof_kept (h := h)
  | ledgerRead => exact execLedgerRead_kept (h := h)
  | ledgerReadClose => exact execLedgerReadClose_kept (h := h)
  | ledgerReadSnapshots => exact execLedgerReadSnapshots_kept (h := h)
  | ledgerList => exact execLedgerList_kept (h := h)
  | ledgerSummary => exact execLedgerSummary_kept (h := h)
  | orderRetry => exact execOrderRetry_kept (h := h)
  | tariffStatus => exact execTariffStatus_kept (h := h)
  | tariffReadDoc => exact execTariffReadDoc_kept (h := h)
  | tariffEvaluate => exact execTariffEvaluate_kept (h := h)
  | tariffStepLog => exact execTariffStepLog_kept (h := h)
  | storeStatus => exact execStoreStatus_kept (h := h)
  | storeDies => exact execStoreDies_kept (h := h)
  | storeRead => exact execStoreRead_kept (h := h)
  | storeRefreshNow => exact execStoreRefreshNow_kept (h := h)
  | storeStreamInfo => exact execStoreStreamInfo_kept (h := h)
  | storeBatchList => exact execStoreBatchList_kept (h := h)
  | storeBatchRead => exact execStoreBatchRead_kept (h := h)
  | storeBatchAck => exact execStoreBatchAck_kept (h := h)
  | storeRelease => exact execStoreRelease_kept (h := h)
  | volCreate => exact execVolCreate_kept (h := h)
  | volDelete => exact execVolDelete_kept (h := h)
  | volWrite => exact execVolWrite_kept (h := h)
  | volRead => exact execVolRead_kept (h := h)
  | volTrim => exact execVolTrim_kept (h := h)
  | recStatus => exact execRecStatus_kept (h := h)
  | recRead => exact execRecRead_kept (h := h)
  | recExposeOpen => exact execRecExposeOpen_kept (h := h)
  | recExposeRead => exact execRecExposeRead_kept (h := h)
  | recExposeClose => exact execRecExposeClose_kept (h := h)
  | recAnchorNow => exact execRecAnchorNow_kept (h := h)
  | secStatus => exact execSecStatus_kept (h := h)
  | submitOpenDoc => exact execSubmitOpenDoc_kept (h := h)
  | lifecycleAdvance => exact execLifecycleAdvance_kept (h := h)
  | keyWrite => exact execKeyWrite_kept (h := h)
  | attest => exact execAttest_kept (h := h)
  | rngRead => exact execRngRead_kept (h := h)
  | certRead => exact execCertRead_kept (h := h)
  | transportRekey => exact execTransportRekey_kept (h := h)
  | fwBegin => exact execFwBegin_kept (h := h)
  | fwWrite => exact execFwWrite_kept (h := h)
  | fwVerify => exact execFwVerify_kept (h := h)
  | fwActivate => exact execFwActivate_kept (h := h)
  | fwConfirm => exact execFwConfirm_kept (h := h)
  | fwStatus => exact execFwStatus_kept (h := h)
  | distStatus => exact execDistStatus_kept (h := h)
  | distCreate => exact execDistCreate_kept (h := h)
  | distMembers => exact execDistMembers_kept (h := h)
  | distStart => exact execDistStart_kept (h := h)
  | distReadMembers => exact execDistReadMembers_kept (h := h)
  | distCancel => exact execDistCancel_kept (h := h)
  | distActivate => exact execDistActivate_kept (h := h)
  | timeStatus => exact execTimeStatus_kept (h := h)
  | timeSet => exact execTimeSet_kept (h := h)
  | timeGet => exact execTimeGet_kept (h := h)
  | timeSources => exact execTimeSources_kept (h := h)
  | timeOfferNow => exact execTimeOfferNow_kept (h := h)
  | balStatus => exact execBalStatus_kept (h := h)
  | balSetMembers => exact execBalSetMembers_kept (h := h)
  | balGetMember => exact execBalGetMember_kept (h := h)
  | balReadScores => exact execBalReadScores_kept (h := h)
  | balReadIntervals => exact execBalReadIntervals_kept (h := h)
  | balSolveNow => exact execBalSolveNow_kept (h := h)
  | balApplyPhase => exact execBalApplyPhase_kept (h := h)
  | plcPortStatus => exact execPlcPortStatus_kept (h := h)
  | plcNeighbours => exact execPlcNeighbours_kept (h := h)
  | plcRouteRead => exact execPlcRouteRead_kept (h := h)
  | plcRouteDiscover => exact execPlcRouteDiscover_kept (h := h)
  | plcPhaseShare => exact execPlcPhaseShare_kept (h := h)
  | plcSetPsk => exact execPlcSetPsk_kept (h := h)
  | plcGmkRotate => exact execPlcGmkRotate_kept (h := h)
  | plcPortReset => exact execPlcPortReset_kept (h := h)
  | plcTimeDeliver => exact execPlcTimeDeliver_kept (h := h)
  | rfStatus => exact execRfStatus_kept (h := h)
  | rfSyncRead => exact execRfSyncRead_kept (h := h)
  | rfScheduleRead => exact execRfScheduleRead_kept (h := h)
  | rfSetWake => exact execRfSetWake_kept (h := h)
  | rfAirtime => exact execRfAirtime_kept (h := h)
  | rfKeyRotate => exact execRfKeyRotate_kept (h := h)
  | rfRadioReset => exact execRfRadioReset_kept (h := h)
  | rfTimeDeliver => exact execRfTimeDeliver_kept (h := h)
  | panelStatus => exact execPanelStatus_kept (h := h)
  | panelWrite => exact execPanelWrite_kept (h := h)
  | panelUpdate => exact execPanelUpdate_kept (h := h)
  | panelLoad => exact execPanelLoad_kept (h := h)
  | panelBlink => exact execPanelBlink_kept (h := h)
  | panelContactSheet => exact execPanelContactSheet_kept (h := h)
  | panelReadLedger => exact execPanelReadLedger_kept (h := h)
  | panelRebalance => exact execPanelRebalance_kept (h := h)
  | tierStatus => exact execTierStatus_kept (h := h)
  | tierPeers => exact execTierPeers_kept (h := h)
  | tierPromote => exact execTierPromote_kept (h := h)
  | gateStatus => exact execGateStatus_kept (h := h)
  | readIdent => exact execReadIdent_kept (h := h)
  | closeBatch => exact execCloseBatch_kept (h := h)
  | submitDocument => exact execSubmitDocument_kept (h := h)
  | requestReport => exact execRequestReport_kept (h := h)
  | submitDocSegment => exact execSubmitDocSegment_kept (h := h)
  | metroLatest => exact execMetroLatest_kept (h := h)
  | metroZxStatus => exact execMetroZxStatus_kept (h := h)
  | metroReadObject => exact execMetroReadObject_kept (h := h)
  | metroVerifyMirror => exact execMetroVerifyMirror_kept (h := h)
  | metroReadHistory => exact execMetroReadHistory_kept (h := h)
  | fogStatus => exact execFogStatus_kept (h := h)
  | fogInject => exact execFogInject_kept (h := h)
  | fogLock => exact execFogLock_kept (h := h)
  | hostLinkUp => exact execHostLinkUp_kept (h := h)
  | orderResponseWindow => exact execOrderResponseWindow_kept (h := h)
  | gateTransmit => exact execGateTransmit_kept (h := h)
  | sealedApduProcess => exact execSealedApduProcess_kept (h := h)
  | batchAgeExpiry => exact execBatchAgeExpiry_kept (h := h)
  | batchTrailerReady => exact execBatchTrailerReady_kept (h := h)
  | sealedOutputResume => exact execSealedOutputResume_kept (h := h)
  | ackUnit => exact execAckUnit_kept (h := h)
  | storeResultUnit => exact execStoreResultUnit_kept (h := h)
  | responseUnit => exact execResponseUnit_kept (h := h)
  | readRequestUnit => exact execReadRequestUnit_kept (h := h)
  | readReturnUnit => exact execReadReturnUnit_kept (h := h)
  | releaseUnit => exact execReleaseUnit_kept (h := h)
  | journalPartReoffer => exact execJournalPartReoffer_kept (h := h)
  | timeOffer => exact execTimeOffer_kept (h := h)
  | tariffDoc => exact execTariffDoc_kept (h := h)
  | creditTxn => exact execCreditTxn_kept (h := h)
  | sealedConfig => exact execSealedConfig_kept (h := h)
  | sealedFirmwareSegment => exact execSealedFirmwareSegment_kept (h := h)
  | segmentTimeout => exact execSegmentTimeout_kept (h := h)
  | sealSessionExpiry => exact execSealSessionExpiry_kept (h := h)
  | sealedCheckpoint => exact execSealedCheckpoint_kept (h := h)
  | calendarExecution => exact execCalendarExecution_kept (h := h)
  | minuteEvaluation => exact execMinuteEvaluation_kept (h := h)
  | stateEmit => exact execStateEmit_kept (h := h)
  | metroPeriodEnd => exact execMetroPeriodEnd_kept (h := h)
  | zxStampsSend => exact execZxStampsSend_kept (h := h)
  | cpSealedPacket => exact execCpSealedPacket_kept (h := h)
  | balInPacket => exact execBalInPacket_kept (h := h)
  | hostSourceLost => exact execHostSourceLost_kept (h := h)
  | holdoverExpiry => exact execHoldoverExpiry_kept (h := h)
  | otTick => exact execOtTick_kept (h := h)
  | markerLost => exact execMarkerLost_kept (h := h)
  | zxInPacket => exact execZxInPacket_kept (h := h)
  | timeOfferDecision => exact execTimeOfferDecision_kept (h := h)
  | agingPass => exact execAgingPass_kept (h := h)
  | shadowCommit => exact execShadowCommit_kept (h := h)
  | openGrant => exact execOpenGrant_kept (h := h)
  | fanoutPacket => exact execFanoutPacket_kept (h := h)
  | expiryWeek => exact execExpiryWeek_kept (h := h)
  | anchorPeriodic => exact execAnchorPeriodic_kept (h := h)
  | drbgReseed => exact execDrbgReseed_kept (h := h)
  | debugAttach => exact execDebugAttach_kept (h := h)
  | debugWindowExpiry => exact execDebugWindowExpiry_kept (h := h)
  | fwConfirmTimeout => exact execFwConfirmTimeout_kept (h := h)
  | fwActivateRestart => exact execFwActivateRestart_kept (h := h)
  | idleEntry => exact execIdleEntry_kept (h := h)
  | holdExpiry => exact execHoldExpiry_kept (h := h)
  | ntfLostRead => exact execNtfLostRead_kept (h := h)
  | queRefusedRead => exact execQueRefusedRead_kept (h := h)
  | qspiStatusRead => exact execQspiStatusRead_kept (h := h)
  | provingEnd => exact execProvingEnd_kept (h := h)
  | heartbeatSend => exact execHeartbeatSend_kept (h := h)
  | bufferAgeDay => exact execBufferAgeDay_kept (h := h)
  | panelFrame => exact execPanelFrame_kept (h := h)
  | panelRailUp => exact execPanelRailUp_kept (h := h)
  | pwrgoodTimeout => exact execPwrgoodTimeout_kept (h := h)
  | panelRailRetry => exact execPanelRailRetry_kept (h := h)
  | railHoldExpiry => exact execRailHoldExpiry_kept (h := h)
  | pwrgoodLost => exact execPwrgoodLost_kept (h := h)
  | contactSheetHold => exact execContactSheetHold_kept (h := h)
  | unlockExpiry => exact execUnlockExpiry_kept (h := h)
  | ptpManagement => exact execPtpManagement_kept (h := h)
  | proofingScan => exact execProofingScan_kept (h := h)
  | openTimeout => exact execOpenTimeout_kept (h := h)
  | headExpiry => exact execHeadExpiry_kept (h := h)
  | creditWaitLong => exact execCreditWaitLong_kept (h := h)
  | eraseDone => exact execEraseDone_kept (h := h)
  | pageReadDone => exact execPageReadDone_kept (h := h)
  | dieHang => exact execDieHang_kept (h := h)
  | dieRetry => exact execDieRetry_kept (h := h)
  | development => exact execDevelopment_kept (h := h)
  | garbageCollection => exact execGarbageCollection_kept (h := h)
  | refresh => exact execRefresh_kept (h := h)
  | weightedAge => exact execWeightedAge_kept (h := h)
  | mapCheckpoint => exact execMapCheckpoint_kept (h := h)
  | trngHealthFail => exact execTrngHealthFail_kept (h := h)
  | trngRestart => exact execTrngRestart_kept (h := h)
  | transportEpochRoll => exact execTransportEpochRoll_kept (h := h)
  | uploadAckTimeout => exact execUploadAckTimeout_kept (h := h)
  | verifyPoll => exact execVerifyPoll_kept (h := h)
  | verifyTimeout => exact execVerifyTimeout_kept (h := h)
  | vbatLost => exact execVbatLost_kept (h := h)
  | vioFault => exact execVioFault_kept (h := h)
  | thermalReading => exact execThermalReading_kept (h := h)
  | clockMonitor => exact execClockMonitor_kept (h := h)
  | msiCoalesce => exact execMsiCoalesce_kept (h := h)
  | panelTemperature => exact execPanelTemperature_kept (h := h)
  | holdupStep | vinUndervoltage | doorbell | notificationHeadWrite | registerWrite | completionWrite | recorderPacket
  | sealedEventRecord | tcxoAbsent | resetPin | watchdogReset | railFault | lockstepReset => exact nomatch hw

/-- A command that may write a ring leaves the queue alone and keeps the rings' memory canonical. -/
theorem exec_kept_of_writesRings {i : Instr} {s t : State} (hw : writesRings i = true) (h : exec i s = .next t) :
    (kept t).queue = (kept s).queue ∧ ((kept s).mem.wf = true → (kept t).mem.wf = true) := by
  cases i with
  | holdupStep => exact ⟨execHoldupStep_queue (h := h), execHoldupStep_wf (h := h)⟩
  | vinUndervoltage => exact ⟨execVinUndervoltage_queue (h := h), execVinUndervoltage_wf (h := h)⟩
  | doorbell => exact ⟨execDoorbell_queue (h := h), execDoorbell_wf (h := h)⟩
  | notificationHeadWrite => exact ⟨execNotificationHeadWrite_queue (h := h), execNotificationHeadWrite_wf (h := h)⟩
  | registerWrite => exact ⟨execRegisterWrite_queue (h := h), execRegisterWrite_wf (h := h)⟩
  | completionWrite => exact ⟨execCompletionWrite_queue (h := h), execCompletionWrite_wf (h := h)⟩
  | recorderPacket => exact ⟨execRecorderPacket_queue (h := h), execRecorderPacket_wf (h := h)⟩
  | sealedEventRecord => exact ⟨execSealedEventRecord_queue (h := h), execSealedEventRecord_wf (h := h)⟩
  | tcxoAbsent => exact ⟨execTcxoAbsent_queue (h := h), execTcxoAbsent_wf (h := h)⟩
  | resetPin => exact ⟨execResetPin_queue (h := h), execResetPin_wf (h := h)⟩
  | watchdogReset => exact ⟨execWatchdogReset_queue (h := h), execWatchdogReset_wf (h := h)⟩
  | railFault => exact ⟨execRailFault_queue (h := h), execRailFault_wf (h := h)⟩
  | lockstepReset => exact ⟨execLockstepReset_queue (h := h), execLockstepReset_wf (h := h)⟩
  | _ => exact nomatch hw

theorem exec_pending {i : Instr} {s t : State} (h : exec i s = .next t) : t.pending = s.pending := by
  cases hw : writesRings i with
  | false => exact congrArg Kept.queue (exec_kept hw h)
  | true => exact (exec_kept_of_writesRings hw h).1

theorem exec_memoryWf {i : Instr} {s t : State} (h : exec i s = .next t) (hs : s.memoryWf) : t.memoryWf := by
  cases hw : writesRings i with
  | false => exact (congrArg (fun k : Kept => k.mem.wf) (exec_kept hw h)).trans hs
  | true => exact (exec_kept_of_writesRings hw h).2 hs

/-! ### Steps (R449, R457) -/

theorem step_idle {s : State} (h : s.pending = []) : step s = .next s := by
  simp [step, h]

theorem step_front {s : State} {c : Instr} {rest : List Instr} (h : s.pending = c :: rest) :
    step s = exec c { s with pending := rest } := by
  simp [step, h]

/-- Settles O1, by the two equations of a step. -/
theorem stepRunsTheFrontCommand : Obligations.StepRunsTheFrontCommand :=
  ⟨fun _ _ _ => step_front, fun _ => step_idle⟩

/-- Settles O3: an idle block has no queue, and a command that runs leaves the rest of the queue as it finds it. -/
theorem stepTakesOnlyTheFront : Obligations.StepTakesOnlyTheFront := by
  intro s t h
  cases hp : s.pending with
  | nil =>
    obtain rfl : s = t := Host.Outcome.next.inj ((step_idle hp).symm.trans h)
    exact hp
  | cons c rest => exact exec_pending ((step_front hp).symm.trans h)

/-- Settles O4: the invariant holds of the state in which the front command runs, whose memory is that of `s`. -/
theorem stepKeepsMemoryCanonical : Obligations.StepKeepsMemoryCanonical := by
  intro s t h hs
  cases hp : s.pending with
  | nil =>
    obtain rfl : s = t := Host.Outcome.next.inj ((step_idle hp).symm.trans h)
    exact hs
  | cons c rest => exact exec_memoryWf ((step_front hp).symm.trans h) hs

/-- Settles O6. -/
theorem onlyRingCommandsWriteRingMemory : Obligations.OnlyRingCommandsWriteRingMemory :=
  fun _ _ _ hw h => congrArg Kept.mem (exec_kept hw h)

/-! ### Reset (R58, R370, R444, R445, R466) -/

/-- Settles O5. -/
theorem resetState : Obligations.ResetState := by
  refine ⟨rfl, rfl, rfl, rfl, rfl, rfl, rfl, rfl, rfl, rfl, rfl, rfl, rfl, ?ntfMask, rfl, ?buckets, rfl⟩
  case ntfMask => decide
  case buckets => exact fun _ _ => rfl

end Sys2Proof.Proofs
end

section
/-! The queue fabric: what the shared operations leave alone (R69, R318, R370, R450), packets joining and leaving their queues (R318,
R320), and the fabric's own rows (R316, R317, R321, R324, R327, R332). -/

namespace Sys2Proof.Proofs
open Sys2Proof Sys2Proof.Machine Sys2Proof.Laws

/-! ### The frames of the shared operations (R69, R318, R370, R450) -/

theorem fabricOnly_of_exceptFabric {s t : State} (h : exceptFabric t = exceptFabric s) : fabricOnly s t := by
  have hput := congrArg (fun u : State => { u with fabric := t.fabric, recd := t.recd }) h
  exact hput

theorem mailboxOnly_of_exceptMailbox {s t : State} (h : exceptMailbox t = exceptMailbox s) : mailboxOnly s t := by
  have hput := congrArg (fun u : State => { u with
    fabric := t.fabric
    recd := t.recd
    host := { u.host with
      inflight := t.host.inflight, counters := t.host.counters, headDeniedSince := t.host.headDeniedSince
      headOut := t.host.headOut, headIn := t.host.headIn, timedOut := t.host.timedOut, cmdStamp := t.host.cmdStamp } }) h
  exact hput

theorem sealedOnly_of_exceptSealed {s t : State} (h : exceptSealed t = exceptSealed s) : sealedOnly s t := by
  have hput := congrArg (fun u : State => { u with sealedDie := t.sealedDie }) h
  exact hput

/-- Settles O8: each operation by the law of what it leaves alone. -/
theorem sharedOperationsFrame : Obligations.SharedOperationsFrame :=
  ⟨fun _ _ _ => fabricOnly_of_exceptFabric (raise_exceptFabric ..), fun _ _ _ _ => fabricOnly_of_exceptFabric (send_exceptFabric ..),
    fun _ _ _ _ _ _ => mailboxOnly_of_exceptMailbox (complete_exceptMailbox ..),
    fun _ _ _ => sealedOnly_of_exceptSealed (raiseSealed_exceptSealed ..), fun _ _ => sealedOnly_of_exceptSealed (emit_exceptSealed ..)⟩

/-! ### Queues under the fabric's own operations (R316, R318)

Events go to queue 71: every other queue stays as it is when one is raised. -/

theorem foldl_keeps {α β : Type} {read : State → β} {f : State → α → State} (h : ∀ t x, read (f t x) = read t) (l : List α) (s : State) :
    read (l.foldl f s) = read s := by
  induction l generalizing s with
  | nil => rfl
  | cons x l ih => exact (ih _).trans (h s x)

theorem tab_get?_set_other {α : Type} {k x : Nat} (h : x ≠ k) (t : Tab α) (v : α) : Tab.get? (Tab.set t k v) x = Tab.get? t x := by
  induction t with
  | nil => simp [Tab.set, Tab.get?, h.symm]
  | cons e t ih =>
    obtain ⟨j, w⟩ := e
    simp only [Tab.set]
    split
    · simp [Tab.get?, h.symm]
    · split
      next hkj => simp [Tab.get?, ← hkj, h.symm]
      · simp [Tab.get?, ih]

@[simp] theorem queue_onQueue_same (s : State) (q : Nat) (f : Queue → Queue) : (s.onQueue q f).queue q = f (s.queue q) := by
  simp [State.queue, State.onQueue, Tab.upd, Tab.getD, tab_get?_set_same]

@[simp] theorem queue_onQueue_other {q x : Nat} (h : x ≠ q) (s : State) (f : Queue → Queue) : (s.onQueue q f).queue x = s.queue x := by
  simp [State.queue, State.onQueue, Tab.upd, Tab.getD, tab_get?_set_other h]

/-- An update that keeps a queue's packets keeps them whichever queue is read. -/
@[simp] theorem pkts_onQueue {f : Queue → Queue} (hf : ∀ u, (f u).pkts = u.pkts) (s : State) (q x : Nat) :
    ((s.onQueue q f).queue x).pkts = (s.queue x).pkts := by
  by_cases hx : x = q
  · subst hx
    simp [hf]
  · simp [hx]

@[simp] theorem queue_onFabric {f : Fabric → Fabric} (hf : ∀ u, (f u).queues = u.queues) (s : State) (x : Nat) :
    (s.onFabric f).queue x = s.queue x :=
  congrArg (fun t => Tab.getD t x ({} : Queue)) (hf s.fabric)

@[simp] theorem queue_countOpen (s : State) (q x : Nat) : (s.countOpen q).queue x = s.queue x := by
  unfold State.countOpen
  split <;> rfl

@[simp] theorem queue_onRec (s : State) (f : Rec → Rec) (x : Nat) : (s.onRec f).queue x = s.queue x := rfl

@[simp] theorem queue_closeOn_other {q x : Nat} (h : x ≠ q) (s : State) (producer : Nat) (payload : Bytes) :
    (s.closeOn q producer payload).queue x = s.queue x := by
  simp [State.closeOn, h]

theorem pkts_closeOn_same (s : State) (q producer : Nat) (payload : Bytes) :
    ((s.closeOn q producer payload).queue q).pkts = (s.queue q).pkts ++
      [{ producer := producer, seq := (s.queue q).nextSeq, cells := cellsFor payload.length, payload := payload }] := by
  simp [State.closeOn]

section
variable {x : Nat} (hx : x ≠ 71)
include hx

@[simp] theorem queue_raiseCore (s : State) (src : Nat) (data : Bytes) : (s.raiseCore src data).queue x = s.queue x := by
  unfold State.raiseCore
  extract_lets ch depth b s1 s2
  have hs2 : s2.queue x = s.queue x := by
    simp only [s2, queue_countOpen, s1]
    split <;> rfl
  split
  · rfl
  · split
    · simp [hx, hs2]
    · simp [State.suppress, hx, hs2]

@[simp] theorem queue_poolCheck (s : State) (before : Nat) : (s.poolCheck before).queue x = s.queue x :=
  foldl_keeps (read := (·.queue x)) (fun t _ => queue_raiseCore hx t 185 _) _ s

@[simp] theorem queue_raise (s : State) (src : Nat) (data : Bytes) : (s.raise src data).queue x = s.queue x := by
  unfold State.raise
  split <;> simp [hx]

@[simp] theorem queue_raiseEvery (s : State) (period src inst : Nat) (data : Bytes) :
    (s.raiseEvery period src inst data).queue x = s.queue x := by
  unfold State.raiseEvery
  extract_lets key due
  split
  · exact queue_raise hx _ src data
  · rfl

@[simp] theorem queue_edgeFailure (s : State) (stage q : Nat) (p : Packet) : (s.edgeFailure stage q p).queue x = s.queue x := by
  unfold State.edgeFailure State.quarantinePacket
  extract_lets s1
  have hs1 : s1.queue x = s.queue x := by
    simp only [s1]
    split <;> exact queue_raise hx ..
  split
  · exact (queue_raise hx ..).trans hs1
  · exact hs1

/-! A producer that is turned away leaves the packets of every queue where they are (R317, R332). -/

theorem pkts_refuseOpen (s : State) (producer q c : Nat) : ((s.refuseOpen producer q c).queue x).pkts = (s.queue x).pkts := by
  simp [State.refuseOpen, hx]

theorem pkts_limitRefusal (s : State) (q : Nat) : ((s.limitRefusal q).queue x).pkts = (s.queue x).pkts := by
  unfold State.limitRefusal
  extract_lets s1
  split <;> simp [s1, hx]

theorem pkts_skipCopy (s : State) (q : Nat) : ((s.skipCopy q).queue x).pkts = (s.queue x).pkts := by
  unfold State.skipCopy
  extract_lets s1
  split <;> simp [s1, hx]

theorem pkts_notGranted (s : State) (producer q c : Nat) (payload : Option Bytes) (atLimit refused : Bool) :
    ((s.notGranted producer q c payload atLimit refused).queue x).pkts = (s.queue x).pkts := by
  unfold State.notGranted
  extract_lets s0 s1
  have hs0 : (s0.queue x).pkts = (s.queue x).pkts := by
    cases refused <;> simp [s0]
  have hs1 : (s1.queue x).pkts = (s.queue x).pkts := by
    cases atLimit <;> simp [s1, hs0, pkts_limitRefusal hx]
  split
  · simpa using hs1
  · split
    · exact hs1
    · split
      · exact (pkts_skipCopy hx s1 q).trans hs1
      · simpa using hs1

end

/-! ### Sending and taking packets (R318, R320) -/

/-- A packet is closed on its queue or stays outside; either way no other packet moves. -/
theorem pkts_send (s : State) (producer q : Nat) (payload : Bytes) :
    (∀ x, x ≠ 71 → ((s.send producer q payload).queue x).pkts = (s.queue x).pkts) ∨
    ∃ before, s.send producer q payload = ((s.countOpen q).closeOn q producer payload).poolCheck before := by
  unfold State.send State.push
  extract_lets c s1
  split
  · exact .inr ⟨_, rfl⟩
  · exact .inl fun x hx => (pkts_refuseOpen hx ..).trans (by simp [s1])
  · exact .inl fun x hx => (pkts_notGranted hx ..).trans (by simp [s1])
  · exact .inl fun x hx => (pkts_notGranted hx ..).trans (by simp [s1])

/-- Settles O11: a packet that is not closed on its queue moves no other, and a CLOSE appends to its own queue alone. -/
theorem sentPacketsJoinTheTail : Obligations.SentPacketsJoinTheTail := by
  intro s producer q payload hq
  obtain houtside | ⟨before, hclosed⟩ := pkts_send s producer q payload
  · exact ⟨.inl (houtside q hq), fun x _ hx => houtside x hx⟩
  · rw [hclosed]
    refine ⟨.inr ?joined, fun x hxq hx => ?other⟩
    case joined =>
      rw [queue_poolCheck hq, pkts_closeOn_same, queue_countOpen]
    case other =>
      rw [queue_poolCheck hx, queue_closeOn_other hxq, queue_countOpen]

/-- Taking the head leaves the packets behind the first good one; the bad ones before it are quarantined outside the queue (R320). -/
theorem pkts_takeHead {q : Nat} (hq : q ≠ 71) (s : State) :
    ((s.takeHead q).2.queue q).pkts = ((s.queue q).pkts.dropWhile (fun p => !p.good)).drop 1 := by
  unfold State.takeHead
  dsimp only
  rw [foldl_keeps (read := (·.queue q)) (fun t p => queue_edgeFailure hq t 1 q p)]
  simp

/-- Settles O12: the packets split at the first good one. -/
theorem consumersTakePacketsInOrder : Obligations.ConsumersTakePacketsInOrder := by
  intro s q hq
  rw [pkts_takeHead hq]
  have hsplit := (s.queue q).pkts.takeWhile_append_dropWhile (p := fun p => !p.good)
  have hbad : ∀ p ∈ (s.queue q).pkts.takeWhile (fun p => !p.good), p.good = false := fun p hp => by
    simpa using List.all_eq_true.mp List.all_takeWhile p hp
  have hhead : (s.takeHead q).1 = ((s.queue q).pkts.dropWhile (fun p => !p.good)).head? := rfl
  cases hgood : (s.queue q).pkts.dropWhile (fun p => !p.good) with
  | nil =>
    rw [hgood, List.append_nil] at hsplit
    exact .inl ⟨by rw [hhead, hgood]; rfl, rfl, hsplit ▸ hbad⟩
  | cons p rest =>
    rw [hgood] at hsplit
    have hp : p.good = true := by
      have h := List.head_dropWhile_not (fun p : Packet => !p.good) (l := (s.queue q).pkts) (by simp [hgood])
      simpa [hgood] using h
    exact .inr ⟨p, _, rest, by rw [hhead, hgood]; rfl, hp, hsplit.symm, hbad, rfl⟩

/-! ### Open packets under the fabric's own operations (R318, R327) -/

@[simp] theorem opened_onQueue (s : State) (q : Nat) (f : Queue → Queue) : (s.onQueue q f).fabric.opened = s.fabric.opened := rfl

@[simp] theorem opened_closeOn (s : State) (q producer : Nat) (payload : Bytes) :
    (s.closeOn q producer payload).fabric.opened = s.fabric.opened := rfl

@[simp] theorem opened_countOpen (s : State) (q : Nat) : (s.countOpen q).fabric.opened = s.fabric.opened := by
  unfold State.countOpen
  split <;> rfl

@[simp] theorem opened_raiseCore (s : State) (src : Nat) (data : Bytes) : (s.raiseCore src data).fabric.opened = s.fabric.opened := by
  unfold State.raiseCore
  extract_lets ch depth b s1 s2
  have hs2 : s2.fabric.opened = s.fabric.opened := by
    simp only [s2, opened_countOpen, s1]
    split <;> rfl
  split
  · rfl
  · split <;> exact hs2

@[simp] theorem opened_poolCheck (s : State) (before : Nat) : (s.poolCheck before).fabric.opened = s.fabric.opened :=
  foldl_keeps (read := (·.fabric.opened)) (fun t _ => opened_raiseCore t 185 _) _ s

@[simp] theorem opened_raise (s : State) (src : Nat) (data : Bytes) : (s.raise src data).fabric.opened = s.fabric.opened := by
  unfold State.raise
  split <;> simp

@[simp] theorem opened_edgeFailure (s : State) (stage q : Nat) (p : Packet) :
    (s.edgeFailure stage q p).fabric.opened = s.fabric.opened := by
  unfold State.edgeFailure State.quarantinePacket
  extract_lets s1
  have hs1 : s1.fabric.opened = s.fabric.opened := by
    simp only [s1]
    split <;> exact opened_raise ..
  split
  · exact (opened_raise ..).trans hs1
  · exact hs1

/-- However a CLOSE ends, the open packet is reserved no more. -/
theorem opened_queueClose {s : State} {producer q : Nat} {o : OpenPacket} (payload : Bytes)
    (hopen : s.fabric.opened.find? (fun o => o.queue = q ∧ o.producer = producer) = some o) :
    (s.queueClose producer q payload).fabric.opened = s.fabric.opened.erase o := by
  simp only [State.queueClose, hopen]
  split
  · exact opened_raise ..
  · split
    · simp [State.endOpen]
    · exact opened_edgeFailure ..

/-- The only element with a property, once erased, leaves none with it. -/
theorem find?_erase_of_unique {α : Type} [BEq α] [LawfulBEq α] {p : α → Bool} {l : List α} {a : α} (hone : (l.filter p).length = 1)
    (ha : l.find? p = some a) : (l.erase a).find? p = none := by
  have hlength := ((List.perm_cons_erase (List.mem_of_find?_eq_some ha)).filter p).length_eq
  rw [hone, List.filter_cons_of_pos (List.find?_some ha), List.length_cons] at hlength
  exact List.find?_eq_none.mpr (List.filter_eq_nil_iff.mp (List.eq_nil_of_length_eq_zero (by omega)))

theorem openTimeout_of_open {s : State} {producer q : Nat} {o : OpenPacket}
    (hopen : s.fabric.opened.find? (fun o => o.queue = q ∧ o.producer = producer) = some o) :
    s.openTimeout producer q = (s.endOpen o).raise 177 (le 1 2 ++ le 1 producer ++ le 2 q ++ le 4 o.cells) := by
  simp only [State.openTimeout, hopen]

theorem openTimeout_of_closed {s : State} {producer q : Nat}
    (hclosed : s.fabric.opened.find? (fun o => o.queue = q ∧ o.producer = producer) = none) : s.openTimeout producer q = s := by
  simp only [State.openTimeout, hclosed]

/-- Settles O21: the CLOSE takes the producer's one open packet off the reservations, so the expiry finds none. -/
theorem openPacketsExpire : Obligations.OpenPacketsExpire := by
  refine ⟨fun s producer q o hopen => ?expiry, fun s producer q payload hone => ?closed⟩ <;> refine congrArg Host.Outcome.next ?_
  case expiry => exact openTimeout_of_open hopen
  case closed =>
    cases hopen : s.fabric.opened.find? (fun o => o.queue = q ∧ o.producer = producer) with
    | none =>
      rw [List.filter_eq_nil_iff.mpr (List.find?_eq_none.mp hopen)] at hone
      exact nomatch hone
    | some o => exact openTimeout_of_closed (by rw [opened_queueClose payload hopen]; exact find?_erase_of_unique hone hopen)

/-! ### Grants (R316, R317, R518) -/

theorem openAnswer_granted_iff {s : State} {q : Nat} (hperturb : s.fogN 3 = 0) (hstall : s.fogN 0 = 0)
    (hwait : s.fabric.waiters.any (·.queue = q) = false) (c k : Nat) :
    s.openAnswer q c k = .granted ↔ s.openImpossible q c = false ∧ s.grantable q c = true := by
  unfold State.openAnswer
  rw [hwait, hperturb, hstall]
  cases s.openImpossible q c <;> cases s.grantable q c <;> simp

section
variable {s : State} {q : Nat} {r : QueueRow} (hrow : queueRow q = some r)
include hrow

theorem openImpossible_eq_false_iff {c : Nat} :
    s.openImpossible q c = false ↔ s.qLimit q ≠ 0 ∧ 1 ≤ c ∧ c ≤ r.maxPkt ∧ c ≤ s.qLimit q := by
  simp [State.openImpossible, hrow, Nat.one_le_iff_ne_zero, and_assoc]

theorem grantable_iff {c : Nat} :
    s.grantable q c = true ↔ s.occ q + c ≤ s.qLimit q ∧ s.floorOf r.rank + s.need q c ≤ s.sharedFree := by
  simp [State.grantable, hrow]

end

/-- Settles O19: without a perturbation, a stall or a waiter, only a request that no grant can meet and the ledger stand before it; a
request within the limit and of 1 to max_pkt cells can be met. -/
theorem grantsKeepLimitsAndFloors : Obligations.GrantsKeepLimitsAndFloors := by
  intro s q c k hperturb hstall hwait
  rw [openAnswer_granted_iff hperturb hstall hwait]
  cases hrow : queueRow q with
  | none => simp [State.openImpossible, hrow]
  | some r =>
    rw [openImpossible_eq_false_iff hrow, grantable_iff hrow]
    simp only [Option.some.injEq, exists_eq_left']
    omega

/-! ### The fabric's rows (R316 to R332) -/

theorem queueOpen_granted {s : State} {producer q n : Nat}
    (hgrant : (s.countOpen q).openAnswer q n (s.countOpen q).fabric.bpCount = .granted) :
    s.queueOpen producer q n = ((s.countOpen q).onFabric fun f => { f with
      opened := f.opened ++ [{ queue := q, producer := producer, cells := n }] }).poolCheck s.sharedFree := by
  simp only [State.queueOpen, hgrant]

section
variable {s : State} {producer q : Nat} {payload : Bytes} {o : OpenPacket}
  (hopen : s.fabric.opened.find? (fun o => o.queue = q ∧ o.producer = producer) = some o)
include hopen

theorem queueClose_appends (hfits : cellsFor payload.length ≤ o.cells) (hedge : edgeOk payload = true) :
    s.queueClose producer q payload = ((s.endOpen o).closeOn q producer payload).poolCheck s.sharedFree := by
  simp only [State.queueClose, hopen, Nat.not_lt.mpr hfits, hedge, if_true, if_false]

theorem queueClose_voids (hbeyond : o.cells < cellsFor payload.length) :
    s.queueClose producer q payload = (s.endOpen o).raise 177 (le 1 1 ++ le 1 producer ++ le 2 q ++ le 4 o.cells) := by
  simp only [State.queueClose, hopen, hbeyond, if_true]

end

theorem openGrant_single {s : State} {w : Waiter} (hnext : s.nextWaiter = some w) : State.openGrant 1 s = s.grantWaiter w := by
  simp only [State.openGrant, hnext]

theorem fanout_ready {s : State} {p : Packet} {qs : List Nat} (hhead : s.peekHead 48 = some p)
    (hqs : qs = fanoutQueues (getLE 0 1 p.payload) (getLE 12 4 p.payload / 2 ^ 18 % 16))
    (hready : qs.all (fun q => ((queueRow q).map (·.lossy)).getD false || (s.grantable q p.cells && !s.fabric.waiters.any (·.queue = q))) = true) :
    s.fanout = qs.foldl (fun t q => t.send 13 q p.payload) (s.takeHead 48).2 := by
  subst hqs
  simp only [State.fanout, hhead, hready, if_true]

/-- Settles O41: each row's premises decide the branch that it takes. -/
theorem fabricEventsComplete : Obligations.FabricEventsComplete := by
  refine ⟨fun s producer q n hgrant => ?granted, fun s producer q payload o hopen hfits hedge => ?appended,
    fun s producer q payload o hopen hbeyond => ?voided, fun s q => ?clean, fun s q => ?damaged, fun s w hone hnext => ?waiter,
    fun s p qs hhead hqs hready => ?fanout, fun s producer q o hopen => ?timeout, fun s q r hrow hrank hheld => ?headExpiry,
    fun s q ms hlong hwait => ?creditWait⟩ <;> refine congrArg Host.Outcome.next ?_
  case granted => exact queueOpen_granted hgrant
  case appended => exact queueClose_appends hopen hfits hedge
  case voided => exact queueClose_voids hopen hbeyond
  case clean | damaged => rfl
  case waiter =>
    rw [hone]
    exact openGrant_single hnext
  case fanout => exact fanout_ready hhead hqs hready
  case timeout => exact openTimeout_of_open hopen
  case headExpiry =>
    refine if_pos ?_
    simp [hrow, hrank, hheld]
  case creditWait => exact if_pos ⟨hlong, hwait⟩

/-! ### Completion frames (R450, R458) -/

theorem chunksGo_flatten {n : Nat} (hn : 0 < n) : ∀ (fuel : Nat) (b : Bytes), b.length < fuel → (chunksGo fuel n b).flatten = b
  | 0, b, h => absurd h (Nat.not_lt_zero _)
  | fuel + 1, [], _ => rfl
  | fuel + 1, x :: b, h => by
    have hrest : ((x :: b).drop n).length < fuel := by
      simp only [List.length_drop, List.length_cons] at h ⊢
      omega
    rw [chunksGo, if_neg (by simp), List.flatten_cons, chunksGo_flatten hn fuel _ hrest, List.take_append_drop]

theorem length_le_of_mem_chunksGo {n : Nat} : ∀ (fuel : Nat) (b : Bytes), ∀ p ∈ chunksGo fuel n b, p.length ≤ n
  | 0, _, _, h => nomatch h
  | fuel + 1, b, p, h => by
    rw [chunksGo] at h
    split at h
    · exact nomatch h
    · obtain rfl | hrest := List.mem_cons.mp h
      · exact List.length_take_le n b
      · exact length_le_of_mem_chunksGo fuel _ p hrest

/-- The parts of a completion's data: one empty part when there is none (R450). -/
def completionParts (n : Nat) (data : Bytes) : List Bytes := if data.isEmpty then [[]] else chunks n data

theorem completionParts_ne_nil (n : Nat) (data : Bytes) : completionParts n data ≠ [] := by
  cases data with
  | nil => simp [completionParts]
  | cons x b => simp [completionParts, chunks, chunksGo]

theorem completionParts_flatten {n : Nat} (hn : 0 < n) (data : Bytes) : (completionParts n data).flatten = data := by
  cases data with
  | nil => rfl
  | cons x b => exact chunksGo_flatten hn _ _ (Nat.lt_succ_self _)

theorem length_le_of_mem_completionParts {n : Nat} {data p : Bytes} (hp : p ∈ completionParts n data) : p.length ≤ n := by
  unfold completionParts at hp
  split at hp
  · simp_all
  · exact length_le_of_mem_chunksGo _ _ p hp

/-- MORE and FINAL of the k-th of `len` frames are never set together. -/
theorem completion_flags {k len : Nat} (hk : k < len) (final : Bool) :
    b2n (decide (k + 1 < len)) + 2 * b2n (final && decide (k + 1 = len)) = if k + 1 < len then 1 else if final then 2 else 0 := by
  cases final <;> grind [b2n]

theorem completionFrames_eq (n op status tag : Nat) (final : Bool) (data : Bytes) :
    completionFrames n op status tag final data = (completionParts n data).zipIdx.map fun p =>
      completionFrame op status tag p.2 (decide (p.2 + 1 < (completionParts n data).length))
        (final && decide (p.2 + 1 = (completionParts n data).length)) p.1 := rfl

/-- Settles O14: the parts rejoin to the data, and the k-th frame carries the k-th part. -/
theorem completionSegmentsRejoin : Obligations.CompletionSegmentsRejoin := by
  intro n op status tag final data hn
  refine ⟨completionParts n data, completionParts_ne_nil n data, completionParts_flatten hn data,
    fun p => length_le_of_mem_completionParts, ?frames⟩
  rw [completionFrames_eq]
  refine List.ext_getElem (by simp) fun k hk _ => ?_
  have hlen : k < (completionParts n data).length := by simpa using hk
  simp [completionFrame, completion_flags hlen, hlen]

end Sys2Proof.Proofs
end

section
/-! The storage manager: the storage commands (R336, R352, R359, R360), the volume commands (R361), and the rows of the write path and
of the superblocks' upkeep (R338 to R357). -/

namespace Sys2Proof.Proofs
open Sys2Proof Sys2Proof.Machine Sys2Proof.Laws

/-! ### Storage commands (R360) -/

/-- Settles O29: each accepted command passes its own checks and answers from what the taken state holds. -/
theorem storageCommandsComplete : Obligations.StorageCommandsComplete := by
  refine ⟨fun s c ha hn => ?status, fun s c ha hn => ?dies, fun s c ha hn hexists hreadable hmin hmax hzero honline => ?read,
    fun s c ha hn hsb hzero hphase => ?refreshNow, fun s c ha hn hexists hzero => ?streamInfo, fun s c ha hn hmin hmax => ?batchList,
    fun s c b ha hn hbatch htaken hoff hmin hmax honline => ?batchRead, fun s c ha hn => ?batchAck,
    fun s c b ha hn hbatch hdelivered => ?release⟩ <;> refine congrArg Host.Outcome.next ?_
  case status | dies => exact serveQuery_accepted ha hn rfl
  case read =>
    refine serveRead_accepted ha hn ?_ honline
    simp only [hexists, hzero, Nat.not_lt.mpr hmax]
    simp
    omega
  case refreshNow =>
    have hready : ((s.sb (getLE 0 2 c.req)).phase = .closed || (s.sb (getLE 0 2 c.req)).phase = .verified ||
        (s.sb (getLE 0 2 c.req)).phase = .full) = true := by simpa [or_assoc] using hphase
    exact serve_ends_accepted ha (by simp only [hready]; simp [lenIs, badField, hn, hzero, Nat.not_lt.mpr hsb]) rfl
  case streamInfo => exact serveQuery_accepted ha hn (by simp [hexists, hzero])
  case batchList => exact serveQuery_accepted ha hn (by simp [Nat.ne_of_gt hmin, Nat.not_lt.mpr hmax])
  case batchRead =>
    refine serve_done ha ?checks (by rw [htaken]; rfl)
    case checks => simp [lenIs, badField, hn, hbatch, honline, Nat.ne_of_gt hmin, Nat.not_lt.mpr hmax, hoff]
  case batchAck => exact serve_done ha (lenIs_passes hn) rfl
  case release => exact serve_done ha (by simp [lenIs, hn, hbatch, hdelivered]) (by simp [hbatch])

/-! ### Volume commands (R361) -/

theorem badVolume_passes {c : HostCmd} (hvol : getLE 0 1 c.req ≤ 15) (hzero : zeroAt 1 3 c.req = true) : badVolume c = false := by
  simp [badVolume, hzero, Nat.not_lt.mpr hvol]

/-- Settles O30: each accepted command passes its own checks; whether VOL_READ fails turns on the blocks that have expired. -/
theorem volumeCommandsComplete : Obligations.VolumeCommandsComplete := by
  refine ⟨fun s c ha hn hvol hzero hnew hfits => ?create, fun s c ha hn hvol hzero hheld => ?delete,
    fun s c ha hwhole hmin hmax hvol hzero hheld hinside hstate hpush => ?write,
    fun s c ha hn hvol hzero hheld hmin hmax hinside honline => ?read,
    fun s c ha hn hvol hzero hheld hinside => ?trim⟩ <;> refine congrArg Host.Outcome.next ?_ <;>
    have hvolume := badVolume_passes hvol hzero
  case create => exact serve_done ha (by simp [lenIs, badField, hn, hvolume, hnew, Nat.not_lt.mpr hfits]) rfl
  case delete => exact serve_done ha (by simp [lenIs, badField, hn, hvolume, hheld]) rfl
  case write =>
    refine serve_later ha ?checks ?pushed
    case checks =>
      simp [-List.length_drop, badField, hwhole, Nat.ne_of_gt hmin, Nat.not_lt.mpr hmax, hvolume, hheld, Nat.not_lt.mpr hinside, hstate]
    case pushed =>
      dsimp only
      generalize pushVolume (s.taken 0x0612 c) (getLE 0 1 c.req) (getLE 4 4 c.req) (c.req.drop 8) = pushed at hpush ⊢
      obtain ⟨t, sent, ok⟩ := pushed
      obtain ⟨rfl, rfl⟩ := Prod.mk.inj hpush
      rfl
  case read =>
    have hchecks : ∀ x ∈ [lenIs c 12, badField (badVolume c || getLE 8 4 c.req = 0 || decide (64 < getLE 8 4 c.req) ||
        (s.store.vols.has (getLE 0 1 c.req) && decide (s.volBlocks (getLE 0 1 c.req) < getLE 4 4 c.req + getLE 8 4 c.req))),
        (!s.store.vols.has (getLE 0 1 c.req), stNotFound)], x.1 = false := by
      simp [lenIs, badField, hn, hvolume, hheld, Nat.ne_of_gt hmin, Nat.not_lt.mpr hmax, Nat.not_lt.mpr hinside]
    split
    next hexpired => exact serve_ends_status ha hchecks (by simp only [honline, hexpired, Bool.false_eq_true, if_false, if_true])
    next hlive => exact serve_done ha hchecks (by simp only [honline, hlive, Bool.false_eq_true, if_false])
  case trim => exact serve_done ha (by simp [lenIs, badField, hn, hvolume, hheld, Nat.not_lt.mpr hinside]) rfl

/-! ### Programs, erases and dies (R338, R343, R347, R350) -/

theorem storeAccept_of_next {s t : State} {q st kind flags sq : Nat} {p : Packet} {d : Bytes} (hmap : s.store.mapReady = true)
    (hq : [64, 66, 67, 68, 69].contains q = true) (hnext : s.nextUnread q = (some p, t))
    (htarget : storeTarget q p.body = some (st, kind, flags, sq, d)) :
    s.storeAccept q = ((t.onStore fun x => { x with held := x.held.upd q 0 (· + 1) }).acceptRecord st kind q sq flags none d).1 := by
  have hplain : q = 64 ∨ q = 66 ∨ q = 67 ∨ q = 68 ∨ q = 69 := by simpa using hq
  have hread : ([64, 65, 66, 67, 68, 69, 70] : List Nat).contains q = true := by
    obtain rfl | rfl | rfl | rfl | rfl := hplain <;> rfl
  have hnot : q ≠ 0xFFFF ∧ q ≠ 65 ∧ q ≠ 70 := by omega
  obtain ⟨hlist, hsealed, hvol⟩ := hnot
  simp [-List.contains_eq_mem, State.storeAccept, hmap, hlist, hread, hnext, hvol, hsealed, htarget]

theorem issueProgram_of_latent {s t : State} {st i : Nat} (hbuf : s.store.buffers.getD st [] ≠ []) (hstate : s.store.state ≠ .frozen)
    (hlatent : s.latentFor (streamHot st) (streamCritical st) = (some i, t)) :
    s.issueProgram st = (t.takePage i).2.onStore fun x => { x with
      buffers := if (cutPage (s.store.buffers.getD st []) pageBytes).2.isEmpty then x.buffers.erase st
        else x.buffers.set st (cutPage (s.store.buffers.getD st []) pageBytes).2
      programs := x.programs ++ [{ stream := st, parts := (cutPage (s.store.buffers.getD st []) pageBytes).1, sb := i, page := (t.takePage i).1 }]
      recs := (cutPage (s.store.buffers.getD st []) pageBytes).1.foldl (fun m p => m.adj p.1 fun r => r.addPage i (t.takePage i).1) x.recs } := by
  simp only [State.issueProgram]
  rw [if_neg (by simp [hbuf, hstate]), hlatent]

theorem programEnds_ok {s : State} {p : PageProgram} {rest : List PageProgram} (hprogram : s.store.programs = p :: rest)
    (hinj : (s.takeInjection 1 (p.page % 8)).1 = false) :
    s.programEnds true = (((s.takeInjection 1 (p.page % 8)).2.onStore fun t => { t with programs := rest }).onStore fun t => { t with
      pagesSince := if p.stream = 0 then 0 else t.pagesSince + 1
      recs := p.parts.foldl (fun m q => if q.2 then m.adj q.1 fun r => { r with programmed := true } else m) t.recs }).commitAll := by
  simp [State.programEnds, hprogram, hinj]

theorem eraseDone_ok {s : State} {i : Nat} {rest : List Nat} (d : Nat) (hq : s.store.eraseQ = i :: rest) (hnone : s.eraseInjected = []) :
    s.eraseDone true d = ((List.range 8).foldl (fun t k => t.onDie k fun x => { x with injected := x.injected.erase (t.blockOf k i) })
      ((s.onStore fun t => { t with
        eraseQ := rest
        recs := t.recs.filter (fun p => match p.2.place with
          | .flash b _ _ => decide (b ≠ i)
          | _ => true) }).onSb i fun b => { pe := b.pe + 1 })).storeEval false := by
  simp only [State.eraseDone, hq, hnone]
  rfl

theorem pageReadDone_clean {s : State} {st sq id i f l : Nat} {r : StoreRec} (retry pct : Nat) (hid : s.recId st sq = some id)
    (hrec : s.store.recs.get? id = some r) (hplace : r.place = .flash i f l) :
    s.pageReadDone st sq false false retry pct = if s.cfgN 0x9000 9 ≤ retry then s.queueRefresh i 2
      else if 75 < pct then s.queueRefresh i 3 else s := by
  simp [State.pageReadDone, hid, hrec, hplace]

section
variable {s : State} {d : Nat} (hhung : (s.store.dies.getD (d % 8) {}).hung = true)
include hhung

theorem dieRetry_ok : s.dieRetry d true = s.onDie (d % 8) fun y => { y with hung := false, retries := 0 } := by
  simp only [State.dieRetry, hhung, Bool.not_true, Bool.false_eq_true, if_false, if_true]

theorem dieRetry_hangs (hretries : (s.store.dies.getD (d % 8) {}).retries < 2) :
    s.dieRetry d false = (s.onDie (d % 8) fun y => { y with retries := y.retries + 1 }).dieHang d := by
  have hagain : (s.store.dies.getD (d % 8) {}).retries + 1 < 3 := by omega
  simp only [State.dieRetry, hhung, Bool.not_true, Bool.false_eq_true, if_false, hagain, if_true]

theorem dieRetry_offline (hretries : 2 ≤ (s.store.dies.getD (d % 8) {}).retries) :
    let u := (s.onDie (d % 8) fun y => { y with retries := y.retries + 1 }).dieHang d
    s.dieRetry d false = ((u.onDie (d % 8) fun y => { y with hung := false, retries := 0, online := false }).raise 201
      (le 1 (d % 8) ++ le 1 0)).offlineRelocate (d % 8) := by
  have hlast : ¬(s.store.dies.getD (d % 8) {}).retries + 1 < 3 := by omega
  simp only [State.dieRetry, hhung, Bool.not_true, Bool.false_eq_true, if_false, hlast]

end

/-! ### Development, garbage collection and refresh (R344, R345, R346, R352) -/

theorem developOne_reserved {s : State} {i : Nat} (pct : Nat) (hrun : s.store.stopped = false) (hstate : s.store.state ≠ .frozen)
    (hfree : 0 < s.freeTlc) (hheld : ([28, 29, 30, 31] : List Nat).find? (fun i =>
      ((s.sb i).phase = .full || (s.sb i).phase = .opened) && !(s.sb i).copying && !(s.idsIn i).isEmpty) = some i) :
    s.developOne pct = ((s.onStore fun t => { t with
      devActive := if t.devActive then decide (s.cfgN 0x9000 3 < ((s.latentIn .full).filter (fun i => !(s.sb i).copying)).length)
        else decide (s.cfgN 0x9000 2 ≤ ((s.latentIn .full).filter (fun i => !(s.sb i).copying)).length) }).closeSb i .full).copyOut i false pct := by
  simp only [State.developOne]
  rw [if_neg (by simp [hrun, hstate]), if_pos hfree, hheld]
  rfl

/-- Erasing empty superblocks changes superblocks and the erase queue only. -/
theorem eraseEmpty_keeps {α : Type} {read : State → α} (hsb : ∀ t i f, read (State.onSb t i f) = read t)
    (hqueue : ∀ t q, read (State.onStore t fun x => { x with eraseQ := x.eraseQ ++ q }) = read t) (s : State) : read s.eraseEmpty = read s :=
  (hqueue _ _).trans (foldl_keeps (fun t i => hsb t i _) _ s)

theorem garbageCollect_running {s : State} (pct : Nat) (hrun : s.store.stopped = false) (hstate : s.store.state ≠ .frozen) :
    let u := s.eraseEmpty
    let active := decide (u.freeTlc < s.cfgN 0x9000 (if s.store.gcActive then 5 else 4))
    let v := u.onStore fun t => { t with gcActive := active }
    s.garbageCollect pct = if !active ∨ (2 ≤ s.power.thermalLevel ∧ s.store.state ≠ .full) then v.storeEval false
      else match v.gcBest with
        | some i => (v.copyOut i (decide (s.store.state ≠ .full)) pct).storeEval false
        | none => v.storeEval true := by
  have hstopped : s.eraseEmpty.store.stopped = false :=
    (eraseEmpty_keeps (read := (·.store.stopped)) (fun _ _ _ => rfl) (fun _ _ => rfl) s).trans hrun
  have hkept : s.eraseEmpty.store.state = s.store.state :=
    eraseEmpty_keeps (read := (·.store.state)) (fun _ _ _ => rfl) (fun _ _ => rfl) s
  have hactive : s.eraseEmpty.store.gcActive = s.store.gcActive :=
    eraseEmpty_keeps (read := (·.store.gcActive)) (fun _ _ _ => rfl) (fun _ _ => rfl) s
  have hpower : s.eraseEmpty.power = s.power := eraseEmpty_keeps (read := (·.power)) (fun _ _ _ => rfl) (fun _ _ => rfl) s
  have hcfg : s.eraseEmpty.cfg = s.cfg := eraseEmpty_keeps (read := (·.cfg)) (fun _ _ _ => rfl) (fun _ _ => rfl) s
  simp only [State.garbageCollect, hrun, Bool.false_eq_true, if_false]
  rw [if_neg (by simp [hstopped, hkept, hstate])]
  cases hgc : s.store.gcActive <;> simp [hactive, hgc, hpower, hkept, cfgN_of_cfg hcfg] <;> rfl

/-- One step of the search for the victim with the highest score. -/
def betterVictim (score : Nat → Nat) (m : Option Nat) (i : Nat) : Option Nat :=
  match m with
  | some j => if score j < score i then some i else some j
  | none => some i

theorem gcBest_eq (s : State) : s.gcBest = s.gcVictims.foldl (betterVictim s.gcScore) none := rfl

/-- What the search returns, started with a victim found before: one it has met, and none it has met has a higher score. -/
theorem foldl_betterVictim_best {score : Nat → Nat} {l : List Nat} {m : Option Nat} {k : Nat} (h : l.foldl (betterVictim score) m = some k) :
    (m = some k ∨ k ∈ l) ∧ (∀ j ∈ m, score j ≤ score k) ∧ ∀ j ∈ l, score j ≤ score k := by
  induction l generalizing m with
  | nil =>
    obtain rfl : m = some k := h
    simp
  | cons i l ih =>
    obtain ⟨hfound, hstart, hrest⟩ := ih h
    cases m with
    | none =>
      have hi : score i ≤ score k := hstart i rfl
      exact ⟨by simpa [betterVictim, eq_comm] using hfound, nofun, by simpa [hi] using hrest⟩
    | some j =>
      by_cases hji : score j < score i
      · simp only [betterVictim, if_pos hji] at hfound hstart
        have hi : score i ≤ score k := hstart i rfl
        refine ⟨.inr ?_, fun x hx => ?_, by simpa [hi] using hrest⟩
        · simpa [eq_comm] using hfound
        · obtain rfl : j = x := Option.some.inj hx
          omega
      · simp only [betterVictim, if_neg hji] at hfound hstart
        have hj : score j ≤ score k := hstart j rfl
        have hi : score i ≤ score k := by omega
        exact ⟨hfound.imp_right (List.mem_cons_of_mem i), hstart, by simpa [hi] using hrest⟩

section
variable {s : State} {i cause : Nat} {rest : List (Nat × Nat)} (hrun : s.store.stopped = false) (hstate : s.store.state ≠ .frozen)
  (hq : s.store.refreshQ = (i, cause) :: rest)
include hrun hstate hq

theorem refresh_copies (pct : Nat) (hcause : cause ≠ 0)
    (hphase : (s.sb i).phase = .full ∨ (s.sb i).phase = .closed ∨ (s.sb i).phase = .verified) :
    s.refresh pct = ((((s.onStore fun t => { t with refreshQ := t.refreshQ.filter (·.1 ≠ i) }).raise 203
      (le 2 i ++ le 1 cause)).copyOut i true pct).storeEval false).finish workRefresh i stDone [] := by
  have hready : ((s.sb i).phase = .full || (s.sb i).phase = .closed || (s.sb i).phase = .verified) = true := by simpa [or_assoc] using hphase
  simp only [State.refresh, hq]
  rw [if_neg (by simp [hrun, hstate]), hready, if_neg (by decide), if_neg hcause]

theorem refresh_drops (pct : Nat) (hphase : ¬((s.sb i).phase = .full ∨ (s.sb i).phase = .closed ∨ (s.sb i).phase = .verified)) :
    s.refresh pct = (s.onStore fun t => { t with refreshQ := t.refreshQ.filter (·.1 ≠ i) }).finish workRefresh i stDone [] := by
  have hgone : ((s.sb i).phase = .full || (s.sb i).phase = .closed || (s.sb i).phase = .verified) = false := by
    simpa [and_assoc] using hphase
  simp only [State.refresh, hq]
  rw [if_neg (by simp [hrun, hstate]), hgone, if_pos (by decide)]

end

/-- Settles O42: each row's premises decide its guards; a victim that garbage collection takes is the best of its search. -/
theorem storageEventsComplete : Obligations.StorageEventsComplete := by
  refine ⟨fun s q st kind flags sq p d hmap hq hnext htarget => ?accept, fun s stream i hbuf hstate hlatent => ?program,
    fun s p rest hprogram hinj => ?programmed, fun s => ?expiry, fun s d i rest hq hnone => ?erased,
    fun s st sq retry pct id i f l r hid hrec hplace => ?pageRead, fun s d => ?hang, fun s d hhung => ?retryOk,
    fun s d hhung hretries => ?retryOffline, fun s d hhung hretries => ?retryHangs, fun s pct i hrun hstate hfree hheld => ?development,
    fun s pct hrun hstate => ?garbage, fun s i hbest => ?best, fun s pct i cause rest hrun hstate hq hcause hphase => ?refreshed,
    fun s pct i cause rest hrun hstate hq hfull hclosed hverified => ?gone, fun s t0 t1 => ?aged, fun s hstate => ?checkpoint⟩
  case best =>
    obtain ⟨hfound, -, hbetter⟩ := foldl_betterVictim_best ((gcBest_eq s).symm.trans hbest)
    exact ⟨hfound.resolve_left (nomatch ·), hbetter⟩
  all_goals refine congrArg Host.Outcome.next ?_
  case accept => exact storeAccept_of_next hmap hq (Prod.ext hnext rfl) htarget
  case program => exact issueProgram_of_latent hbuf hstate (Prod.ext hlatent rfl)
  case programmed => exact congrArg (State.storeEval · false) (programEnds_ok hprogram hinj)
  case expiry | hang | aged => rfl
  case erased => exact eraseDone_ok d hq hnone
  case pageRead => exact pageReadDone_clean retry pct hid hrec hplace
  case retryOk => exact dieRetry_ok hhung
  case retryOffline => exact dieRetry_offline hhung hretries
  case retryHangs => exact dieRetry_hangs hhung hretries
  case development => exact congrArg (State.storeEval · false) (developOne_reserved pct hrun hstate hfree hheld)
  case garbage => exact garbageCollect_running pct hrun hstate
  case refreshed => exact refresh_copies hrun hstate hq pct hcause hphase
  case gone => exact refresh_drops hrun hstate hq pct (by simp [hfull, hclosed, hverified])
  case checkpoint => simp [State.mapCheckpoint, hstate]

end Sys2Proof.Proofs
end

section
/-! The event recorder: token buckets (R370), the records of channel 0 (R369), the recorder commands (R371, R376, R377) and the recorder's
own rows (R368, R370, R371, R376). -/

namespace Sys2Proof.Proofs
open Sys2Proof Sys2Proof.Machine Sys2Proof.Laws

/-! ### Token buckets (R370) -/

/-- Settles O18: a raise whose bucket is spent only counts. -/
theorem spentBucketsSuppressEvents : Obligations.SpentBucketsSuppressEvents := by
  intro s src data hrun hdepth hspent
  have hcore : s.raiseCore src data = s.suppress src := if_pos ⟨hdepth, hspent⟩
  rw [State.raise, if_pos hrun, hcore]
  rfl

/-! ### Records of channel 0 (R369) -/

section
variable {s u : State} {p : Packet} {last : Nat} (hnext : s.recorderNext = (some p, u)) (hsealed : p.producer = 13)
  (hlast : u.recd.sealedLast = some last)
include hnext hsealed hlast

/-- A record of channel 0 that is no resend is stored; one that does not follow the last stored record raises event 228. -/
theorem sealedEventRecord_stored {r : Bytes} (hr : r = (p.payload.drop 12).take 32) (hnew : last < getLE 0 8 r) :
    let v := ((u.holdRecorder.acceptRecord 11 0x85 71 0 0 (some (s.recWeek 0 (getLE 0 8 r))) r).1.sealedSeen r).onRec
      fun x => { x with sealedLast := some (getLE 0 8 r) }
    let w := if getLE 0 8 r = last + 1 then v else v.raise 228 (le 4 (last + 1) ++ le 4 (getLE 0 8 r))
    s.sealedEventRecord = if getLE 16 2 r < 256 then w.notify (getLE 16 2 r) r else w := by
  subst hr
  have hheld : u.holdRecorder.recd.sealedLast = some last := hlast
  simp only [State.sealedEventRecord, hnext, hsealed, ne_eq, not_true_eq_false, if_false, hheld, Nat.not_le.mpr hnew]

theorem sealedEventRecord_resend (hold : getLE 0 8 ((p.payload.drop 12).take 32) ≤ last) :
    s.sealedEventRecord = (u.holdRecorder.releaseRead 71).onRec fun x => { x with resends := x.resends + 1 } := by
  have hheld : u.holdRecorder.recd.sealedLast = some last := hlast
  simp only [State.sealedEventRecord, hnext, hsealed, ne_eq, not_true_eq_false, if_false, hheld, hold, if_true]

end

/-- Settles O20: a gap is a record that is no resend and does not follow the last one. -/
theorem channelZeroGapsAndResends : Obligations.ChannelZeroGapsAndResends := by
  refine ⟨fun s u p last r hnext hsealed hr hlast hgap => ?gap, fun s u p last hnext hsealed hlast hold => ?resend⟩ <;>
    refine congrArg Host.Outcome.next ?_
  case gap =>
    have hskips : getLE 0 8 r ≠ last + 1 := by omega
    refine (sealedEventRecord_stored hnext hsealed hlast hr (by omega)).trans ?_
    rw [if_neg hskips]
  case resend => exact sealedEventRecord_resend hnext hsealed hlast hold

/-! ### Recorder commands (R371, R376, R377) -/

theorem recPrivileged_le {ch : Nat} (h : recPrivileged ch = true) : ch ≤ 15 := by
  have hlist : ch = 0 ∨ ch = 1 ∨ ch = 2 ∨ ch = 3 ∨ ch = 7 ∨ ch = 11 ∨ ch = 15 := by simpa [recPrivileged] using h
  omega

/-- Settles O31: each accepted command passes its own checks and ends as its body answers. -/
theorem recorderCommandsComplete : Obligations.RecorderCommandsComplete := by
  refine ⟨fun s c ha hn => ?status, fun s c ha hn hch hzero hmin hmax honline => ?read,
    fun s c ha hn hprivileged hzero hfew htaken => ?exposeOpen,
    fun s c e ha hn hmin hmax he htaken hshows honline => ?exposeRead, fun s c e ha hn he htaken => ?exposeClose,
    fun s c ha hn hlevel => ?anchorNow⟩ <;> refine congrArg Host.Outcome.next ?_
  case status => exact serveQuery_accepted ha hn rfl
  case read => exact serveRead_accepted ha hn (by simp [Nat.not_lt.mpr hch, hzero, Nat.ne_of_gt hmin, Nat.not_lt.mpr hmax]) honline
  case exposeOpen =>
    refine serve_done ha ?checks rfl
    case checks => simp [lenIs, badField, hn, Nat.not_lt.mpr (recPrivileged_le hprivileged), hzero, hprivileged, Nat.not_le.mpr hfew]
  case exposeRead =>
    refine serve_done ha ?checks (by simp only [htaken])
    case checks => simpa [lenIs, badField, hn, he, Nat.ne_of_gt hmin, Nat.not_lt.mpr hmax, hshows] using honline
  case exposeClose =>
    have hopen : s.recd.exposures.any (·.handle = getLE 0 4 c.req) = true :=
      List.any_eq_true.mpr ⟨e, List.mem_of_find?_eq_some he, by simpa using List.find?_some he⟩
    exact serve_done ha (by simp only [hopen]; simp [lenIs, hn]) (by rw [htaken]; rfl)
  case anchorNow => exact serve_later ha (by simp [lenIs, hn, Nat.not_le.mpr hlevel]) rfl

/-! ### The recorder's rows (R368, R370, R371, R376) -/

theorem exposureExpiry_due {s : State} {handle : Nat} {e : Exposure} (he : s.recd.exposures.find? (·.handle = handle) = some e)
    (hdue : e.lastOt + s.cfgN 0xA000 1 ≤ s.power.ot) :
    s.exposureExpiry handle = (s.endExposure e).raise 227 (le 1 e.channel ++ zeros 3 ++ le 4 handle) := by
  simp only [State.exposureExpiry, he, Nat.not_lt.mpr hdue, if_false]

theorem recorderPacket_open {s t : State} {p : Packet} (hnext : s.recorderNext = (some p, t)) (hopen : p.producer ≠ 13) :
    s.recorderPacket = (t.holdRecorder.recordOpen (getLE 18 1 p.payload) 71 p.payload).1.notify (getLE 16 2 p.payload)
      (t.holdRecorder.recordOpen (getLE 18 1 p.payload) 71 p.payload).2 := by
  simp only [State.recorderPacket, hnext, hopen, if_false]

/-- Settles O43: a record of channel 0 that follows the last one is the case without a gap. -/
theorem recorderEventsComplete : Obligations.RecorderEventsComplete := by
  refine ⟨fun s src => ?refill, fun s handle e he hdue => ?expiry, fun s p hhead hopen => ?recorded,
    fun s p last r hhead hsealed hr hlast hfollows => ?followed, fun s hdue hlevel => ?anchor⟩ <;> refine congrArg Host.Outcome.next ?_
  case refill => rfl
  case expiry => exact exposureExpiry_due he hdue
  case recorded => exact recorderPacket_open (Prod.ext hhead rfl) hopen
  case followed =>
    refine (sealedEventRecord_stored (Prod.ext hhead rfl) hsealed hlast hr (by omega)).trans ?_
    rw [if_pos hfollows, hfollows]
  case anchor => exact if_pos ⟨hdue, hlevel⟩

end Sys2Proof.Proofs
end

section
/-! The security unit: the security commands (R380, R384, R386, R392, R394, R396, R399), the firmware commands (R388 to R391), and the
unit's own rows (R381, R386, R396, R515). -/

namespace Sys2Proof.Proofs
open Sys2Proof Sys2Proof.Machine Sys2Proof.Laws

/-! ### Security commands (R399) -/

/-- Settles O32: a document and a wrapped key end as their checks judge them; every other accepted command ends with DONE. -/
theorem securityCommandsComplete : Obligations.SecurityCommandsComplete := by
  refine ⟨fun s c ha hn => ?status, fun s c ha hn => ?openDoc, fun s c ha hn htarget hzero hlifecycle hkey hwrap => ?advance,
    fun s c ha hallowed => ?keyWrite, fun s c ha hn hdebug => ?attest, fun s c ha hn hmin hmax hrng => ?rngRead,
    fun s c ha hn hmin hmax hzero => ?certRead, fun s c ha hn hmin hmax hzero hdebug => ?rekey⟩ <;> refine congrArg Host.Outcome.next ?_
  case status => exact serveQuery_accepted ha hn rfl
  case openDoc =>
    have hlength : ∀ x ∈ [(decide (c.req.length < 3368), stBadLength)], x.1 = false := by simpa using hn
    cases hfailure : (s.taken 0x0802 c).openDocFailure c.req with
    | some st => exact serve_ends_status ha hlength (by simp only [State.submitOpenDoc, hfailure])
    | none => exact serve_done ha hlength (by simp only [State.submitOpenDoc, hfailure])
  case advance =>
    have hheld := Option.isNone_eq_false_iff.mpr hkey
    have hwrapped := Option.isNone_eq_false_iff.mpr hwrap
    exact serve_done ha (by simp [lenIs, badField, hn, htarget, hzero, hlifecycle, hheld, hwrapped]) rfl
  case keyWrite =>
    have hpass : ∀ x ∈ [((s.keyWriteFailure c.req).isSome, (s.keyWriteFailure c.req).getD 0)], x.1 = false := by simp [hallowed]
    split
    next hkey => exact serve_ends_status ha hpass (by simp only [State.keyWrite, hkey])
    next k hkey => exact serve_done ha hpass (by simp only [State.keyWrite, hkey])
  case attest => exact serve_done ha (by simp [lenIs, hn, State.keysBlocked, hdebug]) rfl
  case rngRead => exact serve_done ha (by simp [lenIs, badField, hn, Nat.ne_of_gt hmin, Nat.not_lt.mpr hmax, hrng]) rfl
  case certRead => exact serveQuery_accepted ha hn (by simp [Nat.ne_of_gt hmin, Nat.not_lt.mpr hmax, hzero])
  case rekey =>
    exact serve_done ha
      (by simp [lenIs, badField, hn, Nat.ne_of_gt hmin, Nat.not_lt.mpr hmax, hzero, State.keysBlocked, hdebug]) rfl

/-! ### Firmware commands (R388, R390, R391) -/

theorem fwDenied_passes {s : State} (h : s.sec.lifecycle ≠ 4) : s.fwDenied.1 = false :=
  decide_eq_false h

/-- Settles O33: a verification ends as the steps of R388 judge the idle slot; every other accepted command ends with DONE. -/
theorem firmwareCommandsComplete : Obligations.FirmwareCommandsComplete := by
  refine ⟨fun s c ha hn hmin hmax htrial hlifecycle => ?begin, fun s c ha hn hmin hmax htrial hlifecycle hopen hnext hfits => ?write,
    fun s c ha hn hlifecycle => ?verify, fun s c ha hn htrial hlifecycle hvalid => ?activate,
    fun s c ha hn hlifecycle htrial => ?confirm, fun s c ha hn => ?status⟩ <;> refine congrArg Host.Outcome.next ?_
  case begin =>
    exact serve_done ha
      (by simp [lenIs, badField, hn, Nat.not_lt.mpr hmin, Nat.not_lt.mpr hmax, htrial, fwDenied_passes hlifecycle]) rfl
  case write =>
    refine serve_done ha ?checks rfl
    case checks =>
      simp [-List.getD_eq_getElem?_getD, badField, hn, Nat.ne_of_gt hmin, Nat.not_lt.mpr hmax, htrial, hopen, hnext,
        Nat.not_lt.mpr hfits, fwDenied_passes hlifecycle]
  case verify =>
    have hpass : ∀ x ∈ [lenIs c 0, s.fwDenied], x.1 = false := by simp [lenIs, hn, fwDenied_passes hlifecycle]
    split
    next hfailure => exact serve_done ha hpass (by simp only [State.fwVerify, hfailure])
    next k hfailure => exact serve_ends_status ha hpass (by simp only [State.fwVerify, hfailure])
  case activate => exact serve_done ha (by simp [-List.getD_eq_getElem?_getD, lenIs, hn, htrial, hvalid, fwDenied_passes hlifecycle]) rfl
  case confirm => exact serve_done ha (by simp [lenIs, hn, htrial, fwDenied_passes hlifecycle]) rfl
  case status => exact serveQuery_accepted ha hn rfl

/-! ### The unit's rows (R381, R386, R396, R515) -/

/-- Settles O47: each row's premises decide its guard. -/
theorem securityEventsComplete : Obligations.SecurityEventsComplete := by
  refine ⟨fun s header record => ?opened, fun s hmany hrng => ?reseed, fun s hallowed => ?attach, fun s t d hopen hover => ?window,
    fun s test samples hrng => ?healthFail, fun s samples hrestarting => ?restart, fun s ch hlo hhi hused => ?epochRoll,
    fun s u hunlock hover => ?unlock⟩ <;> refine congrArg Host.Outcome.next ?_
  case opened => rfl
  case reseed => exact if_pos ⟨hmany, by simp [hrng]⟩
  case attach => exact if_pos hallowed
  case window => simp [hopen, hover]
  case healthFail => simp [State.trngFail, hrng]
  case restart => simp [State.trngRestart, hrestarting]
  case epochRoll => exact if_pos ⟨hlo, hhi, hused⟩
  case unlock => simp [hunlock, hover, State.fogLock]

end Sys2Proof.Proofs
end

section
/-! The tier: uploads and their acknowledgements (R397, R488), heartbeats and lost peers (R483, R484, R489), and the frames of each type
(R481, R486, R487). -/

namespace Sys2Proof.Proofs
open Sys2Proof Sys2Proof.Machine Sys2Proof.Laws

/-! ### Uploads (R397, R488) -/

theorem uploadSend_due {s : State} {n : Nat} {b : BatchEntry} {d : Bytes} (hrole : s.role ≠ 2) (haddr : s.headendAddr ≠ zeros 16)
    (hbatch : s.store.batches.get? n = some b) (hcomplete : b.complete = true) (hopen : b.delivered = false)
    (hidle : s.sec.uploads.any (·.batch = n) = false) (hwindow : s.sec.uploads.length < s.cfgN 0xB000 5) (hbytes : s.batchBytes n = some d) :
    s.uploadSend n = (segmentsOf (le 1 1 ++ zeros 3) n d).foldl State.sendUpload
      (s.onSec fun x => { x with uploads := x.uploads ++ [{ batch := n, attempts := 0 }] }) := by
  simp only [State.uploadSend, hbatch, hcomplete, hopen, hidle, hbytes]
  exact if_neg (by simp [haddr, hrole, hwindow])

theorem uploadTimeout_again {s : State} {n : Nat} {u : Upload} {d : Bytes} (hupload : s.sec.uploads.find? (·.batch = n) = some u)
    (hattempts : u.attempts < s.cfgN 0xB000 7) (hbytes : s.batchBytes n = some d) :
    s.uploadTimeout n = (segmentsOf (le 1 1 ++ zeros 3) n d).foldl State.sendUpload (s.onSec fun x => { x with
      uploads := x.uploads.map (fun v => if v.batch = n then { v with attempts := v.attempts + 1 } else v) }) := by
  simp only [State.uploadTimeout, hupload, hattempts, hbytes, if_true]

/-! ### Heartbeats and peers (R483, R484, R489) -/

theorem peerLoss_silent {s : State} {m : Nat} {p : Peer} (hon : s.tierOn = true) (hpeer : s.tier.peers.get? m = some p)
    (hlive : p.live = true) (hsilent : p.lastOt + 5 ≤ s.power.ot) :
    s.peerLoss m = (s.onTier fun t => { t with
      peers := t.peers.set m { p with live := false, lostOt := s.power.ot + 1 }
      managerLostOt := if s.role = 2 ∧ m = 0 then some s.power.ot else t.managerLostOt
      batchSent := if m = 0 then [] else t.batchSent }).raise 240 (le 1 m ++ le 1 p.role ++ zeros 2 ++ padTo 4 p.identity) := by
  simp [State.peerLoss, hon, hpeer, hlive, hsilent]

theorem bufferAge_warns {s : State} {t : Nat} (hlost : s.tier.managerLostOt = some t) (hday : s.tier.lossDays < (s.power.ot - t) / 86400)
    (hwarn : s.cfgN 0xE000 5 < (s.power.ot - t) / 86400) :
    s.bufferAge = (s.onTier fun x => { x with lossDays := (s.power.ot - t) / 86400 }).raise 244 (le 2 ((s.power.ot - t) / 86400) ++ zeros 2 ++
      le 4 (s.store.batches.filter (fun b => b.2.complete && !b.2.delivered)).length) := by
  simp only [State.bufferAge, hlost]
  exact (if_pos hday).trans (if_pos hwarn)

/-- Settles O56: an upload, an acknowledgement and a timeout act when their conditions hold; a frame does what its receiver accepts of it. -/
theorem tierAndUploadEventsComplete : Obligations.TierAndUploadEventsComplete := by
  refine ⟨fun s n b d hrole haddr hbatch hcomplete hopen hidle hwindow hbytes => ?send, fun s n hup => ?ack, fun s n m hrelayed => ?relayAck,
    fun s n u d hrole hupload hattempts hbytes => ?timeout, fun s mac frame => ?heartbeat, fun s m p hon hpeer hlive hsilent => ?loss,
    fun s frame => ?directory, fun s frame => ?segment, fun s frame => ?batchAck, fun s frame => ?subscribe, fun s frame => ?contrib,
    fun s hon => ?beat, fun s t hlost hday hwarn => ?age⟩ <;> refine congrArg Host.Outcome.next ?_
  case send => exact (if_neg hrole).trans (uploadSend_due hrole haddr hbatch hcomplete hopen hidle hwindow hbytes)
  case ack => exact if_pos hup
  case relayAck => exact if_pos hrelayed
  case timeout => exact (if_neg hrole).trans (uploadTimeout_again hupload hattempts hbytes)
  case loss => exact peerLoss_silent hon hpeer hlive hsilent
  case segment =>
    rcases hframe : s.tierReceive 3 frame with ⟨t, _ | ⟨src, b⟩⟩
    · simp only [State.batchSegment, hframe]
    · simp [-List.contains_eq_mem, State.batchSegment, hframe]
  case heartbeat | directory | batchAck | subscribe | contrib => rfl
  case beat => exact if_pos hon
  case age => exact bufferAge_warns hlost hday hwarn

end Sys2Proof.Proofs
end

section
/-! The distribution engine: the campaign commands (R402, R411, R415), and content, rounds, answers, activation and verification (R401,
R404, R408, R410, R411). -/

namespace Sys2Proof.Proofs
open Sys2Proof Sys2Proof.Machine Sys2Proof.Laws

/-! ### Campaign commands (R402, R411, R415) -/

theorem campCheck_passes {s : State} {c : HostCmd} (hnumber : getLE 0 1 c.req ≤ 7) (hzero : zeroAt 1 3 c.req = true)
    (hheld : s.camps.has (getLE 0 1 c.req) = true) : ∀ x ∈ campCheck c s, x.1 = false := by
  simp [campCheck, badField, Nat.not_lt.mpr hnumber, hzero, hheld]

theorem lenIs_campCheck_passes {s : State} {c : HostCmd} {n : Nat} {own : List (Bool × Nat)} (hn : c.req.length = n)
    (hcamp : ∀ x ∈ campCheck c s, x.1 = false) (hown : ∀ x ∈ own, x.1 = false) : ∀ x ∈ lenIs c n :: campCheck c s ++ own, x.1 = false :=
  List.forall_mem_append.mpr ⟨List.forall_mem_cons.mpr ⟨by simp [lenIs, hn], hcamp⟩, hown⟩

theorem freeCampaign_of_camps {s t : State} (h : t.camps = s.camps) : t.freeCampaign = s.freeCampaign := by
  simp only [State.freeCampaign, h]

/-- Settles O34: each accepted command passes the checks of its campaign and its own, and ends as its body answers. -/
theorem distributionCommandsComplete : Obligations.DistributionCommandsComplete := by
  refine ⟨fun s c ha hn hnumber hzero hheld => ?status, fun s c k ha hn hwell hfree hfew => ?create,
    fun s c ha hn hnumber hzero hheld hmin hmax hdistinct hfields hawake hlisted hunbound => ?members,
    fun s c ha hn hnumber hzero hdefined => ?start, fun s c ha hn hmin hmax hnumber hzero hheld => ?readMembers,
    fun s c ha hn hnumber hzero hheld => ?cancel, fun s c x ha hn hnumber hzero hx hunset => ?activate⟩ <;>
    refine congrArg Host.Outcome.next ?_
  case status | cancel =>
    exact serve_done ha (List.forall_mem_cons.mpr ⟨by simp [lenIs, hn], campCheck_passes hnumber hzero hheld⟩) rfl
  case create =>
    refine serve_done ha ?checks ?body
    case checks => simpa [badField, hn, hwell, hfree] using hfew
    case body => simp only [freeCampaign_of_camps (taken_camps s 0x0902 c), hfree]; rfl
  case members =>
    have hcamp := campCheck_passes hnumber hzero hheld
    have hentries : (distEntries c.req).any (fun e => decide (2 ^ 18 ≤ e.1) || (decide (2 < e.2.1) && e.2.1 ≠ 0xFF) || !e.2.2 ||
        (e.2.1 ≠ 0 && e.2.1 ≠ 0xFF && s.isSleepy e.1)) = false := by
      refine List.any_eq_false.mpr fun e he => ?_
      have hfield := List.all_eq_true.mp hfields e he
      have hsleep := List.any_eq_false.mp hawake e he
      simp only [Bool.and_eq_true, Bool.or_eq_true, decide_eq_true_eq, beq_iff_eq] at hfield
      obtain ⟨⟨heix, hmode⟩, hreserved⟩ := hfield
      simp only [hreserved, Bool.not_eq_true, Bool.or_eq_false_iff] at hsleep ⊢
      refine ⟨⟨⟨decide_eq_false (Nat.not_le.mpr heix), ?_⟩, rfl⟩, hsleep⟩
      obtain hlow | hremove := hmode
      · simp [Nat.not_lt.mpr hlow]
      · simp [hremove]
    refine serve_done ha (List.forall_mem_append.mpr ⟨List.forall_mem_cons.mpr ⟨by simp [hn], hcamp⟩, ?own⟩) rfl
    case own =>
      simp only [List.forall_mem_cons, badField, hentries, hlisted, hunbound, hdistinct]
      simp [Nat.ne_of_gt hmin, Nat.not_lt.mpr hmax]
  case start =>
    obtain ⟨x, hx, hphase⟩ := Option.map_eq_some_iff.mp hdefined
    have hcamp := campCheck_passes hnumber hzero (by simp [Tab.has, hx] : s.camps.has (getLE 0 1 c.req) = true)
    exact serve_ends_accepted ha (lenIs_campCheck_passes hn hcamp (by simp [hx, hphase])) rfl
  case readMembers =>
    have hcamp := campCheck_passes hnumber hzero hheld
    exact serve_done ha
      (List.forall_mem_cons.mpr ⟨by simp [lenIs, hn], List.forall_mem_cons.mpr ⟨badCount_passes hmin hmax, hcamp⟩⟩)
      (by simp only [taken_camps] <;> rfl)
  case activate =>
    have hcamp := campCheck_passes hnumber hzero (by simp [Tab.has, hx] : s.camps.has (getLE 0 1 c.req) = true)
    exact serve_done ha (lenIs_campCheck_passes hn hcamp (by simp [hx, hunset])) (by simp [hx])

/-! ### Content, rounds, answers and activation (R401, R404, R408, R410, R411) -/

theorem contentLoaded_loading {s : State} {c : Nat} {x : Campaign} (hcamp : s.camps.get? c = some x) (hphase : x.phase = .loading)
    (hrun : s.openRuns = true) (hseed : x.kind ≠ 1 ∨ s.sec.trngStopped = false) :
    let b := s.campContent x
    let r : Bytes × State := if x.kind = 1 then s.random 4 else ([], s)
    let u := (r.2.onCamp c fun y => { y with
        phase := .preparing
        content := b
        seed := if x.kind = 1 then max 1 (fromLE r.1) else 0 }).raise 216 (le 1 c ++ le 1 x.kind ++ zeros 2 ++ le 4 x.members.length)
    let v := (Tab.keys x.members).foldl (fun t e => (t.onDist c e fun m => { m with state := .prepare }).distAsk c e x.firstRequest) u
    s.contentLoaded c = if shake 64 b ≠ x.digest ∨ (x.kind = 2 ∧ (calEntries b).isNone = true)
      then (s.badContent c).finish workDist c stSignatureBad [] else (v.finish workDist c stDone []).distSettle c := by
  have hrng : ¬(x.kind = 1 ∧ s.sec.trngStopped = true) := by
    rintro ⟨hkind, hstopped⟩
    simp [hkind, hstopped] at hseed
  simp only [State.contentLoaded, hcamp]
  rw [if_neg (by simp [hphase, hrun]), if_neg hrng]

theorem memberResponse_of_request {s : State} {c eix : Nat} {x : Campaign} {m : DistMember} {r : DistReq} (ok : Bool) (nums : List Nat)
    (d : Bytes) (hcamp : s.camps.get? c = some x) (hmember : x.members.get? eix = some m) (hrequest : m.request = some r)
    (hrun : s.openRuns = true) :
    s.memberResponse c eix ok nums d =
      (if ok then s.distAnswer c eix x m r nums d else s.distRetry c eix r.cause).distSettle c := by
  simp only [State.memberResponse, hcamp, hmember, hrequest, hrun, Bool.not_true, Bool.false_eq_true, if_false]

theorem multicastFrame_sends {s : State} {c : Nat} {x : Campaign} {f : DistFrame} {rest : List DistFrame}
    (hcamp : s.camps.get? c = some x) (hphase : x.phase = .round) (hrun : s.openRuns = true) (hcool : s.power.thermalLevel = 0)
    (hleft : x.left = f :: rest) :
    let pkt := match (generalizing := false) f with
      | .source i => txPacket noEix 2 [] (wrapper clientPort 1 (x.action 0x81#8 2 (blockData i (x.symbol i))))
      | .repair n e => txPacketTo (s.cfgN 0xC000 0) noEix 2 [] (x.repairFrame c n e)
    let n := x.repairs + b2n (x.round ≠ 0)
    let u := ((s.roundPorts x).foldl (fun t p => t.send 17 (24 + p) pkt) s).onCamp c fun y => { y with
      left := rest
      sent := y.sent + 1
      repairs := n }
    s.multicastFrame c = if rest.isEmpty = true
      then ((u.raise 217 (le 1 c ++ le 1 x.round ++ zeros 2 ++ le 4 n)).queryRound c).distSettle c else u := by
  have hready : ¬(x.phase ≠ .round ∨ (!s.openRuns) = true ∨ 1 ≤ s.power.thermalLevel) := by simp [hphase, hrun, hcool]
  simp only [State.multicastFrame, hcamp, if_neg hready]
  split
  next hempty => simp [hleft] at hempty
  next g more heq =>
    obtain ⟨rfl, rfl⟩ := List.cons.inj (hleft.symm.trans heq)
    rfl

/-- Settles O58: a member's answer and its error are the two cases of one response; the other rows act when their premises hold. -/
theorem distributionEventsComplete : Obligations.DistributionEventsComplete := by
  refine ⟨fun s c x hcamp hphase hrun hseed => ?content, fun s c f rest x hcamp hphase hrun hcool hleft => ?frame,
    fun s c eix nums data x m r hcamp hmember hrequest hrun => ⟨?answer, ?error⟩,
    fun s c eix m hmember hrequest hrun => ?timeout, fun s c x hcamp hdefined hloading hended hrun hdue hset hreached hlevel => ?activation,
    fun s c eix x m hcamp hmember hkind hstate hidle hrun => ?poll,
    fun s c eix x m hcamp hmember hkind hstate hlate hrun => ?verifyTimeout⟩ <;> refine congrArg Host.Outcome.next ?_
  case content => exact contentLoaded_loading hcamp hphase hrun hseed
  case frame => exact multicastFrame_sends hcamp hphase hrun hcool hleft
  case answer => exact memberResponse_of_request true nums data hcamp hmember hrequest hrun
  case error => exact memberResponse_of_request false nums data hcamp hmember hrequest hrun
  case timeout => simp [State.memberTimeout, State.distRetry, hmember, hrequest, hrun]
  case activation => simp [State.activationDue, hcamp, hdefined, hloading, hended, hrun, hdue, hset, hreached, hlevel]
  case poll => simp [State.verifyPoll, hcamp, hmember, hkind, hstate, hidle, hrun]
  case verifyTimeout => simp [State.verifyTimeout, hcamp, hmember, hkind, hstate, hlate, hrun]

end Sys2Proof.Proofs
end

section
/-! The power controller: warning, hold-up order, supplies and idling (R418 to R427), and the start, the resets and the monitors
(R274, R390, R430 to R433). -/

namespace Sys2Proof.Proofs
open Sys2Proof Sys2Proof.Machine Sys2Proof.Laws

/-! ### Power failure (R418, R420 to R427) -/

theorem onPower_congr {s : State} {f g : Power → Power} (h : f s.power = g s.power) : s.onPower f = s.onPower g := by
  simp only [State.onPower, h]

/-- Settles O44: each row's premises decide its guards; a latch that is set keeps its time. -/
theorem powerFailureEventsComplete : Obligations.PowerFailureEventsComplete := by
  refine ⟨fun s mv hsource hlow halive hpfw => ?warning, fun s ms k hstep hk => ?step, fun s mv hlow hrun => ?undervoltage,
    fun s mv hpfw hstep habove hrecovered => ?cleared, fun s mv hdown hvin hvioH hvioP hcool => ?start,
    fun s mv hchange hrun => ⟨?vbatLow, ?vbatLost⟩, fun s mv hup hlow => ?bankH, fun s mv hup hlow => ?bankP,
    fun s rail mv halive => ?rail, fun s hhold hlong => ?expiry, fun s hrun hpfw hallow hqueues hring hprograms herases => ?idle,
    fun s ms hidle => ?wake, fun s n level hn hpowered hlevel => ?tamper⟩ <;> refine congrArg Host.Outcome.next ?_
  case warning => simp [State.powerFail, hsource, hlow, halive, hpfw]
  case step => simp [State.holdupStep, hstep, hk]
  case undervoltage => simp [State.undervoltage, State.alive, Nat.not_le.mpr hlow, hrun]
  case cleared => simp [State.pfwClear, hpfw, hstep, habove, hrecovered]
  case start => obtain hstate | hstate | hstate := hdown <;> simp [State.vinStart, hstate, hvin, hvioH, hvioP, hcool]
  case vbatLow | vbatLost => simp [State.vbat, State.alive, hchange, hrun]
  case bankH | bankP => simp [State.vio, hup, Nat.not_le.mpr hlow]
  case rail => exact if_pos halive
  case expiry => exact if_pos ⟨hhold, .inl hlong⟩
  case idle => simp [-List.all_eq_true, State.idleEntry, hrun, hpfw, hallow, hqueues, hring, hprograms, herases]
  case wake => exact if_pos hidle
  case tamper =>
    refine (if_pos ⟨hn, hpowered, hlevel⟩).trans ?_
    refine onPower_congr ?_
    cases s.power.tampLatch.getD n none <;> rfl

/-! ### Start, resets, monitors and the tick (R274, R390, R430 to R433) -/

theorem state_of_openRuns {s : State} (h : s.openRuns = true) :
    s.power.state = .run ∨ s.power.state = .idle ∨ s.power.state = .starting := by
  cases hstate : s.power.state <;> simp_all [State.openRuns]

/-- OT counts in RUN, IDLE, a start and HOLD (R274). -/
theorem otTick_of_openRuns {s : State} (h : s.openRuns = true) :
    s.otTick = (s.onPower fun p => { p with ot := (p.ot + 1) % 2 ^ 40, aonNt := p.aonNt.map (· + 32768) }).openTick := by
  have hrun : (s.onPower fun p => { p with ot := (p.ot + 1) % 2 ^ 40, aonNt := p.aonNt.map (· + 32768) }).openRuns = true := h
  obtain hstate | hstate | hstate := state_of_openRuns h <;> simp [-Nat.reducePow, State.otTick, hstate, hrun]

/-- The power state and the straps as a released reset latches them (R433). -/
def atRelease (s : State) : State :=
  let u := s.onPower fun p => { p with
    pcc := min (p.pcc + 1) 0xFFFFFF
    coreMhz := if p.thermalLevel = 0 then 1200 else if p.thermalLevel = 1 then 900 else if p.thermalLevel = 2 then 600 else 300
    fabMhz := if p.thermalLevel ≤ 1 then 500 else 250 }
  { u with straps := { u.straps with hif := u.straps.pinHif, tier := u.straps.pinTier } }

/-- The start after the boot ROM has accepted an image: `w` is its state, `boot` what event 209 reports (R433). -/
def bootedStart (s : State) (ticks mapMs : Nat) (off : Option Nat) (diesOk pipesOk : List Bool) (w : State)
    (boot : Option (Nat × Nat × Nat)) : State :=
  let x := (w.onPower fun p => { p with stage := .booted }).onHost fun h => { h with phase := 1 }
  let y := match x.sec.revertCause with
    | some (slot, n, c) => (x.raise 209 (le 1 slot ++ le 1 n ++ le 1 c)).onSec fun z => { z with revertCause := none }
    | none => x
  let z := (((y.raise 0 (le 1 s.power.cause ++ le 1 s.power.lossKind ++ zeros 2 ++ le 4 y.power.pcc)).cfgStart s.power.cause).startReports
    boot).timeStart ticks
  let q := z.storeStart mapMs off diesOk (decide (s.power.lossKind = 0))
  let r := (q.loadTables.selfTest pipesOk).onSec fun k => { k with runStartOt := q.power.ot }
  if r.sealedDie.running then r.sealedThaw.linkReset 1 else r

theorem resetRelease_of_ready {s : State} (ticks mapMs : Nat) (off : Option Nat) (diesOk pipesOk : List Bool)
    (hstate : s.power.state = .starting) (hstage : s.power.stage = .resetHeld) (hpfw : s.power.pfw = false)
    (htcxo : s.power.tcxoPresent = true) (hvioH : s.power.vioHUp = true) (hvioP : s.power.vioPUp = true) (hphase : s.host.phase ≠ 3) :
    s.resetRelease ticks off mapMs diesOk pipesOk = match (atRelease s).bootRom with
      | (w, boot, true) => bootedStart s ticks mapMs off diesOk pipesOk w boot
      | (w, _, false) => w.onHost fun h => { h with phase := 3 } := by
  unfold State.resetRelease
  rw [if_neg (by simp [hstate, hstage, hpfw, htcxo, hvioH, hvioP, hphase])]
  extract_lets _ s1 _ s2
  have hlatched : s2 = atRelease s := rfl
  rw [hlatched]
  obtain ⟨w, boot, ok⟩ := (atRelease s).bootRom
  cases ok <;> rfl

/-- Settles O45: each row's premises decide its guards; a released reset runs the boot ROM on the latched state. -/
theorem resetAndStartEventsComplete : Obligations.ResetAndStartEventsComplete := by
  refine ⟨fun s ticks mapMs off diesOk pipesOk hstate hstage hpfw htcxo hvioH hvioP hphase => ?release,
    fun s ms hstate hstage hpfw hrunning hstarted => ?complete, fun s htrial hlong hpfw hrun => ?confirm,
    fun s hdue hpfw hrun => ?activate, fun s halive => ?tcxo, fun s halive hstep => ?pin, fun s hrun hstep => ?watchdog,
    fun s c hon halive hcool hlevel => ?thermal, fun s ppm hsteady hfar hcrystal => ?clock, fun s pair hrun hmap => ?lockstep,
    fun s hhold => ?holdTick, fun s hrun => ?openTick⟩ <;> refine congrArg Host.Outcome.next ?_
  case release => exact resetRelease_of_ready ticks mapMs off diesOk pipesOk hstate hstage hpfw htcxo hvioH hvioP hphase
  case complete => exact if_neg (by simp [hstate, hstage, hpfw, hrunning, hstarted])
  case confirm => exact (if_pos ⟨htrial, hlong⟩).trans (if_neg (by simp [hpfw, hrun]))
  case activate => exact (if_pos hdue).trans (if_neg (by simp [hpfw, hrun]))
  case tcxo => exact if_pos halive
  case pin => simp [State.resetPin, halive, hstep]
  case watchdog => exact if_pos (by simp [hrun, hstep])
  case thermal => simp [State.thermal, hon, halive, Int.not_le.mpr hcool, hlevel]
  case clock => simp [State.clockMonitor, b2n, hsteady, hfar, hcrystal]
  case lockstep => simp [State.lockstep, hrun, hmap]
  case holdTick => simp [State.otTick, State.openRuns, hhold]
  case openTick => exact otTick_of_openRuns hrun

end Sys2Proof.Proofs
end

section
/-! The mailbox: doorbells and ring registers, completions and timeouts, vectors, the host link and the head-end's frames (R6, R440,
R444 to R458). -/

namespace Sys2Proof.Proofs
open Sys2Proof Sys2Proof.Machine Sys2Proof.Laws

/-- The head of HOST_OUT, a good completion frame that fits, goes into the completion ring (R450, R452). -/
theorem completionWrite_of_head {s : State} {p : Packet} {rest : List Packet} (hhead : (s.queue 40).pkts = p :: rest)
    (hon : s.mbxEnabled = true) (hgood : p.good = true) (hframe : s.fabric.hostPackets.contains p.seq = false)
    (hroom : s.cprRoom p.payload.length = true) :
    let u := ((s.onQueue 40 fun x => { x with pkts := rest }).onFabric fun f =>
      { f with hostPackets := f.hostPackets.erase p.seq }).putCompletion p.payload
    let v := if bit (getLE 12 1 p.payload) 1 = true then u.dropInflight false (getLE 4 4 p.payload) else u
    s.completionWrite false = (v.fetch v.crSlots).turnAway := by
  simp [-List.contains_eq_mem, State.completionWrite, hhead, hon, hgood, hframe, hroom]

/-- A whole frame in one record of channel HEADEND passes the checks of R458 and joins HOST_IN. -/
theorem headendCommand_of_whole {s : State} {part : Bytes} (hphase : s.host.phase = 2) (hallowed : s.cfgN 0x0010 2 ≠ 0)
    (hnone : s.host.headPartial = []) (hlen : getLE 8 4 part = part.length) (hmin : 20 ≤ part.length) (hmax : part.length ≤ 262192)
    (hedge : edgeOk part = true) (hop : opcodeAssigned (getLE 0 2 part) = true) :
    s.headendCommand part =
      (s.onHost fun h => { h with headPartial := [] }).onHost fun h => { h with headIn := h.headIn ++ [part] } := by
  have hheader : ¬part.length < 12 := by omega
  have hsize : ¬(part.length < 20 ∨ 262192 < part.length) := by omega
  simp [State.headendCommand, hphase, hallowed, hnone, hlen, hheader, hsize, hedge, hop]

/-- Settles O46: each row's premises decide its guards. -/
theorem mailboxEventsComplete : Obligations.MailboxEventsComplete := by
  refine ⟨fun s tail written hinside => ?doorbell, fun s tail written dmaFail houtside => ?badDoorbell, fun s v hodd hoff => ?enable,
    fun s v heven => ?clear, fun s v hinside => ?completionHead, fun s v hinside => ?notificationHead, fun s v hodd hoff => ?ntfEnable,
    fun s v heven => ?ntfClear, fun s p rest hhead hon hgood hframe hroom => ?completion, fun s hd tag i hinflight hfirst => ?timeout,
    fun s kind hpcie hup => ?linkReset, fun s rate width => ?linkUp, fun s => ?lost, fun s => ?refused, fun s => ?status,
    fun s vector hpending => ?coalesce, fun s addr v hrun haligned => ?write,
    fun s part hphase hallowed hnone hlen hmin hmax hedge hop => ?headend⟩ <;> refine congrArg Host.Outcome.next ?_
  case doorbell => exact (if_neg (Nat.not_le.mpr hinside)).trans (if_neg (by simp))
  case badDoorbell => exact if_pos houtside
  case enable => simp [State.mailboxEnable, hodd, hoff]
  case clear => exact if_pos heven
  case completionHead => exact if_neg (Nat.not_le.mpr hinside)
  case notificationHead => exact if_neg (Nat.not_le.mpr hinside)
  case ntfEnable => simp [State.notificationEnable, hodd, hoff]
  case ntfClear => exact if_pos heven
  case completion => exact completionWrite_of_head hhead hon hgood hframe hroom
  case timeout => simp [State.commandTimeout, hinflight, hfirst]
  case linkReset => simp [State.pcieLinkReset, hpcie, hup]
  case linkUp | lost | refused | status => rfl
  case coalesce => exact if_pos hpending
  case write => simp [State.registerWrite, hrun, haligned]
  case headend => exact headendCommand_of_whole hphase hallowed hnone hlen hmin hmax hedge hop

end Sys2Proof.Proofs
end

section
/-! The configuration commands: queries, staging, validation, commit, revert and proving (R463 to R478). -/

namespace Sys2Proof.Proofs
open Sys2Proof Sys2Proof.Machine Sys2Proof.Laws

/-! ### What judging a staging reads (R471) -/

theorem judgeRecord_of_cfg_fog {s t : State} (hcfg : t.cfg = s.cfg) (hfog : t.fog = s.fog) (b : Bytes) (staged : Tab Int) :
    t.judgeRecord b staged = s.judgeRecord b staged := by
  simp only [State.judgeRecord, hcfg, hfog]

theorem judgeRecords_of_cfg_fog {s t : State} (hcfg : t.cfg = s.cfg) (hfog : t.fog = s.fog) (n : Nat) (b : Bytes) (staged : Tab Int) :
    t.judgeRecords n b staged = s.judgeRecords n b staged := by
  induction n generalizing b staged with
  | zero => rfl
  | succ n ih => simp only [State.judgeRecords, judgeRecord_of_cfg_fog hcfg hfog, ih]

theorem stageResult_of_cfg_fog {s t : State} (hcfg : t.cfg = s.cfg) (hfog : t.fog = s.fog) (req : Bytes) :
    t.stageResult req = s.stageResult req := by
  simp only [State.stageResult, judgeRecords_of_cfg_fog hcfg hfog, hcfg]

/-! ### Validation and commit (R468, R469) -/

theorem cfgValidate_of_valid {s : State} (c : HostCmd) (h : s.cfg.staging.map s.stagingFailure = some none) :
    s.cfgValidate c = (s, .done []) := by
  obtain ⟨g, hstaging, hvalid⟩ := Option.map_eq_some_iff.mp h
  simp only [State.cfgValidate, hstaging, hvalid]

theorem commitJudged_of_valid {s : State} {op : Nat} {c : HostCmd} {values staged : Tab Int} {objects origin : Nat}
    (hproven : s.cfg.genState = .proven) (hvalid : s.validate values staged = none) :
    s.commitJudged op c values staged objects origin = (s.commitImage op c values objects origin, .later) := by
  simp [State.commitJudged, hproven, hvalid]

theorem baseImage_of_cfg {s t : State} (hcfg : t.cfg = s.cfg) (g : Staging) : t.baseImage g = s.baseImage g := by
  simp only [State.baseImage, hcfg]

theorem nextGen_of_cfg {s t : State} (hcfg : t.cfg = s.cfg) : t.nextGen = s.nextGen := by
  simp only [State.nextGen, hcfg]

theorem cfgCommit_of_valid {s : State} {c : HostCmd} {g : Staging} (hstaging : s.cfg.staging = some g) (hbase : g.base = s.cfg.force.number)
    (hnumber : getLE 0 4 c.req = s.nextGen) (hproven : s.cfg.genState = .proven)
    (hvalid : s.validate (overImage (s.baseImage g) g.values) g.values = none) :
    s.cfgCommit c = (s.commitImage 0x0207 c (overImage (s.baseImage g) g.values) (stagedObjects g.values) 1, .later) := by
  simp only [State.cfgCommit, hstaging]
  rw [if_neg (by simp [hbase, hnumber]), commitJudged_of_valid hproven hvalid]

theorem cfgFactory_of_valid {s : State} {c : HostCmd} (hnumber : getLE 0 4 c.req = s.nextGen) (hproven : s.cfg.genState = .proven)
    (hvalid : s.validate [] [] = none) : s.cfgFactory c = (s.commitImage 0x020B c [] openObjects.length 4, .later) := by
  rw [State.cfgFactory, if_neg (by simp [hnumber]), commitJudged_of_valid hproven hvalid]

/-- Settles O26: each accepted command passes its checks and ends as its body answers. -/
theorem configurationCommandsComplete : Obligations.ConfigurationCommandsComplete := by
  refine ⟨fun s c ha hn => ?status, fun s c ha hn hzero hknown => ?describe, fun s c ha hn himage hzero hread => ?read,
    fun s c ha hn hbase hnone => ?begin, fun s c vs ha hstage => ?stage, fun s c ha hn hvalid => ?validate,
    fun s c g ha hn hstaging hbase hnumber hproven hvalid => ?commit, fun s c ha hn hstaging => ?abort,
    fun s c p ha hn hprior => ?revert, fun s c ha hn hproving hadopted => ?prove,
    fun s c ha hn hnone hnumber hproven hvalid => ?factory⟩ <;> refine congrArg Host.Outcome.next ?_
  case status => exact serveQuery_accepted ha hn rfl
  case describe => exact serve_done ha (by simp [lenIs, badField, hn, hzero, hknown]) rfl
  case read =>
    exact serve_done ha (by simp [lenIs, badField, hn, Nat.not_lt.mpr himage, hzero, hread]) rfl
  case begin => exact serve_done ha (by simp [lenIs, hn, hbase, hnone]) rfl
  case stage =>
    have htaken := (stageResult_of_cfg_fog (taken_cfg s 0x0205 c) (taken_fog s 0x0205 c) c.req).trans hstage
    exact serve_done ha (by simp [hstage]) (by simp only [htaken])
  case validate => exact serve_done ha (lenIs_passes hn) (cfgValidate_of_valid c hvalid)
  case commit =>
    have hcfg := taken_cfg s 0x0207 c
    rw [← baseImage_of_cfg hcfg g] at hvalid ⊢
    exact serve_later ha (lenIs_passes hn) (cfgCommit_of_valid ((congrArg Cfg.staging hcfg).trans hstaging)
      (by rw [hcfg]; exact hbase) (hnumber.trans (nextGen_of_cfg hcfg).symm) (by rw [hcfg]; exact hproven) hvalid)
  case abort => exact serve_done ha (by simp [lenIs, hn, hstaging]) rfl
  case revert => exact serve_later ha (by simp [lenIs, hn, hprior]) rfl
  case prove => exact serve_done ha (by simp [lenIs, hn, State.beingProved, hproving, hadopted]) rfl
  case factory =>
    have hcfg := taken_cfg s 0x020B c
    exact serve_later ha (by simp [lenIs, hn, hnone])
      (cfgFactory_of_valid (hnumber.trans (nextGen_of_cfg hcfg).symm) (by rw [hcfg]; exact hproven) hvalid)

end Sys2Proof.Proofs
end

section
/-! The door panel: frames, rails, holds and temperatures (R496 to R510), and the end of a proving period (R473). -/

namespace Sys2Proof.Proofs
open Sys2Proof Sys2Proof.Machine Sys2Proof.Laws

theorem railTimeout_of_waking {s : State} (hup : s.panelUp = true) (hwaking : s.panel.rails = .waking) :
    s.railTimeout =
      let n := s.panel.attempts + 1
      let u := (s.onPanel fun p => { p.setRails (if n < 3 then .retry else .failed) with attempts := n }).raise 232 (le 1 1 ++ le 1 n)
      if n < 3 then u else u.failUpdates := by
  rw [State.railTimeout, if_neg (by simp [hup, hwaking])]

/-- Settles O59: each row's premises decide its guards; a rail timeout retries until its third attempt. -/
theorem panelAndProvingEventsComplete : Obligations.PanelAndProvingEventsComplete := by
  refine ⟨fun s hup hon hstillUp hstillOn => ?frame, fun s hup => ⟨fun hwaking => ?railUp, fun hretry => ?railRetry⟩,
    fun s hup hwaking hfew => ?retries, fun s hup hwaking hmany => ?fails, fun s hon hscan hactive hqueue hblinks hheld => ?hold,
    fun s hon hscan => ?lost, fun s t h hhold hrun hdue => ?sheet, fun s t hrun henabled hsensor hown => ?reading,
    fun s hrun henabled hsensor hown hfailed => ?noReading, fun s hproved hpaused hremaining hreceive => ?proving⟩ <;>
    refine congrArg Host.Outcome.next ?_
  case frame =>
    refine congrArg State.panelWake ((if_neg ?down).trans (if_neg ?stillDown))
    case down => simp [hup, hon]
    case stillDown => simp [hstillUp, hstillOn]
  case railUp => exact if_pos ⟨hup, hwaking⟩
  case railRetry => exact if_pos (by simp [hup, hretry])
  case retries =>
    have hthird : s.panel.attempts + 1 < 3 := by omega
    simp only [railTimeout_of_waking hup hwaking, if_pos hthird]
  case fails =>
    have hthird : ¬s.panel.attempts + 1 < 3 := by omega
    simp only [railTimeout_of_waking hup hwaking, if_neg hthird]
  case hold => exact if_pos (by simp [hon, hscan, hactive, hqueue, hblinks, hheld])
  case lost =>
    refine (if_neg (by simp [hon, hscan])).trans ?_
    rfl
  case sheet => simp [State.sheetHoldEnd, hhold, hrun, hdue]
  case reading => simp [State.panelTemperature, hrun, henabled, hsensor, hown]
  case noReading =>
    have hthird : ¬s.panel.failedReads + 1 < 3 := by omega
    simp [State.panelTemperature, hrun, henabled, hsensor, hown, hthird]
  case proving =>
    refine (if_pos (by simp [hproved, hpaused, hremaining])).trans (if_neg ?_)
    simp [hreceive]

end Sys2Proof.Proofs
end
